-- ==== Sys2Proof/Word.lean ====
section
/-!
DEFINITION. The plain words of the model: bytes, cells of addressed memory, tables by number, the 64-bit handle of R313, and
the types that the commands of Syntax.lean take as operands.
-/
namespace Sys2Proof

/-- A byte. -/
abbrev Byte := BitVec 8

/-- The bits of one FP32 value (R101, code 0x01). -/
abbrev FP32 := BitVec 32

/-- An addressed memory: cells with addresses strictly rising and no zero byte; an unlisted address reads 0 (R28, R133, R179). -/
abbrev Memory := List Host.Cell

/-- A sparse table by number: keys strictly rising. -/
abbrev Table (α : Type) := List (Nat × α)

/-- A handle (R313): creating context, generation, slot. The reserved bits [15:0] are ignored on input (R3) and written zero. -/
structure Handle where
  ctx : Nat
  gen : Nat
  slot : Nat
deriving DecidableEq, Repr, Inhabited

/-- The all-zero null handle (R313). -/
def Handle.null : Handle := ⟨0, 0, 0⟩

/-- What the module chooses, or draws, while it decides a packet and the manual leaves open: whether firmware hands its decision
over in the same step (R298), which free slot a new object takes (R313), random bytes the security engine draws (R447), and whether a
patch tensor is found not to match its model's weight sods (R272). -/
structure Choice where
  fwHeld : Bool := false
  pick : Nat := 0
  rand : List Byte := []
  misfit : Bool := false
deriving DecidableEq, Repr, Inhabited

/-- A sealed packet (R291), less its opcode, which the command's own name says. `params` is the parameter area, `paramLen` the
header's param_len. `boot` says that it came through the function's boot window (R290); otherwise `ctx` is the window's number. -/
structure Packet where
  fn : Nat
  boot : Bool := false
  ctx : Nat := 0
  major : Nat := 1
  headerLen : Nat := 8
  sync : Bool := false
  notify : Bool := false
  paramLen : Nat := 0
  seq : Nat := 0
  cookie : Nat := 0
  consumed : Nat := 0
  queue : Nat := 0
  dep : Nat := 0
  params : List Byte := []
  choice : Choice := {}
deriving DecidableEq, Repr, Inhabited

/-- What a read of stored bits meets, besides what the model's own tags say (R180, R336): nothing; wrong bits in one burst, given as the 36
bytes by which the stored data and check bytes differ from what was written, with the result of the verify read of R340; or bits that no
controller code sees and that the tag finds (R181). -/
inductive MemErr where
  | none
  | flips (burst : Nat) (error : List Byte) (hard : Bool)
  | tagMismatch
deriving DecidableEq, Repr, Inhabited

/-- Where a sod is stored (R40-R45). An interleaved sod's granules are hashed over the channels of a mask. -/
inductive Loc where
  | interleaved (stack : Nat) (chans : BitVec 32)
  | bank (stack chan bank row : Nat)
  | bog (package page : Nat)
deriving DecidableEq, Repr, Inhabited

/-- What comes with the start of a command's run phase: the places that the module chooses for its sods, and the sods whose stored bits will
fail it (log entry 17). -/
structure RunChoice where
  locs : List Loc := []
  errs : List (Handle × Nat) := []
deriving DecidableEq, Repr, Inhabited

/-- A request whose handover begins, and the blocks whose turves its command meets as ash (R282). -/
structure TurfWork where
  req : Nat
  ash : List Nat := []
deriving DecidableEq, Repr, Inhabited

/-- How a read of host memory ends (R285, R516): with data, poisoned, or with a Completion Status other than Successful. -/
inductive HostRead where
  | data (bytes : List Byte)
  | poisoned
  | refused (status : Nat)
deriving DecidableEq, Repr, Inhabited

/-- The start-up steps of R406 that a command can end, with what the step found. -/
inductive StartStep where
  | hostLink
  | kindling
  | security
  | kiln (die cores : Nat)
  | stack (stack : Nat) (channels : BitVec 32) (ends : Bool)
  | bog (channels slow : BitVec 64)
  | serving
deriving DecidableEq, Repr, Inhabited

/-- One Flue message (R373). `body` is what its kind carries: for DATA the sods' bytes and tags, otherwise the bytes [255:32] of
the first flit. -/
structure Msg where
  dst : Nat
  src : Nat
  dctx : Nat := 0
  sctx : Nat := 0
  status : Nat := 0
  epoch : Nat := 0
  tag : Nat := 0
  off : Nat := 0
  port : Nat := 0
  body : List Byte := []
deriving DecidableEq, Repr, Inhabited

/-- A Flue frame as it reaches the receiver (R365, R366): whether it was still bad after correction, and its header and flit. -/
structure Frame where
  bad : Bool := false
  seq : Nat := 0
  ack : Nat := 0
  side : Nat := 0
  flit : List Byte := []
deriving DecidableEq, Repr, Inhabited

/-- One sensor read of R417: a value in units of 0.125 °C, or a read that failed. -/
inductive Reading where
  | value (eighths : Int)
  | failed
deriving DecidableEq, Repr, Inhabited

/-- The units that can enter Smoulder (R434). -/
inductive SmoulderUnit where
  | kiln (die : Nat)
  | exrad (stack : Nat)
  | bog (package : Nat)
deriving DecidableEq, Repr, Inhabited

/-- What begins a supply sag (R431). -/
inductive SagCause where
  | vcore
  | vaux
  | avsFault
deriving DecidableEq, Repr, Inhabited

/-- What a patrol read can reach (R357): a row, a burst of a tag array with the tags of four rows, a bog page. -/
inductive PatrolTarget where
  | exrad (stack chan bank row : Nat)
  | tags (stack chan bank group : Nat)
  | bog (package page : Nat)
deriving DecidableEq, Repr, Inhabited

end Sys2Proof
end

