-- ==== Sys2Proof/Syntax.lean ====
section
/-!
DEFINITION. The commands: one constructor per row of spec/opcode_table.json, in the table's order, with the operands the row's
rule gives it. What the manual leaves to the module or to its surroundings (which slot, which placement, a sensor's reading) is an
operand too, so that a statement about a command holds for every choice.
-/
namespace Sys2Proof

inductive Instr where
  /-- CONTEXT_NOP, R309: A packet that only returns reply-ring credit to the module. -/
  | contextNop (p : Packet)
  /-- CONTEXT_CREATE, R64: Creates a context in a clamp with its reply ring, vector, coalescing settings and negotiated Nirra version. -/
  | contextCreate (p : Packet)
  /-- CONTEXT_DESTROY, R324: Ends a context and its work, tensors, requests, records and handles. -/
  | contextDestroy (p : Packet)
  /-- CONTEXT_SET, R325: Changes the masked settings of a context: share weight, wait limit, remote flag mask and coalescing pair. -/
  | contextSet (p : Packet)
  /-- COMMAND_QUERY, R326: Returns the phase, status, kill count and queue position of a command. -/
  | commandQuery (p : Packet)
  /-- COMMAND_CANCEL, R75: Cancels a command; the commit sequencer orders the cancel against the command's commit. -/
  | commandCancel (p : Packet)
  /-- QUEUE_RESUME, R93: Resumes a halted queue so that its next command becomes head. -/
  | queueResume (p : Packet)
  /-- QUEUE_FLUSH, R327: Ends every queued, waiting or running command of a queue with CANCELLED and unhalts the queue. -/
  | queueFlush (p : Packet)
  /-- FLAG_WRITE, R89: A queued command that sets a flag to a value or adds a value to it at commit step 2. -/
  | flagWrite (p : Packet)
  /-- FLAG_READ, R89: Returns the value that a flag holds at the decision. -/
  | flagRead (p : Packet)
  /-- TENSOR_CREATE, R24: Creates a tensor, counts its local size against the clamp and returns its handle. -/
  | tensorCreate (p : Packet)
  /-- TENSOR_DESTROY, R26: Destroys a tensor at commit and gives its handle slot a new generation. -/
  | tensorDestroy (p : Packet)
  /-- TENSOR_GRANT, R60: The owner grants another context read or read-write access to a tensor. -/
  | tensorGrant (p : Packet)
  /-- TENSOR_REVOKE, R60: The owner revokes a grant for commands that the grantee issues after the reply. -/
  | tensorRevoke (p : Packet)
  /-- TENSOR_READ, R328: Moves tensor bytes, optionally converted to FP32, into host memory at commit. -/
  | tensorRead (p : Packet)
  /-- TENSOR_WRITE, R328: Reads host memory in the run phase and writes the tensor at commit, converting from FP32 if asked. -/
  | tensorWrite (p : Packet)
  /-- TENSOR_COPY, R165: A Slane copy between tensors, with element format conversion. -/
  | tensorCopy (p : Packet)
  /-- TENSOR_FILL, R165: A Slane fill of a byte range with a repeated 8-byte pattern. -/
  | tensorFill (p : Packet)
  /-- TENSOR_GATHER, R48: Gathers source rows, chosen by an index tensor, into a destination tensor. -/
  | tensorGather (p : Packet)
  /-- TENSOR_INFO, R40: Returns a tensor's local size in sods and its count of ash sods. -/
  | tensorInfo (p : Packet)
  /-- SHARD_SET_CREATE, R514: Creates a shard set of modules or clamps arranged as a grid of up to 3 axes. -/
  | shardSetCreate (p : Packet)
  /-- SHARD_SET_DESTROY, R514: Frees the handle of a shard set that no tensor names. -/
  | shardSetDestroy (p : Packet)
  /-- PROGRAM_LAUNCH, R136: Starts a command that runs a Kiln program over a grid of tiles. -/
  | programLaunch (p : Packet)
  /-- INBANK_LAUNCH, R208: Starts an in-bank command that is divided into Ember parts. -/
  | inbankLaunch (p : Packet)
  /-- SLANE_RESUME, R167: Resumes a halted Slane channel, either with RETRY or with ABORT. -/
  | slaneResume (p : Packet)
  /-- GENERATE, R246: Creates a serving request from a request block. -/
  | generate (p : Packet)
  /-- REQUEST_CANCEL, R279: Cancels a serving request through the request table. -/
  | requestCancel (p : Packet)
  /-- MODEL_REGISTER, R240: Registers a model with its weights and its prefill and step graphs in a clamp. -/
  | modelRegister (p : Packet)
  /-- MODEL_RETIRE, R240: Retires a model once no request of it is live. -/
  | modelRetire (p : Packet)
  /-- SHAVING_LOAD, R272: Creates the first version of a shaving. -/
  | shavingLoad (p : Packet)
  /-- SHAVING_REPLACE, R275: Makes a new version of a shaving current, with or without drain. -/
  | shavingReplace (p : Packet)
  /-- SHAVING_RETIRE, R278: Stops new bindings to a shaving and commits once its last version is freed. -/
  | shavingRetire (p : Packet)
  /-- SERVING_CONFIGURE, R243: Sets the serving settings of a stopped clamp and creates its serving context. -/
  | servingConfigure (p : Packet)
  /-- SHARING_GROUP_SET, R267: Assigns contexts to a sharing group and sets the group's salt. -/
  | sharingGroupSet (p : Packet)
  /-- SERVING_REPLY_ENABLE, R333: Makes the sending context a valid reply context, or stops it being one. -/
  | servingReplyEnable (p : Packet)
  /-- REQUEST_QUERY, R279: Returns the state, stall and park bits and key-value length of a request. -/
  | requestQuery (p : Packet)
  /-- FLUE_SEND, R378: The sending side of a pull transfer, committed after the receiver confirms. -/
  | flueSend (p : Packet)
  /-- FLUE_RECEIVE, R379: Consumes landed data under a transfer tag into shadows and confirms on entering commit. -/
  | flueReceive (p : Packet)
  /-- FLUE_FLAG_SET, R382: Sends a remote flag operation to a partner at commit step 4. -/
  | flueFlagSet (p : Packet)
  /-- FLUE_REDUCE, R383: Sums a split dimension across the members of a shard-set axis in whole tree nodes. -/
  | flueReduce (p : Packet)
  /-- FLUE_PORT_STATUS, R364: Returns the state and spare-lane use of every Flue port. -/
  | fluePortStatus (p : Packet)
  /-- CLAMP_CONFIGURE, R84: Sets all the settings of an unconfigured or stopped clamp at once. -/
  | clampConfigure (p : Packet)
  /-- CLAMP_START, R99: Returns a stopped clamp to running. -/
  | clampStart (p : Packet)
  /-- CLAMP_STOP, R97: Stops a running clamp in DRAIN or KILL mode. -/
  | clampStop (p : Packet)
  /-- CLAMP_DELETE, R85: Returns a stopped clamp to unconfigured. -/
  | clampDelete (p : Packet)
  /-- CLAMP_ASSIGN, R64: Sets which functions may create contexts in a clamp. -/
  | clampAssign (p : Packet)
  /-- CLAMP_QUERY, R85: Returns a clamp's state, role, change flag and context count. -/
  | clampQuery (p : Packet)
  /-- TELEMETRY_READ, R476: Writes a snapshot of the context, clamp or module set to host memory at commit. -/
  | telemetryRead (p : Packet)
  /-- COUNTER_SELECT, R478: Chooses the event that a performance counter bank counts, and clears the bank. -/
  | counterSelect (p : Packet)
  /-- EVENT_ROUTE, R464: Sets an event source's target and level. -/
  | eventRoute (p : Packet)
  /-- POWER_CAP_SET, R423: Sets the operator's sustained power cap. -/
  | powerCapSet (p : Packet)
  /-- SCRUB_SET, R356: Sets the patrol scrub period, applied from the next pass. -/
  | scrubSet (p : Packet)
  /-- FW_STAGE, R440: Verifies a firmware image and writes it into a flash slot. -/
  | fwStage (p : Packet)
  /-- FW_ACTIVATE, R439: Writes the boot pointer so that the next warm module reset boots the named slot. -/
  | fwActivate (p : Packet)
  /-- KEY_REVOKE, R443: Burns the revocation fuse of a key slot. -/
  | keyRevoke (p : Packet)
  /-- DEBUG_UNLOCK, R456: Takes debug from locked to unlocking after checking a debug token. -/
  | debugUnlock (p : Packet)
  /-- DEBUG_LOCK, R457: Takes debug from unlocked to locking and clears all breakpoints. -/
  | debugLock (p : Packet)
  /-- DEBUG_TRANSITION_DONE, R456: At the end of the zero fill the debug state becomes unlocked or locked, a new nonce is drawn and the DONE record is written. -/
  | debugTransitionDone (nonce : List Byte)
  /-- REPAIR_COMMIT, R206: Commits soft row repairs for a stack to the repair map in flash. -/
  | repairCommit (p : Packet)
  /-- DBG_BREAK_SET, R162: Arms a breakpoint on a stream of a context. -/
  | dbgBreakSet (p : Packet)
  /-- DBG_BREAK_CLEAR, R162: Disarms a breakpoint. -/
  | dbgBreakClear (p : Packet)
  /-- DBG_TILE_CONTROL, R163: Resumes a halted tile, or steps it by a number of retirements. -/
  | dbgTileControl (p : Packet)
  /-- DBG_READ, R480: Reads a work area, queue states, Ember control space or bank-view rows into host memory at commit. -/
  | dbgRead (p : Packet)
  /-- DBG_BANK_VIEW, R59: Moves a channel into bank view, or out of it after zero-filling and resealing. -/
  | dbgBankView (p : Packet)
  /-- DBG_BANK_WRITE, R58: Writes rows of a channel in bank view from host memory at commit. -/
  | dbgBankWrite (p : Packet)
  /-- REGISTER_WRITE, R482: A host write to a register or window that has no row of its own. -/
  | registerWrite (fn bar offset : Nat) (data : List Byte) (choice : Choice)
  /-- FIRMWARE_DEADLINE, R298: The firmware deadline of a control packet expires, and the packet is answered BUSY_RETRY with cause 2. -/
  | firmwareDeadline (fn : Nat) (boot : Bool) (ctx : Nat)
  /-- FIRMWARE_DECISION, R298: Firmware hands over its decision on a control packet, which is discarded if it comes late. -/
  | firmwareDecision (fn : Nat) (boot : Bool) (ctx : Nat)
  /-- COALESCE_TIMEOUT, R316: A coalescing window ends with records unreported, and an MSI-X message is sent. -/
  | coalesceTimeout (ctx : Nat)
  /-- NIR_SEAL_MISS_CLEAR, R487: Writing the clear bit sets the seal-miss count to zero. -/
  | nirSealMissClear (fn owner : Nat)
  /-- NIR_DROP_COUNT_CLEAR, R487: Writing the clear bit sets the drop count to zero. -/
  | nirDropCountClear (fn owner : Nat)
  /-- POISONED_COMPLETION, R285: An MMIO read that meets an uncorrectable error in register storage is answered poisoned, and an INTERNAL event is raised. -/
  | poisonedCompletion (fn offset size : Nat)
  /-- EVT_CLAIM_READ, R466: Claims the highest eligible source of a target and pushes its level onto the claim stack. -/
  | evtClaimRead (fn target : Nat) (grace : Bool)
  /-- EVT_CLAIM_WRITE, R467: Completes the source on top of a target's claim stack. -/
  | evtClaimWrite (fn target source : Nat)
  /-- EVT_THRESHOLD_WRITE, R468: Changes a target's threshold at once, and the target's line is reassessed. -/
  | evtThresholdWrite (fn target value : Nat)
  /-- EVT_MASK_WRITE, R469: Sets or clears the mask of an event source. -/
  | evtMaskWrite (fn source : Nat) (mask : Bool)
  /-- MASK_EFFECT, R469: Eight HEARTH cycles after its write, a mask takes effect. -/
  | maskEffect (source : Nat)
  /-- WARM, R404: Writing warm in RDY_RESET with the key starts a warm module reset. -/
  | warmReset (fn key : Nat)
  /-- CLAMP_RESET, R405: Writing a clamp_reset bit with the key stops the clamp in kill mode and ends its contexts. -/
  | clampReset (fn clamp key : Nat)
  /-- CLAMP_RESET_DONE, R405: A clamp reset ends, and RESET_DONE is raised. -/
  | clampResetDone (clamp : Nat)
  /-- TIME_READ_LATCH, R399: A 32-bit read of the low half of RDY_TIME latches the high half for the next read. -/
  | timeReadLatch (fn : Nat)
  /-- MODULE_ID_LOCK, R370: Writing lock in FLU_MODULE_ID fixes the module identity until fundamental reset. -/
  | moduleIdLock (fn id : Nat)
  /-- PWR_SMOULDER_WRITE, R434: Enables Smoulder per unit; clearing a unit's bit wakes it and keeps it awake. -/
  | pwrSmoulderWrite (fn value : Nat)
  /-- RW1C_CLEAR, R483: A write of 1 to an RW1C field clears the bits written. -/
  | rw1cClear (fn offset : Nat) (data : List Byte)
  /-- RUN_PHASE_START, R68: A head whose waits are satisfied enters its run phase, and the module takes its snapshot. -/
  | runPhaseStart (h : Handle) (choice : RunChoice)
  /-- PROMOTION, R43: The Collier has made the sods that an in-bank command needs bank-resident, and the command may run. -/
  | sodPromotion (h : Handle) (locs : List Loc)
  /-- WAIT_TIMEOUT, R91: A command's wait window ends with the command still waiting, and the command ends WAIT_TIMEOUT. -/
  | waitTimeout (h : Handle)
  /-- SLICE_BOUNDARY, R86: At a slice boundary, engine entitlements are recomputed and engines are moved. -/
  | sliceBoundary (clamp : Nat)
  /-- CORE_SWITCH_DONE, R78: A core finishes its context switch and can start the next context's tile. -/
  | coreSwitchDone (die core : Nat)
  /-- ACCOUNTING_PERIOD_END, R87: A 10 ms accounting period ends, and each context's charges are published. -/
  | accountingPeriodEnd
  /-- DEADLOCK_CHECK, R94: Every 1 ms the firmware builds each context's wait graph and ends the heads of any cycle. -/
  | deadlockCheck
  /-- DRAIN_LIMIT_EXPIRY, R97: The drain window of a stop ends, and the commands still running are killed. -/
  | drainLimitExpiry (clamp : Nat)
  /-- CLAMP_STOPPED, R97: No command of the clamp is in run or commit, so the clamp is stopped and the stop's record is written. -/
  | clampStopped (clamp : Nat)
  /-- TILE_COMMIT, R160: A tile whose streams have retired END and whose store queues are empty writes its hold area into shadow sods. -/
  | tileCommit (die core : Nat)
  /-- TILE_COMMIT_DONE, R160: A tile commit ends, and the core takes its next tile. -/
  | tileCommitDone (die core : Nat)
  /-- COMMIT, R72: A command enters commit; its extents flip and its deferred effects are released in order, ending with the completion record. -/
  | commandCommit (h : Handle) (locs : List Loc)
  /-- LOAD, R139: An access-stream entry that reads a tensor into a load queue over a loop nest. -/
  | accessLoad (die core : Nat)
  /-- STORE, R139: An access-stream entry that pops a store queue into the hold area over a loop nest. -/
  | accessStore (die core : Nat)
  /-- SETCNT, R140: An access-stream entry that writes a count register. -/
  | setcnt (die core : Nat)
  /-- CNTADD, R140: An access-stream entry that adds a signed value to a count register, with saturation. -/
  | cntadd (die core : Nat)
  /-- ACCESS_END, R160: An access-stream entry that ends the access stream of the tile. -/
  | accessEnd (die core : Nat)
  /-- LOAD_DATA_RETURN, R139: Memory returns the bytes of a LOAD request, which are checked and pushed into the load queue in nest order. -/
  | loadDataReturn (die core request : Nat) (err : MemErr)
  /-- DELAY, R155: The execute stream issues nothing for a number of cycles. -/
  | delay (die core : Nat)
  /-- SET, R146: Writes a setup register. -/
  | setReg (die core : Nat)
  /-- LOOP, R147: Repeats an execute-stream body for a latched count. -/
  | execLoop (die core : Nat)
  /-- BEOS, R145: Skips the following instructions if a load queue's end flag is set, and clears the flag. -/
  | beos (die core : Nat)
  /-- TAG, R145: Sets the stream's current tag. -/
  | execTag (die core : Nat)
  /-- END, R160: The last instruction of the tile's execute stream. -/
  | execEnd (die core : Nat)
  /-- TLD, R148: Loads a stationary tile and its scales into a stationary buffer. -/
  | tld (die core : Nat)
  /-- MMA, R149: Streams rows through the tensor array and adds the chunk results into the tree planes. -/
  | mma (die core : Nat)
  /-- TFL, R149: Combines the tree planes into roots and writes them, adding an addend if asked. -/
  | tfl (die core : Nat)
  /-- VADD, R118: Vector FP32 addition. -/
  | vadd (die core : Nat)
  /-- VSUB, R118: Vector FP32 subtraction. -/
  | vsub (die core : Nat)
  /-- VMUL, R118: Vector FP32 multiplication. -/
  | vmul (die core : Nat)
  /-- VFMA, R118: Vector fused multiply-add. -/
  | vfma (die core : Nat)
  /-- VMIN, R118: Vector minimum. -/
  | vmin (die core : Nat)
  /-- VMAX, R118: Vector maximum. -/
  | vmax (die core : Nat)
  /-- VCMP, R118: Vector comparison that writes a lane mask. -/
  | vcmp (die core : Nat)
  /-- VSEL, R145: Vector select under a lane mask. -/
  | vsel (die core : Nat)
  /-- VFN, R122: Applies a defined function to each lane. -/
  | vfn (die core : Nat)
  /-- VCHS, R520: Takes the aligned-rule chunk sum of each 128-lane half. -/
  | vchs (die core : Nat)
  /-- VSMX, R520: Forms the chunk softmax state of each half, and the exponentials if asked. -/
  | vsmx (die core : Nat)
  /-- VMRG, R520: Merges pairs of chunk states. -/
  | vmrg (die core : Nat)
  /-- VCVT, R520: Converts vectors between FP32 and the output format. -/
  | vcvt (die core : Nat)
  /-- VMOV, R145: Vector copy. -/
  | vmov (die core : Nat)
  /-- VBC, R145: Broadcasts lane 0 of each vector to all of its lanes. -/
  | vbc (die core : Nat)
  /-- QPOP, R151: Moves data from a load queue into the work area, waiting for it if needed. -/
  | qpop (die core : Nat)
  /-- QPUSH, R153: Converts a block, lays it out and pushes it into a store queue. -/
  | qpush (die core : Nat)
  /-- SLANE_HALT_TIMEOUT, R167: No resume arrives within the wait limit after a halt, and ABORT is applied. -/
  | slaneHaltTimeout (h : Handle)
  /-- PROCESSOR_MODE_REQUEST, R173: A request in EMB_CH_CTRL to switch a channel to processor mode with a method. -/
  | processorModeRequest (stack chan : Nat) (trigger : Bool)
  /-- MEMORY_MODE_REQUEST, R174: A request in EMB_CH_CTRL to switch a channel to memory mode, which sends yield requests to the units. -/
  | memoryModeRequest (stack chan : Nat)
  /-- PROCESSOR_MODE_ENTERED, R173: The switch to processor mode completes and the sequencer takes the channel. -/
  | processorModeEntered (stack chan : Nat)
  /-- MEMORY_MODE_ENTERED, R174: Every unit has stopped, the switch to memory mode completes and queued requests resume. -/
  | memoryModeEntered (stack chan : Nat)
  /-- HOLD_LIMIT_EXPIRY, R175: The oldest waiting request reaches EMB_CH_HOLD cycles, and the Stoker requests memory mode. -/
  | holdLimitExpiry (stack chan : Nat)
  /-- START, R204: EMB_CMD START begins a part at a store entry in processor mode. -/
  | embStart (stack chan unit entry partTag : Nat)
  /-- STOP, R203: EMB_CMD STOP ends a part at the next micro-operation boundary. -/
  | embStop (stack chan unit : Nat)
  /-- RESUME, R176: EMB_CMD RESUME continues a suspended part. -/
  | embResume (stack chan unit : Nat)
  /-- EMB_STATUS_CLEAR, R203: Writing 1 to ended clears it and returns the unit to IDLE. -/
  | embStatusClear (stack chan unit : Nat)
  /-- REFRESH_DUE, R191: A channel's refresh timer falls due; the refresh debt rises, or a refresh or forced pause starts. -/
  | refreshDue (stack chan : Nat)
  /-- REFRESH_COMPLETE, R191: An all-bank refresh ends; the debt falls, and paused units reopen their rows and continue. -/
  | refreshComplete (stack chan : Nat)
  /-- ROW_RESEAL, R184: The controller reseals an open row, checking its tag and writing its check bytes. -/
  | rowReseal (stack chan bank row : Nat) (err : MemErr)
  /-- VREG, R200: A trigger-window access to a vector register. -/
  | trigVreg (h : Handle) (part index : Nat) (write : Option (List Byte))
  /-- BBUF, R200: A trigger-window access to a broadcast buffer line. -/
  | trigBbuf (h : Handle) (part index : Nat) (write : Option (List Byte))
  /-- USTORE, R200: A trigger-window access to four micro-program store entries. -/
  | trigUstore (h : Handle) (part index : Nat) (write : Option (List Byte))
  /-- ARG, R200: A trigger-window access to an argument register. -/
  | trigArg (h : Handle) (part index : Nat) (write : Option (List Byte))
  /-- CMD, R200: A trigger-window write of EMB_CMD, or a read of EMB_STATUS. -/
  | trigCmd (h : Handle) (part index : Nat) (write : Option (List Byte))
  /-- WAIT, R201: A trigger-window read of EMB_STATUS that returns once the unit is no longer running, paused or suspended. -/
  | trigWait (h : Handle) (part index : Nat) (write : Option (List Byte))
  /-- NOP, R216: Ember micro-operation that does nothing. -/
  | emberNop (stack chan unit : Nat)
  /-- EMBER_END, R236: Ends a part after draining, checking the tags it read and writing the tags of the sods it wrote. -/
  | emberEnd (stack chan unit : Nat) (err : MemErr)
  /-- YIELD, R234: Yield point at which a requested unit suspends. -/
  | emberYield (stack chan unit : Nat)
  /-- EMBER_LOOP, R233: Repeats a micro-program body for a latched count. -/
  | emberLoop (stack chan unit : Nat)
  /-- FENCE, R235: Stops issue until every earlier operation and write has completed. -/
  | emberFence (stack chan unit : Nat)
  /-- SETA, R216: Sets an address register. -/
  | seta (stack chan unit : Nat)
  /-- ADDA, R216: Adds a signed count of bursts to an address register. -/
  | adda (stack chan unit : Nat)
  /-- SETB, R216: Sets the broadcast base. -/
  | setb (stack chan unit : Nat)
  /-- SETF, R216: Sets the unit's formats. -/
  | setf (stack chan unit : Nat)
  /-- TSET, R224: Clears a reduction slot and optionally carries in a tree node. -/
  | tset (stack chan unit : Nat)
  /-- LDV, R216: Loads bursts into vector registers. -/
  | ldv (stack chan unit : Nat)
  /-- STV, R216: Stores vector registers into bursts. -/
  | stv (stack chan unit : Nat)
  /-- SHV, R225: Loads patch entries onto the patch queue. -/
  | shv (stack chan unit : Nat)
  /-- STRM, R227: Copies bursts unchanged within the bank pair. -/
  | strm (stack chan unit : Nat)
  /-- DQ, R226: Dequantises bursts into a wider format. -/
  | dq (stack chan unit : Nat)
  /-- MAC, R223: Multiply-accumulates streamed bursts against the broadcast vector into a reduction slot, applying patches. -/
  | mac (stack chan unit : Nat)
  /-- ASC, R228: Scores turf tokens against the query. -/
  | asc (stack chan unit : Nat)
  /-- ASM, R229: Forms the chunk softmax state. -/
  | asm (stack chan unit : Nat)
  /-- AVG, R230: Forms one value group of the chunk's attention output. -/
  | avg (stack chan unit : Nat)
  /-- ACL, R231: Pushes the chunk state into the state tree. -/
  | acl (stack chan unit : Nat)
  /-- AFL, R232: Flushes the state tree and writes the root state. -/
  | afl (stack chan unit : Nat)
  /-- ASL, R231: Loads a stored state into a level of the state tree. -/
  | asl (stack chan unit : Nat)
  /-- MIGRATION, R55: The Collier copies a sod, checks its tags and flips its translation entry atomically. -/
  | sodMigration (t : Handle) (sod : Nat) (dest : Loc) (err : MemErr)
  /-- REBUILD, R351: The Collier rebuilds an ash shared-weight sod from its parity stripe. -/
  | sodRebuild (t : Handle) (sod : Nat) (dest : Loc) (bad : List Nat)
  /-- SCRUB_PASS_START, R356: A patrol scrub pass window begins. -/
  | scrubPassStart
  /-- PATROL_READ, R357: A patrol read of a row or page is checked and handled. -/
  | patrolRead (target : PatrolTarget) (err : MemErr)
  /-- SCRUB_PASS_END, R358: A pass window ends; late channels finish in the bulk class and SCRUB_LATE is raised. -/
  | scrubPassEnd (late : List Nat)
  /-- ASH_WINDOW_END, R463: At the end of a 1 ms window the ASH record of each tensor is written. -/
  | ashWindowEnd
  /-- COUNTER_WINDOW_END, R478: Unit totals are added into the performance counter banks every 100 µs. -/
  | counterWindowEnd
  /-- ADMISSION, R248: The request table admits a request, binds its shaving version and walks the prefix index. -/
  | servingAdmission (req : Nat)
  /-- PREFILL_COMMAND, R250: The engine runs a prefill command on a chunk of the prompt. -/
  | prefillCommand (clamp req : Nat) (ash : List Nat)
  /-- DECODE_STEP, R251: The engine forms a batch and runs a step command, sampling a token for each request. -/
  | decodeStep (clamp : Nat) (model : Nat) (ash : List (Nat × Nat))
  /-- COMMIT_SLOT, R252: The request table takes a step at its commit slot, appending tokens and applying the stop checks. -/
  | commitSlot (clamp : Nat)
  /-- HANDOVER, R261: The handover command ships a request's turves to its decode target. -/
  | servingHandover (work : TurfWork)
  /-- IDLE, R366: A Flue frame of kind idle is received. -/
  | flueIdle (port : Nat) (f : Frame)
  /-- FLIT, R367: A Flue flit frame is corrected, CRC-checked and accepted in order, or dropped. -/
  | flueFlit (port : Nat) (f : Frame)
  /-- REPLAY_REQUEST, R368: A replay request makes the sender resend every unacknowledged frame. -/
  | replayRequest (port : Nat) (f : Frame)
  /-- RETRAIN_REQUEST, R369: A partner's retrain request starts a retrain. -/
  | retrainRequest (port : Nat) (f : Frame)
  /-- LANE_LOCK_LOSS, R363: A lane loses lock for 1 µs and a retrain with the spare starts. -/
  | laneLockLoss (port lane : Nat)
  /-- FEC_WINDOW_END, R363: A lane's corrected-byte count over the window exceeds its limit, and the lane fails. -/
  | fecWindowEnd (port : Nat) (corrected : List Nat)
  /-- RETRAIN_DONE, R369: Training ends with the port up, and sending resumes at the first unacknowledged frame. -/
  | retrainDone (port : Nat) (failed : List Nat) (partner : Nat)
  /-- RETRAIN_ATTEMPT_END, R369: A retrain attempt window ends without the port up; after three attempts the port goes down. -/
  | retrainAttemptEnd (port : Nat) (failed : List Nat)
  /-- TRAINING_ATTEMPT, R364: A down port with a partner attempts training every 100 ms. -/
  | trainingAttempt (port : Nat)
  /-- PROBE_DUE, R372: A partner with live state has been sent nothing for 1 ms, and PROBE is sent. -/
  | probeDue (partner : Nat)
  /-- PAIR_SILENCE_TIMEOUT, R372: No message arrives from a partner with live state within 10 ms, and the pair is lost. -/
  | pairSilenceTimeout (partner : Nat)
  /-- READY, R377: A ready-token message arrives at the sender. -/
  | flueReady (m : Msg)
  /-- WITHDRAW, R374: A message withdrawing tokens of a transfer tag. -/
  | flueWithdraw (m : Msg)
  /-- DATA, R378: A DATA message lands, and each sod is checked against its carried tag. -/
  | flueData (m : Msg)
  /-- REFUSE, R82: A message refusing a DATA message that found no landing room. -/
  | flueRefuse (m : Msg)
  /-- REOPEN, R379: A re-run sender asks for tokens or for confirmation. -/
  | flueReopen (m : Msg)
  /-- CONFIRM, R379: The receiver's confirmation of consumption, which lets the sender commit. -/
  | flueConfirm (m : Msg)
  /-- ABORT, R380: The sender's notice that a source sod is ash, with a resend to follow or final. -/
  | flueAbort (m : Msg)
  /-- DECLINE, R380: The receiving command ended unconsumed, and its status is sent. -/
  | flueDecline (m : Msg)
  /-- FLAG, R382: A remote flag operation arrives and is applied or refused. -/
  | flueFlag (m : Msg)
  /-- FLAG_ANSWER, R382: A partner's answer to a FLAG, which lets the sender's DONE be written. -/
  | flagAnswer (m : Msg)
  /-- OFFER, R262: A handover offer lands; the decode module checks it, confirms blocks and reserves room. -/
  | flueOffer (m : Msg)
  /-- CANCEL, R281: A forwarded cancel, or its decision, between two modules. -/
  | flueCancel (m : Msg)
  /-- HELLO, R371: A pair is established and its epoch agreed. -/
  | flueHello (m : Msg)
  /-- PROBE, R372: A keep-alive message from a partner. -/
  | flueProbe (m : Msg)
  /-- ROUTE, R371: A list of identities reachable through a port. -/
  | flueRoute (m : Msg)
  /-- UNREACHABLE, R372: A switch reports a partner unreachable, and the pair is lost. -/
  | flueUnreachable (m : Msg)
  /-- TRANSFER_TIMEOUT, R381: A sender with no token, or a receiver with no data, reaches its wait limit. -/
  | transferTimeout (h : Handle)
  /-- HOST_READ_COMPLETION, R285: A completion arrives for a read of host memory, with data or with an error. -/
  | hostReadCompletion (h : Handle) (offset : Nat) (r : HostRead)
  /-- COMPLETION_TIMEOUT, R285: A read of host memory times out, and its command ends FAULTED. -/
  | completionTimeout (h : Handle)
  /-- TLP_INTEGRITY_FAILURE, R453: A received TLP fails its IDE check, and the stream enters the Insecure state. -/
  | tlpIntegrityFailure (stream : Nat)
  /-- THERMAL_SAMPLE, R417: Every 100 µs the die sensors are read, and throttling and service state are set. -/
  | thermalSample (readings : List Reading)
  /-- AVS_CURRENT_SAMPLE, R413: Each zone's current is read over AVSBus every 100 µs, and AVS faults are found. -/
  | avsCurrentSample (zones : List (Option Nat))
  /-- AUX_RAIL_SAMPLE, R415: The auxiliary rails are measured and out-of-tolerance rails are reported. -/
  | auxRailSample (millivolts milliamps : List Nat)
  /-- POWER_WINDOW_FAST, R422: At each 100 µs window end the rating limiter updates its removals. -/
  | powerWindowFast (watts : Nat)
  /-- POWER_WINDOW_1MS, R423: At each 1 ms window end P_1 and P_avg are taken, advisories are raised and the cap limiter acts. -/
  | powerWindow1ms (watts : Nat)
  /-- GRACE_END, R423: An advisory's grace ends with P_avg above the cap, and enforcement begins. -/
  | graceEnd
  /-- SETPOINT_STEP, R412: Firmware steps the VCORE setpoint by at most 5 mV. -/
  | setpointStep (millivolts : Nat)
  /-- SUPPLY_SAG, R431: A supply sag begins, clocks are stretched and non-volatile writes are held. -/
  | supplySag (cause : SagCause) (vcore vaux : Nat)
  /-- STRETCH_END, R431: No sag condition has held for 100 µs, and stretching ends. -/
  | stretchEnd
  /-- NV_HOLD_END, R431: After 10 ms free of sag the hold ends, and deferred firmware writes proceed. -/
  | nvHoldEnd
  /-- VCORE_COLLAPSE, R433: VCORE below 0.55 V starts a fundamental reset. -/
  | vcoreCollapse
  /-- VSTBY_LOW, R496: VSTBY below 2.9 V starts a fundamental reset. -/
  | vstbyLow
  /-- POWER_CYCLE, R429: VSTBY held below 2.5 V for 10 ms releases a latched Quench. -/
  | powerCycle
  /-- SMOULDER_ENTRY, R434: A unit idle for 100 µs with its bit enabled enters Smoulder. -/
  | smoulderEntry (u : SmoulderUnit)
  /-- SMOULDER_WAKE, R396: A wake request from a crossing starts a stopped domain's clock. -/
  | smoulderWake (crossing : Nat)
  /-- PERST_ASSERT, R400: PERST# asserted starts a fundamental reset. -/
  | perstAssert
  /-- PERST_RELEASE, R406: PERST# released; the straps are sampled and start-up begins. -/
  | perstRelease (thermCompat bootSel : Bool) (nonce : List Byte)
  /-- REFCLK_LOSS, R392: No REFCLK edge for 1 µs stops the clocks and holds the module in reset. -/
  | refclkLoss
  /-- ROOT_PLL_LOCK, R388: The root PLL locks and HEARTH leaves standby. -/
  | rootPllLock
  /-- STARTUP_STEP_DONE, R406: A start-up step succeeds, and its readiness bit sets. -/
  | startupStepDone (step : StartStep)
  /-- STARTUP_STEP_LIMIT, R406: A start-up step reaches its limit and fails. -/
  | startupStepLimit (step : StartStep)
  /-- WATCHDOG_SERVICE, R403: Firmware services the hardware watchdog. -/
  | watchdogService
  /-- WATCHDOG_EXPIRY, R403: The watchdog is not serviced in time, and a warm module reset follows. -/
  | watchdogExpiry
  /-- FUNCTION_LEVEL_RESET, R301: A function-level reset ends every context of the function. -/
  | functionLevelReset (fn : Nat)
  /-- SVN_BURN, R444: Firmware burns svn fuses up to the running image's svn. -/
  | svnBurn
  /-- GET_VERSION, R448: SPDM request for the supported versions. -/
  | getVersion (fn : Nat) (body rand : List Byte)
  /-- GET_CAPABILITIES, R448: SPDM request for capabilities. -/
  | getCapabilities (fn : Nat) (body rand : List Byte)
  /-- NEGOTIATE_ALGORITHMS, R448: SPDM algorithm negotiation. -/
  | negotiateAlgorithms (fn : Nat) (body rand : List Byte)
  /-- GET_DIGESTS, R448: SPDM request for certificate digests. -/
  | getDigests (fn : Nat) (body rand : List Byte)
  /-- GET_CERTIFICATE, R446: SPDM request for the certificate chain. -/
  | getCertificate (fn : Nat) (body rand : List Byte)
  /-- CHALLENGE, R449: SPDM challenge signed with the identity key. -/
  | spdmChallenge (fn : Nat) (body rand : List Byte)
  /-- GET_MEASUREMENTS, R451: SPDM request for the measurement blocks. -/
  | getMeasurements (fn : Nat) (body rand : List Byte)
  /-- KEY_EXCHANGE, R448: SPDM session key exchange. -/
  | keyExchange (fn : Nat) (body rand : List Byte)
  /-- FINISH, R448: SPDM session finish. -/
  | spdmFinish (fn : Nat) (body rand : List Byte)
  /-- END_SESSION, R448: Ends an SPDM session. -/
  | endSession (fn : Nat) (body rand : List Byte)
  /-- KEY_UPDATE, R448: Updates an SPDM session's keys. -/
  | keyUpdate (fn : Nat) (body rand : List Byte)
  /-- IDE_KM, R453: A vendor-defined IDE key-management message that programs or switches stream keys. -/
  | ideKm (fn : Nat) (body rand : List Byte)
  /-- BYPASS, R479: JTAG BYPASS instruction. -/
  | jtagBypass
  /-- IDCODE, R479: JTAG IDCODE instruction. -/
  | jtagIdcode
  /-- SAMPLE_PRELOAD, R479: JTAG SAMPLE/PRELOAD instruction. -/
  | samplePreload
  /-- EXTEST, R479: JTAG EXTEST instruction, allowed only while PERST# is asserted. -/
  | jtagExtest
  /-- HIGHZ, R479: JTAG HIGHZ instruction, allowed only while PERST# is asserted. -/
  | jtagHighz
  /-- DBGACC, R480: JTAG debug access that holds the debug session. -/
  | dbgacc
  /-- ENTDAA, R505: I3C dynamic address assignment. -/
  | entdaa (address : Nat)
  /-- SETDASA, R505: I3C assignment of a dynamic address from the static address. -/
  | setdasa (static address : Nat)
  /-- RSTDAA, R505: I3C reset of the dynamic address. -/
  | rstdaa
  /-- GETPID, R505: I3C read of the provisioned ID. -/
  | getpid
  /-- GETBCR, R505: I3C read of the bus characteristics register. -/
  | getbcr
  /-- GETDCR, R505: I3C read of the device characteristics register. -/
  | getdcr
  /-- GETSTATUS, R505: I3C read of the status. -/
  | getstatus
  /-- I3C_INDEX_WRITE, R505: An I3C private write of one byte that selects a register index. -/
  | i3cIndexWrite (data : List Byte)
  /-- I3C_PRIVATE_READ, R505: An I3C private read that returns 8 bytes of the indexed register. -/
  | i3cPrivateRead
  /-- POWER_ON, R400: The supplies come up from nothing, which is a trigger of fundamental reset with the module in standby. -/
  | powerOn
  /-- REFCLK_RETURN, R392: REFCLK edges resume after a reference loss, so that a following PERST# assertion and release can free the module from its held reset. -/
  | refclkReturn
  /-- HOST_LINK_DOWN, R73: The PCI Express link goes down while the module runs, so that host writes at commit end FAULTED with committed set and host reads fail. -/
  | hostLinkDown
  /-- NV_WRITE_DONE, R438: A flash write or fuse programming in progress completes, ending FW_STAGE, FW_ACTIVATE, KEY_REVOKE or REPAIR_COMMIT and releasing a warm reset waiting under R402. -/
  | nvWriteDone
  /-- SETPOINT_STEP_DONE, R412: A VCORE setpoint step ends when every zone reads back within 1 % of the new value, after which the sag rule measures against the new setpoint alone. -/
  | setpointStepDone
  /-- VF_ENABLE, R410: The host sets VF Enable in the SR-IOV capability, after which the virtual functions take packets. -/
  | vfEnable (count : Nat)
  /-- DOE_DISCOVERY, R283: A DOE discovery request arrives in a function's mailbox and is answered. -/
  | doeDiscovery (fn index : Nat)
deriving DecidableEq, Repr

end Sys2Proof
end

