-- ==== Sys2Proof/Config.lean ====
section
/-!
DEFINITION. What one module is made with, and the values the manual leaves open. An `opaque` constant has no body: no proof can
see a value of it, so a statement holds whatever it is (notes/assumptions/1.md and the rows named beside each).
-/
namespace Sys2Proof.Config

/-- UNVERIFIED value, free: the k-th free byte (log entry 11). R156 lets a hazard read the old or the new value. -/
opaque freeByte : Nat → Byte

/-- Free: the k-th free choice between two (log entry 11): R156. -/
opaque freeBool : Nat → Bool

/-- Free: the interleave hash of R44, the Collier's alone: where, among the channels of a stack's mask or the four of a bog package, the
granule of a tensor's sod lies (log entry 146). -/
opaque granule : Nat → Nat → Nat → Nat

/-- Free: the FP32 logit of a token after a sequence of tokens, from a model's dimensions, its tensors and the patch of the bound version alone
(R242; log entry 44). -/
opaque logit : List Nat → List (List Byte) → List Byte → List Nat → Nat → FP32

/-- Free: a byte of the key or of the value that a model's layer and head store for the last token of a sequence, from the same (R242;
log entry 44): layer and head, whether it is the value, the byte's number. -/
opaque kvByte : List Nat → List (List Byte) → List Byte → List Nat → Nat → Bool → Nat → Byte

/-- Free: the tensor handle of a clamp's turf pool, without its context (log entry 156). -/
opaque poolTensor : Nat → Nat

/-- SHA-512, which R266, R436-R442 and R451 name and the manual does not define (log entry 12). -/
opaque sha512 : List Byte → BitVec 512

/-- RSASSA-PSS verification under RFC 8017 with SHA-512 (R437): modulus, message, signature (log entry 12). -/
opaque pssVerify : List Byte → List Byte → List Byte → Bool

/-- The RSASSA-PSS signature the security engine makes with the identity key over a transcript, with its random part (R445, R449;
log entry 12). -/
opaque identitySign : List Byte → List Byte → List Byte

/-- The certificate chain of R446, written at manufacture. -/
opaque certChain : List Byte

/-- Session keys and messages that the key exchange of R448 computes from the transcript and random bytes (log entry 12). -/
opaque keyExchange : List Byte → List Byte → List Byte

/-- Whether the proof in a FINISH message is that of a session's secret, and the secret after a KEY_UPDATE of a kind (R448; log entry 12). -/
opaque finishOk : List Byte → List Byte → Bool
opaque nextSecret : List Byte → Nat → List Byte

/-- Fuses written at manufacture: serial number (R485), the four key hashes (R443), and the key whose hash is in the debug key slot (R455)
(log entry 7). -/
opaque serial : BitVec 64
opaque keyHash : Nat → BitVec 512
opaque debugKey : List Byte

/-- The debug fuse mode of R454 (log entry 7). -/
opaque debugFuseMode : Nat

/-- The VCORE setpoint in the fuses, in mV (R412). -/
opaque setpointFuse : Nat

/-- IDCODE bits [11:0], which the BSDL file gives (R479); bits [31:12] are in the manual. -/
opaque idcodeLow : BitVec 12

/-- I3C provisioned ID, BCR, DCR and status, which R505 names and the manual does not give (log entry 13). -/
opaque i3cPid : BitVec 48
opaque i3cBcr : Byte
opaque i3cDcr : Byte
opaque i3cStatus : Nat → BitVec 16

/-- Free: what the manual does not state of a computed number (log entry 14): the k-th free FP32 value. -/
opaque freeFP32 : Nat → FP32

/-- Free: rows of a bank that factory repairs replace, of its 64 spare rows (R205; log entry 158), by stack · 1,024 + channel · 32 + bank. -/
opaque factoryRepairs : Nat → Nat

/-- Version of the Kindling ROM (R441, measurement 1). -/
opaque kindlingVersion : BitVec 32

/-- The image that flash slot `n` holds at shipment, and the digest that its slot record names (R438, R513; log entry 8). -/
opaque factoryImage : Nat → List Byte
opaque factoryDigest : Nat → BitVec 512

end Sys2Proof.Config
end

