-- ==== Sys2Proof/Machine/State.lean ====
section
/-!
DEFINITION. The state of the module, as plain data, and its value at power-on. Every field names the rule of spec/ that gives it;
INVENTORY.md lists them. Numbers of a stated width are naturals kept below it by the operations; registers that software reads
whole stay bit vectors. Default values are the reset values.
-/
namespace Sys2Proof.Machine

open Sys2Proof

/-! ## Commands in flight (R67) -/

/-- Phases of a command (R67). -/
inductive Phase where
  | queued
  | waiting
  | run
  | commit
  | ended
deriving DecidableEq, Repr, Inhabited

/-- One flag operation (R89): flag, add or set, value. -/
structure FlagOp where
  flag : Nat
  add : Bool
  value : Nat
deriving DecidableEq, Repr, Inhabited

/-- One binding slot of a launch (R330). -/
structure Binding where
  kind : Nat := 0
  rw : Bool := false
  handle : Handle := Handle.null
  tag : Nat := 0
  src : Nat := 0
deriving DecidableEq, Repr, Inhabited

/-- One binding of an in-bank block (R331): sods [f + p·t, f + p·t + c) for part p. -/
structure InbankBinding where
  handle : Handle := Handle.null
  rw : Bool := false
  first : Nat := 0
  count : Nat := 0
  step : Nat := 0
deriving DecidableEq, Repr, Inhabited

/-- The in-bank block (R331). -/
structure InbankBlock where
  program : Handle
  parts : Nat
  entry : Nat
  args : List (Nat × Nat)
  bcast : Handle
  bcastOff : Nat
  bcastLen : Nat
  bcastStep : Nat
  bindings : List InbankBinding
deriving DecidableEq, Repr, Inhabited

/-- The launch block of PROGRAM_LAUNCH (R329). `grid` is last dimension first. -/
structure Launch where
  program : Handle
  grid : List Nat
  counts : List Nat
  queueKib : List Nat
  holdKib : Nat
  seed : Nat
  bindings : List Binding
  inband : Option InbankBlock := none
deriving DecidableEq, Repr, Inhabited

/-- A sod as it stands in storage (R33, R37, R40): bytes, tag, ash mark, place. -/
structure Sod where
  data : Memory := []
  tag : BitVec 64 := 0
  ash : Bool := false
  loc : Option Loc := none
deriving DecidableEq, Repr, Inhabited

/-- A shadow sod of a command (R51): tensor, sod number, bytes, the mask of bytes written (R39, R160), whether it was seeded while
the sod was ash, and its place. -/
structure Shadow where
  t : Handle
  sod : Nat
  data : Memory
  mask : BitVec 4096
  /-- the bytes that tile commits wrote (R160) -/
  tileMask : BitVec 4096 := 0
  fromAsh : Bool := false
  loc : Option Loc := none
deriving DecidableEq, Repr, Inhabited

/-- What a command does, with its parameters (10_nirra_commands; the last four are the serving context's, R244). -/
inductive Work where
  | flagWrite (op : FlagOp)
  | tensorDestroy (t : Handle)
  | tensorRead (t : Handle) (off host len plane fmt : Nat)
  | tensorWrite (t : Handle) (off host len plane fmt : Nat)
  | tensorCopy (src dst : Handle) (soff doff n : Nat)
  | tensorFill (t : Handle) (off len : Nat) (pattern : List Byte)
  | tensorGather (src idx dst : Handle) (rows rowBytes : Nat)
  | program (l : Launch)
  | inband (b : InbankBlock)
  | flueSend (src : Handle) (off len dmod dctx tag : Nat)
  | flueReceive (dst : Handle) (off len smod tag : Nat)
  | flueFlagSet (dmod dctx flag : Nat) (add : Bool) (value : Nat)
  | flueReduce (src dst : Handle) (dim : Nat)
  | generate (req : Nat)
  | modelRetire (clamp fingerprint : Nat)
  | shavingReplace (clamp fingerprint number version : Nat) (patch : Handle)
  | shavingRetire (clamp fingerprint number : Nat)
  | requestCancel (req : Nat)
  | clampStop (clamp : Nat)
  /-- settings that wait until no shadow stands over a sod that must move (R54, R98) -/
  | clampConfigure (clamp : Nat) (settings : List Byte)
  | powerCap (watts : Nat)
  | fwStage (slot : Nat) (image : List Byte)
  | fwActivate (slot : Nat)
  | keyRevoke (slot : Nat)
  | repairCommit (stack : Nat) (rows : List (Nat × Nat))
  | debugUnlock (token : List Byte)
  | debugLock
  | bankWrite (stack chan bank first rows host : Nat)
  /-- `token` is the first token, sampled by the last chunk: none before it, `some none` for a sampling fault -/
  | prefill (clamp req first count : Nat) (token : Option (Option Nat))
  /-- `tokens` holds what the sampling tail chose for each request of the batch; none is a sampling fault (R255) -/
  | step (clamp model : Nat) (batch : List Nat) (tokens : List (Option Nat))
  | handover (req : Nat)
  /-- a command of kind A that its own decision carries out -/
  | atOnce (opcode : Nat)
  | telemetry (set clamp host : Nat)
  | dbgRead (space : Nat) (locator : Nat) (off len tile host : Nat)
  | bankView (stack chan : Nat) (enter : Bool)
deriving DecidableEq, Repr, Inhabited

/-- How far a command's transfers have come (R378-R381): the (partner, tag) pairs whose CONFIRM it holds, whether it has answered a
token and received data, the (tag, offset) pairs of second tokens, and the (source, tag) pairs it has taken in. -/
structure Transfer where
  confirmed : List (Nat × Nat) := []
  answered : Bool := false
  arrived : Bool := false
  resent : List (Nat × Nat) := []
  taken : List (Nat × Nat) := []
deriving DecidableEq, Repr, Inhabited

/-- One command not yet forgotten (R67). -/
structure Cmd where
  handle : Handle
  queue : Option Nat := none
  seq : Nat := 0
  cookie : Nat := 0
  notify : Bool := false
  work : Work
  phase : Phase := .queued
  status : Nat := 0
  committed : Bool := false
  stamp : Nat := 0
  /-- the stamp at which it ended (R92) -/
  endedAt : Nat := 0
  result : Nat := 0
  waits : List (Nat × Nat) := []
  ops : List FlagOp := []
  dep : Handle := Handle.null
  /-- stamp at which it became head, and the end of its wait window (R91) -/
  headAt : Option Nat := none
  waitEnd : Nat := 0
  /-- the wait conditions have held together (R90) -/
  flagsOk : Bool := false
  issuedAt : Nat := 0
  runAt : Nat := 0
  kills : Nat := 0
  /-- between a kill and its re-run (R77) -/
  killed : Bool := false
  /-- the snapshot of R68: per tensor its sods as they stood -/
  snap : Option (List (Handle × Table Sod)) := none
  shadows : List Shadow := []
  /-- the single re-run of R164 has been used -/
  retried : Bool := false
  /-- run-phase work is finished, so that it may enter commit (R67) -/
  done : Bool := false
  /-- host bytes that have arrived (R285) and the ranges still outstanding -/
  hostData : Memory := []
  hostOut : List (Nat × Nat) := []
  /-- requests sent for it: tag, offset, length; the offset of the next request, and the end of the read (R21) -/
  hostReqs : List (Nat × Nat × Nat) := []
  hostNext : Nat := 0
  hostEnd : Nat := 0
  /-- sods whose stored bits no code can correct when an engine reads them for this command: tensor and sod (R164, R166; log entry 17) -/
  errs : List (Handle × Nat) := []
  /-- since when a tile commit waits for shadow room (R24, R53) -/
  roomWait : Option Nat := none
  partsLeft : List Nat := []
  tilesLeft : List Nat := []
  /-- which FLUE_REDUCE of its queue it is (R383, log entry 40) -/
  ordinal : Nat := 0
  transfer : Transfer := {}
  /-- a flag answer is awaited (R382) -/
  awaiting : Bool := false
deriving DecidableEq, Repr, Inhabited

/-! ## Contexts (R64) and rings -/

/-- A record of R305, less the phase bit: its kind, status, flags byte, bytes [31:4], and marks for coalescing and merging. -/
structure Rec where
  kind : Nat
  status : Nat := 0
  flags : Nat := 0
  body : List Byte := []
  notify : Bool := false
  /-- the request whose open TOKEN record it is (R254) -/
  req : Option Nat := none
  /-- the handle slot that this completion record frees once the driver has consumed it (R92) -/
  slot : Option Nat := none
  /-- the request whose final TOKEN record it is, on the module that accepted its GENERATE (R249) -/
  final : Option Handle := none
deriving DecidableEq, Repr, Inhabited

/-- A remembered sequence number (R302). -/
structure Seen where
  seq : Nat
  handle : Handle
  status : Nat
deriving DecidableEq, Repr, Inhabited

/-- A command queue (R65, R93): the commands not yet passed, oldest first. -/
structure Queue where
  halted : Bool := false
  cmds : List Handle := []
  /-- FLUE_REDUCE commands entered so far, which number the tags of their nodes (R383, log entry 40) -/
  reductions : Nat := 0
deriving DecidableEq, Repr, Inhabited

/-- A handle slot (R313): its generation, whether an object holds it, whether the generation has yet to be issued, and the number
of the completion record that the driver must consume before the slot is used again (R92). -/
structure Slot where
  gen : Nat
  live : Bool
  fresh : Bool := false
  record : Option Nat := none
  /-- a final TOKEN record that the driver must consume first (R249): the context whose ring takes it, its number once it is written -/
  token : Option (Nat × Option Nat) := none
deriving DecidableEq, Repr, Inhabited

/-- A packet taken and not yet decided (R296): its opcode, the packet, its sealAt stamp, and whether firmware holds it (R298). -/
structure Taken where
  op : Nat
  pkt : Packet
  sealAt : Nat
  held : Bool
deriving DecidableEq, Repr, Inhabited

/-- A breakpoint (R162). -/
structure Break where
  execStream : Bool
  onTag : Bool
  oneShot : Bool
  value : Nat
  tile : Option Nat
deriving DecidableEq, Repr, Inhabited

/-- Engine classes of R86. -/
inductive EngineClass where
  | core
  | channel
  | slane
deriving DecidableEq, Repr, Inhabited

/-- Classes of memory traffic (R359). -/
inductive Traffic where
  | critical
  | normal
  | bulk
  | scrub
deriving DecidableEq, Repr, Inhabited

/-- A context (R64). -/
structure Ctx where
  fn : Nat
  clamp : Nat
  minor : Nat := 2
  vector : Nat := 1
  ringBase : Nat := 0
  ringEntries : Nat := 64
  coalCount : Nat := 1
  coalTime : Nat := 1
  weight : Nat := 1000
  waitLimit : Nat := 5000000
  remoteMask : BitVec 64 := 0
  /-- records written and consumed, modulo 2^32 (R309) -/
  written : Nat := 0
  consumed : Nat := 0
  held : List Rec := []
  /-- coalescing (R316): records since the last message, start of the window, the settings it opened with -/
  unreported : Nat := 0
  winStart : Option Nat := none
  winCount : Nat := 1
  winTime : Nat := 1
  slot : Nat := 0
  window : Memory := []
  seen : List Seen := []
  retry : Option Nat := none
  taken : List Taken := []
  flags : List Nat := List.replicate 64 0
  queues : List Queue := List.replicate 16 {}
  serving : Bool := false
  replyEnabled : Bool := false
  group : Nat := 0
  salt : List Byte := []
  /-- engine-nanoseconds charged, per class, by the number of the accounting period that holds them (R87) -/
  charge : Table (List Nat) := []
  endedOk : Nat := 0
  endedOther : Nat := 0
  kills : Nat := 0
  breaks : List (Option Break) := [none, none, none, none]
  /-- ended, waiting for a command in commit (R324) -/
  ending : Bool := false
deriving DecidableEq, Repr, Inhabited

/-- What exists once per function (R290, R487, R481). -/
structure Fn where
  sealMiss : Nat := 0
  dropCount : Nat := 0
  bootSeen : List Seen := []
  bootRetry : Option Nat := none
  bootReply : List Byte := List.replicate 32 0
  bootPhase : Bool := false
  bootWindow : Memory := []
  bootTaken : List Taken := []
  lost : Nat := 0
  timeLatch : Option (BitVec 32) := none
deriving DecidableEq, Repr, Inhabited

/-! ## Tensors and memory -/

/-- How one dimension is sharded (R29): split along `axis` with block size `block`, or replicated. -/
structure ShardDim where
  split : Bool := false
  axis : Nat := 0
  block : Nat := 0
deriving DecidableEq, Repr, Inhabited

/-- A stripe record (R351): tags of the 11 data sods and of the parity sod. -/
structure Stripe where
  tags : List (BitVec 64)
  parity : Sod
deriving DecidableEq, Repr, Inhabited

/-- A tensor (R24-R32). Sods of the element array come first, those of the scale plane follow (R32). -/
structure Tensor where
  handle : Handle
  clamp : Nat
  fmt : Nat
  shape : List Nat
  localShape : List Nat
  useHint : Nat
  shared : Bool := false
  shardSet : Handle := Handle.null
  shards : List ShardDim := []
  grants : List (Nat × Bool) := []
  bytes : Nat
  planeBytes : Nat := 0
  sods : Table Sod := []
  /-- destroyed, and kept for commands issued before (R27) -/
  destroyed : Bool := false
  stripes : Table Stripe := []
  lost : List Nat := []
  /-- reads of each sod in this accounting period and in the last one (R46) -/
  hits : Table Nat := []
  hitsPrev : Table Nat := []
deriving DecidableEq, Repr, Inhabited

/-- A shard set (R514). -/
structure ShardSet where
  handle : Handle
  clamps : Bool
  members : List Nat
  sizes : List Nat
  position : Nat
deriving DecidableEq, Repr, Inhabited

/-- A remap entry (R342): the burst it stands for. -/
structure RemapEntry where
  bank : Nat
  row : Nat
  column : Nat
deriving DecidableEq, Repr, Inhabited

/-- Integrity counts of one memory channel (R340, R342, R476). -/
structure ChanErr where
  corrected : Nat := 0
  hard : Nat := 0
  onDie : Nat := 0
  remap : List RemapEntry := []
deriving DecidableEq, Repr, Inhabited

/-- The ash of one tensor in one window of R463: the tensor, its clamp, the stamp of the raise, the sods that became ash. It outlives the
tensor, whose record is written at the window's end. -/
structure AshWindow where
  t : Handle
  clamp : Nat
  stamp : Nat
  count : Nat
deriving DecidableEq, Repr, Inhabited

/-- Tensors, shard sets and the memory integrity state of chapters 02 and 11. -/
structure Store where
  tensors : List Tensor := []
  shardSets : List ShardSet := []
  /-- windows of ASH whose record has not been written (R463) -/
  ashWindows : List AshWindow := []
  exradErr : Table ChanErr := []
  bogErr : Table ChanErr := []
  /-- retired pages: place and whether only until fundamental reset (R345) -/
  retired : List (Loc × Bool) := []
  /-- entries of the retired-page list in flash (R345) -/
  flashRetired : List Loc := []
  flashDeferred : List Loc := []
  /-- soft repairs in flash per stack: (bank, row), and proposals (R206, R344) -/
  softRepairs : Table (List (Nat × Nat)) := []
  proposed : List Loc := []
  scrubHours : Nat := 24
  scrubNext : Nat := 24
  scrubPass : Nat := 0
  scrubStart : Option Nat := none
  scrubBulk : List Nat := []
  /-- rows or pages that the pass has read on each controller channel (R356, R358) -/
  scrubDone : Table Nat := []
  /-- for each controller channel, which of its last 1,024 bursts served were of the bulk class (R360) -/
  recent : Table (BitVec 1024) := []
  migrations : Nat := 0
deriving DecidableEq, Repr, Inhabited

/-! ## Clamps -/

/-- Serving settings (R243). -/
structure ServingCfg where
  ctx : Nat
  weight : Nat
  maxRequests : Nat
  maxBatch : Nat
  turfExrad : Nat
  turfBog : Nat
  prefillChunk : Nat
  prefixEntries : Nat
deriving DecidableEq, Repr, Inhabited

/-- States of a clamp (R85). -/
inductive ClampState where
  | unconfigured
  | stopped
  | running
  | stopping
deriving DecidableEq, Repr, Inhabited

/-- A stop in progress (R97): its command (none for a clamp reset), kill mode, deadline. -/
structure Stop where
  cmd : Option Handle
  kill : Bool
  deadline : Nat
deriving DecidableEq, Repr, Inhabited

/-- A clamp (R83). `role` is 0 MIXED, 1 PREFILL, 2 DECODE. -/
structure Clamp where
  state : ClampState := .unconfigured
  role : Nat := 0
  preempt : Bool := false
  hostShare : Nat := 0
  flueShare : Nat := 0
  landingShare : Nat := 0
  bogShare : Nat := 0
  maxCtx : Nat := 0
  slice : Nat := 0
  cores : List (BitVec 64) := [0, 0, 0, 0]
  chans : List (BitVec 32) := List.replicate 12 0
  assign : BitVec 64 := 1
  changing : Bool := false
  /-- a reset of the clamp runs (R404), or waits for a stop to end (R401) -/
  resetting : Bool := false
  resetWaits : Bool := false
  stop : Option Stop := none
  serving : Option ServingCfg := none
  sliceStart : Nat := 0
  /-- discarded engine-ns of R88, per class, by accounting period -/
  discarded : Table (List Nat) := []
  classBytes : List Nat := [0, 0, 0]
  landingRefusals : Nat := 0
  tokens : Nat := 0
  prefixConfirmed : Nat := 0
  prefixFalse : Nat := 0
deriving DecidableEq, Repr, Inhabited

/-! ## Kiln cores -/

/-- A LOAD or STORE entry that has issued and whose runs have not all been generated (R139, R140, R143): its queue, slot and
plane, the latched nest (count and stride of each level, innermost first), and the next point and byte in it. -/
structure Nest where
  queue : Nat
  slot : Nat
  plane : Bool
  base : Nat
  levels : List (Nat × Int)
  run : Nat
  eos : Bool
  tag : Nat
  viaSlane : Bool := false
  point : Nat := 0
  sub : Nat := 0
deriving DecidableEq, Repr, Inhabited

/-- A LOAD request in flight (R142): where it reads, whether an end-of-stream marker follows it, and its bytes once returned. -/
structure LoadReq where
  queue : Nat
  slot : Nat
  plane : Bool
  off : Nat
  len : Nat
  eos : Bool
  got : Option (List Byte) := none
  /-- the controller channel whose queue holds it (R172): stack·32 + channel, 384 + package·4 + channel -/
  chan : Option Nat := none
  /-- its stamp and its number in the order of arrival (R172, R360) -/
  since : Nat := 0
  arrival : Nat := 0
  /-- made by the die's Slane engines (R142) -/
  viaSlane : Bool := false
  /-- a read through a trigger window: the unit it was directed at when it arrived (R201, R213) -/
  unit : Option (Nat × Nat × Nat) := none
deriving DecidableEq, Repr, Inhabited

/-- An element of a load queue: bytes, or an end-of-stream marker (R141). -/
inductive QItem where
  | bytes (b : List Byte)
  | eos
deriving DecidableEq, Repr, Inhabited

/-- The access stream of a tile (R137-R143). -/
structure AccessStream where
  pos : Nat := 0
  cnt : List Nat := List.replicate 16 0
  retired : Nat := 0
  ended : Bool := false
  /-- LOAD and STORE entries that have issued and whose runs are still being generated, oldest first -/
  loads : List Nest := []
  stores : List Nest := []
  /-- requests in flight, in the order they were generated, at most 256 (R20) -/
  reqs : List LoadReq := []
deriving DecidableEq, Repr, Inhabited

/-- One level of LOOP (R147): first instruction of the body, one past its last, runs left. -/
structure LoopLevel where
  first : Nat
  last : Nat
  left : Nat
deriving DecidableEq, Repr, Inhabited

/-- The execute stream (R144-R147). `regs` holds setup registers 0 to 12 of R146. -/
structure ExecStream where
  pos : Nat := 0
  cnt : List Nat := List.replicate 16 0
  regs : List Nat := [0, 0, 0, 128, 0, 0, 0, 0, 0, 0, 0, 0, 0]
  loops : List LoopLevel := []
  tag : Nat := 0
  retired : Nat := 0
  ended : Bool := false
  /-- issue cycle of the next instruction, waits not counted (R156) -/
  cycle : Nat := 0
deriving DecidableEq, Repr, Inhabited

/-- A stationary buffer (R133, R148): tile bytes (128 x 64), scale bytes, format. `none` is the cleared buffer. -/
structure Stationary where
  fmt : Nat
  data : List Byte
  scales : List Byte
deriving DecidableEq, Repr, Inhabited

/-- A result not yet readable at every cycle (R155, R156): lines [line, line + bytes/64), the cycle from which it can be read, the
bytes that stood there before. -/
structure Flight where
  line : Nat
  ready : Nat
  old : List Byte
deriving DecidableEq, Repr, Inhabited

/-- Where a reading instruction puts its result: lines of the work area, a stationary buffer, or a store queue (bytes pushed). -/
inductive ReadDst where
  | lines (first count : Nat)
  | buffer (n : Nat)
  | queue (n bytes : Nat)
deriving DecidableEq, Repr, Inhabited

/-- A source still being read (R155, R156): lines [line, line + count) until a cycle, and where the result goes. -/
structure Reader where
  line : Nat
  count : Nat
  until_ : Nat
  dst : ReadDst
deriving DecidableEq, Repr, Inhabited

/-- A record of the hold area (R154). -/
structure HoldRec where
  slot : Nat
  plane : Bool
  off : Nat
  bytes : List Byte
deriving DecidableEq, Repr, Inhabited

/-- A tile on a core (R132-R163). -/
structure Tile where
  cmd : Handle
  index : Nat
  die : Nat
  core : Nat
  /-- the deque it was taken from (R76) -/
  fromDie : Nat
  fromCore : Nat
  startedAt : Nat := 0
  acc : AccessStream := {}
  exe : ExecStream := {}
  pad : Memory := []
  loadQ : List (List QItem) := List.replicate 8 []
  endFlag : List Bool := List.replicate 8 false
  storeQ : List (List Byte) := List.replicate 4 []
  hold : List HoldRec := []
  stat : List (Option Stationary) := [none, none]
  /-- what a stationary buffer held before its last TLD, and the cycle from which the new contents can be used (R156) -/
  statOld : List (Option Stationary × Nat) := [(none, 0), (none, 0)]
  /-- for loader, array, vector, pop and push unit: cycle of the last issue and cycle at which the unit is free (R157) -/
  units : List (Nat × Nat) := [(0, 0), (0, 0), (0, 0), (0, 0), (0, 0)]
  /-- the same for the use that an MMA makes of each stationary buffer -/
  bufs : List (Nat × Nat) := [(0, 0), (0, 0)]
  /-- the next instruction is a pop or push that has been found waiting (R151, R152) -/
  waiting : Bool := false
  /-- cycle of the last pop or push that waited, which lengthened the gaps counted (R151, R156) -/
  waitAt : Option Nat := none
  flights : List Flight := []
  readers : List Reader := []
  halted : Bool := false
  stepLeft : Option (Bool × Nat) := none
  committing : Bool := false
  /-- in tile commit for a command that was killed or has ended: the tile commit is not cut short (R70), and its output goes nowhere -/
  dropped : Bool := false
deriving DecidableEq, Repr, Inhabited

/-- What an engine does for the scheduler (R86); `switching` names the context it is taken from (R78). -/
inductive EngineUse where
  | idle
  | switching (ctx : Nat)
  | running
deriving DecidableEq, Repr, Inhabited

/-- One engine that some context holds: cores are numbered die·64 + core, channels stack·32 + channel, Slane channels 0 to 127. -/
structure Engine where
  ctx : Nat
  use : EngineUse := .idle
  since : Nat := 0
deriving DecidableEq, Repr, Inhabited

/-- A deque of tiles (R158). -/
structure Deque where
  cmd : Handle
  die : Nat
  core : Nat
  tiles : List Nat
deriving DecidableEq, Repr, Inhabited

/-- A Slane channel (R165): the command bound, the stamp of the binding, and its halt (R166): stamp, tensor, offset. -/
structure SlaneChan where
  cmd : Handle
  since : Nat := 0
  halt : Option (Nat × Handle × Nat) := none
deriving DecidableEq, Repr, Inhabited

/-- A parked tile (R81): command, tile, the source and the tag it waits for, the sods of the transfer that it waits for, and the die and
core where it was killed (R76). -/
structure Parked where
  cmd : Handle
  index : Nat
  src : Nat
  tag : Nat
  need : List Nat
  die : Nat
  core : Nat
deriving DecidableEq, Repr, Inhabited

/-- Kiln dies, scheduler and Slane engines (05, R86). -/
structure Kiln where
  cores : Table Engine := []
  chans : Table Engine := []
  slane : Table SlaneChan := []
  tiles : List Tile := []
  deques : List Deque := []
  parked : List Parked := []
  /-- requests that have reached a controller so far (R172) -/
  arrivals : Nat := 0
deriving DecidableEq, Repr, Inhabited

/-! ## Exrad stacks and Ember units -/

/-- States of EMB_STATUS (R203). -/
inductive UnitState where
  | idle
  | running
  | refreshPause
  | suspended
  | done
  | fault
  | stopped
deriving DecidableEq, Repr, Inhabited

/-- A fence register (R188). -/
structure Fence where
  valid : Bool := false
  bank : Nat := 0
  firstRow : Nat := 0
  rows : Nat := 0
deriving DecidableEq, Repr, Inhabited

/-- A reduction slot (R214): terms of the open chunk, chunk counter, tree levels. A term is (stream value, vector value) bits with
their formats; the chunk closes at 128. -/
structure RSlot where
  terms : List (Nat × Nat × Nat × Nat × Nat) := []
  chunks : Nat := 0
  levels : List FP32 := List.replicate 24 0
deriving DecidableEq, Repr, Inhabited

/-- A softmax state (R123): m, s, o. -/
structure SState where
  m : FP32 := 0
  s : FP32 := 0
  o : List FP32 := []
deriving DecidableEq, Repr, Inhabited

/-- A run of the bank map (R210). -/
structure MapRun where
  slot : Nat
  sod : Nat
  count : Nat
  bank : Nat
  row : Nat
  alternate : Bool
  writable : Bool
deriving DecidableEq, Repr, Inhabited

/-- An Ember unit (R203, R214). -/
structure EUnit where
  state : UnitState := .idle
  ended : Bool := false
  cause : Nat := 0
  pc : Nat := 0
  partTag : Nat := 0
  pauses : Nat := 0
  args : List (BitVec 64) := [0, 0, 0, 0]
  fences : List Fence := List.replicate 8 {}
  /-- V0 to V15, 32 bytes each, as one memory of 512 bytes -/
  vregs : Memory := []
  store : List (BitVec 64) := List.replicate 256 0
  /-- ARG0 to ARG3 as loaded at START -/
  argsIn : List (BitVec 64) := [0, 0, 0, 0]
  areg : List (BitVec 64) := List.replicate 8 0
  bb : Nat := 0
  fmt : BitVec 24 := 0
  loops : List LoopLevel := []
  slots : List RSlot := List.replicate 4 {}
  patch : List (BitVec 32) := []
  rowOpen : Bool := false
  scores : List FP32 := []
  scoresBack : List FP32 := []
  chunkM : FP32 := 0
  chunkS : FP32 := 0
  probs : List FP32 := List.replicate 128 0
  chunkO : List FP32 := List.replicate 128 0
  chunkBuf : Memory := []
  tree : List SState := List.replicate 7 {}
  treeCount : Nat := 0
  bankMap : List MapRun := []
  part : Option (Handle × Nat) := none
  lastCtx : Option Nat := none
  heldStart : Option (Nat × Nat) := none
  /-- the open row of each bank of the pair, and the row prepared there ahead of a stream (R218) -/
  openRow : List (Option Nat) := [none, none]
  prepared : List (Option Nat) := [none, none]
  /-- addresses at which AFL wrote a normalised state, which ASL does not accept (R232, log entry 151) -/
  normalised : List Nat := []
  /-- store entry of the last micro-operation, and whether it was a YIELD (R195, R203) -/
  lastPc : Nat := 0
  atYield : Bool := false
  readSods : List (Nat × Nat) := []
  wroteSods : List (Nat × Nat) := []
  yieldStop : Bool := false
deriving DecidableEq, Repr, Inhabited

/-- Modes of a channel, by their codes (R170). -/
inductive ChanMode where
  | offline
  | memory
  | toProcessor
  | processor
  | toMemory
  | bankView
deriving DecidableEq, Repr, Inhabited

/-- A channel of a stack (R169-R203). -/
structure Chan where
  trained : Bool := false
  mode : ChanMode := .offline
  trigger : Bool := false
  debt : Nat := 0
  hot : Bool := false
  switches : Nat := 0
  forcedPauses : Nat := 0
  fenceRefusals : Nat := 0
  refusedWrites : Nat := 0
  bbuf : Memory := []
  /-- broadcast slices loaded for the wave: command, byte offset in its tensor, first line (R212) -/
  slices : List (Handle × Nat × Nat) := []
  /-- region map: the open rows (bank, row) (R179) -/
  openRows : List (Nat × Nat) := []
  refreshing : Bool := false
  lastCtx : Option Nat := none
  /-- the command for which the Stoker asked for processor mode (R178) -/
  asker : Option Handle := none
  /-- the switch must return to memory mode at once (R178) -/
  abandon : Bool := false
  units : Table EUnit := []
  /-- rows written in bank view (R58): key bank·12288 + row -/
  rows : Table Memory := []
deriving DecidableEq, Repr, Inhabited

/-- The stacks (06). Channels are numbered stack·32 + channel. -/
structure Exrad where
  chans : Table Chan := []
deriving DecidableEq, Repr, Inhabited

/-! ## Serving engine -/

/-- A registered model (R240). -/
structure Model where
  clamp : Nat
  fingerprint : Nat
  vocab : Nat
  layers : Nat
  kvHeads : Nat
  kvFmt : Nat
  maxSeq : Nat
  prefill : Handle
  stepGraph : Handle
  handle : Handle
  retiring : Bool := false
deriving DecidableEq, Repr, Inhabited

/-- A shaving version (R272). -/
structure Version where
  clamp : Nat
  model : Nat
  number : Nat
  fingerprint : Nat
  patch : Handle
  /-- its sods in the library (R275) -/
  size : Nat
  current : Bool
  /-- the contents of the patch tensor as the version was loaded -/
  sods : Table Sod := []
deriving DecidableEq, Repr, Inhabited

/-- States of a request (R247 table). -/
inductive ReqState where
  | admitting
  | prefill
  | shipping
  | decode
  | ended
deriving DecidableEq, Repr, Inhabited

/-- A turf of a request's list (R257, R268): pool slot, shared through the prefix index, in the bog. -/
structure Turf where
  slot : Nat
  sharedEntry : Option Nat := none
  inBog : Bool := false
  /-- allocated for this request, in the run of its chunk (R260), also after its insertion in the prefix index -/
  own : Bool := false
deriving DecidableEq, Repr, Inhabited

/-- The settings of a request block (R246). -/
structure ReqBlock where
  promptLen : Nat
  maxNew : Nat
  seed : Nat
  temperature : FP32
  topP : FP32
  topK : Nat
  cacheOutput : Bool
  endTokens : List Nat
  stopSeqs : List (List Nat)
  flushEvery : Nat
  prompt : List Nat
deriving DecidableEq, Repr, Inhabited

/-- A request-table entry (R247). -/
structure Req where
  id : Nat
  handle : Handle
  clamp : Nat
  model : Nat
  shaving : Nat
  block : ReqBlock
  targetKind : Nat
  targetModule : Nat
  targetClamp : Nat
  replyCtx : Nat
  replyHandle : Handle
  state : ReqState := .admitting
  issuedAt : Nat := 0
  admitted : Nat := 0
  /-- the salt and the sharing group its blocks hash with (R266, R333) -/
  salt : List Byte := []
  group : Nat := 0
  version : Option Nat := none
  kvLen : Nat := 0
  /-- prompt tokens whose prefill has committed, confirmed blocks included -/
  done : Nat := 0
  generated : List Nat := []
  /-- the first token, between the last prefill commit and the handover (R255, R262) -/
  first : Option Nat := none
  turves : List Turf := []
  openRec : List Nat := []
  stalled : Bool := false
  parked : Bool := false
  endReason : Nat := 0
  status : Nat := 0
  /-- came by a handover from another module (R249) -/
  remote : Option (Nat × Nat) := none
  sentAway : Bool := false
deriving DecidableEq, Repr, Inhabited

/-- A prefix-index entry (R268). -/
structure PfxEntry where
  id : Nat
  clamp : Nat
  hash : BitVec 128
  parent : BitVec 128
  tokens : List Nat
  salt : List Byte
  group : Nat
  model : Nat
  version : Nat
  turf : Turf
  users : Nat
  lastUse : Nat
deriving DecidableEq, Repr, Inhabited

/-- Serving engine (08). -/
structure Serve where
  models : List Model := []
  versions : List Version := []
  /-- retiring or drained shavings: (clamp, model, number) -/
  noBind : List (Nat × Nat × Nat) := []
  reqs : List Req := []
  nextReq : Nat := 0
  admissions : Nat := 0
  pfx : List PfxEntry := []
  nextPfx : Nat := 0
  lastModel : Table Nat := []
  /-- steps taken at their commit slot and not yet flipped (R252): the command and the requests it advanced -/
  slotTaken : List (Handle × List Nat) := []
  /-- turves of evicted prefix entries that still lie in the bog (R271): clamp and model -/
  orphans : List (Nat × Nat) := []
  /-- a MIXED clamp runs one prefill command between steps (R250) -/
  prefillTurn : Table Bool := []
  salts : Table (List Byte) := []
deriving DecidableEq, Repr, Inhabited

/-! ## Flue -/

/-- States of a port (R364). -/
inductive PortState where
  | down
  | training
  | up
  | retired
deriving DecidableEq, Repr, Inhabited

/-- A Flue port (R361-R369, R387). -/
structure Port where
  state : PortState := .down
  excluded : Nat := 4
  partner : Nat := 0
  retrains : Nat := 0
  replays : Nat := 0
  crcFails : Nat := 0
  epochDiscards : Nat := 0
  txSeq : Nat := 0
  rxSeq : Nat := 4095
  /-- frames of kind 1 not yet acknowledged: seq, side, flit (R368) -/
  replayBuf : List (Nat × Nat × List Byte) := []
  /-- flits that wait for room in the replay buffer or for the end of a retrain: side, flit (R368, R369) -/
  txWait : List (Nat × List Byte) := []
  requested : Bool := false
  sameAck : Nat := 0
  lastAck : Nat := 4095
  attempts : Nat := 0
  attemptStart : Nat := 0
  failedLanes : List Nat := []
  reach : List Nat := []
  /-- windows of 1 ms whose corrected bytes have been judged (R363) -/
  fecDone : Nat := 0
deriving DecidableEq, Repr, Inhabited

/-- A pair (R371, R372). -/
structure Pair where
  port : Nat
  epoch : Nat := 0
  up : Bool := true
  /-- HELLO has been sent and the partner's is awaited -/
  hello : Bool := false
  lastArrival : Nat := 0
  lastSent : Nat := 0
deriving DecidableEq, Repr, Inhabited

/-- A sod landed and not yet consumed (R74, R82): die, context, source, tag, byte offset of the transfer, bytes. -/
structure Landed where
  die : Nat
  ctx : Nat
  src : Nat
  tag : Nat
  off : Nat
  bytes : Memory
deriving DecidableEq, Repr, Inhabited

/-- A token given out (R377): die whose landing buffer holds the reservation, context, source, tag, offset, length. -/
structure Token where
  die : Nat
  ctx : Nat
  src : Nat
  tag : Nat
  off : Nat
  len : Nat
deriving DecidableEq, Repr, Inhabited

/-- Flue links (12). -/
structure Flue where
  moduleId : Nat := 0
  lock : Bool := false
  ports : List Port := List.replicate 8 {}
  pairs : Table Pair := []
  landed : List Landed := []
  tokens : List Token := []
  /-- tokens received and not yet answered (R378): `src` is the partner, `ctx` its context -/
  offered : List Token := []
  /-- transfer tags consumed: context, source, tag (R74) -/
  consumed : List (Nat × Nat × Nat) := []
deriving DecidableEq, Repr, Inhabited

/-! ## Power and thermal, security, events, sideband, reset -/

/-- A sensor (R417, R418, R435). `temp` is in units of 0.125 °C. -/
structure Sensor where
  temp : Int := 0
  valid : Bool := false
  out : Bool := false
  badRun : Nat := 0
  goodRun : Nat := 0
  throttle : Nat := 0
  /-- out of service because its readings were invalid (R417) -/
  blind : Bool := false
deriving DecidableEq, Repr, Inhabited

/-- Power and thermal (14). -/
structure Power where
  sensors : List Sensor := List.replicate 16 {}
  tripped : Bool := false
  tripSensor : Nat := 0
  trips : Nat := 0
  quench : Bool := false
  setpoint : Nat := 0
  stepFrom : Option Nat := none
  stepWindow : Option Nat := none
  avsBad : Nat := 0
  avsGood : Nat := 0
  avsFault : Bool := false
  zoneOver : List Bool := List.replicate 8 false
  /-- the stamp of the last happening among the conditions of a sag, which the end of stretching counts from (R431) -/
  sagAt : Nat := 0
  /-- windows of 100 µs and of 1 ms whose measures have been evaluated (R416) -/
  fastDone : Nat := 0
  slowDone : Nat := 0
  pFast : Nat := 0
  p1 : Nat := 0
  lastP1 : List Nat := []
  cap : Nat := 2400
  advisory : Option Nat := none
  /-- POWER_CAP_SET commands that wait for the advisory to end, and those that wait for the first window end (R425) -/
  advisoryCmds : List Handle := []
  capCmds : List Handle := []
  enforcing : Bool := false
  rp : Nat := 0
  rh : List Nat := [0, 0, 0, 0]
  over2400 : Nat := 0
  sag : Bool := false
  sagCauses : List SagCause := []
  nvHold : Bool := false
  recovery : Option Nat := none
  rails : List (Nat × Nat) := []
  railOut : List Bool := List.replicate 7 false
  smoulderEn : BitVec 32 := 0xFFFFFFFF
  smoulderIn : BitVec 32 := 0
  /-- the last stamp at which each unit of PWR_SMOULDER was active (R434) -/
  activeAt : List Nat := List.replicate 32 0
deriving DecidableEq, Repr, Inhabited

/-- A firmware slot in flash (R438): its image, and the digest its record names when the record is valid. -/
structure FlashSlot where
  image : List Byte := []
  digest : Option (BitVec 512) := none
deriving DecidableEq, Repr, Inhabited

/-- Debug states (R461). -/
inductive DebugState where
  | locked
  | unlocking
  | unlocked
  | locking
deriving DecidableEq, Repr, Inhabited

/-- An IDE stream (R453). -/
inductive IdeState where
  | unset
  | secure
  | insecure
deriving DecidableEq, Repr, Inhabited

/-- IDE stream state with its requester range and the key set in use (R453). -/
structure Ide where
  state : IdeState := .unset
  fnLow : Nat := 0
  fnHigh : Nat := 0
  ranges : List (Nat × Nat) := []
  keySet : Nat := 0
  /-- keys programmed and not yet dropped, by number: key set + 2 · direction + 4 · sub-stream -/
  programmed : Table (List Byte) := []
deriving DecidableEq, Repr, Inhabited

/-- SPDM responder state of one mailbox (R448). -/
structure Spdm where
  version : Nat := 0
  caps : Bool := false
  algs : Bool := false
  transcript : List Byte := []
  sessions : List (Nat × Bool × List Byte) := []
deriving DecidableEq, Repr, Inhabited

/-- The running firmware (R451, measurements 2 and 3). -/
structure Running where
  slot : Nat := 0
  key : Nat := 0
  svn : Nat := 0
  version : Nat := 0
  commitSvn : Bool := false
  digest : BitVec 512 := 0
deriving DecidableEq, Repr, Inhabited

/-- Non-volatile writes that can be in progress (R432, R438). -/
inductive NvWrite where
  | command (h : Handle)
  | svnBurn
  | retiredList (pages : List Loc)
deriving DecidableEq, Repr, Inhabited

/-- Security (15). -/
structure Sec where
  revoked : List Bool := [false, false, false, false]
  svnMin : Nat := 0
  /-- both slots hold the release current at shipment (R513) -/
  slots : List FlashSlot :=
    [{ image := Config.factoryImage 0, digest := some (Config.factoryDigest 0) }, { image := Config.factoryImage 1, digest := some (Config.factoryDigest 1) }]
  /-- boot pointer records (R439): slot and sequence when valid -/
  bootPtr : List (Option (Nat × Nat)) := [none, none]
  running : Running := {}
  debug : DebugState := .locked
  unlockCount : Nat := 0
  lastToken : BitVec 512 := 0
  nonce : List Byte := List.replicate 32 0
  transition : Option Handle := none
  ide : List Ide := List.replicate 8 {}
  spdm : List Spdm := List.replicate 64 {}
  nv : Option NvWrite := none
  svnDeferred : Bool := false
deriving DecidableEq, Repr, Inhabited

/-- An event source (R464-R469). `maskNext` is a mask written and not yet in effect. -/
structure Source where
  level : Nat := 0
  target : Nat := 4
  mask : Bool := false
  maskNext : Option Bool := none
  /-- the source was a candidate before the mask took effect and may still be delivered once (R469) -/
  grace : Bool := false
  pending : Bool := false
  inService : Bool := false
  raises : Nat := 0
  /-- raises since the source's last record (R473, merged) -/
  since : Nat := 0
deriving DecidableEq, Repr, Inhabited

/-- A target (R465-R467): the claim stack holds (source, level), top first. -/
structure Target where
  threshold : Nat := 0
  stack : List (Nat × Nat) := []
  badComplete : Bool := false
  line : Bool := false
deriving DecidableEq, Repr, Inhabited

/-- JTAG instructions (R479). -/
inductive JtagInstr where
  | bypass
  | idcode
  | samplePreload
  | extest
  | highz
  | dbgacc
deriving DecidableEq, Repr, Inhabited

/-- Events, telemetry and debug access (16). -/
structure Events where
  sources : List Source := List.replicate 1024 {}
  targets : List Target := List.replicate 68 {}
  log : List (List Byte) := []
  logDropped : Nat := 0
  bankSel : List Nat := List.replicate 16 0
  bank : List Nat := List.replicate 16 0
  /-- totals the units gathered and have not yet added to the banks, by window · 65,536 + selector (R478) -/
  gathered : Table Nat := []
  /-- windows of 10,000 counts that the banks hold (R478) -/
  windowsDone : Nat := 0
  jtag : JtagInstr := .bypass
  jtagOwner : Bool := false
deriving DecidableEq, Repr, Inhabited

/-- The I3C port (R505). -/
structure I3c where
  address : Option Nat := none
  index : Nat := 0
deriving DecidableEq, Repr, Inhabited

/-- How far a start-up step has come (R406). -/
inductive StepState where
  | idle
  | running (since : Nat)
  | ok
  | failed
deriving DecidableEq, Repr, Inhabited

/-- Clocks, resets and bring-up (13). -/
structure Reset where
  perst : Bool := true
  rootLocked : Bool := false
  refHeld : Bool := false
  refGood : Bool := true
  /-- RDY_STATUS, boot_error and startup_done included (R409) -/
  ready : BitVec 64 := 0
  failed : BitVec 64 := 0
  causeRequested : Bool := false
  causeWatchdog : Bool := false
  warmCount : Nat := 0
  /-- a warm reset waits for a non-volatile write: cause is the watchdog, stamp (R402) -/
  warmWait : Option (Bool × Nat) := none
  rootPll : StepState := .idle
  hostLink : StepState := .idle
  kindling : StepState := .idle
  security : StepState := .idle
  kiln : List StepState := List.replicate 4 .idle
  training : List StepState := List.replicate 12 .idle
  bog : StepState := .idle
  serving : StepState := .idle
  thermCompat : Bool := false
  bootSel : Bool := false
  releasedAt : Nat := 0
  lastService : Nat := 0
  vfEnabled : Nat := 0
  cores : List Nat := [0, 0, 0, 0]
  bogChans : BitVec 64 := 0
  bogSlow : BitVec 64 := 0
  cdcOverrun : BitVec 64 := 0
  cdcLost : List Nat := List.replicate 64 0
  wakePending : List Nat := []
deriving DecidableEq, Repr, Inhabited

/-! ## What the module sends -/

/-- One thing the module has sent on a port. -/
inductive Out where
  | hostWrite (fn addr : Nat) (bytes : List Byte)
  | hostRead (fn addr len tag : Nat) (h : Handle)
  | msix (fn vector : Nat)
  | mmio (fn : Nat) (value : Nat)
  | poisoned (fn : Nat)
  | deviceReady
  | message (kind : Nat) (m : Msg)
  | frame (port : Nat) (bytes : List Byte)
  | doe (fn : Nat) (code : Nat) (body : List Byte)
  | i3c (bytes : List Byte)
  | jtag (bits : Nat)
  | avs (millivolts : Nat)
deriving DecidableEq, Repr, Inhabited

/-! ## Faults, refusals, the state -/

/-- No command of the table stops the machine by the spec's words; the one constructor is never raised by a meaning (safe). -/
inductive Fault where
  | none
deriving DecidableEq, Repr

/-- Refusals. -/
inductive Refusal where
  /-- Raised by exec's arm for a command that has no meaning in this model yet (safe: the run stops). -/
  | notModelled (mnemonic : String)
deriving DecidableEq, Repr

/-- The whole module. -/
structure State where
  /-- module time counter (R8) -/
  now : Nat := 0
  rst : Reset := {}
  fns : List Fn := List.replicate 64 {}
  ctxs : Table Ctx := []
  /-- handle slots by context number (R313); they outlive the context (R301) -/
  slots : Table (Table Slot) := []
  cmds : List Cmd := []
  store : Store := {}
  clamps : List Clamp := List.replicate 8 {}
  layoutGen : Nat := 0
  kiln : Kiln := {}
  exrad : Exrad := {}
  serve : Serve := {}
  flue : Flue := {}
  pwr : Power := {}
  sec : Sec := {}
  evt : Events := {}
  i3c : I3c := {}
  /-- everything sent, oldest first -/
  out : List Out := []
  /-- index of the next free value (log entry 11) -/
  freeCount : Nat := 0
  /-- commands waiting, first in, first out -/
  pending : List Instr := []
deriving DecidableEq, Repr

/-- The module right after power-on, with PERST# asserted (R400, fundamental reset): every field at its reset value. -/
def State.reset : State := {}

end Sys2Proof.Machine
end

