-- ==== Sys2Proof/Machine/Bytes.lean ====
section
/-!
DEFINITION. Plain helpers: bit fields, little-endian numbers (Notation, 00_scope), byte memories in their one canonical form,
tables by number, lists by position. Nothing here knows the module.
-/
namespace Sys2Proof.Machine

open Sys2Proof

/-- Bits [hi:lo] of a number, bit 0 the least significant. -/
def bits (x hi lo : Nat) : Nat := x / 2 ^ lo % 2 ^ (hi + 1 - lo)

/-- Bit `i` of a number. -/
def bit (x i : Nat) : Bool := x / 2 ^ i % 2 == 1

/-- A bit as a number. -/
def b2n (b : Bool) : Nat := if b then 1 else 0

/-- The number that bytes spell, least significant first. -/
def leNat : List Byte → Nat
  | [] => 0
  | b :: r => b.toNat + 256 * leNat r

/-- The low `n` bytes of a number, least significant first. -/
def natLE : Nat → Nat → List Byte
  | 0, _ => []
  | n + 1, x => BitVec.ofNat 8 x :: natLE n (x / 256)

/-- `n` zero bytes. -/
def zeros (n : Nat) : List Byte := List.replicate n 0

/-- Bytes [i, i + n) of a block; past its end they read zero. -/
def slice (l : List Byte) (i n : Nat) : List Byte :=
  let t := (l.drop i).take n
  t ++ zeros (n - t.length)

/-- Number fields of a block at a byte offset. -/
def u8 (l : List Byte) (i : Nat) : Nat := leNat (slice l i 1)
def u16 (l : List Byte) (i : Nat) : Nat := leNat (slice l i 2)
def u32 (l : List Byte) (i : Nat) : Nat := leNat (slice l i 4)
def u64 (l : List Byte) (i : Nat) : Nat := leNat (slice l i 8)

/-- Two's complement of `n` bits as a signed number. -/
def signed (n x : Nat) : Int := if 2 * x < 2 ^ n then (x : Int) else (x : Int) - 2 ^ n

/-- A signed number as `n` bits of two's complement. -/
def unsigned (n : Nat) (x : Int) : Nat := (x % (2 : Int) ^ n).toNat

/-- A count that saturates. -/
def satAdd (limit a b : Nat) : Nat := min limit (a + b)

/-- Division rounded up; zero by zero is zero. -/
def ceilDiv (a b : Nat) : Nat := (a + b - 1) / b

/-! ## Memories -/

/-- The byte at an address; unlisted addresses read zero. -/
def rdByte : Memory → Nat → Byte
  | [], _ => 0
  | (b, v) :: r, a => if b = a then v else rdByte r a

/-- `n` bytes from an address. -/
def rdBytes (m : Memory) (a n : Nat) : List Byte := (List.range' a n).map (rdByte m)

/-- The cells of a run of bytes at an address, its zero bytes left out. -/
def cellsFrom : Nat → List Byte → Memory
  | _, [] => []
  | a, b :: r => if b = 0 then cellsFrom (a + 1) r else (a, b) :: cellsFrom (a + 1) r

/-- A run of bytes written at an address. -/
def wrBytes (m : Memory) (a : Nat) (bs : List Byte) : Memory :=
  m.filter (fun c => c.1 < a) ++ cellsFrom a bs ++ m.filter (fun c => a + bs.length ≤ c.1)

/-- The memory that holds a block from address 0. -/
def memOf (bs : List Byte) : Memory := cellsFrom 0 bs

/-- The canonical form: addresses strictly rising, no zero byte. -/
def Memory.wf (m : Memory) : Bool := decide (m.Pairwise (fun a b => a.1 < b.1)) && m.all (fun c => c.2 != 0)

/-! ## Tables by number -/

/-- The entry of a number. -/
def tget? {α : Type} : Table α → Nat → Option α
  | [], _ => none
  | (k, v) :: r, n => if k = n then some v else tget? r n

/-- The entry of a number set. -/
def tset {α : Type} : Table α → Nat → α → Table α
  | [], n, x => [(n, x)]
  | (k, v) :: r, n, x => if n < k then (n, x) :: (k, v) :: r else if n = k then (n, x) :: r else (k, v) :: tset r n x

/-- The entry of a number removed. -/
def tdel {α : Type} (t : Table α) (n : Nat) : Table α := t.filter (fun e => e.1 != n)

/-- The entry of a number, or a default. -/
def tgetD {α : Type} (t : Table α) (n : Nat) (d : α) : α := (tget? t n).getD d

/-- The entry of a number changed, when there is one. -/
def tmod {α : Type} (t : Table α) (n : Nat) (f : α → α) : Table α :=
  t.map fun e => if e.1 = n then (e.1, f e.2) else e

/-- The lowest number from `n` on that no key of the table takes. -/
def tfree {α : Type} : Table α → Nat → Nat
  | [], n => n
  | (k, _) :: r, n => if k < n then tfree r n else if k = n then tfree r (n + 1) else n

/-! ## Lists by position -/

/-- Position `i` of a list, or a default. -/
def at? {α : Type} (l : List α) (i : Nat) (d : α) : α := (l[i]?).getD d

/-- The sum of a list of numbers. -/
def sumN (l : List Nat) : Nat := l.foldl (· + ·) 0

/-- Whether a list holds an element twice. -/
def hasDup {α : Type} [BEq α] : List α → Bool
  | [] => false
  | x :: r => r.contains x || hasDup r

/-- Blocks of `n` elements of a list, the last one shorter. `fuel` bounds their number. -/
def chunks {α : Type} (n : Nat) : Nat → List α → List (List α)
  | 0, _ => []
  | fuel + 1, l => if l.isEmpty || n = 0 then [] else l.take n :: chunks n fuel (l.drop n)

/-! ## Handles (R313) -/

/-- A handle from its 64 bits. -/
def Handle.decode (x : Nat) : Handle := ⟨bits x 63 54, bits x 53 40, bits x 39 16⟩

/-- The 64 bits of a handle. -/
def Handle.encode (h : Handle) : Nat := h.ctx * 2 ^ 54 + h.gen * 2 ^ 40 + h.slot * 2 ^ 16

/-- The handle in a block at a byte offset. -/
def handleAt (l : List Byte) (i : Nat) : Handle := Handle.decode (u64 l i)

end Sys2Proof.Machine
end

