-- ==== Sys2Proof/Machine/Codes.lean ====
section
/-!
DEFINITION. Check codes: the Reed-Solomon codes over GF(2⁸) of R180, R336 and R365, the CRC-32 of R366, and the 272-byte frame of
R365 and R366.
-/
namespace Sys2Proof.Machine

open Sys2Proof

/-- Multiplication by α in GF(2⁸) with field polynomial 0x11D. -/
def gfTimesA (x : Byte) : Byte := if x.getLsbD 7 then (x <<< 1) ^^^ 0x1D else x <<< 1

/-- Multiplication in GF(2⁸), over the bits of the second factor from the top. -/
def gfMul (a b : Byte) : Byte :=
  ((List.range 8).reverse).foldl (fun acc i => gfTimesA acc ^^^ (if b.getLsbD i then a else 0)) 0

/-- α^n. -/
def gfPow : Nat → Byte
  | 0 => 1
  | n + 1 => gfTimesA (gfPow n)

/-- A polynomial, highest degree first, times (x − c). -/
def polyTimesRoot (p : List Byte) (c : Byte) : List Byte :=
  List.zipWith (· ^^^ ·) (p ++ [0]) (0 :: p.map (gfMul c))

/-- The generator polynomial with r check bytes. -/
def rsGen (r : Nat) : List Byte := (List.range r).foldl (fun p i => polyTimesRoot p (gfPow i)) [1]

/-- One step of the division: the next data byte enters the remainder. -/
def rsStep (gen rem : List Byte) (b : Byte) : List Byte :=
  let f := b ^^^ rem.headD 0
  List.zipWith (· ^^^ ·) (rem.drop 1 ++ [0]) ((gen.drop 1).map (gfMul f))

/-- The check bytes of data bytes, the first data byte the highest-degree coefficient. -/
def rsCheck (r : Nat) (data : List Byte) : List Byte := data.foldl (rsStep (rsGen r)) (zeros r)

/-- The r syndromes of a received word (R180): the word as a polynomial, at α⁰ to α^(r−1). -/
def syndromes (r : Nat) (word : List Byte) : List Byte :=
  (List.range r).map fun j => word.foldl (fun acc b => gfMul (gfPow j) acc ^^^ b) 0

/-- Whether syndromes are those of one wrong byte whose coefficient has degree p: each is the one before times α^p. -/
def oneByteAt (syn : List Byte) (p : Nat) : Bool :=
  syn.headD 0 != 0 && (syn.zip (syn.drop 1)).all fun x => x.2 == gfMul (gfPow p) x.1

/-- What a controller makes of a burst (R180, R336). -/
inductive BurstView where
  | clean
  | corrected
  | uncorrectable
  /-- the code takes wrong bytes for right ones; the sod's tag finds them -/
  | missed
deriving DecidableEq, Repr, Inhabited

/-- What a code with r check bytes sees of an error. The code is linear, so the syndromes of the word read are those of the error in it. One
wrong byte is corrected, and two are always found; a code whose correction leaves wrong bytes has missed them. -/
def seenBy (r : Nat) (error : List Byte) : BurstView :=
  let syn := syndromes r error
  if syn.all (· == 0) then (if error.all (· == 0) then .clean else .missed)
  else match (List.range error.length).find? (oneByteAt syn) with
    | some p => if (error.eraseIdx (error.length - 1 - p)).all (· == 0) then .corrected else .missed
    | none => .uncorrectable

/-- Whether any stored bit that a read meets is wrong. -/
def anyFlip : MemErr → Bool
  | .none => false
  | .flips _ e _ => e.any fun b => b != 0
  | .tagMismatch => true

/-- The burst that a read's wrong bits lie in. -/
def flipBurst : MemErr → Nat
  | .flips b _ _ => b
  | _ => 0

/-- Whether the verify read after a write-back fails again (R340). -/
def flipHard : MemErr → Bool
  | .flips _ _ h => h
  | _ => false

/-- What a read shows a controller whose code has r check bytes. DESIGN CHOICE (log entry 162): the sod's tag finds every error that the code
misses. -/
def seenOf (r : Nat) : MemErr → BurstView
  | .none => .clean
  | .flips _ e _ => seenBy r e
  | .tagMismatch => .missed

/-- One bit of the reflected CRC-32. -/
def crc32Bit (c : BitVec 32) : BitVec 32 := if c.getLsbD 0 then (c >>> 1) ^^^ 0xEDB88320 else c >>> 1

/-- One byte of the reflected CRC-32. -/
def crc32Byte (c : BitVec 32) (b : Byte) : BitVec 32 :=
  crc32Bit (crc32Bit (crc32Bit (crc32Bit (crc32Bit (crc32Bit (crc32Bit (crc32Bit (c ^^^ b.setWidth 32))))))))

/-- CRC-32 of bytes (R366). -/
def crc32 (bs : List Byte) : BitVec 32 := (bs.foldl crc32Byte 0xFFFFFFFF) ^^^ 0xFFFFFFFF

/-- A frame's 272 bytes (R365, R366). -/
def frameBytes (kind seq ack side : Nat) (flit : List Byte) : List Byte :=
  let low := natLE 4 (seq % 4096 + ack % 4096 * 2 ^ 12 + kind % 16 * 2 ^ 24 + side % 16 * 2 ^ 28)
  let body := slice flit 0 256 ++ low
  let data := body ++ natLE 4 (crc32 body).toNat
  let even := (List.range 132).map fun i => at? data (2 * i) 0
  let odd := (List.range 132).map fun i => at? data (2 * i + 1) 0
  data ++ rsCheck 4 even ++ rsCheck 4 odd

end Sys2Proof.Machine
end

