-- ==== Sys2Proof/Machine/Ops.lean ====
section
/-!
DEFINITION. The named operations over the module's state that every family uses: finding and changing contexts, commands, tensors
and clamps; status codes (R323); records and reply rings (R305-R312, R316); handle slots (R313); readiness (R409); the event
controller and event records (R462-R474).
-/
namespace Sys2Proof.Machine

open Sys2Proof

/-! ## Status codes (R323) -/

abbrev stOk : Nat := 0x00
abbrev stAccepted : Nat := 0x01
abbrev stDuplicate : Nat := 0x02
abbrev stBusyRetry : Nat := 0x03
abbrev stSequenceStale : Nat := 0x04
abbrev stBadOpcode : Nat := 0x05
abbrev stBadVersion : Nat := 0x06
abbrev stBadParam : Nat := 0x07
abbrev stNotReady : Nat := 0x08
abbrev stNoSpace : Nat := 0x09
abbrev stDenied : Nat := 0x0A
abbrev stCancelled : Nat := 0x0B
abbrev stAlreadyDone : Nat := 0x0C
abbrev stWaitTimeout : Nat := 0x0D
abbrev stDeadlock : Nat := 0x0E
abbrev stDataAsh : Nat := 0x0F
abbrev stWeightLost : Nat := 0x10
abbrev stFetchError : Nat := 0x11
abbrev stLinkLost : Nat := 0x12
abbrev stThermal : Nat := 0x13
abbrev stPowerLimit : Nat := 0x14
abbrev stNvHeld : Nat := 0x15
abbrev stPreempted : Nat := 0x16
abbrev stFaulted : Nat := 0x17

/-! ## Finding and changing the parts of the state -/

/-- Something sent on a port. -/
def emit (s : State) (o : Out) : State := { s with out := s.out ++ [o] }

/-- One more of a counted happening for the performance counters (R478). -/
def gather (s : State) (sel n : Nat) : State :=
  let key := s.now / 10000 * 65536 + sel
  { s with evt := { s.evt with gathered := tset s.evt.gathered key (tgetD s.evt.gathered key 0 + n) } }

/-- Whether an insecure IDE stream covers a function's traffic with an address of host memory (R453). -/
def ideBlocks (s : State) (fn addr : Nat) : Bool :=
  s.sec.ide.any fun x => x.state == .insecure && decide (x.fnLow ≤ fn ∧ fn ≤ x.fnHigh) &&
    x.ranges.any fun r => decide (r.1 ≤ addr ∧ addr ≤ r.2)

/-- Bytes that the module writes to host memory (R285, R478). On an insecure stream it sends nothing (R453). -/
def hostPut (s : State) (fn addr : Nat) (bytes : List Byte) : State :=
  if ideBlocks s fn addr then s else gather (emit s (.hostWrite fn addr bytes)) 0x5001 bytes.length

/-- A function's slice. -/
def fnOf (s : State) (f : Nat) : Fn := at? s.fns f {}

/-- A function's slice changed. -/
def modFn (s : State) (f : Nat) (g : Fn → Fn) : State := { s with fns := s.fns.modify f g }

/-- A context that exists. -/
def ctxOf (s : State) (n : Nat) : Option Ctx := tget? s.ctxs n

/-- A context changed. -/
def modCtx (s : State) (n : Nat) (g : Ctx → Ctx) : State := { s with ctxs := tmod s.ctxs n g }

/-- A command not yet forgotten. -/
def cmdOf (s : State) (h : Handle) : Option Cmd := s.cmds.find? (fun c => c.handle == h)

/-- A command changed. -/
def modCmd (s : State) (h : Handle) (g : Cmd → Cmd) : State :=
  { s with cmds := s.cmds.map fun c => if c.handle = h then g c else c }

/-- A clamp (R83). -/
def clampOf (s : State) (k : Nat) : Clamp := at? s.clamps k {}

/-- A clamp changed. -/
def modClamp (s : State) (k : Nat) (g : Clamp → Clamp) : State := { s with clamps := s.clamps.modify k g }

/-- A tensor whose storage still exists, destroyed or not (R27). -/
def tensorAny (s : State) (h : Handle) : Option Tensor := s.store.tensors.find? (fun t => t.handle == h)

/-- A tensor whose handle is valid (R26). -/
def tensorOf (s : State) (h : Handle) : Option Tensor :=
  s.store.tensors.find? (fun t => t.handle == h && !t.destroyed)

/-- A tensor changed. -/
def modTensor (s : State) (h : Handle) (g : Tensor → Tensor) : State :=
  { s with store := { s.store with tensors := s.store.tensors.map fun t => if t.handle = h then g t else t } }

/-- The clamp a context lies in (R64). -/
def clampNum (s : State) (ctx : Nat) : Nat := ((ctxOf s ctx).map (·.clamp)).getD 0

/-- The function that owns a context (R286). -/
def ctxFn (s : State) (ctx : Nat) : Nat := ((ctxOf s ctx).map (·.fn)).getD 0

/-- Readiness bit `i` of RDY_STATUS (R409). -/
def rdy (s : State) (i : Nat) : Bool := s.rst.ready.getLsbD i

abbrev rdyHostLink : Nat := 0
abbrev rdyHearth : Nat := 1
abbrev rdySecurity : Nat := 2
abbrev rdyKiln (d : Nat) : Nat := 3 + d
abbrev rdyExrad (k : Nat) : Nat := 7 + k
abbrev rdyBog : Nat := 19
abbrev rdyFlue (p : Nat) : Nat := 20 + p
abbrev rdyServing : Nat := 28

/-! ## Records and reply rings -/

/-- Free entries F of a ring (R309). -/
def ringFree (c : Ctx) : Nat := c.ringEntries - (c.written + 2 ^ 32 - c.consumed) % 2 ^ 32

/-- Whether R310 lets a record of a kind be written now. -/
def ringLets (c : Ctx) (kind : Nat) : Bool := if kind = 0x01 then 1 ≤ ringFree c else 17 ≤ ringFree c

/-- The coalescing state after one more record (R316): the context, and whether a message goes out. -/
def coalesce (now : Nat) (notify : Bool) (c : Ctx) : Ctx × Bool :=
  let c := match c.winStart with
    | none => { c with winStart := some now, winCount := c.coalCount, winTime := c.coalTime }
    | some _ => c
  let u := c.unreported + 1
  if notify || c.winCount ≤ u then ({ c with unreported := 0, winStart := none }, true)
  else ({ c with unreported := u }, false)

/-- The record count, after a completion record has been written: its slot waits for the driver to consume it (R92). -/
def slotWritten (t : Table Slot) (slot : Option Nat) (n : Nat) : Table Slot :=
  match slot with
  | some k => tmod t k (fun x => { x with live := false, record := some n })
  | none => t

/-- A slot of a handle changed, while the handle's generation holds it. -/
def modSlot (t : Table (Table Slot)) (h : Handle) (g : Slot → Slot) : Table (Table Slot) :=
  tmod t h.ctx fun u => tmod u h.slot fun x => if x.gen = h.gen then g x else x

/-- A final TOKEN record written as record `w` of the ring of a context: the slot of its request waits for the driver to consume it (R249). -/
def finalWritten (t : Table (Table Slot)) (final : Option Handle) (n w : Nat) : Table (Table Slot) :=
  match final with
  | some h => modSlot t h fun x => { x with token := some (n, some w) }
  | none => t

/-- One record written into a context's ring (R305, R312): bytes [31:4] first, then bytes [3:0], then any message (R315). -/
def writeRec (s : State) (n : Nat) (r : Rec) : State :=
  match ctxOf s n with
  | none => s
  | some c =>
    let entry := c.written % c.ringEntries
    let phase := (c.written / c.ringEntries + 1) % 2
    let addr := c.ringBase + 32 * entry
    let head : List Byte := [BitVec.ofNat 8 (r.kind + 128 * phase), BitVec.ofNat 8 r.status, BitVec.ofNat 8 r.flags, 0]
    let (c', msg) := coalesce s.now (r.notify && 2 ≤ c.minor) { c with written := (c.written + 1) % 2 ^ 32 }
    let s := { s with
      ctxs := tset s.ctxs n c'
      slots := finalWritten (tmod s.slots n (fun t => slotWritten t r.slot c.written)) r.final n c.written }
    let s := hostPut (hostPut s c.fn (addr + 4) (slice r.body 0 28)) c.fn addr head
    if msg then emit s (.msix c.fn c.vector) else s

/-- Held records, replies first as far as the ring lets them, then the others in order (R311). -/
def flushHeld : Nat → State → Nat → State
  | 0, s, _ => s
  | fuel + 1, s, n =>
    match ctxOf s n with
    | none => s
    | some c =>
      match c.held.find? (fun r => r.kind == 0x01) with
      | some r =>
        if ringLets c 0x01 then
          flushHeld fuel (writeRec (modCtx s n fun c => { c with held := c.held.erase r }) n r) n
        else s
      | none =>
        match c.held with
        | [] => s
        | r :: rest =>
          if ringLets c r.kind then flushHeld fuel (writeRec (modCtx s n fun c => { c with held := rest }) n r) n else s

/-- Every held record that room lets out. -/
def flushRing (s : State) (n : Nat) : State :=
  match ctxOf s n with
  | none => s
  | some c => flushHeld c.held.length s n

/-- One record more for a function's EVT_LOST (R481). -/
def addLost (s : State) (f : Nat) : State := modFn s f fun x => { x with lost := satAdd 0xFFFFFFFF x.lost 1 }

/-- A record for a context: written, held, or an EVENT record dropped (R310, R311). A serving context has no ring (R244): its record
only frees the command's slot. -/
def putRec (s : State) (n : Nat) (r : Rec) : State :=
  match ctxOf s n with
  | none => s
  | some c =>
    if c.ending then s
    else if c.serving then
      { s with slots := tmod s.slots n fun t => match r.slot with
        | some k => tmod t k fun x => { x with live := false }
        | none => t }
    else
    let free := if r.kind = 0x01 then c.held.all (fun x => x.kind != 0x01) else c.held.isEmpty
    if free && ringLets c r.kind then writeRec s n r
    else if r.kind = 0x06 ∧ 64 ≤ c.held.length then addLost s c.fn
    else modCtx s n fun c => { c with held := c.held ++ [r] }

/-- A consumed value c is accepted when (c − C) mod 2³² does not exceed (W − C) mod 2³² (R309). -/
def creditOk (c : Ctx) (v : Nat) : Bool :=
  (v + 2 ^ 32 - c.consumed) % 2 ^ 32 ≤ (c.written + 2 ^ 32 - c.consumed) % 2 ^ 32

/-- Slots whose completion record lies among the records now consumed may be used again (R92). -/
def slotsConsumed (t : Table Slot) (old new : Nat) : Table Slot :=
  t.map fun e => (e.1,
    match e.2.record with
    | some n =>
      if (n + 2 ^ 32 - old) % 2 ^ 32 < (new + 2 ^ 32 - old) % 2 ^ 32 then { e.2 with record := none } else e.2
    | none => e.2)

/-- Final TOKEN records of a ring among the records now consumed no longer hold the slots of their requests (R249). -/
def tokensConsumed (t : Table (Table Slot)) (ring old new : Nat) : Table (Table Slot) :=
  t.map fun u => (u.1, u.2.map fun e => (e.1,
    match e.2.token with
    | some (n, some w) =>
      if n = ring ∧ (w + 2 ^ 32 - old) % 2 ^ 32 < (new + 2 ^ 32 - old) % 2 ^ 32 then { e.2 with token := none } else e.2
    | _ => e.2))

/-- A ring that is gone holds no final TOKEN record any more. -/
def tokensDropped (t : Table (Table Slot)) (ring : Nat) : Table (Table Slot) :=
  t.map fun u => (u.1, u.2.map fun e => (e.1, if e.2.token.any fun x => x.1 == ring then { e.2 with token := none } else e.2))

/-- Credit returned: C takes the value, and held records that now have room go out (R309, R311). -/
def takeCredit (s : State) (n : Nat) (v : Nat) : State :=
  match ctxOf s n with
  | none => s
  | some c =>
    flushRing { s with
      ctxs := tset s.ctxs n { c with consumed := v % 2 ^ 32 }
      slots := tokensConsumed (tmod s.slots n (fun t => slotsConsumed t c.consumed (v % 2 ^ 32))) n c.consumed (v % 2 ^ 32) } n

/-! ## Handle slots (R313) -/

/-- The next generation, counting from 1 to 16,383 and then wrapping to 1. -/
def nextGen (g : Nat) : Nat := if g ≥ 16383 then 1 else g + 1

/-- The slots of a context number. -/
def slotsOf (s : State) (n : Nat) : Table Slot := tgetD s.slots n []

/-- Whether a slot can take an object. -/
def slotUsable (t : Table Slot) (k : Nat) : Bool :=
  match tget? t k with
  | none => k < 2 ^ 24
  | some x => !x.live && x.record.isNone && x.token.isNone

/-- The lowest slot that can take an object. -/
def lowestSlot (t : Table Slot) : Nat :=
  match t.find? (fun e => !e.2.live && e.2.record.isNone && e.2.token.isNone) with
  | some e => min e.1 (tfree t 0)
  | none => tfree t 0

/-- The slot for a new object: the module's pick when it can take one, otherwise the lowest (which slot, R313 leaves open). -/
def pickSlot (t : Table Slot) (pick : Nat) : Nat := if slotUsable t pick then pick else lowestSlot t

/-- The handle that a new object of a context gets. -/
def newHandle (s : State) (n pick : Nat) : Handle :=
  let t := slotsOf s n
  let k := pickSlot t pick
  ⟨n, match tget? t k with
      | none => 1
      | some x => if x.fresh then x.gen else nextGen x.gen, k⟩

/-- The slot of a handle taken by its object. A forgotten command that held it before is dropped. -/
def takeSlot (s : State) (h : Handle) : State :=
  { s with
    slots := tset s.slots h.ctx (tset (slotsOf s h.ctx) h.slot { gen := h.gen, live := true })
    cmds := s.cmds.filter (fun c => !(c.handle.ctx == h.ctx && c.handle.slot == h.slot)) }

/-- An object gone: its slot has a new generation that nothing has yet been given (R26). -/
def dropSlot (s : State) (h : Handle) : State :=
  { s with slots := tmod s.slots h.ctx (fun t => tmod t h.slot fun x =>
      if x.gen = h.gen then { gen := nextGen x.gen, live := false, fresh := true } else x) }

/-! ## The event controller (R462-R468) -/

/-- A source. -/
def srcOf (s : State) (n : Nat) : Source := at? s.evt.sources n {}

/-- A source changed. -/
def modSrc (s : State) (n : Nat) (g : Source → Source) : State :=
  { s with evt := { s.evt with sources := s.evt.sources.modify n g } }

/-- A target. -/
def tgtOf (s : State) (t : Nat) : Target := at? s.evt.targets t {}

/-- A target changed. -/
def modTgt (s : State) (t : Nat) (g : Target → Target) : State :=
  { s with evt := { s.evt with targets := s.evt.targets.modify t g } }

/-- The running level of a target (R466). -/
def Target.running (t : Target) : Nat :=
  match t.stack with
  | [] => 0
  | (_, l) :: _ => l

/-- Whether a source is eligible for a target (R465). -/
def eligible (t : Target) (num : Nat) (x : Source) : Bool :=
  x.target == num && x.pending && !x.mask && !x.inService && decide (max t.threshold t.running < x.level)

/-- Whether a target has an eligible source. -/
def hasEligible (s : State) (num : Nat) : Bool := s.evt.sources.any (eligible (tgtOf s num) num)

/-- The line of a target taken anew; a host target sends a message when it rises (R465). -/
def reassess (s : State) (num : Nat) : State :=
  let line := hasEligible s num
  let rose := line && !(tgtOf s num).line && decide (4 ≤ num)
  let s := modTgt s num fun t => { t with line := line }
  if rose then emit s (.msix (num - 4) 0) else s

/-- Every target's line taken anew. -/
def reassessAll (s : State) : State := (List.range 68).foldl reassess s

/-- The lowest-numbered context of a function (R471). -/
def eventContext (s : State) (f : Nat) : Option Nat :=
  (s.ctxs.find? (fun e => e.2.fn == f && !e.2.ending && !e.2.serving)).map (·.1)

/-- An EVENT record (R473). -/
def eventRec (kind src stamp : Nat) (copy merged : Bool) (detail : List Byte) : Rec :=
  { kind := 0x06
    body := natLE 1 kind ++ natLE 1 (b2n copy + 2 * b2n merged) ++ natLE 2 src ++ natLE 8 stamp ++ slice detail 0 16 }

/-- The 32 bytes of a record as the event log keeps it. -/
def recBytes (r : Rec) : List Byte :=
  [BitVec.ofNat 8 r.kind, BitVec.ofNat 8 r.status, BitVec.ofNat 8 r.flags, 0] ++ slice r.body 0 28

/-- A record put into the event log, a ring of the last 65,536 records. -/
def logRec (s : State) (r : Rec) : State :=
  if s.evt.log.length < 65536 then { s with evt := { s.evt with log := s.evt.log ++ [recBytes r] } }
  else { s with evt := { s.evt with log := s.evt.log.drop 1 ++ [recBytes r], logDropped := s.evt.logDropped + 1 } }

/-- The event record of a raise, in the log, in the ring of the route's function, and as a copy in the ring of the context
concerned (R471, R472). -/
def eventRecord (s : State) (src kind stamp : Nat) (detail : List Byte) (copyTo : Option Nat) : State :=
  let x := srcOf s src
  let merged := decide (1 < x.since)
  let r := eventRec kind src stamp false merged detail
  let s := modSrc (logRec s r) src fun x => { x with since := 0 }
  let s :=
    if 1 ≤ x.level ∧ 4 ≤ x.target then
      match eventContext s (x.target - 4) with
      | some n => putRec s n r
      | none => addLost s (x.target - 4)
    else s
  match copyTo with
  | some n => putRec s n (eventRec kind src stamp true merged detail)
  | none => s

/-- A source's pending bit and counts after a raise (R465). -/
def setPending (s : State) (src : Nat) : State :=
  modSrc s src fun x => { x with pending := true, raises := satAdd 65535 x.raises 1, since := x.since + 1 }

/-- A source raised: pending, its record, and its target's line. -/
def raise (s : State) (src kind : Nat) (detail : List Byte) (copyTo : Option Nat := none) : State :=
  let s := eventRecord (setPending s src) src kind s.now detail copyTo
  reassess s (srcOf s src).target

/-- RDY_STATUS and RDY_FAILED changed: a READY event for each bit that changed or failed (R409, R462). -/
def setReady (s : State) (ready failed : BitVec 64) : State :=
  let old := s.rst.ready
  let oldF := s.rst.failed
  let s := { s with rst := { s.rst with ready := ready, failed := failed } }
  (List.range 29).foldl (fun s i =>
    if (old.getLsbD i != ready.getLsbD i) || (failed.getLsbD i && !oldF.getLsbD i) then
      raise s (i + 1) 0x01 (natLE 8 ready.toNat ++ natLE 8 failed.toNat)
    else s) s

/-- One readiness bit set. -/
def readyOn (s : State) (i : Nat) : State := setReady s (s.rst.ready ||| BitVec.ofNat 64 (2 ^ i)) s.rst.failed

/-- One readiness bit cleared. -/
def readyOff (s : State) (i : Nat) : State := setReady s (s.rst.ready &&& ~~~(BitVec.ofNat 64 (2 ^ i))) s.rst.failed

/-- A unit of PWR_SMOULDER is active now (R434). -/
def noteActive (s : State) (i : Nat) : State := { s with pwr := { s.pwr with activeAt := s.pwr.activeAt.set i s.now } }

/-- Units of a mask leave Smoulder; the channels of a stack leave it with no refresh debt (R196, R434). -/
def wakeUnits (s : State) (mask : BitVec 32) : State :=
  let woken := s.pwr.smoulderIn &&& mask
  let rest := s.pwr.smoulderIn &&& ~~~mask
  let paid := fun e : Nat × Chan => if woken.getLsbD (4 + e.1 / 32) then (e.1, { e.2 with debt := 0 }) else e
  { s with
    pwr := { s.pwr with smoulderIn := rest }
    exrad := { s.exrad with chans := s.exrad.chans.map paid } }

/-- An INTERNAL event (R474). `clamp` is none when no clamp is concerned. -/
def internalEvent (s : State) (clamp : Option Nat) (structureCode : Nat) : State :=
  raise s (match clamp with | some k => 192 + k | none => 200) 0x13
    (natLE 1 (clamp.getD 0xFF) ++ natLE 1 structureCode)

end Sys2Proof.Machine
end

