-- ==== Sys2Proof/Machine/Link.lean ====
section
/-!
DEFINITION. Sending over Flue: the link layer's sending side (R366-R369), pairs (R371) and messages (R373, R374).
-/
namespace Sys2Proof.Machine

open Sys2Proof

abbrev mkReady : Nat := 0x01
abbrev mkWithdraw : Nat := 0x02
abbrev mkData : Nat := 0x03
abbrev mkRefuse : Nat := 0x04
abbrev mkReopen : Nat := 0x05
abbrev mkConfirm : Nat := 0x06
abbrev mkAbort : Nat := 0x07
abbrev mkDecline : Nat := 0x08
abbrev mkFlag : Nat := 0x09
abbrev mkFlagAnswer : Nat := 0x0A
abbrev mkOffer : Nat := 0x0B
abbrev mkCancel : Nat := 0x0C
abbrev mkPair : Nat := 0x0D

/-- A port. -/
def portOf (s : State) (p : Nat) : Port := at? s.flue.ports p {}

/-- A port changed. -/
def modPort (s : State) (p : Nat) (g : Port → Port) : State :=
  { s with flue := { s.flue with ports := s.flue.ports.modify p g } }

/-- A pair. -/
def pairOf (s : State) (m : Nat) : Option Pair := tget? s.flue.pairs m

/-- The home die of a port (R14). -/
def portDie (p : Nat) : Nat := p / 2

/-- Waiting flits sent while the port is up and its replay buffer has room (R368). -/
def pumpPort : Nat → State → Nat → State
  | 0, s, _ => s
  | fuel + 1, s, p =>
    let x := portOf s p
    match x.txWait with
    | [] => s
    | (side, flit) :: rest =>
      if x.state = .up ∧ x.replayBuf.length < 2048 then
        let s := modPort s p fun x => { x with
          txWait := rest, txSeq := (x.txSeq + 1) % 4096, replayBuf := x.replayBuf ++ [(x.txSeq, side, flit)] }
        pumpPort fuel (emit s (.frame p (frameBytes 1 x.txSeq x.rxSeq side flit))) p
      else s

/-- A frame of a kind other than 1. -/
def sendFrame (s : State) (p kind : Nat) : State :=
  let x := portOf s p
  emit s (.frame p (frameBytes kind x.txSeq x.rxSeq 0 []))

/-- The sods of a DATA message as flits with their sides: the body is, for each sod, its 4,096 bytes and its 8 tag bytes (R378). -/
def dataFlits : Nat → List Byte → List (Nat × List Byte)
  | 0, _ => []
  | fuel + 1, body =>
    if body.isEmpty then []
    else
      let sod := body.take 4096
      let tag := leNat ((body.drop 4096).take 8)
      ((List.range 16).map fun k => (bits tag (4 * k + 3) (4 * k), slice sod (256 * k) 256))
        ++ dataFlits fuel (body.drop 4104)

/-- Bytes that do not fit the first flit, in further flits. -/
def moreFlits (body : List Byte) : List (Nat × List Byte) :=
  (List.range ((body.length + 31) / 256)).map fun i => (0, slice body (224 + 256 * i) 256)

/-- The flits of a message (R373). -/
def msgFlits (kind : Nat) (m : Msg) : List (Nat × List Byte) :=
  let rest := if kind = mkData then dataFlits (m.body.length / 4104 + 1) m.body else moreFlits m.body
  let head := natLE 2 m.dst ++ natLE 2 m.src ++ natLE 2 m.dctx ++ natLE 2 m.sctx ++ natLE 1 kind ++ natLE 1 m.status
    ++ natLE 2 m.epoch ++ natLE 4 (1 + rest.length) ++ natLE 8 m.tag ++ natLE 8 m.off
  (0, slice (head ++ (if kind = mkData then [] else m.body)) 0 256) :: rest

/-- A message of a given epoch put on a port. -/
def sendOn (s : State) (p kind : Nat) (m : Msg) : State :=
  let fl := msgFlits kind m
  let s := emit (modPort s p fun x => { x with txWait := x.txWait ++ fl }) (.message kind { m with port := p })
  pumpPort fl.length s p

/-- A message to the partner of a pair, under the pair's port and epoch; nothing without a pair (R371). -/
def sendMsg (s : State) (partner kind : Nat) (m : Msg) : State :=
  match pairOf s partner with
  | none => s
  | some pr =>
    if pr.up then
      let s := { s with flue := { s.flue with pairs := tset s.flue.pairs partner { pr with lastSent := s.now } } }
      sendOn s pr.port kind { m with dst := partner, src := s.flue.moduleId, epoch := pr.epoch, port := pr.port }
    else s

/-- Whether a ready port reaches a module (R319): a port whose readiness bit is set and that lists the identity. -/
def reaches (s : State) (partner : Nat) : Bool :=
  (List.range 8).any fun p => rdy s (rdyFlue p) && (portOf s p).reach.contains partner

end Sys2Proof.Machine
end

