-- ==== Sys2Proof/Machine/Arith.lean ====
section
/-!
DEFINITION. Engine-independent arithmetic (04_arithmetic): element formats and conversions (R101-R108), chunks and the canonical tree
(R110-R116), element-wise operations (R118), functions (R119-R122), softmax states (R123-R125), the counter generator (R126-R128),
and the CRC-64 of sod tags (R33). Every value is an exact dyadic number until the one rounding its rule names.
-/
namespace Sys2Proof.Machine

open Sys2Proof

/-- An exact value: NaN, an infinity, or ± mant × 2^exp with a signed zero. -/
inductive Num where
  | nan
  | inf (neg : Bool)
  | fin (neg : Bool) (mant : Nat) (exp : Int)
deriving DecidableEq, Repr, Inhabited

/-- The zero of a sign. -/
def Num.zero (neg : Bool) : Num := .fin neg 0 0

/-- floor(log2 of mant × 2^exp), for a non-zero mant. -/
def mag2 (mant : Nat) (exp : Int) : Int := (Nat.log2 mant : Int) + exp

/-- How a magnitude between two target values rounds: to nearest even, stochastically with a word R (R108), or to nearest with
the sticky rule of R112. -/
inductive Rounding where
  | nearest
  | stochastic (r : Nat)
  | sticky
deriving DecidableEq, Repr, Inhabited

/-- mant × 2^exp as a whole number of steps of 2^g, rounded. -/
def roundSteps (mode : Rounding) (mant : Nat) (exp g : Int) : Nat :=
  if g ≤ exp then mant * 2 ^ (exp - g).toNat
  else
    let d := (g - exp).toNat
    let q := mant / 2 ^ d
    let r := mant % 2 ^ d
    match mode with
    | .nearest => if 2 * r > 2 ^ d ∨ (2 * r = 2 ^ d ∧ q % 2 = 1) then q + 1 else q
    | .sticky => if 2 * r ≥ 2 ^ d then q + 1 else q
    | .stochastic w => if r * 2 ^ 32 > w * 2 ^ d then q + 1 else q

/-- A binary format: exponent and mantissa widths and bias. -/
structure Fmt where
  eb : Nat
  mb : Nat
  bias : Nat
deriving DecidableEq, Repr

def fmtFP32 : Fmt := ⟨8, 23, 127⟩
def fmtBF16 : Fmt := ⟨8, 7, 127⟩
def fmtFP16 : Fmt := ⟨5, 10, 15⟩
def fmtE4M3 : Fmt := ⟨4, 3, 7⟩
def fmtE5M2 : Fmt := ⟨5, 2, 15⟩
def fmtE2M3 : Fmt := ⟨2, 3, 1⟩
def fmtE3M2 : Fmt := ⟨3, 2, 3⟩
def fmtE2M1 : Fmt := ⟨2, 1, 1⟩

/-- The magnitude bits, with no upper limit, that mant × 2^exp rounds to in a format: an encoding past the largest finite one
stands for overflow. -/
def roundMag (f : Fmt) (mode : Rounding) (mant : Nat) (exp : Int) : Nat :=
  if mant = 0 then 0
  else
    let emin : Int := 1 - (f.bias : Int)
    let e := max (mag2 mant exp) emin
    let g := e - (f.mb : Int)
    ((e + (f.bias : Int) - 1).toNat) * 2 ^ f.mb + roundSteps mode mant exp g

/-- A finite magnitude's value from its bits. -/
def magValue (f : Fmt) (neg : Bool) (m : Nat) : Num :=
  let e := m / 2 ^ f.mb
  let t := m % 2 ^ f.mb
  if e = 0 then .fin neg t (1 - (f.bias : Int) - (f.mb : Int))
  else .fin neg (2 ^ f.mb + t) ((e : Int) - (f.bias : Int) - (f.mb : Int))

/-- A value of an IEEE-like format with infinities (FP32, BF16, FP16, E5M2). -/
def decodeIeee (f : Fmt) (x : Nat) : Num :=
  let neg := bit x (f.eb + f.mb)
  let m := x % 2 ^ (f.eb + f.mb)
  let top := (2 ^ f.eb - 1) * 2 ^ f.mb
  if m = top then .inf neg else if top < m then .nan else magValue f neg m

/-- A value of a format without infinities, in which only the encodings of `nan` magnitude are NaN. -/
def decodePlain (f : Fmt) (nan : Option Nat) (x : Nat) : Num :=
  let m := x % 2 ^ (f.eb + f.mb)
  if some m = nan then .nan else magValue f (bit x (f.eb + f.mb)) m

/-- An integer of `n` bits in units of 2^exp; zero is +0 (R104). -/
def decodeInt (n : Nat) (exp : Int) (x : Nat) : Num :=
  let v := signed n (x % 2 ^ n)
  .fin (v < 0) v.natAbs exp

/-- The exact value of FP32 bits. -/
def numOf (x : FP32) : Num := decodeIeee fmtFP32 x.toNat

/-- FP32 bits of an exact value, rounded once (R103, R104). -/
def fpRound (mode : Rounding) : Num → FP32
  | .nan => 0x7FC00000
  | .inf neg => if neg then 0xFF800000 else 0x7F800000
  | .fin neg m e =>
    let r := min (roundMag fmtFP32 mode m e) 0x7F800000
    BitVec.ofNat 32 (r + (if neg then 2 ^ 31 else 0))

/-- FP32 bits by round-to-nearest-even. -/
def fpOf : Num → FP32 := fpRound .nearest

/-! ## Formats by code (R101) -/

/-- Element width in bits; zero for a reserved code. -/
def fmtBits : Nat → Nat
  | 0x01 => 32
  | 0x02 => 16
  | 0x03 => 16
  | 0x04 => 8
  | 0x05 => 8
  | 0x08 => 8
  | 0x09 => 8
  | 0x0A => 6
  | 0x0B => 6
  | 0x0C => 4
  | 0x0D => 8
  | 0x10 => 8
  | 0x11 => 4
  | _ => 0

/-- A listed format code. -/
def fmtValid (f : Nat) : Bool := fmtBits f != 0

/-- A microscaling format. -/
def fmtMx (f : Nat) : Bool := decide (0x08 ≤ f ∧ f ≤ 0x0D)

/-- The narrow formats of R110. -/
def fmtNarrow (f : Nat) : Bool := f == 0x04 || f == 0x05 || fmtMx f || f == 0x10 || f == 0x11

/-- The value of an element encoding by itself, without any scale. -/
def elemRaw : Nat → Nat → Num
  | 0x01, x => decodeIeee fmtFP32 x
  | 0x02, x => decodeIeee fmtBF16 x
  | 0x03, x => decodeIeee fmtFP16 x
  | 0x04, x => decodePlain fmtE4M3 (some 0x7F) x
  | 0x05, x => decodeIeee fmtE5M2 x
  | 0x08, x => decodePlain fmtE4M3 (some 0x7F) x
  | 0x09, x => decodeIeee fmtE5M2 x
  | 0x0A, x => decodePlain fmtE2M3 none x
  | 0x0B, x => decodePlain fmtE3M2 none x
  | 0x0C, x => decodePlain fmtE2M1 none x
  | 0x0D, x => decodeInt 8 (-6) x
  | 0x10, x => decodeInt 8 0 x
  | 0x11, x => decodeInt 4 0 x
  | _, _ => .nan

/-- An element's value with the scale byte of its block (R105). The scale is used by the microscaling formats alone. -/
def elemValue (f x scale : Nat) : Num :=
  if fmtMx f then
    if scale = 0xFF then .nan
    else match elemRaw f x with
      | .fin n m e => .fin n m (e + (scale : Int) - 127)
      | v => v
  else elemRaw f x

/-! ## Conversion to narrower formats (R106-R108) -/

/-- The sign bit of a format at its place. -/
def signBit (f : Fmt) (neg : Bool) : Nat := if neg then 2 ^ (f.eb + f.mb) else 0

/-- A finite value in a format, saturated at the magnitude `top`. -/
def satFloat (f : Fmt) (mode : Rounding) (top : Nat) (neg : Bool) (m : Nat) (e : Int) : Nat :=
  signBit f neg + min (roundMag f mode m e) top

/-- A finite value as an integer, rounded to nearest even and kept in [lo, hi], as n bits. -/
def satInt (n : Nat) (mode : Rounding) (unit : Int) (lo hi : Int) (neg : Bool) (m : Nat) (e : Int) : Nat :=
  let k : Int := roundSteps mode m e unit
  unsigned n (max lo (min hi (if neg then -k else k)))

/-- An element of a format other than the microscaling ones, from an exact value (R106). -/
def encodeElem (mode : Rounding) : Nat → Num → Nat
  | 0x01, v => (fpOf v).toNat
  | 0x02, .nan => 0x7FC0
  | 0x02, .inf neg => signBit fmtBF16 neg + 0x7F80
  | 0x02, .fin neg m e => satFloat fmtBF16 mode 0x7F80 neg m e
  | 0x03, .nan => 0x7E00
  | 0x03, .inf neg => signBit fmtFP16 neg + 0x7C00
  | 0x03, .fin neg m e => satFloat fmtFP16 mode 0x7C00 neg m e
  | 0x04, .fin neg m e => satFloat fmtE4M3 mode 0x7E neg m e
  | 0x04, _ => 0x7F
  | 0x05, .nan => 0x7E
  | 0x05, .inf neg => signBit fmtE5M2 neg + 0x7C
  | 0x05, .fin neg m e => satFloat fmtE5M2 mode 0x7B neg m e
  | 0x10, .nan => 0
  | 0x10, .inf neg => if neg then 0x80 else 0x7F
  | 0x10, .fin neg m e => satInt 8 .nearest 0 (-128) 127 neg m e
  | 0x11, .nan => 0
  | 0x11, .inf neg => if neg then 0x8 else 0x7
  | 0x11, .fin neg m e => satInt 4 .nearest 0 (-8) 7 neg m e
  | _, _ => 0

/-- A finite value as an element of a microscaling format, before its scale (R106). -/
def encodeMx (mode : Rounding) (f : Nat) (neg : Bool) (m : Nat) (e : Int) : Nat :=
  match f with
  | 0x08 => satFloat fmtE4M3 mode 0x7E neg m e
  | 0x09 => satFloat fmtE5M2 mode 0x7B neg m e
  | 0x0A => satFloat fmtE2M3 mode 0x1F neg m e
  | 0x0B => satFloat fmtE3M2 mode 0x1F neg m e
  | 0x0C => satFloat fmtE2M1 mode 0x7 neg m e
  | _ => satInt 8 mode (-6) (-127) 127 neg m e

/-- The emax of R107. -/
def mxEmax : Nat → Int
  | 0x08 => 8
  | 0x09 => 15
  | 0x0A => 2
  | 0x0B => 4
  | 0x0C => 2
  | _ => 0

/-- The largest floor(log2) of a block's non-zero finite values. -/
def topMag : List Num → Option Int
  | [] => none
  | .fin _ m e :: r =>
    if m = 0 then topMag r
    else match topMag r with
      | none => some (mag2 m e)
      | some q => some (max q (mag2 m e))
  | _ :: r => topMag r

/-- Whether a value is NaN or an infinity. -/
def Num.special : Num → Bool
  | .fin .. => false
  | _ => true

/-- A block of values converted to a microscaling format, with a rounding for each: the scale byte and the encodings (R107). -/
def encodeBlock (f : Nat) (vals : List Num) (modes : List Rounding) : Nat × List Nat :=
  if vals.any Num.special then (0xFF, vals.map fun _ => 0)
  else
    let v : Int := match topMag vals with
      | none => 0x7F
      | some q => max 0 (min 254 (q - mxEmax f + 127))
    (v.toNat, (vals.zip modes).map fun (x, mode) =>
      match x with
      | .fin neg m e => encodeMx mode f neg m (e - (v - 127))
      | _ => 0)

/-! ## Sums (R104, R110-R116) -/

/-- A finite value as a signed whole number of 2^unit, truncated towards zero, and whether anything was lost. -/
def truncTo (unit : Int) (neg : Bool) (m : Nat) (e : Int) : Int × Bool :=
  let k := if unit ≤ e then m * 2 ^ (e - unit).toNat else m / 2 ^ (unit - e).toNat
  let lost := !decide (unit ≤ e) && m % 2 ^ (unit - e).toNat != 0
  (if neg then -(k : Int) else (k : Int), lost)

/-- What the special terms of a sum make of it, if anything (R113). -/
def specialSum (ts : List Num) : Option Num :=
  if ts.any (fun t => t == .nan) then some .nan
  else
    let pos := ts.any (fun t => t == .inf false)
    let neg := ts.any (fun t => t == .inf true)
    if pos && neg then some .nan else if pos then some (.inf false) else if neg then some (.inf true) else none

/-- The zero that R104 gives a sum: −0 only when every term is a zero of negative sign. -/
def zeroSum (ts : List Num) : Num :=
  .zero (!ts.isEmpty && ts.all fun t => match t with | .fin n m _ => n && m == 0 | _ => false)

/-- The lowest unit of a list of finite values. -/
def lowExp : List Num → Int
  | [] => 0
  | .fin _ _ e :: r => min e (lowExp r)
  | _ :: r => lowExp r

/-- A signed whole number of 2^unit as a value; zero falls to the given zero. -/
def fromUnits (z : Num) (k unit : Int) : Num := if k = 0 then z else .fin (k < 0) k.natAbs unit

/-- The exact sum of terms, special values first. -/
def sumNum (ts : List Num) : Num :=
  match specialSum ts with
  | some v => v
  | none =>
    let unit := lowExp ts
    fromUnits (zeroSum ts)
      ((ts.map fun t => match t with | .fin n m e => (truncTo unit n m e).1 | _ => 0).foldl (· + ·) 0) unit

/-- The exact product (R104, R113). -/
def mulNum : Num → Num → Num
  | .nan, _ => .nan
  | _, .nan => .nan
  | .inf a, .inf b => .inf (a != b)
  | .inf a, .fin b m _ => if m = 0 then .nan else .inf (a != b)
  | .fin a m _, .inf b => if m = 0 then .nan else .inf (a != b)
  | .fin a m e, .fin b n g => .fin (a != b) (m * n) (e + g)

/-- The exact rule of R111. -/
def exactChunk (ts : List Num) : FP32 := fpOf (sumNum ts)

/-- The aligned rule of R112. -/
def alignedChunk (ts : List Num) : FP32 :=
  match specialSum ts with
  | some v => fpOf v
  | none =>
    match topMag ts with
    | none => fpOf (zeroSum ts)
    | some top =>
      let unit := top - 86
      let parts := ts.map fun t => match t with | .fin n m e => truncTo unit n m e | _ => (0, false)
      let sum := (parts.map (·.1)).foldl (· + ·) 0
      let sticky := parts.any (·.2)
      fpRound (if sticky then .sticky else .nearest) (fromUnits (zeroSum ts) sum unit)

/-- The result of a chunk by the rule its operands' formats select (R110). -/
def chunkResult (narrow : Bool) (ts : List Num) : FP32 := if narrow then exactChunk ts else alignedChunk ts

/-! ## Element-wise arithmetic (R118) -/

def fpAdd (a b : FP32) : FP32 := fpOf (sumNum [numOf a, numOf b])
def fpNeg (a : FP32) : FP32 := if numOf a = .nan then 0x7FC00000 else a ^^^ 0x80000000
def fpSub (a b : FP32) : FP32 := fpAdd a (fpNeg b)
def fpMul (a b : FP32) : FP32 := fpOf (mulNum (numOf a) (numOf b))
def fpFma (a b c : FP32) : FP32 := fpOf (sumNum [mulNum (numOf a) (numOf b), numOf c])

/-- Order of two values that are not NaN, with −0 equal to +0. -/
def numLt : Num → Num → Bool
  | .inf a, .inf b => a && !b
  | .inf a, _ => a
  | _, .inf b => !b
  | .fin a m e, .fin b n g =>
    let unit := min e g
    (truncTo unit a m e).1 < (truncTo unit b n g).1
  | _, _ => false

def fpIsNan (a : FP32) : Bool := numOf a == .nan
def fpLt (a b : FP32) : Bool := !fpIsNan a && !fpIsNan b && numLt (numOf a) (numOf b)
def fpEq (a b : FP32) : Bool := !fpIsNan a && !fpIsNan b && !numLt (numOf a) (numOf b) && !numLt (numOf b) (numOf a)
def fpLe (a b : FP32) : Bool := fpLt a b || fpEq a b

/-- A total order key for minimum and maximum: −0 below +0. -/
def fpBelow (a b : FP32) : Bool := fpLt a b || (fpEq a b && a.getLsbD 31 && !b.getLsbD 31)

def fpMin (a b : FP32) : FP32 := if fpIsNan a || fpIsNan b then 0x7FC00000 else if fpBelow b a then b else a
def fpMax (a b : FP32) : FP32 := if fpIsNan a || fpIsNan b then 0x7FC00000 else if fpBelow a b then b else a

/-! ## The canonical tree (R114) -/

/-- One level: adjacent pairs combined, an unpaired last one carried up. -/
def pairUp {α : Type} (f : α → α → α) : List α → List α
  | a :: b :: r => f a b :: pairUp f r
  | l => l

/-- The levels of the tree, with fuel for their number. -/
def treeFold {α : Type} (f : α → α → α) (z : α) : Nat → List α → α
  | _, [] => z
  | _, [x] => x
  | 0, x :: _ => x
  | k + 1, l => treeFold f z k (pairUp f l)

/-- The tree over chunk results. -/
def tree (v : List FP32) : FP32 := treeFold fpAdd 0 v.length v

/-! ## Functions (R119-R122) -/

/-- The largest m below 2^n for which a downward closed test holds, found bit by bit from the top. -/
def bitSearch (p : Nat → Bool) : Nat → Nat → Nat
  | 0, acc => acc
  | n + 1, acc => bitSearch p n (if p (acc + 2 ^ n) then acc + 2 ^ n else acc)

/-- TX[j], the integer nearest to 2^(j/64) × 2^30 (R119). -/
def tableTX (j : Nat) : Nat :=
  let m := bitSearch (fun m => m ^ 64 ≤ 2 ^ (j + 1920)) 32 0
  if (2 * m + 1) ^ 64 ≤ 2 ^ (j + 1984) then m + 1 else m

/-- TR[j], the integer nearest to 2^39 / (2j + 257) (R120). -/
def tableTR (j : Nat) : Nat := (2 ^ 40 + (2 * j + 257)) / (2 * (2 * j + 257))

/-- TS[j], the integer nearest to the square root of 2^69 / (2j + 129) (R121). -/
def tableTS (j : Nat) : Nat :=
  let m := bitSearch (fun m => m * m * (2 * j + 129) ≤ 2 ^ 69) 33 0
  if (2 * m + 1) * (2 * m + 1) * (2 * j + 129) ≤ 2 ^ 71 then m + 1 else m

/-- rne_fp32(N, s) with a sign. -/
def rneFp32 (neg : Bool) (n s : Int) : FP32 := fpOf (fromUnits (.zero neg) (if neg then -n else n) s)

/-- EXP of a finite value of magnitude below 128 (R119). -/
def expCore (neg : Bool) (m : Nat) (e : Int) : FP32 :=
  let k : Int := roundSteps .nearest m (e + 24) 0
  let x : Int := if neg then -k else k
  let t := x * 6196328019
  let n := t / 2 ^ 56
  let f := t - n * 2 ^ 56
  let j := (f / 2 ^ 50).toNat
  let r := (f % 2 ^ 50) / 2 ^ 24
  let h1 : Int := 238388332
  let h2 := 1031764991 + (h1 * r) / 2 ^ 32
  let h3 := 2977044472 + (h2 * r) / 2 ^ 32
  let p := 2 ^ 32 + (h3 * r) / 2 ^ 32
  let mm := ((tableTX j : Int) * p) / 2 ^ 32
  rneFp32 false mm (n - 30)

/-- EXP (R119). -/
def fpExp (a : FP32) : FP32 :=
  match numOf a with
  | .nan => 0x7FC00000
  | .inf neg => if neg then 0 else 0x7F800000
  | .fin neg m e =>
    if m ≠ 0 ∧ 7 ≤ mag2 m e then (if neg then 0 else 0x7F800000) else expCore neg m e

/-- A non-zero value as M × 2^(e - 23) with M in [2^23, 2^24). -/
def normal24 (m : Nat) (e : Int) : Nat × Int :=
  let l := Nat.log2 m
  (if l ≤ 23 then m * 2 ^ (23 - l) else m / 2 ^ (l - 23), (l : Int) + e)

/-- RCP (R120). -/
def fpRcp (a : FP32) : FP32 :=
  match numOf a with
  | .nan => 0x7FC00000
  | .inf neg => fpOf (.zero neg)
  | .fin neg m e =>
    if m = 0 then fpOf (.inf neg)
    else
      let (mm, ex) := normal24 m e
      let y0 : Int := tableTR (mm / 2 ^ 16 - 128)
      let y1 : Int := y0 + (y0 * ((2 : Int) ^ 54 - (mm : Int) * y0)) / (2 : Int) ^ 54
      let y2 : Int := y1 + (y1 * ((2 : Int) ^ 54 - (mm : Int) * y1)) / (2 : Int) ^ 54
      rneFp32 neg y2 (-31 - ex)

/-- RSQRT (R121). -/
def fpRsqrt (a : FP32) : FP32 :=
  match numOf a with
  | .nan => 0x7FC00000
  | .inf neg => if neg then 0x7FC00000 else 0
  | .fin neg m e =>
    if m = 0 then fpOf (.inf neg)
    else if neg then 0x7FC00000
    else
      let (m1, e1) := normal24 m e
      let odd := e1 % 2 == 1
      let mm : Nat := if odd then 2 * m1 else m1
      let ex := if odd then e1 - 1 else e1
      let y0 : Int := tableTS (mm / 2 ^ 17 - 64)
      let y1 : Int := (y0 * (3 * (2 : Int) ^ 54 - (mm : Int) * ((y0 * y0) / (2 : Int) ^ 31))) / (2 : Int) ^ 55
      let y2 : Int := (y1 * (3 * (2 : Int) ^ 54 - (mm : Int) * ((y1 * y1) / (2 : Int) ^ 31))) / (2 : Int) ^ 55
      rneFp32 false y2 (-31 - ex / 2)

/-- FP32 constants: 1, 2, 0.5, −1, and c1 and c2 of R122 (nearest to √(2/π) and to 0.044715). -/
def fpOne : FP32 := 0x3F800000
def fpTwo : FP32 := 0x40000000
def fpHalf : FP32 := 0x3F000000
def fpMinusOne : FP32 := 0xBF800000
def fpC1 : FP32 := 0x3F4C422A
def fpC2 : FP32 := 0x3D372713
def fpMinusInf : FP32 := 0xFF800000
def fpPlusInf : FP32 := 0x7F800000
def fpNan : FP32 := 0x7FC00000

def fpLogistic (x : FP32) : FP32 := fpRcp (fpAdd fpOne (fpExp (fpNeg x)))
def fpSilu (x : FP32) : FP32 := fpMul x (fpLogistic x)
def fpTanh (x : FP32) : FP32 := fpFma fpTwo (fpLogistic (fpMul fpTwo x)) fpMinusOne
def fpGelu (x : FP32) : FP32 :=
  let u := fpFma (fpMul fpC2 x) (fpMul x x) x
  let u := fpTanh (fpMul fpC1 u)
  fpMul (fpMul fpHalf x) (fpAdd fpOne u)
def fpSqrt (x : FP32) : FP32 :=
  match numOf x with
  | .inf false => x
  | .fin _ 0 _ => x
  | _ => fpMul x (fpRsqrt x)
def fpDiv (a b : FP32) : FP32 := fpMul a (fpRcp b)

/-! ## Softmax states (R123-R125) -/

/-- The maximum of scores. -/
def fpMaxList : List FP32 → FP32
  | [] => fpMinusInf
  | [x] => if fpIsNan x then fpNan else x
  | x :: r => fpMax x (fpMaxList r)

/-- EXP(x_i − m) of a chunk, +0 for every one when m is −Infinity (R123). -/
def chunkExps (xs : List FP32) (m : FP32) : List FP32 :=
  if m = fpMinusInf then xs.map fun _ => 0 else xs.map fun x => fpExp (fpSub x m)

/-- The state (m, s) of a chunk and its exponentials (R123). -/
def chunkState (xs : List FP32) : FP32 × FP32 × List FP32 :=
  let m := fpMaxList xs
  let es := chunkExps xs m
  (m, if m = fpMinusInf then 0 else alignedChunk (es.map numOf), es)

/-- The factors of MERGE (R124). -/
def mergeFactors (ma mb : FP32) : FP32 × FP32 × FP32 :=
  let m := fpMax ma mb
  if m = fpMinusInf then (m, 0, 0) else (m, fpExp (fpSub ma m), fpExp (fpSub mb m))

/-- MERGE (R124), the left state the lower-indexed one. -/
def mergeStates (a b : SState) : SState :=
  let (m, fa, fb) := mergeFactors a.m b.m
  if m = fpMinusInf then { m := m, s := 0, o := (a.o.zip b.o).map fun _ => 0 }
  else { m := m, s := fpAdd (fpMul a.s fa) (fpMul b.s fb)
         o := (a.o.zip b.o).map fun (x, y) => fpAdd (fpMul x fa) (fpMul y fb) }

/-! ## The counter generator (R126-R128) -/

/-- One round of fcg. -/
def fcgRound (k0 k1 : BitVec 32) (r : Nat) (x : BitVec 32 × BitVec 32 × BitVec 32 × BitVec 32) :
    BitVec 32 × BitVec 32 × BitVec 32 × BitVec 32 :=
  let (x0, x1, x2, x3) := x
  let x0 := x0 + x1 + k0
  let x3 := (x3 ^^^ x0).rotateLeft 16
  let x2 := x2 + x3 + k1
  let x1 := (x1 ^^^ x2).rotateLeft 12
  let x0 := x0 + x1
  let x3 := (x3 ^^^ x0).rotateLeft 8
  let x2 := x2 + x3 + BitVec.ofNat 32 r
  let x1 := (x1 ^^^ x2).rotateLeft 7
  (x0, x2, x3, x1)

/-- The Frafer counter generator: four words of a seed and a counter (R126). -/
def fcg (seed c0 c1 c2 c3 : Nat) : List Nat :=
  let k0 := BitVec.ofNat 32 seed
  let k1 := BitVec.ofNat 32 (seed / 2 ^ 32)
  let start := (BitVec.ofNat 32 c0, BitVec.ofNat 32 c1, BitVec.ofNat 32 c2, BitVec.ofNat 32 c3)
  let (x0, x1, x2, x3) := (List.range 10).foldl (fun x r => fcgRound k0 k1 r x) start
  [(x0 + BitVec.ofNat 32 c0).toNat, (x1 + BitVec.ofNat 32 c1).toNat, (x2 + k0).toNat, (x3 + k1).toNat]

/-- The random word of element `i` of output operand `op` (R127). -/
def roundingWord (seed op i : Nat) : Nat :=
  at? (fcg seed (i / 4) (i / 4 / 2 ^ 32) (0x53520000 + op) 0) (i % 4) 0

/-- The uniform number of a word (R128). -/
def uniformOf (w : Nat) : FP32 := fpOf (.fin false (w / 256) (-24))

/-! ## CRC-64 of a sod (R33) -/

/-- One bit of the reflected CRC. -/
def crc64Bit (c : BitVec 64) : BitVec 64 := if c.getLsbD 0 then (c >>> 1) ^^^ 0xC96C5795D7870F42 else c >>> 1

/-- One byte of the reflected CRC. -/
def crc64Byte (c : BitVec 64) (b : Byte) : BitVec 64 :=
  crc64Bit (crc64Bit (crc64Bit (crc64Bit (crc64Bit (crc64Bit (crc64Bit (crc64Bit (c ^^^ b.setWidth 64))))))))

/-- CRC-64 of bytes. -/
def crc64 (bs : List Byte) : BitVec 64 := (bs.foldl crc64Byte 0xFFFFFFFFFFFFFFFF) ^^^ 0xFFFFFFFFFFFFFFFF

/-- The tag of a sod's 4,096 bytes. -/
def sodTag (m : Memory) : BitVec 64 := crc64 (rdBytes m 0 4096)

end Sys2Proof.Machine
end

