-- ==== Sys2Proof/Machine/Storage.lean ====
section
/-!
DEFINITION. Tensors and sods: local shapes and sizes (R29-R32), reading arrays through a view (R35, R68), shadows and their merge at
commit (R51, R52), capacity (R24, R53), placement (R41, R42).
-/
namespace Sys2Proof.Machine

open Sys2Proof

/-- Sods of the element array. -/
def arraySods (t : Tensor) : Nat := ceilDiv t.bytes 4096

/-- Sods of the whole tensor, its scale plane included (R32). -/
def tensorSods (t : Tensor) : Nat := ceilDiv t.bytes 4096 + ceilDiv t.planeBytes 4096

/-- First sod of the element array or of the scale plane. -/
def sodBase (t : Tensor) (plane : Bool) : Nat := if plane then arraySods t else 0

/-- Bytes of the element array or of the scale plane. -/
def runBytes (t : Tensor) (plane : Bool) : Nat := if plane then t.planeBytes else t.bytes

/-- L(c), the indices of a split dimension that a member holds (R30). -/
def shardLen (n b size c : Nat) : Nat :=
  let f := n / (b * size)
  f * b + min b (n - f * b * size - c * b)

/-- The global index of a local index of a split dimension at a coordinate (R30). -/
def globalIndex (b size c i : Nat) : Nat := i / b * b * size + c * b + i % b

/-- Bytes of an array of `n` elements of a format (R31). -/
def packedBytes (fmt n : Nat) : Nat := ceilDiv (n * fmtBits fmt) 8

/-- Element `i` of packed bytes (R31). -/
def elemBits (fmt : Nat) (bs : List Byte) (i : Nat) : Nat :=
  let w := fmtBits fmt
  leNat (slice bs (i * w / 8) (ceilDiv (i * w % 8 + w) 8)) / 2 ^ (i * w % 8) % 2 ^ w

/-- Encodings packed into bytes (R31). -/
def packElems (fmt : Nat) (xs : List Nat) : List Byte :=
  natLE (packedBytes fmt xs.length) (xs.foldr (fun x acc => x % 2 ^ fmtBits fmt + 2 ^ fmtBits fmt * acc) 0)

/-- The sod of a number in a view; unbacked sods are zero (R28). -/
def sodIn (view : Table Sod) (k : Nat) : Sod := tgetD view k {}

/-- Bytes [off, off + len) counted from a first sod. -/
def readView (view : Table Sod) (base off len : Nat) : List Byte :=
  (List.range' off len).map fun i => rdByte (sodIn view (base + i / 4096)).data (i % 4096)

/-- Whether a backed sod's tag fails its check (R35). -/
def tagFails (x : Sod) : Bool := !x.ash && x.tag != sodTag x.data

/-- The sods that a run of bytes touches. -/
def sodsOf (base off len : Nat) : List Nat :=
  if len = 0 then [] else List.range' (base + off / 4096) ((off + len - 1) / 4096 - off / 4096 + 1)

/-- The first sod of a run that is ash, or whose tag fails. -/
def firstBad (view : Table Sod) (sods : List Nat) : Option Nat :=
  sods.find? fun k => match tget? view k with
    | some x => x.ash || tagFails x
    | none => false

/-- The first sod of a run that an engine cannot use for a command: ash, a failed tag, or bits that no code corrects (R35, R164, R166). -/
def firstUnread (c : Cmd) (h : Handle) (view : Table Sod) (sods : List Nat) : Option Nat :=
  sods.find? fun k => c.errs.contains (h, k) && (tget? view k).isSome || (firstBad view [k]).isSome

/-- The view of a tensor that a command reads through: its snapshot (R68), or the tensor as it stands. -/
def viewOf (s : State) (c : Cmd) (h : Handle) : Table Sod :=
  match (c.snap.getD []).find? (fun e => e.1 == h) with
  | some e => e.2
  | none => ((tensorAny s h).map (·.sods)).getD []

/-! ## Shadows (R51, R52) -/

/-- The mask of bytes [off, off + len) of a sod. -/
def byteMask (off len : Nat) : BitVec 4096 := BitVec.ofNat 4096 ((2 ^ len - 1) * 2 ^ off)

/-- Every byte written. -/
def fullMask : BitVec 4096 := BitVec.allOnes 4096

/-- The shadow of a sod. -/
def shadowOf (l : List Shadow) (t : Handle) (k : Nat) : Option Shadow := l.find? fun x => x.t == t && x.sod == k

/-- Whether a write of bytes within one sod is a command's first to it and covers it only in part, so that the shadow takes a seed (R51). -/
def takesSeed (l : List Shadow) (t : Handle) (k : Nat) (bs : List Byte) : Bool :=
  (shadowOf l t k).isNone && bs.length != 4096

/-- A write of bytes within one sod into a command's shadows, seeded at the first partial write from the committed sod. -/
def shadowWrite (committed : Option Sod) (l : List Shadow) (t : Handle) (k off : Nat) (bs : List Byte) : List Shadow :=
  match shadowOf l t k with
  | some _ =>
    l.map fun x => if x.t = t ∧ x.sod = k then
      { x with data := wrBytes x.data off bs, mask := x.mask ||| byteMask off bs.length } else x
  | none =>
    let old := committed.getD {}
    let seed := if bs.length = 4096 ∨ old.ash then [] else old.data
    l ++ [{ t := t, sod := k, data := wrBytes seed off bs, mask := byteMask off bs.length, fromAsh := old.ash }]

/-- A run of bytes split at sod boundaries: sod, offset in it, bytes. -/
def splitRun : Nat → Nat → Nat → List Byte → List (Nat × Nat × List Byte)
  | 0, _, _, _ => []
  | fuel + 1, base, off, bs =>
    if bs.isEmpty then []
    else
      let n := 4096 - off % 4096
      (base + off / 4096, off % 4096, bs.take n) :: splitRun fuel base (off + n) (bs.drop n)

/-- A run of bytes written into a command's shadows of a tensor. -/
def shadowRun (view : Table Sod) (l : List Shadow) (t : Handle) (base off : Nat) (bs : List Byte) : List Shadow :=
  (splitRun (bs.length / 4096 + 2) base off bs).foldl
    (fun l (k, o, b) => shadowWrite (tget? view k) l t k o b) l

/-- The sods of a run whose committed bytes a shadow takes as its seed. -/
def seededBy (l : List Shadow) (t : Handle) (base off : Nat) (bs : List Byte) : List Nat :=
  (splitRun (bs.length / 4096 + 2) base off bs).filterMap fun (k, _, b) => if takesSeed l t k b then some k else none

/-- Whether a granule of a mask has a byte written. -/
def granuleWritten (mask : BitVec 4096) (g : Nat) : Bool := (mask >>> (256 * g)).setWidth 256 != 0

/-- The bytes of one granule as the merge leaves it. -/
def mergeGranule (sh : Shadow) (cur : Memory) (g : Nat) : Memory :=
  let inG := fun c : Host.Cell => decide (256 * g ≤ c.1 ∧ c.1 < 256 * g + 256)
  if granuleWritten sh.mask g then
    if sh.fromAsh then
      cellsFrom (256 * g) ((List.range' (256 * g) 256).map fun i =>
        if sh.mask.getLsbD i then rdByte sh.data i else rdByte cur i)
    else sh.data.filter inG
  else cur.filter inG

/-- The contents that a shadow commits over the latest committed sod; none when an ash sod was not written whole (R39, R52). -/
def mergeShadow (cur : Option Sod) (sh : Shadow) : Option Memory :=
  let old := cur.getD {}
  if old.ash then (if sh.mask = fullMask then some sh.data else none)
  else some ((List.range 16).flatMap (mergeGranule sh old.data))

/-- The committed sods that the merges of a command's shadows take bytes from and whose tag fails its check (R35). -/
def tornMerges (s : State) (c : Cmd) : List (Handle × Nat) :=
  c.shadows.filterMap fun sh =>
    if sh.mask != fullMask && ((tensorAny s sh.t).bind fun t => tget? t.sods sh.sod).any tagFails then some (sh.t, sh.sod) else none

/-- Whether any shadow of a command meets an ash sod that it has not written whole. -/
def meetsAsh (s : State) (c : Cmd) : Bool :=
  c.shadows.any fun sh => (mergeShadow (((tensorAny s sh.t).bind fun t => tget? t.sods sh.sod)) sh).isNone

/-! ## Capacity and placement -/

/-- Whether a channel of a stack belongs to a clamp. -/
def ownsChan (c : Clamp) (stack chan : Nat) : Bool := (at? c.chans stack 0).getLsbD chan

/-- Channels of a clamp. -/
def chanCount (c : Clamp) : Nat :=
  sumN (c.chans.map fun m => ((List.range 32).filter fun i => m.getLsbD i).length)

/-- Whether a clamp has a channel of a stack. -/
def ownsAny (c : Clamp) (stack : Nat) : Bool := at? c.chans stack 0 != 0

/-- A retired page that lies on a clamp's channels. -/
def retiredOn (c : Clamp) : Loc × Bool → Bool
  | (.bank st ch _ _, _) => ownsChan c st ch
  | _ => false

/-- Sods that a clamp's channels and its bog share can hold (1.5 GiB a channel). -/
def clampCap (s : State) (c : Clamp) : Nat :=
  chanCount c * 393216 + c.bogShare * 262144 - (s.store.retired.filter (retiredOn c)).length

/-- Whether two sods are the same version: one moved holds the same bytes at another place (R55). -/
def sameVersion (x y : Sod) : Bool := x.tag == y.tag && x.data == y.data

/-- Versions of a clamp's sods that snapshots name and a later commit has superseded, each once (R69). -/
def keptVersions (s : State) (k : Nat) : List (Handle × Nat × Sod) :=
  (s.cmds.flatMap fun c => (c.snap.getD []).flatMap fun (h, view) =>
    match tensorAny s h with
    | some t =>
      if t.clamp = k then
        (view.filter fun e => !e.2.ash && !(tget? t.sods e.1).any (sameVersion e.2)).map fun e => (h, e.1, { e.2 with loc := none })
      else []
    | none => []).eraseDups

/-- Sods of storage that snapshots keep (R69). -/
def keptSods (s : State) (k : Nat) : Nat := (keptVersions s k).length

/-- Sods of shadows that draw on a clamp (R53). -/
def shadowSods (s : State) (k : Nat) : Nat :=
  sumN (s.cmds.map fun c => (c.shadows.filter fun sh =>
    match tensorAny s sh.t with | some t => t.clamp == k | none => false).length)

/-- Sods counted against a clamp: local sizes, turf pools, shaving versions, shadows, kept storage (R24, R53, R69, R275). -/
def clampUsed (s : State) (k : Nat) : Nat :=
  sumN (s.store.tensors.map fun t => if t.clamp = k then tensorSods t else 0)
    + (match (clampOf s k).serving with | some v => (v.turfExrad + v.turfBog) * 262144 | none => 0)
    + sumN (s.serve.versions.map fun v => if v.clamp = k then v.size else 0) + shadowSods s k + keptSods s k

/-- Sods still free in a clamp. -/
def clampFree (s : State) (k : Nat) : Nat := clampCap s (clampOf s k) - clampUsed s k

/-- Whether a whole page is taken by a sod, a parity sod, a shadow, or storage that a snapshot keeps (R45, R69). -/
def pageTaken (s : State) (l : Loc) : Bool :=
  s.store.tensors.any (fun t => t.sods.any (fun e => e.2.loc == some l) || t.stripes.any (fun e => e.2.parity.loc == some l))
    || s.cmds.any (fun c => c.shadows.any (fun sh => sh.loc == some l)
      || (c.snap.getD []).any (fun v => v.2.any (fun e => e.2.loc == some l)))

/-- A channel's number. -/
def chanNum (stack chan : Nat) : Nat := stack * 32 + chan

/-- Whether a row is open (R179). -/
def rowIsOpen (s : State) (stack chan bank row : Nat) : Bool :=
  (tgetD s.exrad.chans (chanNum stack chan) {}).openRows.contains (bank, row)

/-- Whether a remap entry covers a burst of a row, which makes it seal-only (R187). -/
def sealOnly (s : State) (stack chan bank row : Nat) : Bool :=
  (tgetD s.store.exradErr (chanNum stack chan) {}).remap.any fun e => e.bank == bank && e.row == row

/-- The row of a place opened (R183). -/
def openAt (s : State) : Option Loc → State
  | some (.bank st ch b r) =>
    let c := tgetD s.exrad.chans (chanNum st ch) {}
    let rows := if c.openRows.contains (b, r) then c.openRows else c.openRows ++ [(b, r)]
    { s with exrad := { s.exrad with chans := tset s.exrad.chans (chanNum st ch) { c with openRows := rows } } }
  | _ => s

/-- Whether a place lies in the bog. -/
def inBog : Option Loc → Bool
  | some (.bog ..) => true
  | _ => false

/-- Sods of a clamp that the bog holds: committed sods, shadows, its turf pool's part and its shaving library (R41, R243, R275). -/
def bogUsed (s : State) (k : Nat) : Nat :=
  sumN (s.store.tensors.map fun t => if t.clamp = k then (t.sods.filter fun e => inBog e.2.loc).length else 0)
    + sumN (s.cmds.map fun c => (c.shadows.filter fun sh =>
        inBog sh.loc && match tensorAny s sh.t with | some t => t.clamp == k | none => false).length)
    + (match (clampOf s k).serving with | some v => v.turfBog * 262144 | none => 0)
    + sumN (s.serve.versions.map fun v => if v.clamp = k then v.size else 0)

/-- A bog page that nothing holds: in service, within the packages, not retired (R41, R343). -/
def bogPageFree (s : State) (p pg : Nat) : Bool :=
  rdy s rdyBog && decide (p < 16 ∧ pg < 16777216) && !s.store.retired.any (fun e => e.1 == .bog p pg) && !pageTaken s (.bog p pg)

/-- The channels of a clamp on a stack, as a mask. -/
def chanMask (s : State) (k stack : Nat) : BitVec 32 := at? (clampOf s k).chans stack 0

/-- Channels of a clamp on a stack. -/
def clampChans (s : State) (k stack : Nat) : List Nat :=
  (List.range 32).filter fun ch => ownsChan (clampOf s k) stack ch

/-- Whether the physical place of a sod belongs to a clamp (R41, R47). -/
def ownedLoc (s : State) (k : Nat) : Option Loc → Bool
  | some (.bank st ch _ _) => ownsChan (clampOf s k) st ch
  | some (.interleaved st m) => m != 0 && m &&& ~~~(chanMask s k st) == 0
  | some (.bog _ _) => decide (0 < (clampOf s k).bogShare)
  | none => true

/-- The first sod of a run that lies on a resource that its tensor's clamp does not own (R47). -/
def firstForeign (s : State) (h : Handle) (view : Table Sod) (sods : List Nat) : Option Nat :=
  (tensorAny s h).bind fun t => sods.find? fun k => !ownedLoc s t.clamp (sodIn view k).loc

/-- The controller channel that serves a byte of a sod at a place (R44, R172): stack·32 + channel, or 384 + package·4 + channel. -/
def locChan (h : Handle) (k off : Nat) : Option Loc → Option Nat
  | some (.bank st ch _ _) => some (chanNum st ch)
  | some (.interleaved st m) =>
    let chans := (List.range 32).filter fun i => m.getLsbD i
    some (chanNum st (at? chans (Config.granule (Handle.encode h) k (off % 4096 / 256) % max chans.length 1) 0))
  | some (.bog p _) => some (384 + 4 * p + Config.granule (Handle.encode h) k (off % 4096 / 256) % 4)
  | none => none

/-- The unit of PWR_SMOULDER that a controller channel belongs to (R434). -/
def chanUnit (n : Nat) : Nat := if n < 384 then 4 + n / 32 else 16 + (n - 384) / 4

/-- Whether a controller channel serves requests now: its stack or package is out of Smoulder, from which a request wakes it first (R434); a
stack's is in memory mode, outside a refresh (R17, R172, R191). -/
def chanReady (s : State) (n : Nat) : Bool :=
  !s.pwr.smoulderIn.getLsbD (chanUnit n)
    && (decide (384 ≤ n) || ((tgetD s.exrad.chans n {}).mode == .memory && !(tgetD s.exrad.chans n {}).refreshing))

/-- Every controller channel on which a place lies. -/
def locChans : Option Loc → List Nat
  | some (.bank st ch _ _) => [chanNum st ch]
  | some (.interleaved st m) => ((List.range 32).filter fun i => m.getLsbD i).map (chanNum st)
  | some (.bog p _) => (List.range 4).map fun i => 384 + 4 * p + i
  | none => []

/-- The stack on which a place lies. -/
def stackOf : Loc → Option Nat
  | .interleaved st _ => some st
  | .bank st .. => some st
  | .bog .. => none

/-- The data sods of a stripe (R351). -/
def stripeSods (j : Nat) : List Nat := List.range' (11 * j) 11

/-- Whether another data sod of the stripe of a sod lies on the stack of a place (R45, R351). -/
def stripeCrowds (t : Tensor) (k : Nat) (l : Loc) : Bool :=
  match stackOf l with
  | none => false
  | some st => t.shared && (stripeSods (k / 11)).any fun j => j != k && ((sodIn t.sods j).loc.bind stackOf) == some st

/-- Whether sod `k` of a tensor may lie at a place (R41, R42, R45): an interleaved sod on channels of the clamp; a bank row must be free,
which is sealed (R183); the bog within the clamp's share. -/
def placeOk (s : State) (t : Tensor) (k : Nat) (l : Loc) : Bool :=
  !stripeCrowds t k l && match l with
  | .interleaved st m =>
    t.useHint == 0 && rdy s (rdyExrad st) && m != 0 && m &&& ~~~(chanMask s t.clamp st) == 0
  | .bank st ch b r =>
    t.useHint != 0 && rdy s (rdyExrad st) && ownsChan (clampOf s t.clamp) st ch && decide (b < 32 ∧ r < 12288)
      && !s.store.retired.any (fun e => e.1 == .bank st ch b r) && !pageTaken s (.bank st ch b r)
      && !rowIsOpen s st ch b r && !sealOnly s st ch b r
  | .bog p pg => bogPageFree s p pg && decide (bogUsed s t.clamp < (clampOf s t.clamp).bogShare * 262144)

/-- Pages that anything names: a bound on how far a search for a free one must go. -/
def pagesNamed (s : State) : Nat :=
  sumN (s.store.tensors.map fun t => t.sods.length + t.stripes.length) + s.store.retired.length
    + sumN (s.cmds.map fun c => c.shadows.length + sumN ((c.snap.getD []).map fun v => v.2.length))

/-- The first page of the bog that a test admits. -/
def firstBog (s : State) (ok : Loc → Bool) : Option Loc :=
  (List.range 16).findSome? fun p => (List.range (pagesNamed s + 1)).findSome? fun pg =>
    if ok (.bog p pg) then some (.bog p pg) else none

/-- The first place in the stacks where a sod may lie, in the layout of its tensor's hint (R42). -/
def firstExrad (s : State) (t : Tensor) (k : Nat) : Option Loc :=
  (List.range 12).findSome? fun st =>
    let whole := Loc.interleaved st (chanMask s t.clamp st)
    if placeOk s t k whole then some whole
    else if t.useHint = 0 then none
    else (clampChans s t.clamp st).findSome? fun ch => (List.range 32).findSome? fun b =>
      (List.range (min 12288 (pagesNamed s + (tgetD s.exrad.chans (chanNum st ch) {}).openRows.length + 1))).findSome? fun r =>
        if placeOk s t k (.bank st ch b r) then some (.bank st ch b r) else none

/-- A place in the other tier, when the chosen tier has none to give (R62). -/
def otherTier (s : State) (t : Tensor) (k : Nat) : Loc → Option Loc
  | .bog .. => firstExrad s t k
  | _ => firstBog s (placeOk s t k)

/-- The fresh storage of the `i`-th of the sods that need some (R51): where the Collier chose when the sod may lie there, otherwise in the
other tier (R62). Without a choice the place stays unnamed (log entry 18). -/
def placeFor (s : State) (t : Tensor) (k : Nat) (locs : List Loc) (i : Nat) : Option Loc :=
  locs[i]?.bind fun l => if placeOk s t k l then some l else otherTier s t k l

/-! ## Traffic (R359, R360) -/

/-- Bytes served to a clamp in a class, which its telemetry counts (R476); scrub traffic is no clamp's. -/
def countTraffic (s : State) (clamp : Nat) (k : Traffic) (n : Nat) : State :=
  let pos : Option Nat := match k with
    | .critical => some 0
    | .normal => some 1
    | .bulk => some 2
    | .scrub => none
  match pos with
  | some i => modClamp s clamp fun c => { c with classBytes := c.classBytes.modify i (· + n) }
  | none => s

/-- Bursts that a controller channel serves, entered in its record of the last 1,024 (R360); its stack or package is active (R434). -/
def serveBursts (s : State) (k : Traffic) (n : Nat) (chan : Nat) : State :=
  let old := tgetD s.store.recent chan 0
  let new := if k = .bulk then BitVec.ofNat 1024 (2 ^ n - 1) else 0
  noteActive { s with store := { s.store with recent := tset s.store.recent chan ((old <<< n) ||| new) } } (chanUnit chan)

/-- The granules that a run of bytes touches: sod, granule. -/
def granulesOf (base off len : Nat) : List (Nat × Nat) :=
  if len = 0 then [] else (List.range' (off / 256) ((off + len - 1) / 256 - off / 256 + 1)).map fun g => (base + g / 16, g % 16)

/-- The controller channels that serve a run of bytes, granule by granule. -/
def runChans (h : Handle) (view : Table Sod) (base off len : Nat) : List Nat :=
  (granulesOf base off len).filterMap fun x => locChan h x.1 (256 * x.2) (sodIn view x.1).loc

/-- Whether a request of the normal class waits in a controller channel's queue (R172). -/
def normalWaits (s : State) (chan : Nat) : Bool :=
  s.kiln.tiles.any fun t => t.acc.reqs.any fun r => r.got.isNone && r.chan == some chan

/-- Bursts of the bulk class among the last 1,024 that a controller channel served. -/
def bulkServed (s : State) (chan : Nat) : Nat :=
  ((List.range 1024).filter fun i => (tgetD s.store.recent chan 0).getLsbD i).length

/-- Whether a controller channel serves a request of a class next: no higher class has one waiting, or the bulk guarantee of 52 in 1,024
bursts holds for it (R360). -/
def servesClass (s : State) (k : Traffic) (chan : Nat) : Bool :=
  match k with
  | .critical => true
  | .normal => true
  | .bulk => !normalWaits s chan || decide (bulkServed s chan < 52)
  | .scrub => !normalWaits s chan

/-- Committed contents of a sod: bytes and the tag over them (R34). -/
def mkSod (data : Memory) (loc : Option Loc) : Sod := { data := data, tag := sodTag data, ash := false, loc := loc }

/-- A command's shadows made the tensors' contents (R51, R71), each with its place. -/
def flipShadows (locs : List Loc) : Nat → List Shadow → State → State
  | _, [], s => s
  | i, sh :: rest, s =>
    let s := match tensorAny s sh.t with
      | none => s
      | some t =>
        let cur := tget? t.sods sh.sod
        match mergeShadow cur sh with
        | none => s
        | some m =>
          let loc := sh.loc.or (placeFor s t sh.sod locs i)
          openAt (modTensor s sh.t fun t => { t with sods := tset t.sods sh.sod (mkSod m loc) }) loc
    flipShadows locs (i + 1) rest s

/-- Ash sods of a tensor. -/
def ashCount (t : Tensor) : Nat := (t.sods.filter fun e => e.2.ash).length

end Sys2Proof.Machine
end

