-- ==== Sys2Proof/Machine/Shards.lean ====
section
/-!
DEFINITION. Shard sets (R29, R30, R514): coordinates, positions, and how a reduction divides a split dimension among the members of an axis
(R117, R383).
-/
namespace Sys2Proof.Machine

open Sys2Proof

/-- The product of sizes. -/
def prodN (l : List Nat) : Nat := l.foldl (· * ·) 1

/-- The grid coordinate of a position (R514): row-major, the last axis fastest. -/
def gridCoord (sizes : List Nat) (k axis : Nat) : Nat :=
  let s1 := at? sizes 1 1
  let s2 := at? sizes 2 1
  match axis with
  | 0 => k / (s1 * s2)
  | 1 => k / s2 % s1
  | _ => k % s2

/-- A shard set. -/
def shardSetOf (s : State) (h : Handle) : Option ShardSet := s.store.shardSets.find? fun x => x.handle == h

/-- The position of the owner in a set: this module, or the owner's clamp (R29, R514). -/
def ownPosition (s : State) (n : Nat) (x : ShardSet) : Option Nat :=
  if x.clamps then x.members.findIdx? (fun m => m == clampNum s n) else some x.position

/-- How one member sees a reduction of a tensor along a split dimension (R117, R383): block size, members along the axis, its own
coordinate, blocks of the whole dimension, the module at each coordinate, the elements before, along and after the dimension. -/
structure Reduction where
  block : Nat
  size : Nat
  own : Nat
  blocks : Nat
  partners : List Nat
  outer : Nat
  along : Nat
  inner : Nat
deriving DecidableEq, Repr, Inhabited

/-- The position that differs from a position only in its coordinate along an axis. -/
def positionAt (sizes : List Nat) (pos axis j : Nat) : Nat :=
  ((List.range (prodN sizes)).find? fun k => (List.range 3).all fun a =>
    gridCoord sizes k a == if a = axis then j else gridCoord sizes pos a).getD pos

/-- A reduction of a tensor along a dimension; none when the dimension is not split. -/
def reductionOf (s : State) (t : Tensor) (dim : Nat) : Option Reduction :=
  match t.shards[dim]?, shardSetOf s t.shardSet with
  | some d, some x =>
    if d.split then
      let size := at? x.sizes d.axis 1
      let pos := (ownPosition s t.handle.ctx x).getD 0
      some {
        block := d.block, size := size, own := gridCoord x.sizes pos d.axis, blocks := ceilDiv (at? t.shape dim 0) d.block
        partners := (List.range size).map fun j => at? x.members (positionAt x.sizes pos d.axis j) 0
        outer := prodN (t.localShape.take dim), along := at? t.localShape dim 0, inner := prodN (t.localShape.drop (dim + 1)) }
    else none
  | _, _ => none

/-- Bytes of a node: one FP32 value for each result. -/
def Reduction.nodeLen (r : Reduction) : Nat := 4 * (r.outer * r.inner)

/-- The tag of the transfer of a block's node, apart for every reduction of a queue. The manual leaves module tags to the module (log
entry 40). -/
def nodeTag (queue ordinal g : Nat) : Nat := 2 ^ 63 + queue * 2 ^ 58 + ordinal % 2 ^ 26 * 2 ^ 32 + g

/-- The coordinate that holds a block. -/
def Reduction.holder (r : Reduction) (g : Nat) : Nat := g % r.size

/-- Transfers that a member receives, under given tags of blocks: partner, tag, block. -/
def Reduction.incoming (r : Reduction) (tag : Nat → Nat) : List (Nat × Nat × Nat) :=
  ((List.range r.blocks).filter fun g => r.holder g != r.own).map fun g => (at? r.partners (r.holder g) 0, tag g, g)

/-- Transfers that a member sends, under given tags of blocks: partner, tag, block. -/
def Reduction.outgoing (r : Reduction) (tag : Nat → Nat) : List (Nat × Nat × Nat) :=
  ((List.range r.blocks).filter fun g => r.holder g == r.own).flatMap fun g =>
    ((List.range r.size).filter fun j => j != r.own).map fun j => (at? r.partners j 0, tag g, g)

end Sys2Proof.Machine
end

