-- ==== Sys2Proof/Machine/Flags.lean ====
section
/-!
DEFINITION. Flags of a context and the wait conditions on them (R89-R91).
-/
namespace Sys2Proof.Machine

open Sys2Proof

/-- One flag operation on a value: an add that would pass 0xFFFF_FFFF leaves it (R89). -/
def flagApply (op : FlagOp) (v : Nat) : Nat := if op.add then satAdd 0xFFFFFFFF v op.value else op.value % 2 ^ 32

/-- Whether every wait condition of a command holds (R90). -/
def waitsHold (x : Ctx) (c : Cmd) : Bool := c.waits.all fun (f, t) => decide (t ≤ at? x.flags f 0)

/-- Waits that hold together now are satisfied for good, while the wait window runs (R12, R90). -/
def latchWaits (s : State) : State :=
  { s with cmds := s.cmds.map fun c =>
      if c.phase = .waiting ∧ !c.flagsOk ∧ s.now < c.waitEnd then
        match ctxOf s c.handle.ctx with
        | some x => { c with flagsOk := waitsHold x c }
        | none => c
      else c }

/-- A flag operation on a context: it takes its own stamp, so waits that hold after it are satisfied even if a later operation undoes
them (R89, R90). -/
def applyFlag (s : State) (n : Nat) (op : FlagOp) : State :=
  latchWaits (modCtx s n fun c => { c with flags := c.flags.modify op.flag (flagApply op) })

end Sys2Proof.Machine
end

