-- ==== Sys2Proof/Machine/CmdEnd.lean ====
section
/-!
DEFINITION. Commands in flight: what they name, charges (R87, R88), the engines and tiles they hold (R86, R158, R159, R518), their
transfers (R82, R379, R380), and how a command ends (R93, R307, R308).
-/
namespace Sys2Proof.Machine

open Sys2Proof

/-! ## What a command names -/

/-- Tensors named by a launch's bindings. -/
def Launch.names (l : Launch) : List Handle :=
  l.program :: (l.bindings.filter fun b => b.kind == 1).map (·.handle)
    ++ match l.inband with
       | some b => b.program :: b.bcast :: b.bindings.map (·.handle)
       | none => []

/-- Tensors that a command's own parameters name. -/
def Work.names : Work → List Handle
  | .tensorDestroy t => [t]
  | .tensorRead t .. => [t]
  | .tensorWrite t .. => [t]
  | .tensorCopy a b .. => [a, b]
  | .tensorFill t .. => [t]
  | .tensorGather a b c .. => [a, b, c]
  | .program l => l.names
  | .inband b => b.program :: b.bcast :: b.bindings.map (·.handle)
  | .flueSend t .. => [t]
  | .flueReceive t .. => [t]
  | .flueReduce a b _ => [a, b]
  | .shavingReplace _ _ _ _ p => [p]
  | _ => []

/-- Tensors that a command reads, of which RUN_PHASE_START takes a snapshot (R68). -/
def Work.reads : Work → List Handle
  | .tensorRead t .. => [t]
  | .tensorCopy a _ .. => [a]
  | .tensorGather a b .. => [a, b]
  | .program l => l.names
  | .inband b => b.program :: b.bcast :: b.bindings.map (·.handle)
  | .flueSend t .. => [t]
  | .flueReduce a _ _ => [a]
  | _ => []

/-- Whether a command is a FLUE_REDUCE. -/
def Work.reduces : Work → Bool
  | .flueReduce .. => true
  | _ => false

/-- The descriptors and patches of the serving commands' models (R244). -/
def servingNames (s : State) (clamp fingerprint : Nat) : List Handle :=
  (s.serve.models.filter fun m => m.clamp == clamp && m.fingerprint == fingerprint).flatMap
      (fun m => [m.prefill, m.stepGraph])
    ++ (s.serve.versions.filter fun v => v.clamp == clamp && v.model == fingerprint).map (·.patch)

/-- Every tensor a command names. -/
def cmdNames (s : State) (c : Cmd) : List Handle :=
  match c.work with
  | .prefill k r _ _ _ =>
    (s.serve.reqs.filter fun q => q.id == r).flatMap fun q => servingNames s k q.model
  | .step k m _ _ => servingNames s k m
  | .handover r => (s.serve.reqs.filter fun q => q.id == r).flatMap fun q => servingNames s q.clamp q.model
  | w => w.names

/-- A command that has not ended. -/
def Cmd.live (c : Cmd) : Bool := c.phase != .ended

/-- Destroyed tensors whose last command has ended give up their storage (R27, R62). -/
def releaseTensors (s : State) : State :=
  let named := fun h : Handle => s.cmds.any (fun c => c.live && (cmdNames s c).contains h)
  { s with store := { s.store with tensors := s.store.tensors.filter fun t => !t.destroyed || named t.handle } }

/-! ## Charges (R87, R88) -/

/-- The position of an engine class in the charge lists. -/
def EngineClass.pos : EngineClass → Nat
  | .core => 0
  | .channel => 1
  | .slane => 2

/-- Engine-nanoseconds of [since, now) that fall in accounting period `p`. -/
def periodNs (since now p : Nat) : Nat := 10 * (min now ((p + 1) * 1000000) - max since (p * 1000000))

/-- Engine time of [since, now) added to the counts of a class, each count to the period that holds it (R11, R87). -/
def addTime (t : Table (List Nat)) (k : EngineClass) (since now : Nat) : Table (List Nat) :=
  (List.range' (since / 1000000) (now / 1000000 + 1 - since / 1000000)).foldl (fun t p =>
    if periodNs since now p = 0 then t
    else tset t p ((tgetD t p [0, 0, 0]).modify k.pos (· + periodNs since now p))) t

/-- The counts of a period, per class. -/
def timeIn (t : Table (List Nat)) (p : Nat) : List Nat := tgetD t p [0, 0, 0]

/-- The number of the accounting period that runs. -/
def periodOf (s : State) : Nat := s.now / 1000000

/-- Engine time charged to a context. -/
def charge (s : State) (ctx : Nat) (k : EngineClass) (since : Nat) : State :=
  modCtx s ctx fun c => { c with charge := addTime c.charge k since s.now }

/-- Engine time added to a clamp's discarded counter. -/
def discardIn (s : State) (clamp : Nat) (k : EngineClass) (since : Nat) : State :=
  modClamp s clamp fun c => { c with discarded := addTime c.discarded k since s.now }

/-- Engine time of killed work or of a switch, added to the discarded counter of a context's clamp. -/
def discard (s : State) (ctx : Nat) (k : EngineClass) (since : Nat) : State := discardIn s (clampNum s ctx) k since

/-! ## Engines given up -/

/-- The number of a core among the engines. -/
def coreNum (die core : Nat) : Nat := die * 64 + core

/-- A tile on a core. -/
def tileOn (s : State) (die core : Nat) : Option Tile := s.kiln.tiles.find? fun t => t.die == die && t.core == core

/-- A tile changed. -/
def modTile (s : State) (die core : Nat) (g : Tile → Tile) : State :=
  { s with kiln := { s.kiln with tiles := s.kiln.tiles.map fun t => if t.die = die ∧ t.core = core then g t else t } }

/-- The clamp that holds a core. -/
def coreClamp (s : State) (die core : Nat) : Option Nat :=
  (List.range 8).find? fun k => (at? (clampOf s k).cores die 0).getLsbD core

/-- A core's engine record changed. -/
def modCore (s : State) (die core : Nat) (g : Engine → Engine) : State :=
  { s with kiln := { s.kiln with cores := tmod s.kiln.cores (coreNum die core) g } }

/-- A tile put at the front of its command's deque of a core (R76). -/
def pushFront (l : List Deque) (h : Handle) (die core i : Nat) : List Deque :=
  if l.any (fun d => d.cmd == h && d.die == die && d.core == core) then
    l.map fun d => if d.cmd = h ∧ d.die = die ∧ d.core = core then { d with tiles := i :: d.tiles } else d
  else l ++ [{ cmd := h, die := die, core := core, tiles := [i] }]

/-- A tile killed: its scratchpad is dropped, its core is idle, its time is discarded, and it goes back to the front of its
command's deque on the die where it was killed when it is to run again: the deque it was taken from, or for a tile stolen from another die
that of its core (R76, R78, R88, R159). -/
def killTile (requeue : Bool) (s : State) (t : Tile) : State :=
  let s := discard (gather s 0x1004 1) t.cmd.ctx .core t.startedAt
  let s := modCore s t.die t.core fun e => { e with use := .idle, since := s.now }
  { s with kiln := { s.kiln with
      tiles := s.kiln.tiles.filter fun x => !(x.die == t.die && x.core == t.core)
      deques := if requeue then pushFront s.kiln.deques t.cmd t.die (if t.fromDie = t.die then t.fromCore else t.core) t.index
        else s.kiln.deques } }

/-- A unit changed. -/
def modUnit (s : State) (stack chan unit : Nat) (g : EUnit → EUnit) : State :=
  { s with exrad := { s.exrad with chans := tmod s.exrad.chans (stack * 32 + chan) fun c =>
      { c with units := tset c.units unit (g (tgetD c.units unit {})) } } }

/-- Whether a unit is at work on a part. -/
def UnitState.busy : UnitState → Bool
  | .running => true
  | .refreshPause => true
  | .suspended => true
  | _ => false

/-- A unit whose part is killed: no fence range stands (R188), and nothing of the part survives in it (R237). -/
def EUnit.abandoned (u : EUnit) : EUnit :=
  { u with
    state := if u.state.busy then .stopped else u.state, ended := u.ended || u.state.busy, part := none, heldStart := none
    fences := List.replicate 8 {}, vregs := [], yieldStop := false }

/-- The units that run parts of a command stop (R79, R203), and a switch to processor mode that was asked for it leads back at once (R178). -/
def stopUnits (s : State) (h : Handle) : State :=
  { s with exrad := { s.exrad with chans := s.exrad.chans.map fun e => (e.1, { e.2 with
      abandon := e.2.abandon || (e.2.mode == .toProcessor && e.2.asker == some h)
      units := e.2.units.map fun u => (u.1, if u.2.part.any (fun x => x.1 == h) then u.2.abandoned else u.2) }) } }

/-- Whether any unit of a channel is at work. -/
def Chan.anyBusy (c : Chan) : Bool := c.units.any fun u => u.2.state.busy

/-- A channel that was at work for a context and has no unit left at work is given up, its time discarded (R88). -/
def idleChans (s : State) : State :=
  (s.kiln.chans.filter fun e => !(tgetD s.exrad.chans e.1 {}).anyBusy).foldl (fun s e =>
    let s := discard s e.2.ctx .channel e.2.since
    { s with kiln := { s.kiln with chans := tdel s.kiln.chans e.1 } }) s

/-- The Slane time of a command that is given up (R88). -/
def dropSlane (s : State) (h : Handle) : State :=
  match cmdOf s h with
  | some c =>
    match s.kiln.slane.find? fun e => e.2.cmd == h with
    | some e => if c.committed then s else discard s h.ctx .slane e.2.since
    | none => s
  | none => s

/-- Everything a command holds on the engines: its tiles and deques, its Slane channels, its in-bank parts. A tile in tile commit is never
cut short: its core goes on with it, and its output goes nowhere (R70). -/
def releaseEngines (s : State) (h : Handle) : State :=
  let s := dropSlane s h
  let s := (s.kiln.tiles.filter fun t => t.cmd == h && !t.committing).foldl (killTile false) s
  idleChans <| stopUnits { s with kiln := { s.kiln with
    tiles := s.kiln.tiles.map fun t => if t.cmd = h then { t with dropped := true } else t
    deques := s.kiln.deques.filter fun d => d.cmd != h
    parked := s.kiln.parked.filter fun p => p.cmd != h
    slane := s.kiln.slane.filter fun e => e.2.cmd != h } } h

/-! ## Tiles placed on cores (R86, R158, R159, R518) -/

/-- The launch block that a command runs. -/
def launchOf (c : Cmd) : Option Launch :=
  match c.work with
  | .program l => some l
  | _ => none

/-- The grid coordinates of a tile, last dimension first (R135); `grid` is last dimension first. -/
def tileCoords (grid : List Nat) (i : Nat) : List Nat :=
  let g0 := at? grid 0 1
  let g1 := at? grid 1 1
  [i % g0, i / g0 % g1, i / g0 / g1]

/-- CNT0 to CNT15 at tile start (R135). -/
def startCounts (l : Launch) (i : Nat) : List Nat := l.counts ++ tileCoords l.grid i

/-- Setup registers 0 to 12 at tile start (R146). -/
def startRegs (l : Launch) : List Nat := [0, 0, 0, 128, 0, 0, l.seed % 2 ^ 32, l.seed / 2 ^ 32, 0, 0, 0, 0, 0]

/-- A tile as it starts (R132-R135, R146). -/
def startTile (h : Handle) (l : Launch) (i die core fromDie fromCore now : Nat) : Tile :=
  let cnt := startCounts l i
  { cmd := h, index := i, die := die, core := core, fromDie := fromDie, fromCore := fromCore, startedAt := now
    acc := { cnt := cnt }, exe := { cnt := cnt, regs := startRegs l } }

/-- The charge of the current period plus half of that of the previous one, doubled (R87). -/
def charged2 (s : State) (n : Nat) (k : EngineClass) : Nat :=
  match ctxOf s n with
  | some c =>
    let p := periodOf s
    2 * at? (timeIn c.charge p) k.pos 0 + if p = 0 then 0 else at? (timeIn c.charge (p - 1)) k.pos 0
  | none => 0

/-- The share weight of a context. -/
def weightOf (s : State) (n : Nat) : Nat := ((ctxOf s n).map (·.weight)).getD 1

/-- Whether a context comes before another: vt ascending, then context number ascending (R86). -/
def vtBefore (s : State) (k : EngineClass) (a b : Nat) : Bool :=
  let x := charged2 s a k * weightOf s b
  let y := charged2 s b k * weightOf s a
  decide (x < y ∨ (x = y ∧ a ≤ b))

/-- A number put into a list in an order. -/
def insertBy (before : Nat → Nat → Bool) (x : Nat) : List Nat → List Nat
  | [] => [x]
  | y :: r => if before x y then x :: y :: r else y :: insertBy before x r

/-- Contexts in the order of R86. -/
def vtOrder (s : State) (k : EngineClass) (l : List Nat) : List Nat := l.foldr (insertBy (vtBefore s k)) []

/-- The commands in run of a context that carry tiles, oldest first. -/
def tileCmds (s : State) (n : Nat) : List (Handle × Launch) :=
  s.cmds.filterMap fun c => if c.handle.ctx = n ∧ c.phase = .run then (launchOf c).map (c.handle, ·) else none

/-- The longest of some deques, the lowest core number among equals. -/
def longestDeque (l : List Deque) : Option Deque :=
  l.foldl (fun b d => match b with
    | none => some d
    | some x => if x.tiles.length < d.tiles.length ∨ (x.tiles.length = d.tiles.length ∧ d.core < x.core) then some d else some x) none

/-- Tiles of a list of deques on a die. -/
def dieTiles (l : List Deque) (die : Nat) : Nat := sumN ((l.filter fun d => d.die == die).map (·.tiles.length))

/-- The die of four that holds the most tiles, the lowest among equals. -/
def fullestDie (l : List Deque) : Nat :=
  (List.range 4).foldl (fun b d => if dieTiles l b < dieTiles l d then d else b) 0

/-- The next tile of a command for a core: the front of its own deque, else one stolen from the back of another (R158, R159). Answers
the tile, the deque it came from, and the deques left. -/
def nextTile (deques : List Deque) (h : Handle) (die core : Nat) : Option (Nat × Nat × Nat × List Deque) :=
  let mine := deques.filter fun d => d.cmd == h && !d.tiles.isEmpty
  let shrink := fun (v : Deque) (rest : List Nat) =>
    deques.map fun d => if d.cmd = h ∧ d.die = v.die ∧ d.core = v.core then { d with tiles := rest } else d
  match mine.find? fun d => d.die == die && d.core == core with
  | some d => some (d.tiles.headD 0, d.die, d.core, shrink d (d.tiles.drop 1))
  | none =>
    let near := mine.filter fun d => d.die == die
    let far := mine.filter fun d => d.die == fullestDie mine
    (longestDeque (if near.isEmpty then far else near)).map fun v =>
      (v.tiles.getLastD 0, v.die, v.core, shrink v v.tiles.dropLast)

/-- A core takes its next tile for a context, from the oldest command that has one. -/
def takeTile (s : State) (die core n : Nat) : Option State :=
  (tileCmds s n).findSome? fun (h, l) =>
    (nextTile s.kiln.deques h die core).map fun (i, fd, fc, ds) =>
      let t := startTile h l i die core fd fc s.now
      let s := modCore s die core fun e => { e with use := .running, since := s.now }
      let s := noteActive (wakeUnits (if fd = die then s else gather s 0x1003 1) (BitVec.ofNat 32 (2 ^ die))) die
      { s with kiln := { s.kiln with deques := ds, tiles := s.kiln.tiles ++ [t] } }

/-- Tiles of a context that wait in deques. -/
def tilesWaiting (s : State) (n : Nat) : Nat :=
  sumN (s.kiln.deques.map fun d => if d.cmd.ctx = n then d.tiles.length else 0)

/-- Cores held by a context that have no tile yet. -/
def coresComing (s : State) (n : Nat) : Nat := (s.kiln.cores.filter fun e => e.2.ctx == n && e.2.use != .running).length

/-- An idle core takes a tile of its context, or is lent to another context of the clamp that has work waiting (R518). -/
def fillCore (s : State) (num : Nat) : State :=
  match tget? s.kiln.cores num with
  | none => s
  | some e =>
    if e.use ≠ .idle ∨ !rdy s (rdyKiln (num / 64)) then s
    else match takeTile s (num / 64) (num % 64) e.ctx with
      | some s' => s'
      | none =>
        let others := (s.ctxs.filter fun x => x.2.clamp == clampNum s e.ctx && x.1 != e.ctx
          && decide (coresComing s x.1 < tilesWaiting s x.1)).map (·.1)
        match vtOrder s .core others with
        | y :: _ => modCore s (num / 64) (num % 64) fun _ => { ctx := y, use := .switching e.ctx, since := s.now }
        | [] => s

/-- Every idle core given work. -/
def fillCores (s : State) : State := (s.kiln.cores.map (·.1)).foldl fillCore s

/-! ## Transfers of a command (R379, R380, R82) -/

/-- The tags of a FLUE_REDUCE's nodes. -/
def Cmd.nodeTag (c : Cmd) (g : Nat) : Nat := Machine.nodeTag (c.queue.getD 0) c.ordinal g

/-- Source modules and tags of the nodes that a FLUE_REDUCE receives. -/
def nodesIn (s : State) (c : Cmd) : List (Nat × Nat) :=
  match c.work with
  | .flueReduce t _ dim =>
    match (tensorAny s t).bind fun x => reductionOf s x dim with
    | some r => (r.incoming c.nodeTag).map fun x => (x.1, x.2.1)
    | none => []
  | _ => []

/-- Source modules and transfer tags that a command receives under, a FLUE_REDUCE those whose nodes it has not confirmed. -/
def receiveTags (s : State) (c : Cmd) : List (Nat × Nat) :=
  match c.work with
  | .flueReceive _ _ _ m tag => [(m, tag)]
  | .program l => (l.bindings.filter fun b => b.kind == 2).map fun b => (b.src, b.tag)
  | .flueReduce .. => (nodesIn s c).filter fun x => !c.transfer.taken.contains x
  | .handover r => (s.serve.reqs.filter fun q => q.id == r).filterMap fun q => q.remote
  | _ => []

/-- The context and tag of outstanding tokens withdrawn, with a WITHDRAW to the partner (R81). -/
def withdrawTokens (s : State) (ctx src tag : Nat) : State :=
  if s.flue.tokens.any (fun t => t.ctx == ctx && t.src == src && t.tag == tag) then
    sendMsg { s with flue := { s.flue with tokens := s.flue.tokens.filter fun t => !(t.ctx == ctx && t.src == src && t.tag == tag) } }
      src mkWithdraw { dst := src, src := 0, dctx := 0, sctx := ctx, tag := tag }
  else s

/-- Landed data of a tag released and zero-filled (R62, R82). -/
def dropLanded (s : State) (ctx src tag : Nat) : State :=
  { s with flue := { s.flue with landed := s.flue.landed.filter fun d => !(d.ctx == ctx && d.src == src && d.tag == tag) } }

/-- Transfers taken in: their landed data is released, and later copies are known as consumed (R74, R82). -/
def dropTaken (s : State) (ctx : Nat) (l : List (Nat × Nat)) : State :=
  let s := l.foldl (fun s x => dropLanded s ctx x.1 x.2) s
  { s with flue := { s.flue with consumed := s.flue.consumed ++ l.map fun x => (ctx, x.1, x.2) } }

/-- What the end of an uncommitted receive does: tokens withdrawn, data dropped, that of confirmed nodes too, and DECLINE with the status for
what was not consumed (R74, R82, R380). -/
def declineReceives (s : State) (c : Cmd) (status : Nat) : State :=
  let s := (receiveTags s c).foldl (fun s (m, tag) =>
    let s := dropLanded (withdrawTokens s c.handle.ctx m tag) c.handle.ctx m tag
    sendMsg s m mkDecline { dst := m, src := 0, sctx := c.handle.ctx, status := status, tag := tag }) s
  dropTaken s c.handle.ctx c.transfer.taken

/-! ## The end of a command -/

/-- A completion record (R307): the result, and the commit stamp when the command has committed under Nirra 1.2. -/
def doneRec (c : Cmd) (status minor : Nat) (diag : Bool) : Rec :=
  { kind := 0x02, status := status, flags := b2n c.committed + 2 * b2n diag
    body := natLE 4 c.cookie ++ natLE 8 (Handle.encode c.handle) ++ natLE 8 c.result
      ++ natLE 8 (if c.committed && 2 ≤ minor then c.stamp else 0)
    notify := c.notify, slot := some c.handle.slot }

/-- A DIAG record (R308, R475): engine code, cause code, detail. -/
def diagRec (h : Handle) (engine cause : Nat) (detail : List Byte) : Rec :=
  { kind := 0x04
    body := zeros 4 ++ natLE 8 (Handle.encode h) ++ natLE 1 engine ++ natLE 1 cause ++ slice detail 0 14 }

/-- The diagnostic detail of a fault: engine, cause and bytes [31:18]. -/
structure Diag where
  engine : Nat
  cause : Nat
  detail : List Byte := []
deriving DecidableEq, Repr, Inhabited

/-- The negotiated minor version of a context. -/
def minorOf (s : State) (n : Nat) : Nat := ((ctxOf s n).map (·.minor)).getD 0

/-- DONE and, directly after it, DIAG. -/
def putDone (s : State) (c : Cmd) (status : Nat) (diag : Option Diag) : State :=
  let s := putRec s c.handle.ctx (doneRec c status (minorOf s c.handle.ctx) diag.isSome)
  match diag with
  | some d => putRec s c.handle.ctx (diagRec c.handle d.engine d.cause d.detail)
  | none => s

/-- A command taken out of its queue, which halts when the ending calls for it (R93); the serving engine resumes its queues itself (R244). -/
def leaveQueue (s : State) (c : Cmd) (halt : Bool) : State :=
  match c.queue with
  | none => s
  | some q => modCtx s c.handle.ctx fun x => { x with queues := x.queues.modify q fun u =>
      { u with cmds := u.cmds.filter (fun g => g != c.handle), halted := u.halted || (halt && !x.serving) } }

/-- What a command had stopped when it was accepted goes on when it ends without its commit (R98, R240, R276, R278). -/
def undoLibrary (s : State) : Work → State
  | .modelRetire k fp => { s with serve := { s.serve with
      models := s.serve.models.map fun m => if m.clamp = k ∧ m.fingerprint = fp then { m with retiring := false } else m } }
  | .shavingReplace k m n _ _ => { s with serve := { s.serve with noBind := s.serve.noBind.filter fun x => x != (k, m, n) } }
  | .shavingRetire k m n => { s with serve := { s.serve with noBind := s.serve.noBind.filter fun x => x != (k, m, n) } }
  | .clampConfigure k _ => modClamp s k fun c => { c with changing := false }
  | _ => s

/-- A command as it ends: one that ends OK has committed all its outputs (R323). -/
def Cmd.closed (c : Cmd) (status now : Nat) : Cmd :=
  if status = stOk ∧ !c.committed then { c with committed := true, stamp := now } else c

/-- A command ends with a status. `byCancel` says that a COMMAND_CANCEL naming it ended it (R93). -/
def endCmd (s : State) (h : Handle) (status : Nat) (diag : Option Diag := none) (byCancel : Bool := false) : State :=
  match cmdOf s h with
  | none => s
  | some c =>
    if c.phase = .ended then s
    else
      let s := if c.committed ∨ status = stOk then s else undoLibrary (declineReceives s c status) c.work
      let s := releaseEngines s h
      let c := c.closed status s.now
      let s := modCmd s h fun x => { x with
        phase := .ended, status := status, committed := c.committed, stamp := c.stamp, endedAt := s.now, killed := false, shadows := [], snap := none
        hostData := [], hostOut := [], hostReqs := [], hostNext := 0, hostEnd := 0, partsLeft := [], tilesLeft := [], awaiting := false }
      let s := modCtx s h.ctx fun x =>
        if status = stOk then { x with endedOk := x.endedOk + 1 } else { x with endedOther := x.endedOther + 1 }
      let s := leaveQueue s c (decide (status ≠ stOk) && !byCancel)
      releaseTensors (putDone s c status diag)

end Sys2Proof.Machine
end

