-- ==== Sys2Proof/Machine/ServeReq.lean ====
section
/-!
DEFINITION. Requests of the serving engine: the request table (R247-R249), TOKEN records (R253, R254), and how requests end (R280, R282),
those of a model with a lost weight at once (R282, R353).
-/
namespace Sys2Proof.Machine

open Sys2Proof

/-! ## The request table -/

/-- A request. -/
def reqOf (s : State) (id : Nat) : Option Req := s.serve.reqs.find? fun q => q.id == id

/-- The request a handle names, in its submitting or its reply context (R249). -/
def reqByHandle (s : State) (h : Handle) : Option Req :=
  s.serve.reqs.find? fun q => q.handle == h || (q.replyHandle == h && h != Handle.null)

/-- A request changed. -/
def modReq (s : State) (id : Nat) (g : Req → Req) : State :=
  { s with serve := { s.serve with reqs := s.serve.reqs.map fun q => if q.id = id then g q else q } }

/-- A request that has not ended. -/
def Req.live (q : Req) : Bool := q.state != .ended

/-- A model of a clamp. -/
def modelOf (s : State) (clamp fp : Nat) : Option Model :=
  s.serve.models.find? fun m => m.clamp == clamp && m.fingerprint == fp

/-! ## TOKEN records (R253, R254) -/

/-- The body of a TOKEN record. -/
def tokenBody (slot : Nat) (tokens : List Nat) (last : Bool) (reason : Nat) : List Byte :=
  natLE 3 slot ++ natLE 1 (tokens.length + 16 * b2n last + 32 * reason) ++ tokens.flatMap (natLE 3)

/-- The slot that a request's TOKEN records name: its handle in the reply context, else its own. -/
def tokenSlot (q : Req) : Nat := if q.replyHandle = Handle.null then q.handle.slot else q.replyHandle.slot

/-- A TOKEN record of a request. The driver's consumption of the last one lets its handle's slot be used again: in the reply context for a
request that came by a handover, otherwise in the submitting context (R249). -/
def tokenRec (q : Req) (tokens : List Nat) (last : Bool) (reason status : Nat) : Rec :=
  { kind := 0x03, status := status, body := tokenBody (tokenSlot q) tokens last reason
    req := if last then none else some q.id
    slot := if last && q.remote.isSome then some q.replyHandle.slot else none
    final := if last && q.remote.isNone then some q.handle else none }

/-- The tokens that a held TOKEN record carries. -/
def recTokens (r : Rec) : List Nat :=
  (List.range (u8 r.body 3 % 16)).map fun i => leNat (slice r.body (4 + 3 * i) 3)

/-- Whether a held record is the request's own and not yet full (R254). -/
def stillOpen (q : Req) (r : Rec) : Bool := r.req == some q.id && decide ((recTokens r).length < 8)

/-- Tokens that join a held record of their request until it is full (R254), and those that are left; a record that takes the last of
them is the final one when they end the request. None when no held record of the request has room. -/
def joinHeld (q : Req) (tokens : List Nat) (last : Bool) (reason status : Nat) : List Rec → Option (List Rec × List Nat)
  | [] => none
  | r :: rest =>
    if stillOpen q r then
      let n := 8 - (recTokens r).length
      let all := recTokens r ++ tokens.take n
      let left := tokens.drop n
      some ((if left.isEmpty then tokenRec q all last reason status else tokenRec q all false 0 stOk) :: rest, left)
    else (joinHeld q tokens last reason status rest).map fun x => (r :: x.1, x.2)

/-- Tokens published in TOKEN records: into a held record while it has room, the others in a record of their own (R254). -/
def putToken (s : State) (q : Req) (tokens : List Nat) (last : Bool) (reason status : Nat) : State :=
  let s := modClamp s q.clamp fun k => { k with tokens := k.tokens + tokens.length }
  match (ctxOf s q.replyCtx).bind fun c => joinHeld q tokens last reason status c.held with
  | some (held, left) =>
    let s := modCtx s q.replyCtx fun c => { c with held := held }
    if left.isEmpty then s else putRec s q.replyCtx (tokenRec q left last reason status)
  | none => putRec s q.replyCtx (tokenRec q tokens last reason status)

/-- Whether a held record of a request takes all of its open tokens. -/
def heldTakes (s : State) (q : Req) : Bool :=
  match ctxOf s q.replyCtx with
  | some c => c.held.any fun r => stillOpen q r && decide ((recTokens r).length + q.openRec.length ≤ 8)
  | none => false

/-! ## How requests end -/

/-- Turves released: private ones freed, shared ones lose a user (R280). -/
def releaseTurves (s : State) (q : Req) : State :=
  let ids := q.turves.filterMap (·.sharedEntry)
  let drop := fun e : PfxEntry => if ids.contains e.id then { e with users := e.users - 1 } else e
  { s with serve := { s.serve with pfx := s.serve.pfx.map drop } }

/-- Whether some live request is bound to a version. -/
def versionBound (s : State) (clamp model fp : Nat) : Bool :=
  s.serve.reqs.any fun q => q.live && q.clamp == clamp && q.model == model && q.version == some fp

/-- Whether a shaving is being retired. -/
def retiringShaving (s : State) (k m n : Nat) : Bool :=
  s.cmds.any fun c => c.live && (match c.work with | .shavingRetire a b d => a == k && b == m && d == n | _ => false)

/-- Versions no longer current, or of a shaving that is being retired, are freed with their prefix entries once no request is bound to them
(R278). -/
def freeVersions (s : State) : State :=
  let dead := s.serve.versions.filter fun v =>
    (!v.current || retiringShaving s v.clamp v.model v.number) && !versionBound s v.clamp v.model v.fingerprint
  let gone := fun e : PfxEntry => dead.any fun v => v.clamp == e.clamp && v.model == e.model && v.fingerprint == e.version
  { s with serve := { s.serve with
    versions := s.serve.versions.filter fun v => !dead.contains v
    pfx := s.serve.pfx.filter fun e => !gone e } }

/-- Whether a request that ends now has a final record here: a request in DECODE, and in a `MIXED` clamp one whose prefill faulted
(R280, R282). -/
def hasFinal (s : State) (q : Req) (reason : Nat) : Bool :=
  q.state == .decode || (q.state == .prefill && (clampOf s q.clamp).role == 0 && reason == 5)

/-- The slot of a request whose final TOKEN record is still to come waits for it (R249). -/
def awaitFinal (s : State) (q : Req) : State :=
  if q.remote.isNone ∧ (ctxOf s q.replyCtx).isSome then
    { s with slots := modSlot s.slots q.handle fun x => { x with token := some (q.replyCtx, none) } }
  else s

/-- A request ends: its final record when it has one on this side, its turves, its version, and its GENERATE (R280, R282). -/
def endReq (s : State) (id reason status : Nat) (diag : Option Diag := none) : State :=
  match reqOf s id with
  | none => s
  | some q =>
    if q.state = .ended then s
    else
      let s := if hasFinal s q reason then putToken (awaitFinal s q) q q.openRec true reason status else s
      let s := modReq (releaseTurves s q) id fun q => { q with
        state := .ended, endReason := reason, status := status, turves := [], openRec := [], stalled := false, parked := false }
      let s := freeVersions s
      if q.remote.isNone then endCmd s q.handle status diag else s

/-- Commands of the serving context that work for a request alone end with it: the prefill or handover command of a cancelled request is
killed (R280). -/
def dropReqCommands (s : State) (id : Nat) (status : Nat := stCancelled) : State :=
  let own := fun c : Cmd => match c.work with
    | .prefill _ r _ _ _ => r == id
    | .handover r => r == id
    | _ => false
  (s.cmds.filter fun c => c.live && own c).foldl (fun s c => endCmd s c.handle status none true) s

/-! ## Lost weights (R282, R353) -/

/-- The tensors that a graph descriptor binds as fixed tensors (R332): its launches' programs and bindings. -/
def graphNames (bs : List Byte) : List Handle :=
  (List.range (u16 bs 0)).flatMap fun i =>
    let off := u32 bs (64 + 8 * i + 4)
    if u8 bs (64 + 8 * i) = 1 then
      handleAt bs off :: (List.range (u8 bs (off + 9))).filterMap fun k =>
        if u8 bs (off + 128 + 16 * k + 8) = 1 then some (handleAt bs (off + 128 + 16 * k)) else none
    else handleAt bs off :: handleAt bs (off + 80) :: (List.range (u8 bs (off + 13))).map fun k => handleAt bs (off + 112 + 24 * k)

/-- The bytes of a tensor as they stand. -/
def tensorBytes (s : State) (h : Handle) : List Byte :=
  match tensorAny s h with
  | some t => readView t.sods 0 0 t.bytes
  | none => []

/-- The tensors of a model: its graphs, and what they bind as fixed tensors. -/
def modelNames (s : State) (m : Model) : List Handle :=
  [m.prefill, m.stepGraph].flatMap fun g => g :: graphNames (tensorBytes s g)

/-- Whether a tensor of a model is lost (R282, R353). -/
def modelLost (s : State) (m : Model) : Bool := (modelNames s m).any fun h => (tensorAny s h).any fun t => !t.lost.isEmpty

/-- The requests of a model end with a status (R282). -/
def endModelReqs (s : State) (clamp model status : Nat) : State :=
  (s.serve.reqs.filter fun q => q.live && q.clamp == clamp && q.model == model).foldl
    (fun s q => endReq (dropReqCommands s q.id status) q.id 5 status) s

/-- Every step of a model that has not been taken at its commit slot ends with a status. -/
def endSteps (s : State) (clamp model status : Nat) : State :=
  (s.cmds.filter fun c => c.live && c.phase != .commit && (match c.work with
    | .step k m _ _ => k == clamp && m == model
    | _ => false)).foldl (fun s c => endCmd s c.handle status) s

/-- A lost weight ends every request of its model, and the commands that work for them. -/
def endModel (s : State) (m : Model) : State :=
  endSteps (endModelReqs s m.clamp m.fingerprint stWeightLost) m.clamp m.fingerprint stWeightLost

/-- Models with a lost weight: their requests end. -/
def endLost (s : State) : State :=
  if s.store.tensors.any fun t => !t.lost.isEmpty then (s.serve.models.filter (modelLost s)).foldl endModel s else s

end Sys2Proof.Machine
end

