-- ==== Sys2Proof/Machine/Commands.lean ====
section
/-!
DEFINITION. The life of commands (R65-R67): dependencies, heads and waits (R91, R92), kills (R76), what follows from an end, ash and lost
stripes (R37, R40, R353), the ending of contexts (R301, R324).
-/
namespace Sys2Proof.Machine

open Sys2Proof

/-! ## Dependencies and heads (R65, R91, R92) -/

/-- How a depends-on handle stands (R92): satisfied, failed, or still open. -/
inductive DepState where
  | satisfied
  | failed
  | waiting
deriving DecidableEq, Repr

/-- R92's resolution of a command's dependency. -/
def depState (s : State) (c : Cmd) : DepState :=
  if c.dep = Handle.null then .satisfied
  else match cmdOf s c.dep with
    | none => .satisfied
    | some d => if d.phase ≠ .ended then .waiting else if d.status = stOk then .satisfied else .failed

/-- The first command of a queue that is not halted becomes its head (R65, R91). -/
def headUp (s : State) (n q : Nat) : State :=
  match ctxOf s n with
  | none => s
  | some x =>
    let u := at? x.queues q {}
    match u.cmds.head? with
    | none => s
    | some h =>
      match cmdOf s h with
      | none => s
      | some c =>
        if c.phase = .queued ∧ !u.halted then
          modCmd s h fun c => { c with phase := .waiting, headAt := some s.now, waitEnd := s.now + x.waitLimit }
        else s

/-- Every queue of every context given its head. -/
def headsUp (s : State) : State :=
  s.ctxs.foldl (fun s e => (List.range 16).foldl (fun s q => headUp s e.1 q) s) s

/-- What follows from a change of flags, of queues or of ended commands: heads, waits, and dependants of a failed command. -/
def settle : Nat → State → State
  | 0, s => s
  | fuel + 1, s =>
    let s := latchWaits (headsUp s)
    match s.cmds.find? (fun c => c.phase == .waiting && !c.killed && depState s c == .failed) with
    | some c => settle fuel (endCmd s c.handle stCancelled)
    | none => s

/-- `settle` with fuel enough for every command, requests of models with a lost weight ended (R282), and idle cores given work (R518). -/
def settled (s : State) : State := fillCores (settle (s.cmds.length + 1) (endLost s))

/-- A command ends, and what follows from it. -/
def finish (s : State) (h : Handle) (status : Nat) (diag : Option Diag := none) (byCancel : Bool := false) : State :=
  settled (endCmd s h status diag byCancel)

/-- An access to a resource that its clamp does not own (R48): INTERNAL is raised, and the command ends FAULTED. -/
def foreignFault (s : State) (h : Handle) (d : Diag) : State :=
  finish (internalEvent s (some (clampNum s h.ctx)) 5) h stFaulted (some d)

/-! ## Kills (R76) -/

/-- A command killed as a whole: it releases its shadows and goes back to the head of its queue with its snapshot. -/
def killCmd (s : State) (h : Handle) : State :=
  match cmdOf s h with
  | none => s
  | some c =>
    if c.phase = .run then
      let s := (receiveTags s c).foldl (fun s (m, tag) => withdrawTokens s h.ctx m tag) (releaseEngines s h)
      let s := modCmd s h fun c => { c with
        phase := .waiting, killed := true, kills := satAdd 65535 c.kills 1, shadows := [], done := false
        hostData := [], hostOut := [], hostReqs := [], hostNext := 0, hostEnd := 0, partsLeft := [], tilesLeft := [], roomWait := none }
      modCtx s h.ctx fun x => { x with kills := x.kills + 1 }
    else s

/-! ## Ash and lost stripes (R37, R40, R353) -/

/-- Commands in run that read a tensor end with a status. -/
def endReaders (s : State) (t : Handle) (status : Nat) : State :=
  (s.cmds.filter fun c => c.phase == .run && c.work.reads.contains t).foldl (fun s c => endCmd s c.handle status) s

/-- A stripe lost, and with it the tensor (R353). -/
def loseStripe (s : State) (h : Handle) (j : Nat) : State :=
  match tensorAny s h with
  | none => s
  | some t =>
    if t.lost.contains j then s
    else
      let s := modTensor s h fun t => { t with lost := t.lost ++ [j] }
      let s := raise s (168 + t.clamp) 0x10 (natLE 8 (Handle.encode h) ++ natLE 4 (t.lost.length + 1)) (some h.ctx)
      endReaders s h stWeightLost

/-- Whether another sod of a stripe is ash, its parity sod included. -/
def stripeHasAsh (t : Tensor) (j k : Nat) : Bool :=
  t.sods.any (fun e => e.1 / 11 == j && e.1 != k && e.2.ash)
    || match tget? t.stripes j with | some x => x.parity.ash | none => false

/-- The entry of a sod marked ash, its storage released (R37, R348); snapshots that name the same storage share the mark. The old tag stays
with the mark, to tell a rebuild which snapshots named these contents (R349). -/
def ashEntry (s : State) (h : Handle) (k : Nat) (old : Sod) : State :=
  let bad : Sod := { data := [], tag := old.tag, ash := true, loc := none }
  let s := modTensor s h fun t => if tget? t.sods k = some old then { t with sods := tset t.sods k bad } else t
  let mark := fun e : Handle × Table Sod => if e.1 = h ∧ tget? e.2 k = some old then (e.1, tset e.2 k bad) else e
  { s with cmds := s.cmds.map fun c => { c with snap := c.snap.map fun l => l.map mark } }

/-- Ash of a tensor of a clamp counted in the window that holds its stamp; the first of a window raises ASH (R11, R40, R463). -/
def noteAsh (s : State) (t : Handle) (clamp : Nat) : State :=
  let here := fun w : AshWindow => w.t == t && w.stamp / 100000 == s.now / 100000
  if s.store.ashWindows.any here then
    { s with store := { s.store with ashWindows := s.store.ashWindows.map fun w => if here w then { w with count := w.count + 1 } else w } }
  else
    let s := { s with store := { s.store with
      ashWindows := s.store.ashWindows ++ [{ t := t, clamp := clamp, stamp := s.now, count := 1 }] } }
    let s := setPending s (160 + clamp)
    reassess s (srcOf s (160 + clamp)).target

/-- A sod becomes ash for every context (R37), the first of its tensor in a window raises ASH (R463), and a second sod of a stripe,
or one found while the stripe is being rebuilt, loses the stripe (R353). -/
def makeAsh (s : State) (h : Handle) (k : Nat) : State :=
  match tensorAny s h with
  | none => s
  | some t =>
    match tget? t.sods k with
    | none => s
    | some old =>
      if old.ash then s
      else
        let s := ashEntry s h k old
        let s := noteAsh s t.handle t.clamp
        if t.shared ∧ stripeHasAsh t (k / 11) k then loseStripe s h (k / 11) else s

/-- Reads of sods counted for the Collier (R46). -/
def noteHits (s : State) (h : Handle) (sods : List Nat) : State :=
  modTensor s h fun t => { t with hits := sods.foldl (fun m k => tset m k (tgetD m k 0 + 1)) t.hits }

/-- A read of a run of bytes served: counted for the Collier (R46), for the clamp of the context that asked (R359), and by the controller
channels (R360). -/
def servedRun (s : State) (ctx : Nat) (h : Handle) (view : Table Sod) (base off n : Nat) (k : Traffic) : State :=
  (runChans h view base off n).foldl (fun s ch => serveBursts s k 8 ch)
    (countTraffic (noteHits s h (sodsOf base off n)) (clampNum s ctx) k n)

/-- A sod of a view whose bytes cannot be used becomes ash, in the tensor when it holds the same contents, and in every snapshot that names
them (R37). -/
def spoilSod (s : State) (view : Table Sod) (h : Handle) (k : Nat) : State :=
  match tget? view k with
  | some x =>
    if x.ash then s else if ((tensorAny s h).bind fun t => tget? t.sods k) = some x then makeAsh s h k else ashEntry s h k x
  | none => s

/-- Committed sods whose bytes a write is about to take over: those whose tag fails become ash (R35). -/
def checkSeeds (s : State) (t : Handle) (sods : List Nat) : State :=
  sods.foldl (fun s k => if ((tensorAny s t).bind fun x => tget? x.sods k).any tagFails then makeAsh s t k else s) s

/-- A consumer's check of the sods of a run through a view (R35): the first bad one becomes ash when it was not. -/
def checkSods (s : State) (view : Table Sod) (h : Handle) (sods : List Nat) : State × Bool :=
  match firstBad view sods with
  | none => (s, true)
  | some k => (spoilSod s view h k, false)

/-- A command's read meets a sod that is ash or whose data cannot be used (R164, R220): the sod becomes ash; the first time the command
is killed and runs once more after the attempt at repair; a second failure, or ash that no rebuild can mend, ends it DATA_ASH, or
WEIGHT_LOST when a stripe of the shared weight is lost. -/
def dataError (s : State) (h t : Handle) (k : Nat) : State :=
  match cmdOf s h with
  | none => s
  | some c =>
    let view := viewOf s c t
    let was := (sodIn view k).ash
    let s := spoilSod s view t k
    let mendable := match tensorAny s t with | some x => x.shared && x.lost.isEmpty | none => false
    let lost := match tensorAny s t with | some x => !x.lost.isEmpty | none => false
    if c.retried || (was && !mendable) then finish s h (if lost then stWeightLost else stDataAsh)
    else settled (modCmd (killCmd s h) h fun c => { c with retried := true })

/-! ## The end of a context (R301, R324) -/

/-- A tensor destroyed: no later command may name it, and its slot has a new generation (R26). -/
def destroyTensor (s : State) (h : Handle) : State :=
  dropSlot (modTensor s h fun t => { t with destroyed := true }) h

/-- The commands of a context that are not in commit end with nothing written; those in commit stay. -/
def dropCommands (s : State) (n : Nat) : State :=
  (s.cmds.filter fun c => c.handle.ctx == n && c.live && c.phase != .commit).foldl
    (fun s c => endCmd s c.handle stCancelled) s

/-- A context's records and messages dropped, its handles' slots given a new generation. -/
def dropContext (s : State) (n : Nat) : State :=
  { s with
    ctxs := tdel s.ctxs n
    slots := tokensDropped (tmod s.slots n fun t => t.map fun e =>
      (e.1, if e.2.fresh then e.2 else { gen := nextGen e.2.gen, live := false, fresh := true })) n
    cmds := s.cmds.filter fun c => c.handle.ctx != n
    flue := { s.flue with
      landed := s.flue.landed.filter fun d => d.ctx != n
      tokens := s.flue.tokens.filter fun d => d.ctx != n
      consumed := s.flue.consumed.filter fun d => d.1 != n } }

end Sys2Proof.Machine
end

