-- ==== Sys2Proof/Machine/EmberOps.lean ====
section
/-!
DEFINITION. Channels and Ember units (06_exrad_stacks, 07_ember_programs): parts and where they run (R208-R213), bank maps and fences
(R188, R210, R211), what START does (R177, R204, R214), faults of a unit (R239), and how a part is given up (R79).
-/
namespace Sys2Proof.Machine

open Sys2Proof

/-! ## Channels and units -/

/-- A channel. -/
def chanOf (s : State) (stack chan : Nat) : Chan := tgetD s.exrad.chans (chanNum stack chan) {}

/-- A channel changed. -/
def modChan (s : State) (stack chan : Nat) (g : Chan → Chan) : State :=
  { s with exrad := { s.exrad with chans := tset s.exrad.chans (chanNum stack chan) (g (chanOf s stack chan)) } }

/-- A unit. -/
def unitOf (s : State) (stack chan unit : Nat) : EUnit := tgetD (chanOf s stack chan).units unit {}

/-- A unit set. -/
def setUnit (s : State) (stack chan unit : Nat) (u : EUnit) : State :=
  modChan s stack chan fun c => { c with units := tset c.units unit u }

/-! ## Parts -/

/-- The in-bank block of a command, if it has one. -/
def inbandOf (c : Cmd) : Option InbankBlock :=
  match c.work with
  | .inband b => some b
  | .program l => l.inband
  | _ => none

/-- Whether a command reaches its units through a trigger window (R213). -/
def windowed (c : Cmd) : Bool :=
  match c.work with
  | .program l => l.bindings.any fun b => b.kind == 3
  | _ => false

/-- The sods of part `p`: slot, tensor, right, sod number (R208). -/
def partSods (b : InbankBlock) (p : Nat) : List (Nat × Handle × Bool × Nat) :=
  b.bindings.zipIdx.flatMap fun (x, slot) =>
    (List.range' (x.first + p * x.step) x.count).map fun k => (slot, x.handle, x.rw, k)

/-- Where a sod of a part lies: a shadow's place for a read-write binding, the committed place otherwise. -/
def sodPlace (s : State) (c : Cmd) (h : Handle) (rw : Bool) (k : Nat) : Option Loc :=
  if rw then ((shadowOf c.shadows h k).bind (·.loc)) else (sodIn (viewOf s c h) k).loc

/-- Every place that a part's sods take: the sod that each slot names, and the committed sod under each shadow (R209). Committed ash holds
no place. -/
def partPlaces (s : State) (c : Cmd) (b : InbankBlock) (p : Nat) : List (Option Loc) :=
  (partSods b p).flatMap fun (_, h, rw, k) =>
    let old := sodIn (viewOf s c h) k
    sodPlace s c h rw k :: if rw && !old.ash then [old.loc] else []

/-- The unit whose bank pair holds a place. -/
def placeUnit : Option Loc → Option (Nat × Nat × Nat)
  | some (.bank st ch b _) => some (st, ch, b / 2)
  | _ => none

/-- The unit that runs a part: the one whose bank pair holds all of its sods and shadows (R209). -/
def partUnit (s : State) (c : Cmd) (b : InbankBlock) (p : Nat) : Option (Nat × Nat × Nat) :=
  match (partPlaces s c b p).map placeUnit with
  | some u :: r => if r.all (· == some u) then some u else none
  | _ => none

/-- Bytes of a part's slice begin here in the bcast tensor (R212). -/
def sliceOff (b : InbankBlock) (p : Nat) : Nat := b.bcastOff + p * b.bcastStep

/-- Lines that the slices of some parts take in a channel's buffer, identical slices sharing one copy (R212). -/
def sliceLines (b : InbankBlock) (parts : List Nat) : Nat := ceilDiv b.bcastLen 32 * ((parts.map (sliceOff b)).eraseDups).length

/-- Whether a part can join the open wave: its unit serves no other part of it, and the slices of its channel fit in 4 KiB (R212). -/
def joinsWave (b : InbankBlock) (acc : List (Nat × Option (Nat × Nat × Nat))) (x : Nat × Option (Nat × Nat × Nat)) : Bool :=
  let chan := fun y : Nat × Option (Nat × Nat × Nat) => y.2.map fun u => (u.1, u.2.1)
  !(acc.any fun y => y.2 == x.2) && decide (sliceLines b (((acc.filter fun y => chan y == chan x).map (·.1)) ++ [x.1]) ≤ 128)

/-- The waves of a windowed command: parts in order, a new wave where a part cannot join the open one. `acc` is the open wave. -/
def wavesFrom (b : InbankBlock) : List (Nat × Option (Nat × Nat × Nat)) → List (Nat × Option (Nat × Nat × Nat)) → List (List Nat)
  | [], acc => if acc.isEmpty then [] else [acc.map (·.1)]
  | x :: r, acc => if joinsWave b acc x || acc.isEmpty then wavesFrom b r (acc ++ [x]) else acc.map (·.1) :: wavesFrom b r [x]

/-- The parts of the current wave: the first wave with a part that has not ended, or the last wave. -/
def currentWave (s : State) (c : Cmd) (b : InbankBlock) : List Nat :=
  let waves := wavesFrom b ((List.range b.parts).map fun p => (p, partUnit s c b p)) []
  (waves.find? fun w => w.any fun p => c.partsLeft.contains p).getD (waves.getLastD [])

/-! ## Bank maps and fences -/

/-- One more sod taken into a run of the bank map, when it continues the run in one of its two forms (R210). -/
def extendRun (r : MapRun) (slot sod bank row : Nat) (w : Bool) : Option MapRun :=
  let n := r.count
  let plain := decide (bank = r.bank ∧ row = r.row + n)
  let alt := decide (bank = (r.bank + n) % 2 ∧ row = r.row + n / 2)
  if r.slot = slot ∧ sod = r.sod + n ∧ r.writable = w then
    if n = 1 then (if plain then some { r with count := 2 } else if alt then some { r with count := 2, alternate := true } else none)
    else if (if r.alternate then alt else plain) then some { r with count := n + 1 } else none
  else none

/-- Runs over the sods of a part, last run first. -/
def addRun (runs : List MapRun) (slot sod bank row : Nat) (w : Bool) : List MapRun :=
  let fresh : MapRun := { slot := slot, sod := sod, count := 1, bank := bank, row := row, alternate := false, writable := w }
  match runs with
  | [] => [fresh]
  | r :: rest =>
    match extendRun r slot sod bank row w with
    | some x => x :: rest
    | none => fresh :: r :: rest

/-- The bank map of a part (R210). -/
def bankMapOf (s : State) (c : Cmd) (b : InbankBlock) (p : Nat) : List MapRun :=
  ((partSods b p).foldl (fun runs (slot, h, rw, k) =>
    match sodPlace s c h rw k with
    | some (.bank _ _ bank row) => addRun runs slot k (bank % 2) row rw
    | _ => runs) []).reverse

/-- The bank and row that a run gives a sod. -/
def MapRun.at (r : MapRun) (sod : Nat) : Nat × Nat :=
  let k := sod - r.sod
  if r.alternate then ((r.bank + k) % 2, r.row + k / 2) else (r.bank, r.row + k)

/-- The entry of a bank map that covers a sod, with its bank and row (R211). -/
def mapFind (m : List MapRun) (slot sod : Nat) : Option (Nat × Nat × Bool) :=
  (m.find? fun r => r.slot == slot && decide (r.sod ≤ sod ∧ sod < r.sod + r.count)).map fun r =>
    ((r.at sod).1, (r.at sod).2, r.writable)

/-- Rows put in order of bank and row. -/
def insertRow (x : Nat × Nat) : List (Nat × Nat) → List (Nat × Nat)
  | [] => [x]
  | y :: r => if x.1 < y.1 ∨ (x.1 = y.1 ∧ x.2 ≤ y.2) then x :: y :: r else y :: insertRow x r

/-- Fence ranges over ordered rows. -/
def fenceRuns : List (Nat × Nat) → List Fence
  | [] => []
  | (b, r) :: rest =>
    match fenceRuns rest with
    | [] => [{ valid := true, bank := b, firstRow := r, rows := 1 }]
    | f :: fs =>
      if f.bank = b ∧ f.firstRow = r + 1 then { f with firstRow := r, rows := f.rows + 1 } :: fs
      else { valid := true, bank := b, firstRow := r, rows := 1 } :: f :: fs

/-- The fence ranges of a part: exactly its shadow rows (R188). -/
def fencesOf (s : State) (c : Cmd) (b : InbankBlock) (p : Nat) : List Fence :=
  fenceRuns (((partSods b p).filterMap fun (_, h, rw, k) =>
    if rw then match sodPlace s c h true k with
      | some (.bank _ _ bank row) => some (bank % 2, row)
      | _ => none
    else none).foldr insertRow [])

/-- Whether a valid fence range admits a row (R188, R203). -/
def fenceAdmits (fs : List Fence) (bank row : Nat) : Bool :=
  fs.any fun f => f.valid && f.bank == bank && decide (f.firstRow ≤ row ∧ row < f.firstRow + f.rows ∧ f.firstRow + f.rows ≤ 12288)

/-- Whether the Collier's placement of a part fits its registers: one bank pair, 16 map entries, 8 fence ranges (R188, R209, R210). -/
def partFits (s : State) (c : Cmd) (b : InbankBlock) (p : Nat) : Bool :=
  (partUnit s c b p).isSome && decide ((bankMapOf s c b p).length ≤ 16 ∧ (fencesOf s c b p).length ≤ 8)

/-! ## Broadcast slices (R212) -/


/-- The line at which a slice stands or can be put in the channel's buffer: identical slices share one copy, a slice that every part
shares stands at line 0, and a wave's slices fit in 128 lines. -/
def sliceLine (c : Chan) (h : Handle) (b : InbankBlock) (p : Nat) : Option Nat :=
  let slices := if c.anyBusy then c.slices else []
  match slices.find? fun x => x.1 == h && x.2.1 == sliceOff b p with
  | some x => some x.2.2
  | none =>
    let lines := b.bcastLen / 32
    let next := lines * slices.length
    if (b.bcastStep = 0 ∧ next ≠ 0) ∨ slices.any (fun x => x.1 != h) ∨ 128 < next + lines then none else some next

/-! ## Faults and ends of parts -/

/-- The detail of a unit's diagnostic (R475): stack, channel, unit and cause, pc, part, binding slot. -/
def unitDetail (stack chan unit cause pc part slot : Nat) : List Byte :=
  natLE 1 stack ++ natLE 1 chan ++ natLE 1 (unit + 16 * cause) ++ natLE 1 pc ++ natLE 3 part ++ natLE 1 slot

/-- The entry of the current or last micro-operation (R203). -/
def EUnit.entry (u : EUnit) : Nat := if 255 < u.pc then u.lastPc else u.pc

/-- The diagnostic of a unit. -/
def unitDiag (stack chan unit : Nat) (u : EUnit) (cause slot : Nat) : Diag :=
  { engine := 5, cause := if cause = 1 then 2 else 14
    detail := unitDetail stack chan unit cause u.entry ((u.part.map (·.2)).getD 0) slot }

/-- A unit enters FAULT and its command ends FAULTED (R239). -/
def unitFault (s : State) (stack chan unit cause slot : Nat) : State :=
  let u := unitOf s stack chan unit
  let s := setUnit s stack chan unit { u with state := .fault, ended := true, cause := cause, fences := List.replicate 8 {} }
  let s := if cause = 1 then modChan s stack chan fun c => { c with fenceRefusals := satAdd 4095 c.fenceRefusals 1 } else s
  match u.part with
  | some (h, _) => finish s h stFaulted (some (unitDiag stack chan unit u cause slot))
  | none => s

/-- A shadow as it is first allocated over the committed sod: seeded from it, or from nothing when it is ash (R39, R51). -/
def seededShadow (t : Handle) (k : Nat) (old : Sod) (loc : Option Loc) : Shadow :=
  { t := t, sod := k, data := if old.ash then [] else old.data, mask := 0, fromAsh := old.ash, loc := loc }

/-- The committed sod of a tensor, as it stands. -/
def committedSod (s : State) (t : Handle) (k : Nat) : Sod := sodIn (((tensorAny s t).map (·.sods)).getD []) k

/-- The shadows of a part's read-write sods seeded anew from the committed sods, which are checked as they are read (R35, R51), when the
part is given up before its end. -/
def reseedPart (s : State) (h : Handle) (p : Nat) : State :=
  match cmdOf s h with
  | none => s
  | some c =>
    match inbandOf c with
    | none => s
    | some b =>
      let mine := (partSods b p).filterMap fun (_, t, rw, k) => if rw then some (t, k) else none
      let s := mine.foldl (fun s x => checkSeeds s x.1 [x.2]) s
      let seed := fun sh : Shadow => if mine.contains (sh.t, sh.sod) then seededShadow sh.t sh.sod (committedSod s sh.t sh.sod) sh.loc else sh
      modCmd s h fun c => { c with shadows := c.shadows.map seed }

/-- A unit at work stops at a micro-operation boundary (R79, R203): what its part wrote is released and the part can run again. `keep` says
what stays in the unit. -/
def haltUnit (keep : EUnit → EUnit) (s : State) (stack chan unit : Nat) : State :=
  let u := unitOf s stack chan unit
  if u.state.busy then
    let s := setUnit s stack chan unit (keep u)
    idleChans (match u.part with | some (h, p) => reseedPart s h p | none => s)
  else s

/-- A unit whose part a program stops through its window: the vector registers stay (R203, R214). -/
def EUnit.stopped (u : EUnit) : EUnit := { u.abandoned with vregs := u.vregs }

/-- A unit whose part is killed: nothing of the part survives in it (R237). -/
def stopUnit (s : State) (stack chan unit : Nat) : State := haltUnit EUnit.abandoned s stack chan unit

/-! ## START (R204, R214) -/

/-- A unit cleared for another context (R177). -/
def zeroUnit (u : EUnit) : EUnit :=
  { u with vregs := [], args := [0, 0, 0, 0], argsIn := [0, 0, 0, 0], store := List.replicate 256 0 }

/-- What START sets, from the store, arguments and maps the unit then holds (R214). -/
def startUnit (u : EUnit) (h : Handle) (p entry tag : Nat) (m : List MapRun) (fs : List Fence) : EUnit :=
  { u with
    state := .running, cause := 0, pc := entry, partTag := tag, pauses := 0, argsIn := u.args
    openRow := [none, none], prepared := [none, none], normalised := [], lastPc := entry, atYield := false
    fences := fs ++ List.replicate (8 - fs.length) {}, areg := List.replicate 8 0, bb := 0, fmt := 0, loops := []
    slots := List.replicate 4 {}, patch := [], rowOpen := false, scores := [], scoresBack := [], chunkM := 0, chunkS := 0
    probs := List.replicate 128 0, chunkO := List.replicate 128 0, chunkBuf := [], tree := List.replicate 7 {}, treeCount := 0
    bankMap := m, part := some (h, p), lastCtx := some h.ctx, heldStart := none, readSods := [], wroteSods := [], yieldStop := false }

/-- The arguments of part `p` (R212): base plus p steps, and the slice's line in ARG3 when the slices differ. -/
def partArgs (b : InbankBlock) (p line : Nat) : List (BitVec 64) :=
  let l := (List.range 4).map fun i => let a := at? b.args i (0, 0); BitVec.ofNat 64 (a.1 + p * a.2)
  if b.bcastStep = 0 then l else l.set 3 (BitVec.ofNat 64 (line % 128))

/-- The 256 store entries that a program image holds. -/
def storeImage (view : Table Sod) (bytes : Nat) : List (BitVec 64) :=
  let n := min 256 (bytes / 8)
  (List.range 256).map fun i => if i < n then BitVec.ofNat 64 (leNat (readView view 0 (8 * i) 8)) else 0

/-- A channel's broadcast buffer with a part's slice loaded. -/
def loadSlice (c : Chan) (h : Handle) (b : InbankBlock) (p line : Nat) (bytes : List Byte) : Chan :=
  let slices := if c.anyBusy then c.slices else []
  { c with
    bbuf := wrBytes c.bbuf (32 * line) bytes
    slices := if slices.any (fun x => x.1 == h && x.2.1 == sliceOff b p) then slices else slices ++ [(h, sliceOff b p, line)] }

/-- Suspended parts of other contexts on a channel are killed when the channel serves a context (R176). -/
def evictOthers (s : State) (stack chan ctx : Nat) : State :=
  ((chanOf s stack chan).units.filter fun e => e.2.state == .suspended && (match e.2.part with | some (h, _) => h.ctx != ctx | none => false)).foldl
    (fun s e => stopUnit s stack chan e.1) s

/-- A channel and one of its units made ready for a context (R176, R177): other contexts' suspended parts are killed, and what another
context left in the broadcast buffer and in the unit is zeroed. -/
def claimUnit (s : State) (stack chan unit ctx : Nat) : State :=
  let s := evictOthers s stack chan ctx
  let s := modChan s stack chan fun c => if c.lastCtx = some ctx then c else { c with lastCtx := some ctx, bbuf := [], slices := [] }
  let u := unitOf s stack chan unit
  if u.lastCtx = some ctx ∨ u.state.busy then s else setUnit s stack chan unit { zeroUnit u with lastCtx := some ctx }

/-- A channel at work for a context is charged from now on (R86, R87). -/
def takeChan (s : State) (stack chan ctx : Nat) : State :=
  let n := chanNum stack chan
  if (tget? s.kiln.chans n).isSome then s
  else { s with kiln := { s.kiln with chans := tset s.kiln.chans n { ctx := ctx, use := .running, since := s.now } } }

/-- The diagnostic of a part that cannot start. -/
def startDiag (stack chan unit p entry cause : Nat) : Diag :=
  { engine := 5, cause := cause, detail := unitDetail stack chan unit 0 entry p 0xFF }

/-- A part starts on its unit: `micro` says that the Stoker loads the store, the arguments and the vector registers as well (R204). The
program and the slice are read through the command's view, after the checks of R35 and R47. -/
def startPart (s : State) (stack chan unit : Nat) (c : Cmd) (b : InbankBlock) (p entry tag : Nat) (micro : Bool) : State :=
  let h := c.handle
  let s := claimUnit s stack chan unit h.ctx
  let prog := viewOf s c b.program
  let cast := viewOf s c b.bcast
  match tensorAny s b.program, tensorAny s b.bcast, sliceLine (chanOf s stack chan) h b p with
  | some tp, some tb, some line =>
    let u := unitOf s stack chan unit
    let castSods := sodsOf 0 (sliceOff b p) b.bcastLen
    let progSods := if micro then sodsOf 0 0 (min 2048 tp.bytes) else []
    if tb.bytes < sliceOff b p + b.bcastLen then finish s h stFaulted (some (startDiag stack chan unit p entry 1))
    else if (firstForeign s b.program prog progSods).isSome || (firstForeign s b.bcast cast castSods).isSome then
      foreignFault s h (startDiag stack chan unit p entry 3)
    else match firstUnread c b.program prog progSods, firstUnread c b.bcast cast castSods with
      | some k, _ => finish (spoilSod s prog b.program k) h stFetchError (some (startDiag stack chan unit p entry 12))
      | none, some k => dataError s h b.bcast k
      | none, none =>
        let args := partArgs b p line
        let u := if micro then { u with store := storeImage prog tp.bytes, args := args, vregs := [] }
          else if b.bcastStep = 0 then u else { u with args := u.args.set 3 (at? args 3 0) }
        let s := modChan s stack chan fun x => loadSlice x h b p line (readView cast 0 (sliceOff b p) b.bcastLen)
        takeChan (setUnit s stack chan unit (startUnit u h p entry tag (bankMapOf s c b p) (fencesOf s c b p))) stack chan h.ctx
  | _, _, _ => s

/-- Whether some unit runs a part. -/
def partRuns (s : State) (h : Handle) (p : Nat) : Bool :=
  s.exrad.chans.any fun e => e.2.units.any fun u => u.2.state.busy && u.2.part == some (h, p)

/-- Whether a channel serves no other context now (R79, R86). -/
def chanServes (s : State) (stack chan ctx : Nat) : Bool :=
  match tget? s.kiln.chans (chanNum stack chan) with
  | some e => e.ctx == ctx
  | none => true

/-- The parts of a command in run that a unit of a channel could start: of a clamp that owns the channel, and that no unit runs. -/
def startable (s : State) (c : Cmd) (b : InbankBlock) (stack chan : Nat) : List (Nat × Nat) :=
  if c.phase = .run ∧ !windowed c ∧ ownsChan (clampOf s (clampNum s c.handle.ctx)) stack chan then
    c.partsLeft.filterMap fun p => match partUnit s c b p with
      | some (st, ch, un) => if st = stack ∧ ch = chan ∧ !partRuns s c.handle p then some (p, un) else none
      | none => none
  else []

/-- Whether a channel is a context's to use: it serves the context, or it is free and the context comes first, in the order of R86, among
those with a part to start there (R518). -/
def chanTurn (s : State) (stack chan ctx : Nat) : Bool :=
  match tget? s.kiln.chans (chanNum stack chan) with
  | some e => e.ctx == ctx
  | none =>
    let able := (s.cmds.filter fun c => (inbandOf c).any fun b => !(startable s c b stack chan).isEmpty).map (·.handle.ctx)
    (vtOrder s .channel able.eraseDups).head? == some ctx

/-- The part that the Stoker's START with an entry and a tag means on a unit: the first part not ended of a command in run, with that entry
(R208) and that handle slot, whose bank pair is the unit's and that no unit runs (R203, R209). -/
def partFor (s : State) (stack chan unit entry tag : Nat) : Option (Cmd × InbankBlock × Nat) :=
  s.cmds.findSome? fun c =>
    match inbandOf c with
    | some b =>
      if c.handle.slot % 65536 = tag % 65536 ∧ b.entry = entry ∧ chanTurn s stack chan c.handle.ctx then
        ((startable s c b stack chan).find? fun x => x.2 == unit).map fun x => (c, b, x.1)
      else none
    | none => none

/-- Whether every piece of a command's run-phase work has ended (R67): its tiles, its in-bank parts. -/
def runOver (s : State) (c : Cmd) : Bool :=
  c.partsLeft.isEmpty && c.tilesLeft.isEmpty
    && !s.exrad.chans.any fun e => e.2.units.any fun u =>
      u.2.state.busy && (match u.2.part with | some (h, _) => h == c.handle | none => false)

/-- A command of tiles and parts whose work is over may commit. -/
def markDone (s : State) (h : Handle) : State :=
  match cmdOf s h with
  | some c => if runOver s c then modCmd s h fun c => { c with done := true } else s
  | none => s

end Sys2Proof.Machine
end

