-- ==== Sys2Proof/Machine/Ember.lean ====
section
/-!
DEFINITION. Channel modes, unit commands, refresh, reseal (R170-R196, R203, R204) and accesses through a trigger window (R197-R202).
-/
namespace Sys2Proof.Machine

open Sys2Proof

/-- The command for which the Stoker asks for processor mode on a channel: an in-bank command in run of a clamp that owns it, or that of a
suspended part (R171). -/
def chanAsker (s : State) (stack chan : Nat) : Option Handle :=
  match s.cmds.find? fun c => c.phase == .run && (inbandOf c).isSome && !c.partsLeft.isEmpty
      && ownsChan (clampOf s (clampNum s c.handle.ctx)) stack chan with
  | some c => some c.handle
  | none => (chanOf s stack chan).units.findSome? fun u => if u.2.state = .suspended then u.2.part.map (·.1) else none

/-- Whether the Stoker has work for a channel (R171). -/
def chanWork (s : State) (stack chan : Nat) : Bool := (chanAsker s stack chan).isSome

/-- Whether a place keeps a sealed sod on a channel. -/
def sealedOn (s : State) (stack chan : Nat) : Option Loc → Bool
  | some (.interleaved st m) => st == stack && m.getLsbD chan
  | some (.bank st ch b r) => st == stack && ch == chan && !rowIsOpen s st ch b r
  | _ => false

/-- Whether a sealed sod that was read in the last period still lies on a channel (R46). -/
def keepsRead (s : State) (stack chan : Nat) : Bool :=
  s.store.tensors.any fun t => t.sods.any fun e => sealedOn s stack chan e.2.loc && decide (0 < tgetD t.hitsPrev e.1 0)

/-- Whether a stack is in Smoulder. -/
def smoulders (s : State) (stack : Nat) : Bool := s.pwr.smoulderIn.getLsbD (4 + stack)

/-- Whether a method fits the work of a channel: address-trigger mode serves windowed commands alone (R198). -/
def methodFits (s : State) (stack chan : Nat) (trigger : Bool) : Bool :=
  !trigger || s.cmds.any fun c => c.phase == .run && windowed c && ownsChan (clampOf s (clampNum s c.handle.ctx)) stack chan

/-- Whether a zone of a die exceeds its rating in the last sample (R414). -/
def dieOver (p : Power) (d : Nat) : Bool := at? p.zoneOver (2 * d) false || at? p.zoneOver (2 * d + 1) false

/-- A removal stands at 75 and its measure is still above its limit: no processor-mode period starts (R426). -/
def powerBlocks (p : Power) : Bool :=
  (p.rp == 75 && decide (p.cap < p.p1)) || (List.range 4).any fun d => at? p.rh d 0 == 75 && (decide (2400 < p.pFast) || dieOver p d)

/-- Whether a channel can be asked for processor mode (R171, R196, R426): it is in memory mode, out of Smoulder, and no power removal forbids
a period; no sealed sod that was read in the last period is left on it, which the Collier sees to once the switch is announced (R46,
log entry 152). -/
def admitsProcessor (s : State) (stack chan : Nat) : Bool :=
  (chanOf s stack chan).mode == .memory && !smoulders s stack && !powerBlocks s.pwr && !keepsRead s stack chan

/-- PROCESSOR_MODE_REQUEST (R171, R173, R197). -/
def execProcessorModeRequest (stack chan : Nat) (trigger : Bool) (s : State) : Host.Outcome State Fault Refusal :=
  .next (if admitsProcessor s stack chan ∧ chanWork s stack chan ∧ methodFits s stack chan trigger then
    modChan s stack chan fun c => { c with mode := .toProcessor, trigger := trigger, asker := chanAsker s stack chan, abandon := false }
  else s)

/-- What a yield request does to a unit (R174, R195): a running unit stops at its next YIELD; one paused for a refresh counts as stopped when
a YIELD brought it to its boundary. -/
def askYield (u : EUnit) : EUnit :=
  if u.state = .running then { u with yieldStop := true }
  else if u.state = .refreshPause then (if u.atYield then { u with state := .suspended } else { u with yieldStop := true })
  else u

/-- A request for memory mode (R174, R178): running units are asked to yield; a switch to processor mode runs to its end first. -/
def requestMemory (s : State) (stack chan : Nat) : State :=
  match (chanOf s stack chan).mode with
  | .processor => modChan s stack chan fun c => { c with mode := .toMemory, units := c.units.map fun u => (u.1, askYield u.2) }
  | .toProcessor => modChan s stack chan fun c => { c with abandon := true }
  | _ => s

/-- MEMORY_MODE_REQUEST (R174). -/
def execMemoryModeRequest (stack chan : Nat) (s : State) : Host.Outcome State Fault Refusal := .next (requestMemory s stack chan)

/-- Requests that wait in a controller channel's queue (R172), of the cores' access streams: the stamps of their arrivals. -/
def queuedAt (s : State) (n : Nat) : List Nat :=
  s.kiln.tiles.flatMap fun t => (t.acc.reqs.filter fun r => r.got.isNone && r.chan == some n).map (·.since)

/-- EMB_CH_HOLD as the firmware keeps it (R175, R203): 160,000 cycles on channels of DECODE clamps, 32,000 on all others. -/
def chanHold (s : State) (stack chan : Nat) : Nat :=
  if s.clamps.any fun c => c.state != .unconfigured && c.role == 2 && ownsChan c stack chan then 160000 else 32000

/-- Whether the oldest request that waits for a channel has waited EMB_CH_HOLD controller cycles of 0.625 ns (R175). -/
def holdOver (s : State) (stack chan : Nat) : Bool :=
  (queuedAt s (chanNum stack chan)).any fun t => decide (chanHold s stack chan ≤ 16 * (s.now - t))

/-- HOLD_LIMIT_EXPIRY (R175). -/
def execHoldLimitExpiry (stack chan : Nat) (s : State) : Host.Outcome State Fault Refusal :=
  .next (if holdOver s stack chan then requestMemory s stack chan else s)

/-- A unit that starts in bank view, by the hand of the repair firmware (R58, R190): its bank pair is addressed by bank, row and column, and
the fence admits every row of it. -/
def bankUnit (u : EUnit) (entry tag : Nat) : EUnit :=
  let run := fun b : Nat => ({ slot := b, sod := 0, count := 12288, bank := b, row := 0, alternate := false, writable := true } : MapRun)
  let all := fun b : Nat => ({ valid := true, bank := b, firstRow := 0, rows := 12288 } : Fence)
  { startUnit u Handle.null 0 entry tag [run 0, run 1] [all 0, all 1] with part := none, lastCtx := u.lastCtx }

/-- A START that the Stoker writes (R203, R204): refused and counted while the unit is at work, held outside processor mode. -/
def stokerStart (s : State) (stack chan unit entry tag : Nat) : State :=
  let u := unitOf s stack chan unit
  let c := chanOf s stack chan
  if u.state.busy then modChan s stack chan fun c => { c with refusedWrites := satAdd 255 c.refusedWrites 1 }
  else if c.mode = .bankView then setUnit s stack chan unit (bankUnit u entry tag)
  else if c.mode = .processor ∧ !c.trigger then
    match partFor s stack chan unit entry tag with
    | some (cmd, b, p) => startPart s stack chan unit cmd b p entry tag true
    | none => s
  else setUnit s stack chan unit { u with heldStart := some (entry, tag) }

/-- START (R204). -/
def execEmbStart (stack chan unit entry partTag : Nat) (s : State) : Host.Outcome State Fault Refusal :=
  .next (stokerStart s stack chan unit entry partTag)

/-- STOP (R203). -/
def execEmbStop (stack chan unit : Nat) (s : State) : Host.Outcome State Fault Refusal := .next (stopUnit s stack chan unit)

/-- A suspended part goes on, in processor mode and in a period that serves its context (R176). -/
def resumeUnit (s : State) (stack chan unit : Nat) : State :=
  let u := unitOf s stack chan unit
  let c := chanOf s stack chan
  match u.part with
  | some (h, _) =>
    if u.state = .suspended ∧ c.mode = .processor ∧ c.lastCtx = some h.ctx then
      takeChan (setUnit s stack chan unit { u with state := .running, yieldStop := false }) stack chan h.ctx
    else s
  | none => s

/-- RESUME (R176). -/
def execEmbResume (stack chan unit : Nat) (s : State) : Host.Outcome State Fault Refusal := .next (resumeUnit s stack chan unit)

/-- EMB_STATUS_CLEAR (R203). -/
def execEmbStatusClear (stack chan unit : Nat) (s : State) : Host.Outcome State Fault Refusal :=
  let u := unitOf s stack chan unit
  .next (if u.ended then
    setUnit s stack chan unit (if u.state.busy then { u with ended := false } else { u with ended := false, state := .idle, cause := 0 })
  else s)

/-- Held STARTs begin, unit by unit (R204). -/
def releaseHeld (s : State) (stack chan : Nat) : State :=
  (chanOf s stack chan).units.foldl (fun s e =>
    match e.2.heldStart with
    | some (entry, tag) =>
      stokerStart (setUnit s stack chan e.1 { (unitOf s stack chan e.1) with heldStart := none }) stack chan e.1 entry tag
    | none => s) s

/-- PROCESSOR_MODE_ENTERED (R173, R178): a refresh in progress ends first; with its work gone, the channel at once switches back. -/
def execProcessorModeEntered (stack chan : Nat) (s : State) : Host.Outcome State Fault Refusal :=
  let c := chanOf s stack chan
  .next (if c.mode = .toProcessor ∧ !c.refreshing then
    let s := gather (modChan s stack chan fun c => { c with switches := (c.switches + 1) % 2 ^ 32 }) 0x2001 1
    if c.abandon ∨ !chanWork s stack chan then modChan s stack chan fun c => { c with mode := .toMemory, abandon := false }
    else releaseHeld (modChan s stack chan fun c => { c with mode := .processor }) stack chan
  else s)

/-- The time of a channel at work charged to the context it served (R87). -/
def chargeChan (s : State) (stack chan : Nat) : State :=
  match tget? s.kiln.chans (chanNum stack chan) with
  | some e =>
    let s := charge s e.ctx .channel e.since
    { s with kiln := { s.kiln with chans := tdel s.kiln.chans (chanNum stack chan) } }
  | none => s

/-- MEMORY_MODE_ENTERED (R174): once no unit runs or pauses, and no refresh is in progress. -/
def execMemoryModeEntered (stack chan : Nat) (s : State) : Host.Outcome State Fault Refusal :=
  let c := chanOf s stack chan
  let runs := c.units.any fun u => u.2.state == .running || u.2.state == .refreshPause
  .next (if c.mode = .toMemory ∧ !runs ∧ !c.refreshing then
    chargeChan (gather (modChan (noteActive s (4 + stack)) stack chan fun c => { c with mode := .memory, switches := (c.switches + 1) % 2 ^ 32 }) 0x2001 1) stack chan
  else s)

/-! ## Refresh (R191-R195) -/

/-- The base-die sensor of a stack reads above 85 °C (R192). -/
def stackHot (s : State) (stack : Nat) : Bool := decide (680 < (at? s.pwr.sensors (4 + stack) {}).temp)

/-- Running units pause at their next boundary (R194). -/
def pauseUnit (u : EUnit) : EUnit :=
  if u.state = .running then { u with state := .refreshPause, pauses := satAdd 65535 u.pauses 1 } else u

/-- REFRESH_DUE: below a debt of 8 the refresh is postponed; at 8 one is made at once, in processor mode with every unit paused. The timer
of a stack in Smoulder stands (R196). -/
def execRefreshDue (stack chan : Nat) (s : State) : Host.Outcome State Fault Refusal :=
  let c := chanOf s stack chan
  .next (if c.mode = .offline ∨ c.refreshing ∨ smoulders s stack then s
  else if c.debt < 8 then modChan s stack chan fun c => { c with debt := c.debt + 1, hot := stackHot s stack }
  else
    let forced := (c.mode == .processor || c.mode == .toMemory) && c.units.any fun u => u.2.state == .running
    modChan (gather s 0x2002 (b2n forced)) stack chan fun c => { c with
      refreshing := true, hot := stackHot s stack
      forcedPauses := if forced then satAdd 4095 c.forcedPauses 1 else c.forcedPauses
      units := if forced then c.units.map fun u => (u.1, pauseUnit u.2) else c.units })

/-- REFRESH_COMPLETE: the refresh that a debt of 8 forced pays for the one that fell due; one made of the controller's or sequencer's own
accord, when no unit runs, lowers the debt. -/
def execRefreshComplete (stack chan : Nat) (s : State) : Host.Outcome State Fault Refusal :=
  let c := chanOf s stack chan
  let runs := c.units.any fun u => u.2.state == .running
  .next (if c.refreshing then
    modChan s stack chan fun c => { c with
      refreshing := false
      units := c.units.map fun u => (u.1, if u.2.state = .refreshPause then { u.2 with state := .running } else u.2) }
  else if c.mode ≠ .offline ∧ !runs then modChan s stack chan fun c => { c with debt := c.debt - 1 }
  else s)

/-! ## Reseal (R184, R185) -/

/-- The sod that lies at a place. -/
def sodAt (s : State) (l : Loc) : Option (Handle × Nat) :=
  s.store.tensors.findSome? fun t => (t.sods.find? fun e => e.2.loc == some l).map fun e => (t.handle, e.1)

/-- Whether an uncommitted command holds a shadow of a sod, or a shadow lies at the place (R54, R184). -/
def shadowed (s : State) (t : Handle) (k : Nat) : Bool := s.cmds.any fun c => (shadowOf c.shadows t k).isSome

/-- ROW_RESEAL: in memory mode, for an open row that no uncommitted command writes; a tag mismatch makes the sod ash. -/
def execRowReseal (stack chan bank row : Nat) (err : MemErr) (s : State) : Host.Outcome State Fault Refusal :=
  let l := Loc.bank stack chan bank row
  let busy := s.cmds.any (fun x => x.shadows.any fun sh => sh.loc == some l)
    || match sodAt s l with | some (t, k) => shadowed s t k | none => false
  .next (if chanReady s (chanNum stack chan) ∧ servesClass s .bulk (chanNum stack chan) ∧ rowIsOpen s stack chan bank row ∧ !busy then
    let s := serveBursts s .bulk 256 (chanNum stack chan)
    let s := match sodAt s l with
      | some (t, k) =>
        let bad := anyFlip err || ((tensorAny s t).bind fun x => tget? x.sods k).any tagFails
        let s := countTraffic s (((tensorAny s t).map (·.clamp)).getD 8) .bulk 8192
        if bad then settled (makeAsh s t k) else s
      | none => s
    modChan s stack chan fun c => { c with openRows := c.openRows.filter fun r => r != (bank, row) }
  else s)

/-! ## Trigger-window accesses (R199-R203) -/

abbrev winVreg : Nat := 0
abbrev winBbuf : Nat := 1
abbrev winUstore : Nat := 2
abbrev winArg : Nat := 3
abbrev winCmd : Nat := 4
abbrev winWait : Nat := 5

/-- The code of a unit's state. -/
def UnitState.code : UnitState → Nat
  | .idle => 0
  | .running => 1
  | .refreshPause => 2
  | .suspended => 3
  | .done => 4
  | .fault => 5
  | .stopped => 6

/-- EMB_STATUS (R203): the cause is that of a FAULT. -/
def statusWord (u : EUnit) : Nat :=
  u.state.code + 8 * b2n u.ended + 16 * (if u.state = .fault then u.cause else 0) + 2 ^ 8 * (u.entry % 256) + 2 ^ 16 * (u.partTag % 65536)
    + 2 ^ 32 * u.pauses

/-- EMB_STATUS as a read returns it. -/
def statusBytes (u : EUnit) : List Byte := natLE 8 (statusWord u) ++ zeros 24

/-- What an access through the window meets: a fault of the command, a wait, or the state afterwards with the bytes read. -/
inductive Window where
  | fault
  | wait
  | ok (s : State) (bytes : List Byte)

/-- A write of EMB_CMD through the window (R203). -/
def windowCmd (s : State) (stack chan unit : Nat) (c : Cmd) (b : InbankBlock) (p w : Nat) : Window :=
  let busy := (unitOf s stack chan unit).state.busy
  match bits w 9 8 with
  | 0 => .ok s []
  | 1 => if busy then .fault else .ok (startPart s stack chan unit c b p (bits w 7 0) (bits w 31 16) false) []
  | 2 => .ok (haltUnit EUnit.stopped s stack chan unit) []
  | _ => .ok (resumeUnit s stack chan unit) []

/-- What an access of one burst does at a unit that is its context's to use: the part, operation, index, the bytes of a write. The broadcast
buffer does not change while a part runs on the channel (R212, log entry 150). -/
def unitAccess (s : State) (c : Cmd) (b : InbankBlock) (p st ch un op index : Nat) (write : Option (List Byte)) : Window :=
  let x := chanOf s st ch
  let u := unitOf s st ch un
  match op, write with
  | 0, some w => if 15 < index ∨ u.state.busy then .fault else .ok (setUnit s st ch un { u with vregs := wrBytes u.vregs (32 * index) (slice w 0 32) }) []
  | 0, none => if 15 < index then .fault else .ok s (rdBytes u.vregs (32 * index) 32)
  | 1, some w =>
    .ok (if x.anyBusy then s else modChan s st ch fun x => { x with bbuf := wrBytes x.bbuf (32 * (index % 128)) (slice w 0 32) }) []
  | 1, none => .ok s (rdBytes x.bbuf (32 * (index % 128)) 32)
  | 2, some w =>
    if 63 < index ∨ u.state.busy then .fault
    else .ok (setUnit s st ch un { u with
      store := (List.range 4).foldl (fun l i => l.set (4 * index + i) (BitVec.ofNat 64 (u64 w (8 * i)))) u.store }) []
  | 2, none =>
    if 63 < index then .fault else .ok s ((List.range 4).flatMap fun i => natLE 8 (at? u.store (4 * index + i) 0).toNat)
  | 3, some w =>
    if 3 < index ∨ u.state.busy ∨ leNat (slice w 8 24) ≠ 0 then .fault
    else .ok (setUnit s st ch un { u with args := u.args.set index (BitVec.ofNat 64 (u64 w 0)) }) []
  | 3, none => if 3 < index then .fault else .ok s (natLE 8 (at? u.args index 0).toNat ++ zeros 24)
  | 4, some w => if leNat (slice w 8 24) ≠ 0 then .fault else windowCmd s st ch un c b p (u64 w 0)
  | 4, none => .ok s (statusBytes u)
  | 5, none => if u.state.busy then .wait else .ok s (statusBytes u)
  | _, _ => .fault

/-- The part of the current wave that an access names, and its unit. BBUF ignores the unit field (R200, R213). -/
def windowUnit (s : State) (c : Cmd) (b : InbankBlock) (part op : Nat) : Option (Nat × Nat × Nat × Nat) :=
  ((currentWave s c b)[if op = 1 then part / 16 * 16 else part]?).bind fun p => (partUnit s c b p).map fun u => (p, u)

/-- One access of one burst (R199-R202): in processor mode with method address-trigger, once the channel is the context's to use; another
context's state is zeroed before it (R177). -/
def windowAccess (s : State) (c : Cmd) (b : InbankBlock) (part op index : Nat) (write : Option (List Byte)) : Window :=
  match windowUnit s c b part op with
  | none => .fault
  | some (p, st, ch, un) =>
    let x := chanOf s st ch
    if !(x.mode = .processor ∧ x.trigger) then .fault
    else if !chanServes s st ch c.handle.ctx then .wait
    else unitAccess (claimUnit s st ch un c.handle.ctx) c b p st ch un op index write

/-- The part, operation and index of a window offset; none when a bit that must be zero is set (R199). -/
def windowFields (off : Nat) : Option (Nat × Nat × Nat) :=
  if off % 32 ≠ 0 ∨ 2 ^ 25 ≤ off then none else some (16 * bits off 24 20 + bits off 8 5, bits off 12 9, bits off 19 13)

/-- The offset of a part, operation and index. -/
def windowOffset (part op index : Nat) : Nat := (part / 16) * 2 ^ 20 + (part % 16) * 2 ^ 5 + op * 2 ^ 9 + index * 2 ^ 13

/-- The access of one burst at a window offset. -/
def windowBurst (s : State) (c : Cmd) (b : InbankBlock) (off : Nat) (write : Option (List Byte)) : Window :=
  match windowFields off with
  | none => .fault
  | some (part, op, index) => windowAccess s c b part op index write

/-- The unit at which a read of a window offset waits, if it is a WAIT (R201). -/
def waitUnit (s : State) (c : Cmd) (b : InbankBlock) (off : Nat) : Option (Nat × Nat × Nat) :=
  match windowFields off with
  | some (part, 5, _) => (windowUnit s c b part 5).map fun x => x.2
  | _ => none

end Sys2Proof.Machine
end

