-- ==== Sys2Proof/Machine/Clock.lean ====
section
/-!
DEFINITION. The module time counter (R8, R399), and what lasts from count to count: the activity that keeps a unit out of Smoulder (R434).
-/
namespace Sys2Proof.Machine

open Sys2Proof

/-- Whether the counter counts: it needs REFCLK edges and fundamental reset released (R8, R391, R392, R428). -/
def counting (s : State) : Bool := !s.rst.perst && !s.rst.refHeld && s.rst.refGood && !s.pwr.quench

/-- A unit of PWR_SMOULDER by its bit (R434, R435). -/
def smoulderUnit (i : Nat) : SmoulderUnit := if i < 4 then .kiln i else if i < 16 then .exrad (i - 4) else .bog (i - 16)

/-- The conditions of R434: a stack's channels in memory mode with empty queues; no request for a package; a die with no tile, no busy Slane
channel and no landed data, its stacks and packages in Smoulder. -/
def smoulderReady (s : State) : SmoulderUnit → Bool
  | .exrad st => (List.range 32).all fun ch =>
      ((chanOf s st ch).mode == .memory || (chanOf s st ch).mode == .offline) && (queuedAt s (chanNum st ch)).isEmpty
  | .bog p => (List.range 4).all fun i => (queuedAt s (384 + 4 * p + i)).isEmpty
  | .kiln d =>
    !s.kiln.tiles.any (fun t => t.die == d) && !s.kiln.slane.any (fun e => e.1 / 32 == d && !(cmdOf s e.2.cmd).any (·.done)) && !s.flue.landed.any (fun l => l.die == d)
      && ((List.range 3).all fun i => s.pwr.smoulderIn.getLsbD (4 + 3 * d + i))
      && (List.range 4).all fun i => s.pwr.smoulderIn.getLsbD (16 + 4 * d + i)

/-- Every unit whose conditions do not hold is active at this count (R434). -/
def noteUnits (s : State) : State :=
  { s with pwr := { s.pwr with
    activeAt := s.pwr.activeAt.zipIdx.map fun x => if smoulderReady s (smoulderUnit x.2) then x.1 else s.now } }

/-- One edge of the 100 MHz reference (R399). -/
def tick (s : State) : State := if counting s then { noteUnits s with now := s.now + 1 } else s

end Sys2Proof.Machine
end

