-- ==== Sys2Proof/Machine/FlueOps.lean ====
section
/-!
DEFINITION. The receiving side's tokens and landing room (R82, R377), shared by Kiln LOADs of a kind-2 binding and FLUE_RECEIVE.
-/
namespace Sys2Proof.Machine

open Sys2Proof

/-- The home die of the port of a pair (R377). -/
def pairDie (s : State) (m : Nat) : Nat := ((pairOf s m).map fun p => portDie p.port).getD 0

/-- Bytes of a die's landing buffer that a clamp holds: landed sods and reservations of tokens. -/
def landingUsed (s : State) (die k : Nat) : Nat :=
  4096 * (s.flue.landed.filter fun d => d.die == die && clampNum s d.ctx == k).length
    + sumN ((s.flue.tokens.filter fun t => t.die == die && clampNum s t.ctx == k).map (·.len))

/-- Whether a range of a transfer has a token outstanding. -/
def tokenOut (s : State) (ctx src tag off : Nat) : Bool :=
  s.flue.tokens.any fun t => t.ctx == ctx && t.src == src && t.tag == tag && decide (t.off ≤ off ∧ off < t.off + t.len)

/-- Whether a sod of a transfer has landed. -/
def hasLanded (s : State) (ctx src tag off : Nat) : Bool :=
  s.flue.landed.any fun d => d.ctx == ctx && d.src == src && d.tag == tag && d.off == off

/-- Tokens outstanding at the port of a partner's pair: its transactions under R20 (R377). -/
def portTokens (s : State) (src : Nat) : Nat :=
  let port := fun m => (pairOf s m).map (·.port)
  (s.flue.tokens.filter fun t => port t.src == port src).length

/-- A ready-token for one sod-aligned range, when the landing room can be reserved, the port is below its limit of 4,096 transactions (R20) and
no token covers the range (R377). -/
def issueToken (s : State) (ctx src tag off len : Nat) : State :=
  let die := pairDie s src
  let k := clampNum s ctx
  let up := match pairOf s src with | some p => p.up | none => false
  if up && !tokenOut s ctx src tag off && decide (landingUsed s die k + len ≤ (clampOf s k).landingShare * 1048576 ∧ portTokens s src < 4096) then
    let s := { s with flue := { s.flue with
      tokens := s.flue.tokens ++ [{ die := die, ctx := ctx, src := src, tag := tag, off := off, len := len }] } }
    sendMsg s src mkReady { dst := src, src := 0, sctx := ctx, tag := tag, off := off, body := natLE 8 len }
  else s

/-- Tokens for the sods of a run of bytes that have neither landed nor been asked for. -/
def issueTokens (s : State) (ctx src tag off len : Nat) : State :=
  (sodsOf 0 off len).foldl (fun s k => if hasLanded s ctx src tag (4096 * k) then s else issueToken s ctx src tag (4096 * k) 4096) s

end Sys2Proof.Machine
end

