-- ==== Sys2Proof/Machine/KilnDecode.lean ====
section
/-!
DEFINITION. The encodings of a Kiln program: the image header (R517), access-stream entries (R137, R138) and execute-stream
instructions (R144).
-/
namespace Sys2Proof.Machine

open Sys2Proof

/-- An access-stream entry's fields (R137). A level is its count field and its signed stride (R138). -/
structure Entry where
  opcode : Nat
  queue : Nat
  levels : Nat
  eos : Bool
  slot : Nat
  plane : Bool
  viaSlane : Bool
  shift : Nat
  tag : Nat
  run : Nat
  base : Nat
  countSrc : Nat
  value : Nat
  nest : List (Nat × Int)
deriving DecidableEq, Repr, Inhabited

/-- An entry from its 64 bytes. -/
def decodeEntry (b : List Byte) : Entry :=
  let h := leNat (slice b 0 16)
  { opcode := bits h 7 0, queue := bits h 11 8, levels := bits h 14 12, eos := bit h 15, slot := bits h 21 16
    plane := bit h 22, viaSlane := bit h 23, shift := bits h 27 24, tag := bits h 47 32, run := bits h 60 48
    base := bits h 111 64, countSrc := bits h 117 112, value := bits h 63 32
    nest := (List.range 6).map fun l => let x := u64 b (16 + 8 * l); (bits x 31 0, signed 32 (bits x 63 32)) }

/-- An execute-stream instruction's fields (R144). `imm` is the immediate of SET, DELAY and TAG. -/
structure ExecInstr where
  opcode : Nat
  mode : Nat
  dst : Nat
  srcA : Nat
  srcB : Nat
  imm : Nat
deriving DecidableEq, Repr, Inhabited

/-- An instruction from its 8 bytes. -/
def decodeExec (b : List Byte) : ExecInstr :=
  let x := leNat (slice b 0 8)
  { opcode := bits x 7 0, mode := bits x 12 8, dst := bits x 29 13, srcA := bits x 46 30, srcB := bits x 63 47
    imm := bits x 63 13 }

/-- The image sizes A and X of a program's first bytes (R517). -/
def imageSizes (b : List Byte) : Nat × Nat := (u32 b 0, u32 b 4)

/-- Byte offset of access-stream entry `i`. -/
def entryOffset (i : Nat) : Nat := 64 + 64 * i

/-- Byte offset of execute-stream instruction `i` of a program with `a` entries. -/
def instrOffset (a i : Nat) : Nat := 64 + 64 * a + 8 * i

/-- Whether an opcode of the execute stream and its mode are listed (R145). -/
def execListed (x : ExecInstr) : Bool :=
  match x.opcode with
  | 0x22 => true
  | 0x26 => decide (x.mode ≤ 3)
  | 0x28 => decide (x.mode ≤ 8)
  | 0x2D => decide (x.mode ≤ 1)
  | 0x02 => decide (x.mode ≤ 12 ∨ 16 ≤ x.mode)
  | op => [0x01, 0x03, 0x04, 0x05, 0x06, 0x10, 0x11, 0x12, 0x20, 0x21, 0x23, 0x24, 0x25, 0x27, 0x29, 0x2B, 0x2C, 0x2E, 0x2F,
      0x30, 0x31].contains op

end Sys2Proof.Machine
end

