-- ==== Sys2Proof/Machine/KilnOps.lean ====
section
/-!
DEFINITION. The core and its tile (05_kiln_cores): the scratchpad's areas (R132, R133), fetch through the snapshot (R517), retirement and
breakpoints (R162), faults (R164), reading and writing the work area without interlocks (R155, R156), units (R157), setup registers
(R146), parked tiles (R81).
-/
namespace Sys2Proof.Machine

open Sys2Proof

/-! ## The tile and its command -/

/-- Scratchpad KiB of a core (ID_SIZE_CORE). -/
abbrev scratchKib : Nat := 6144

/-- W, the first line above the work area (R132). -/
def workLines (l : Launch) : Nat := 16 * (scratchKib - l.holdKib - sumN l.queueKib)

/-- Bytes of load queue `q`. -/
def loadQBytes (l : Launch) (q : Nat) : Nat := 1024 * at? l.queueKib q 0

/-- Bytes of store queue `q`. -/
def storeQBytes (l : Launch) (q : Nat) : Nat := 1024 * at? l.queueKib (8 + q) 0

/-- A tile with its command and launch block, when the tile can issue: it is neither halted (R163) nor in tile commit, and its command
is in its run phase. -/
def issuing (s : State) (die core : Nat) : Option (Tile × Cmd × Launch) :=
  match tileOn s die core with
  | none => none
  | some t =>
    if t.halted ∨ t.committing then none
    else match cmdOf s t.cmd with
      | none => none
      | some c =>
        match launchOf c with
        | some l => if c.phase = .run then some (t, c, l) else none
        | none => none

/-! ## Faults of a core (R164, R475) -/

/-- Detail bytes of engines 1 to 3 up to the retire count. -/
def coreDetail (t : Tile) (retired : Nat) : List Byte :=
  natLE 1 (t.core + 64 * t.die) ++ natLE 3 t.index ++ natLE 4 retired

/-- The command of a tile ends FAULTED, an access-stream diagnostic naming a binding slot and an offset. -/
def accFault (s : State) (t : Tile) (cause slot : Nat) (off : Nat) : State :=
  finish s t.cmd stFaulted (some { engine := 1, cause := cause, detail := coreDetail t t.acc.retired ++ natLE 1 slot ++ natLE 5 off })

/-- The command of a tile ends FAULTED, an execute-stream diagnostic naming the position. -/
def exeFault (s : State) (t : Tile) (cause : Nat) : State :=
  finish s t.cmd stFaulted (some { engine := 2, cause := cause, detail := coreDetail t t.exe.retired ++ natLE 6 t.exe.pos })

/-! ## Fetch (R517) -/

/-- What a stream fetches next: something, nothing because its image has ended, a bad sod of the program, an image that leaves the
program's array, or a sod on a resource that is not the clamp's (R47). -/
inductive Fetched (α : Type) where
  | got (x : α)
  | past
  | bad
  | outside
  | foreign

/-- Bytes of a program image at an offset, through the snapshot: the bounds, the sods that hold them and their places checked first. -/
def fetchBytes (s : State) (c : Cmd) (l : Launch) (off n : Nat) : Fetched (List Byte) :=
  let view := viewOf s c l.program
  match tensorAny s l.program with
  | none => .bad
  | some t =>
    if t.bytes < off + n then .outside
    else if (firstUnread c l.program view (sodsOf 0 off n)).isSome then .bad
    else if (sodsOf 0 off n).all fun k => ownedLoc s t.clamp (sodIn view k).loc then .got (readView view 0 off n)
    else .foreign

/-- The image sizes A and X through the snapshot. -/
def fetchSizes (s : State) (c : Cmd) (l : Launch) : Fetched (Nat × Nat) :=
  match fetchBytes s c l 0 8 with
  | .got b => .got (imageSizes b)
  | .past => .past
  | .bad => .bad
  | .outside => .outside
  | .foreign => .foreign

/-- Access-stream entry `i`. -/
def fetchEntry (s : State) (c : Cmd) (l : Launch) (i : Nat) : Fetched Entry :=
  match fetchSizes s c l with
  | .got (a, _) =>
    if a ≤ i then .past
    else match fetchBytes s c l (entryOffset i) 64 with
      | .got b => .got (decodeEntry b)
      | .past => .past
      | .bad => .bad
      | .outside => .outside
      | .foreign => .foreign
  | .past => .past
  | .bad => .bad
  | .outside => .outside
  | .foreign => .foreign

/-- Execute-stream instruction `i`. -/
def fetchInstr (s : State) (c : Cmd) (l : Launch) (i : Nat) : Fetched ExecInstr :=
  match fetchSizes s c l with
  | .got (a, x) =>
    if x ≤ i then .past
    else match fetchBytes s c l (instrOffset a i) 8 with
      | .got b => .got (decodeExec b)
      | .past => .past
      | .bad => .bad
      | .outside => .outside
      | .foreign => .foreign
  | .past => .past
  | .bad => .bad
  | .outside => .outside
  | .foreign => .foreign

/-- The command meets a program sod that cannot be used: the sod becomes ash and the command ends FETCH_ERROR (R164). The diagnostic of an
access stream names no binding slot, and the offset in the program (log entry 144). -/
def fetchError (s : State) (t : Tile) (c : Cmd) (l : Launch) (engine : Nat) (off n : Nat) : State :=
  let view := viewOf s c l.program
  let k := (firstUnread c l.program view (sodsOf 0 0 8 ++ sodsOf 0 off n)).getD 0
  finish (spoilSod s view l.program k) t.cmd stFetchError
    (some { engine := engine, cause := 12
            detail := if engine = 1 then coreDetail t t.acc.retired ++ natLE 1 0xFF ++ natLE 5 off
              else coreDetail t t.exe.retired ++ natLE 6 t.exe.pos })

/-- A fetch from a resource that is not the clamp's (R48): the command ends FAULTED, and INTERNAL is raised. -/
def fetchForeign (s : State) (t : Tile) (engine off : Nat) : State :=
  let s := internalEvent s (some (clampNum s t.cmd.ctx)) 5
  if engine = 1 then accFault s t 3 0xFF off else exeFault s t 3

/-! ## Retirement and breakpoints (R162, R163) -/

/-- Whether a breakpoint matches a retirement. -/
def Break.hits (b : Break) (exec : Bool) (tile retired : Nat) (tag : Option Nat) : Bool :=
  b.execStream == exec && (b.tile == none || b.tile == some tile)
    && (if b.onTag then tag == some b.value else b.value == retired)

/-- The BREAK event of a tile (R163, R474): command, tile, core, stream and both retire counts. -/
def breakEvent (s : State) (t : Tile) (exec : Bool) : State :=
  raise s (184 + clampNum s t.cmd.ctx) 0x12
    (natLE 3 t.cmd.slot ++ natLE 3 t.index ++ natLE 1 (t.core + 64 * t.die) ++ natLE 1 (b2n exec)
      ++ natLE 4 t.acc.retired ++ natLE 4 t.exe.retired) (some t.cmd.ctx)

/-- A retirement of a stream of a tile, already counted in the tile: breakpoints fire and steps run out. -/
def retired (s : State) (t : Tile) (exec : Bool) (tag : Option Nat) : State :=
  let n := if exec then t.exe.retired else t.acc.retired
  let breaks := ((ctxOf s t.cmd.ctx).map (·.breaks)).getD []
  let fires := breaks.any fun b => match b with | some x => x.hits exec t.index n tag | none => false
  let disarm : Option Break → Option Break := fun b =>
    match b with
    | some x => if x.oneShot && x.hits exec t.index n tag then none else some x
    | none => none
  let step : Option (Bool × Nat) := match t.stepLeft with
    | some (e, k) => if e = exec then (if k ≤ 1 then none else some (e, k - 1)) else some (e, k)
    | none => none
  let ended := t.stepLeft.isSome && step.isNone
  let s := modTile s t.die t.core fun _ => { t with stepLeft := if fires then none else step, halted := fires || ended }
  if fires then
    breakEvent (modCtx s t.cmd.ctx fun c => { c with breaks := c.breaks.map disarm }) t exec
  else s

/-! ## The work area without interlocks (R155, R156) -/

/-- 64-byte lines that `n` bytes take. -/
def linesOf (n : Nat) : Nat := ceilDiv n 64

/-- The write in flight over a line, if any. -/
def flightOver (t : Tile) (line : Nat) : Option Flight :=
  t.flights.find? fun f => f.line ≤ line && line < f.line + f.old.length / 64 && t.exe.cycle < f.ready

/-- One line as an instruction issued now reads it: a line whose result is still in flight reads its old or its new value, by free
choice `k` (R156). -/
def lineNow (t : Tile) (k line : Nat) : List Byte :=
  match flightOver t line with
  | some f =>
    if Config.freeBool k then rdBytes t.pad (64 * line) 64 else slice f.old (64 * (line - f.line)) 64
  | none => rdBytes t.pad (64 * line) 64

/-- `n` bytes from a line, with free choices from `k` on. -/
def readPad (t : Tile) (k line n : Nat) : List Byte :=
  ((List.range (linesOf n)).flatMap fun i => lineNow t (k + i) (line + i)).take n

/-- Whether any of a run of lines is in flight. -/
def anyFlight (t : Tile) (line n : Nat) : Bool := (List.range (linesOf n)).any fun i => (flightOver t (line + i)).isSome

/-- `n` free bytes from index `k`. -/
def freeBytes (k n : Nat) : List Byte := (List.range n).map fun i => Config.freeByte (k + i)

/-- The last `bytes` bytes of a store queue made free. -/
def spoilQueue (k bytes : Nat) (q : List Byte) : List Byte :=
  q.take (q.length - bytes) ++ freeBytes k (q.length - (q.length - bytes))

/-- What a reader's destination holds after its source was overwritten too early (R156): values that nothing constrains. -/
def spoil (t : Tile) (k : Nat) : ReadDst → Tile
  | .lines first count => { t with pad := wrBytes t.pad (64 * first) (freeBytes k (64 * count)) }
  | .buffer n => { t with stat := t.stat.modify n fun b => b.map fun x =>
      { x with data := freeBytes k x.data.length, scales := freeBytes (k + x.data.length) x.scales.length } }
  | .queue n bytes => { t with storeQ := t.storeQ.modify n (spoilQueue k bytes) }

/-- Readers of R155 that still read a line of a run. -/
def lateReaders (t : Tile) (line count : Nat) : List Reader :=
  t.readers.filter fun r => decide (t.exe.cycle < r.until_ ∧ r.line < line + count ∧ line < r.line + r.count)

/-- Bytes of free values that spoiling can take. -/
def ReadDst.size : ReadDst → Nat
  | .lines _ count => 64 * count
  | .buffer _ => 65536
  | .queue _ bytes => bytes

/-- A result written from a line on: earlier readers spoiled, the new bytes in place, the write in flight until a cycle. Answers the
tile and the next free index. -/
def writePad (t : Tile) (k line ready : Nat) (bs : List Byte) : Tile × Nat :=
  let (t, k) := (lateReaders t line (linesOf bs.length)).foldl
    (fun (t, k) r => (spoil t k r.dst, k + r.dst.size)) (t, k)
  let old := rdBytes t.pad (64 * line) (64 * linesOf bs.length)
  ({ t with pad := wrBytes t.pad (64 * line) bs, flights := { line := line, ready := ready, old := old } :: t.flights }, k)

/-- Flights and readers that are over are forgotten. -/
def prune (t : Tile) : Tile :=
  { t with
    flights := t.flights.filter fun f => decide (t.exe.cycle < f.ready)
    readers := t.readers.filter fun r => decide (t.exe.cycle < r.until_) }

/-! ## Units (R134, R157) -/

abbrev unitLoader : Nat := 0
abbrev unitArray : Nat := 1
abbrev unitVector : Nat := 2
abbrev unitPop : Nat := 3
abbrev unitPush : Nat := 4

/-- Whether a use of a unit that began at a counted cycle is still in its occupancy (R157). A wait since then, or of the instruction itself,
lengthens the gap by an unknown time, and then the choice is free (R151, R156). -/
def stillBusy (t : Tile) (k : Nat) (waits : Bool) (use : Nat × Nat) : Bool :=
  decide (t.exe.cycle < use.2) &&
    (!(waits || match t.waitAt with | some w => decide (use.1 < w) | none => false) || Config.freeBool k)

/-! ## Setup registers (R146, R519) -/

/-- A setup register. -/
def reg (t : Tile) (i : Nat) : Nat := at? t.exe.regs i 0

def rVLEN (t : Tile) : Nat := bits (reg t 0) 15 0
def rMROWS (t : Tile) : Nat := bits (reg t 1) 9 0
def rKIDX (t : Tile) : Nat := bits (reg t 2) 23 0
def rKLEN (t : Tile) : Nat := bits (reg t 3) 7 0
def rPSTR (t : Tile) : Nat := bits (reg t 4) 16 0
def rFMT (t : Tile) : Nat := bits (reg t 5) 29 0
def rSEED (t : Tile) : Nat := bits (reg t 6) 31 0 + 2 ^ 32 * bits (reg t 7) 31 0
def rLAYOUT (t : Tile) : Nat := bits (reg t 8) 8 0
def rQSHAPE (t : Tile) : Nat := bits (reg t 9) 31 0
def rIDXBASE (t : Tile) : Nat := bits (reg t 10) 47 0
def rIDXROW (t : Tile) : Nat := bits (reg t 11) 47 0
def rIDXCOL (t : Tile) : Nat := bits (reg t 12) 47 0

/-- The formats of FMT. -/
def fStat (t : Tile) : Nat := bits (rFMT t) 7 0
def fStream (t : Tile) : Nat := bits (rFMT t) 15 8
def fOut (t : Tile) : Nat := bits (rFMT t) 23 16
def fStoch (t : Tile) : Bool := bit (rFMT t) 24
def fKinc (t : Tile) : Bool := bit (rFMT t) 25
def fOperand (t : Tile) : Nat := bits (rFMT t) 29 26

/-! ## Landed data (R74, R82) and parking (R81) -/

/-- The landed sod of a transfer at an offset. -/
def landedAt (s : State) (ctx src tag off : Nat) : Option Landed :=
  s.flue.landed.find? fun d => d.ctx == ctx && d.src == src && d.tag == tag && d.off == off

/-- Bytes [off, off + len) of a transfer, when every sod that holds them has landed. -/
def landedBytes (s : State) (ctx src tag off len : Nat) : Option (List Byte) :=
  if (sodsOf 0 off len).all fun k => (landedAt s ctx src tag (4096 * k)).isSome then
    some ((List.range' off len).map fun i =>
      match landedAt s ctx src tag (4096 * (i / 4096)) with
      | some d => rdByte d.bytes (i % 4096)
      | none => 0)
  else none

/-- A binding slot of a launch. -/
def slotAt (l : Launch) (i : Nat) : Binding := at? l.bindings i {}

/-- The sods of a transfer that a tile's requests still wait for. -/
def missingSods (s : State) (t : Tile) (src tag : Nat) : List Nat :=
  match (cmdOf s t.cmd).bind launchOf with
  | some l =>
    (((t.acc.reqs.filter fun r => let b := slotAt l r.slot; b.kind == 2 && b.src == src && b.tag == tag && r.got.isNone).flatMap
      fun r => sodsOf 0 r.off r.len).eraseDups).filter fun k => !hasLanded s t.cmd.ctx src tag (4096 * k)
  | none => []

/-- The sender of a parked tile's data asked for what has neither landed nor been asked for, as far as the landing room allows (R81, R377). -/
def askParked (s : State) (p : Parked) : State :=
  p.need.foldl (fun s k => if hasLanded s p.cmd.ctx p.src p.tag (4096 * k) then s else issueToken s p.cmd.ctx p.src p.tag (4096 * k) 4096) s

/-- A tile killed because its next step needs Flue data that has not landed: its tokens are withdrawn, it waits for its tag, and the
sender is asked again for the same ranges (R81; when it is asked is the module's choice, log entry 41). -/
def parkTile (s : State) (t : Tile) (src tag : Nat) : State :=
  let p : Parked := { cmd := t.cmd, index := t.index, src := src, tag := tag, need := missingSods s t src tag
                      die := t.die, core := if t.fromDie = t.die then t.fromCore else t.core }
  let s := withdrawTokens (killTile false s t) t.cmd.ctx src tag
  askParked { s with kiln := { s.kiln with parked := s.kiln.parked ++ [p] } } p

/-- Whether a parked tile may return for a tag: what it waits for has landed, or its sender has answered otherwise (R81). -/
def Parked.returns (s : State) (ctx src tag : Nat) (answered : Bool) (p : Parked) : Bool :=
  p.cmd.ctx == ctx && p.src == src && p.tag == tag && (answered || p.need.all fun k => hasLanded s ctx src tag (4096 * k))

/-- Parked tiles that may return go to the front of their command's deque on the die where they were killed (R76, R81). -/
def unpark (s : State) (ctx src tag : Nat) (answered : Bool) : State :=
  { s with kiln := { s.kiln with
      parked := s.kiln.parked.filter fun p => !p.returns s ctx src tag answered
      deques := (s.kiln.parked.filter (Parked.returns s ctx src tag answered)).foldl
        (fun l p => pushFront l p.cmd p.die p.core p.index) s.kiln.deques } }

end Sys2Proof.Machine
end

