-- ==== Sys2Proof/Machine/KilnExec.lean ====
section
/-!
DEFINITION. The execute stream (R144-R157, R519, R520): control instructions, the tensor array, the vector unit, pops and pushes. Each
instruction is a body over the tile that issues it; one operation fetches, runs the body and retires.
-/
namespace Sys2Proof.Machine

open Sys2Proof

/-- What an instruction does when it comes to issue: it waits, its command faults with a cause, its tile parks for a transfer, or it
is done: the tile afterwards, the next position, the cycles counted, the next free index, and a tag that its retirement sets. -/
inductive Issue where
  | wait
  | fault (cause : Nat)
  | park (src tag : Nat)
  | done (t : Tile) (next cycles k : Nat) (tag : Option Nat)

/-- Position and loops after an instruction whose successor is `p` (R147). DESIGN CHOICE (log entry 143): a skip of `BEOS`, or of a `LOOP`
with a zero count, that leads past the end of an open body ends that body's pass. -/
def nextPos : List LoopLevel → Nat → Nat × List LoopLevel
  | [], p => (p, [])
  | l :: r, p =>
    if p < l.last then (p, l :: r)
    else if 1 < l.left then (l.first, { l with left := l.left - 1 } :: r)
    else nextPos r p

/-- A tile whose instruction has retired. -/
def advance (t : Tile) (next cycles : Nat) : Tile :=
  let (p, loops) := nextPos t.exe.loops next
  { t with
    waiting := false
    exe := { t.exe with
      pos := p, loops := loops, retired := t.exe.retired + 1, cycle := t.exe.cycle + cycles } }

/-- The body of an instruction. -/
abbrev Body := State → Tile → Cmd → Launch → ExecInstr → Nat → Issue

/-- An instruction of an opcode issues on a core, when it is what the stream fetches next. -/
def issueExec (op : Nat) (body : Body) (s : State) (die core : Nat) : State :=
  match issuing s die core with
  | none => s
  | some (t, c, l) =>
    if t.exe.ended then s
    else match fetchInstr s c l t.exe.pos with
      | .past => exeFault s t 18
      | .outside => exeFault s t 1
      | .foreign => fetchForeign s t 2 0
      | .bad =>
        match fetchSizes s c l with
        | .got (a, _) => fetchError s t c l 2 (instrOffset a t.exe.pos) 8
        | _ => fetchError s t c l 2 0 8
      | .got x =>
        if !execListed x then exeFault s t 4
        else if x.opcode ≠ op then s
        else match body s (prune t) c l x s.freeCount with
          | .wait => modTile s die core fun t => { t with waiting := true }
          | .fault cause => exeFault s t cause
          | .park src tag => settled (parkTile s t src tag)
          | .done t' next cycles k tag => retired { s with freeCount := k } (advance t' next cycles) true tag

/-! ## Control -/

/-- DELAY (R155). -/
def bodyDelay : Body := fun _ t _ _ x k =>
  if x.imm = 0 ∨ 65535 < x.imm then .fault 4 else .done t (t.exe.pos + 1) x.imm k none

/-- SET (R146): setup registers 0 to 12, count registers 16 to 31. -/
def bodySet : Body := fun _ t _ _ x k =>
  let e := if x.mode < 16 then { t.exe with regs := t.exe.regs.set x.mode x.imm }
    else { t.exe with cnt := t.exe.cnt.set (x.mode - 16) (x.imm % 2 ^ 32) }
  .done { t with exe := e } (t.exe.pos + 1) 1 k none

/-- LOOP (R147). -/
def bodyLoop : Body := fun _ t _ _ x k =>
  let p := t.exe.pos
  let count := if bit x.mode 4 then at? t.exe.cnt (x.dst % 16) 0 else x.dst
  if x.srcA = 0 ∨ 511 < x.srcA then .fault 4
  else if count = 0 then .done t (p + 1 + x.srcA) 1 k none
  else if 4 ≤ t.exe.loops.length then .fault 5
  else .done { t with exe := { t.exe with
      loops := { first := p + 1, last := p + 1 + x.srcA, left := count } :: t.exe.loops } } (p + 1) 1 k none

/-- BEOS (R145); a queue of size 0 is R152's first case. -/
def bodyBeos : Body := fun _ t _ l x k =>
  let q := x.mode % 8
  if x.srcA = 0 ∨ 511 < x.srcA then .fault 4
  else if loadQBytes l q = 0 then .fault 8
  else if at? t.endFlag q false then
    .done { t with endFlag := t.endFlag.set q false } (t.exe.pos + 1 + x.srcA) 1 k none
  else .done t (t.exe.pos + 1) 1 k none

/-- TAG (R145). -/
def bodyTag : Body := fun _ t _ _ x k =>
  let g := bits x.imm 15 0
  .done { t with exe := { t.exe with tag := g } } (t.exe.pos + 1) 1 k (some g)

/-- Points of a nest. -/
def Nest.points (n : Nest) : Nat := (n.levels.map (·.1)).foldl (· * ·) 1

/-- Whether a LOAD that still generates meets a full queue, or a STORE an empty one (R143). -/
def loadBlocked (l : Launch) (t : Tile) (n : Nest) : Bool :=
  let held := sumN ((at? t.loadQ n.queue []).map fun i => match i with | .bytes b => b.length | .eos => 0)
  let coming := sumN ((t.acc.reqs.filter fun r => r.queue == n.queue).map (·.len))
  decide (n.points ≠ 0 ∧ loadQBytes l n.queue ≤ held + coming)

def storeBlocked (t : Tile) (n : Nest) : Bool := decide ((at? t.storeQ n.queue []).length < n.run - n.sub)

/-- END (R160). It ends the last pass of every body of which it is the last instruction; a body with more to run would run past it (R147).
An access stream that then still waits for the execute stream never goes on (R152): `pumped` finds it at once. -/
def bodyEnd : Body := fun _ t _ _ _ k =>
  if !(nextPos t.exe.loops (t.exe.pos + 1)).2.isEmpty then .fault 18
  else .done { t with exe := { t.exe with ended := true } } (t.exe.pos + 1) 1 k none

/-! ## Operations of a unit on the work area -/

/-- Whether `n` bytes from a line stay in the work area. -/
def inWork (l : Launch) (line n : Nat) : Bool := decide (line + linesOf n ≤ workLines l)

/-- The operand reads of an instruction, and the next free index. -/
def readAll (t : Tile) : List (Nat × Nat) → Nat → List (List Byte) × Nat
  | [], k => ([], k)
  | (line, n) :: r, k =>
    let (rest, k') := readAll t r (if anyFlight t line n then k + linesOf n else k)
    (readPad t k line n :: rest, k')

/-- The results of an instruction written. -/
def writeAll (ready : Nat) : List (Nat × List Byte) → Tile → Nat → Tile × Nat
  | [], t, k => (t, k)
  | (line, bs) :: r, t, k =>
    let (t, k) := writePad t k line ready bs
    writeAll ready r t k

/-- The reads of an instruction, held until its latency is over, for each place that takes a result. -/
def readersOf (until_ : Nat) (reads : List (Nat × Nat)) (dsts : List ReadDst) : List Reader :=
  reads.flatMap fun (line, n) => dsts.map fun d => { line := line, count := linesOf n, until_ := until_, dst := d }

/-- An instruction of a unit: operands checked, the unit checked, operands read, results formed and written, the unit taken. -/
def unitOp (l : Launch) (t : Tile) (k unit occ lat : Nat) (reads : List (Nat × Nat))
    (f : List (List Byte) → List (Nat × List Byte)) (post : Tile → Tile := id) : Issue :=
  let use := at? t.units unit (0, 0)
  let (ins, k1) := readAll t reads (if t.exe.cycle < use.2 then k + 1 else k)
  let outs := f ins
  let now := t.exe.cycle
  if reads.any (fun r => !inWork l r.1 r.2) || outs.any (fun o => !inWork l o.1 o.2.length) then .fault 6
  else if stillBusy t k false use then .fault 7
  else
    let (t1, k2) := writeAll (now + lat) outs t k1
    let dsts := outs.map fun o => ReadDst.lines o.1 (linesOf o.2.length)
    let t2 := { t1 with
      units := t1.units.set unit (now, now + occ)
      readers := t1.readers ++ readersOf (now + lat) reads dsts }
    .done (post t2) (t.exe.pos + 1) 1 k2 none

/-! ## The vector unit (R118-R125, R520) -/

/-- FP32 values of bytes, and bytes of FP32 values. -/
def fps : List Byte → List FP32
  | a :: b :: c :: d :: r => (d ++ c ++ b ++ a) :: fps r
  | _ => []

def fpBytes (v : List FP32) : List Byte := v.flatMap fun x => natLE 4 x.toNat

/-- Bytes of VLEN vectors. -/
def vecBytes (t : Tile) : Nat := 1024 * rVLEN t

/-- A vector instruction with its latency past the occupancy, the occupancy being `mult` times VLEN. -/
def vecOp (l : Launch) (t : Tile) (k mult extra : Nat) (reads : List (Nat × Nat))
    (f : List (List FP32) → List (Nat × List Byte)) : Issue :=
  if rVLEN t = 0 then .fault 4
  else unitOp l t k unitVector (mult * rVLEN t) (mult * rVLEN t + extra) reads fun ins => f (ins.map fps)

/-- Lane by lane from one, two or three operands. -/
def lanes1 (extra mult : Nat) (f : FP32 → FP32) : Body := fun _ t _ l x k =>
  vecOp l t k mult extra [(x.srcA, vecBytes t)] fun ins => [(x.dst, fpBytes ((at? ins 0 []).map f))]

def lanes2 (extra mult : Nat) (f : FP32 → FP32 → FP32) : Body := fun _ t _ l x k =>
  vecOp l t k mult extra [(x.srcA, vecBytes t), (x.srcB, vecBytes t)] fun ins =>
    [(x.dst, fpBytes (List.zipWith f (at? ins 0 []) (at? ins 1 [])))]

def lanes3 (extra : Nat) (f : FP32 → FP32 → FP32 → FP32) : Body := fun _ t _ l x k =>
  vecOp l t k 1 extra [(x.srcA, vecBytes t), (x.srcB, vecBytes t), (x.dst, vecBytes t)] fun ins =>
    [(x.dst, fpBytes (List.zipWith (fun (a, b) d => f a b d) ((at? ins 0 []).zip (at? ins 1 [])) (at? ins 2 [])))]

def bodyVadd : Body := lanes2 20 1 fpAdd
def bodyVsub : Body := lanes2 20 1 fpSub
def bodyVmul : Body := lanes2 20 1 fpMul
def bodyVfma : Body := lanes3 22 fpFma
def bodyVmin : Body := lanes2 16 1 fpMin
def bodyVmax : Body := lanes2 16 1 fpMax

/-- The comparison of a VCMP mode (R118). -/
def cmpOf (mode : Nat) (a b : FP32) : Bool :=
  match mode with
  | 0 => fpEq a b
  | 1 => !fpEq a b
  | 2 => fpLt a b
  | _ => fpLe a b

def bodyVcmp : Body := fun s t c l x k =>
  lanes2 16 1 (fun a b => if cmpOf x.mode a b then 0xFFFFFFFF else 0) s t c l x k

/-- VSEL: a where the bits of the dst lane are not all zero. -/
def bodyVsel : Body := lanes3 16 fun a b d => if d = 0 then b else a

def bodyVmov : Body := lanes1 16 1 id

/-- VFN by its mode (R122, R155). -/
def bodyVfn : Body := fun s t c l x k =>
  match x.mode with
  | 0 => lanes1 34 1 fpExp s t c l x k
  | 1 => lanes1 30 1 fpRcp s t c l x k
  | 2 => lanes1 34 1 fpRsqrt s t c l x k
  | 3 => lanes1 70 2 fpLogistic s t c l x k
  | 4 => lanes1 70 2 fpSilu s t c l x k
  | 5 => lanes1 70 2 fpTanh s t c l x k
  | 6 => lanes1 120 3 fpGelu s t c l x k
  | 7 => lanes1 40 1 fpSqrt s t c l x k
  | _ => lanes2 40 1 fpDiv s t c l x k

/-- VBC: lane 0 of each vector to all of its lanes. -/
def bodyVbc : Body := fun _ t _ l x k =>
  vecOp l t k 1 16 [(x.srcA, vecBytes t)] fun ins =>
    [(x.dst, fpBytes ((chunks 256 (rVLEN t) (at? ins 0 [])).flatMap fun v => v.map fun _ => v.headD 0))]

/-- VCHS: the aligned-rule sum of each half. -/
def bodyVchs : Body := fun _ t _ l x k =>
  vecOp l t k 1 24 [(x.srcA, vecBytes t)] fun ins =>
    [(x.dst, fpBytes ((chunks 128 (2 * rVLEN t) (at? ins 0 [])).map fun h => alignedChunk (h.map numOf)))]

/-- VSMX: the chunk state of each half, and the exponentials when asked. -/
def bodyVsmx : Body := fun _ t _ l x k =>
  vecOp l t k 2 48 [(x.srcA, vecBytes t)] fun ins =>
    let st := (chunks 128 (2 * rVLEN t) (at? ins 0 [])).map chunkState
    (x.dst, fpBytes (st.flatMap fun (m, s, _) => [m, s])) ::
      if bit x.mode 0 then [(x.srcB, fpBytes (st.flatMap fun (_, _, e) => e))] else []

/-- The states (m, s) that a run of lanes holds. -/
def statePairs : List FP32 → List (FP32 × FP32)
  | m :: s :: r => (m, s) :: statePairs r
  | _ => []

/-- The four values that VMRG writes for a pair of states (R124). -/
def mergeQuad (a b : FP32 × FP32) : List FP32 :=
  let (m, fa, fb) := mergeFactors a.1 b.1
  [m, if m = fpMinusInf then 0 else fpAdd (fpMul a.2 fa) (fpMul b.2 fb), fa, fb]

def bodyVmrg : Body := fun _ t _ l x k =>
  vecOp l t k 1 44 [(x.srcA, vecBytes t), (x.srcB, vecBytes t)] fun ins =>
    [(x.dst, fpBytes (((statePairs (at? ins 0 [])).zip (statePairs (at? ins 1 []))).flatMap fun (a, b) => mergeQuad a b))]

/-- The rounding of an element with global index `i` (R108, R127). -/
def roundingAt (t : Tile) (i : Nat) : Rounding :=
  if fStoch t then .stochastic (roundingWord (rSEED t) (fOperand t) i) else .nearest

/-- Values converted to a format with their roundings: element bytes and scale bytes (R106-R108). -/
def convertOut (fmt : Nat) (vals : List Num) (modes : List Rounding) : List Byte × List Byte :=
  if fmtMx fmt then
    let blocks := ((chunks 32 vals.length vals).zip (chunks 32 vals.length modes)).map fun (v, m) => encodeBlock fmt v m
    (packElems fmt (blocks.flatMap (·.2)), blocks.map fun b => BitVec.ofNat 8 b.1)
  else (packElems fmt ((vals.zip modes).map fun (v, m) => encodeElem m fmt v), [])

/-- Elements of a format with their scale bytes, as FP32. -/
def convertIn (fmt n : Nat) (elems scales : List Byte) : List FP32 :=
  (List.range n).map fun j => fpOf (elemValue fmt (elemBits fmt elems j) (at? scales (j / 32) 0).toNat)

/-- VCVT (R520). -/
def bodyVcvt : Body := fun _ t _ l x k =>
  let fmt := fOut t
  let n := 256 * rVLEN t
  let mx := fmtMx fmt
  if !fmtValid fmt then .fault 4
  else if x.mode = 0 then
    vecOp l t k 1 22 [(x.srcA, vecBytes t)] fun ins =>
      let modes := (List.range n).map fun j => roundingAt t (rIDXBASE t + j / 256 * rIDXROW t + j % 256 * rIDXCOL t)
      let (e, sc) := convertOut fmt ((at? ins 0 []).map numOf) modes
      (x.dst, e) :: if mx then [(x.srcB, sc)] else []
  else if rVLEN t = 0 then .fault 4
  else
    unitOp l t k unitVector (rVLEN t) (rVLEN t + 22)
      ((x.srcA, packedBytes fmt n) :: if mx then [(x.srcB, n / 32)] else []) fun ins =>
        [(x.dst, fpBytes (convertIn fmt n (at? ins 0 []) (at? ins 1 [])))]

/-! ## The tensor array (R148-R150) -/

/-- A format that the array accepts. -/
def arrayFmt (f : Nat) : Bool := fmtValid f && f != 0x01

/-- Bytes of a stationary tile of a format. -/
def statBytes (f : Nat) : Nat := packedBytes f 8192

/-- TLD (R148, R155, R157). -/
def bodyTld : Body := fun _ t _ l x k =>
  let b := x.mode % 2
  let fmt := fStat t
  let n := statBytes fmt
  let occ := n / 512 + b2n (fmtMx fmt)
  let now := t.exe.cycle
  let reads := (x.srcA, n) :: if fmtMx fmt then [(x.srcB, 256)] else []
  let old := at? t.stat b none
  if !arrayFmt fmt then .fault 4
  else if stillBusy t (k + 1) false (at? t.bufs b (0, 0)) then .fault 7
  else
    let k0 := if now < (at? t.bufs b (0, 0)).2 then k + 2 else k
    let ins := (readAll t reads (if now < (at? t.units unitLoader (0, 0)).2 then k0 + 1 else k0)).1
    unitOp l t k0 unitLoader occ (occ + 12) reads (fun _ => []) fun t => { t with
      stat := t.stat.set b (some { fmt := fmt, data := at? ins 0 [], scales := at? ins 1 [] })
      statOld := t.statOld.set b (old, now + occ + 12)
      readers := t.readers ++ readersOf (now + occ + 12) reads [.buffer b] }

/-- Old and new bytes mixed by free choices, one choice for each 64 bytes (R156). -/
def mixBytes (k : Nat) (old new : List Byte) : List Byte :=
  (new.zipIdx).map fun (x, i) => if Config.freeBool (k + i / 64) then x else at? old i 0

/-- What an MMA finds in a stationary buffer: its bytes and scales, and whether it holds another format than FMT names, so that the
manual does not say what the products are. -/
def bufferNow (t : Tile) (k b : Nat) (fmt : Nat) : List Byte × List Byte × Bool :=
  match at? t.stat b none with
  | none => (zeros (statBytes fmt), zeros 256, false)
  | some x =>
    let o := at? t.statOld b (none, 0)
    if t.exe.cycle < o.2 then
      match o.1 with
      | some y => (mixBytes k y.data x.data, mixBytes (k + x.data.length) y.scales x.scales, x.fmt != fmt || y.fmt != fmt)
      | none => (mixBytes k [] x.data, mixBytes (k + x.data.length) [] x.scales, x.fmt != fmt)
    else (x.data, x.scales, x.fmt != fmt)

/-- The 64 chunk results of a streamed row (R110-R113, R149). -/
def rowResults (fa fs klen : Nat) (row rowScales stat statScales : List Byte) : List FP32 :=
  let a := (List.range klen).map fun p => elemValue fa (elemBits fa row p) (at? rowScales (p / 32) 0).toNat
  (List.range 64).map fun c =>
    chunkResult (fmtNarrow fa && fmtNarrow fs)
      ((a.zipIdx).map fun (v, p) => mulNum v (elemValue fs (elemBits fs stat (64 * p + c)) (at? statScales (4 * c + p / 32) 0).toNat))

/-- Ones at the low end of a chunk index. -/
def lowOnes : Nat → Nat → Nat
  | 0, _ => 0
  | fuel + 1, k => if k % 2 = 1 then 1 + lowOnes fuel (k / 2) else 0

/-- Occupancy of an MMA (R148, R155). DESIGN CHOICE (log entry 143): a 4-bit operand beside an 8-bit or 6-bit one, for which the table gives
no rate, takes that of the wider operand. -/
def mmaOcc (fa fs rows : Nat) : Nat :=
  if fmtBits fa = 16 ∨ fmtBits fs = 16 then 2 * rows
  else if fmtBits fa = 4 ∧ fmtBits fs = 4 then ceilDiv rows 2
  else rows

/-- MMA (R149). DESIGN CHOICE (log entry 143): KIDX, a register of 24 bits, increments from its largest value to 0 (R146). -/
def bodyMma : Body := fun _ t _ l x k =>
  let b := x.mode % 2
  let fs := fStat t
  let fa := fStream t
  let rows := rMROWS t
  let kidx := rKIDX t
  let ones := lowOnes 24 kidx
  let occ := mmaOcc fa fs rows
  let now := t.exe.cycle
  let plane := fun i => (x.dst + i * rPSTR t, 256 * rows)
  let mx := fmtMx fa
  if rows = 0 ∨ 512 < rows ∨ rKLEN t = 0 ∨ 128 < rKLEN t ∨ !arrayFmt fs ∨ !arrayFmt fa then .fault 4
  else
    let hazard := decide (now < (at? t.statOld b (none, 0)).2) && (at? t.stat b none).isSome
    let (data, scales, strange) := bufferNow t k b fs
    let k1 := if hazard then k + 65536 else k
    let k2 := if strange then k1 + 64 * rows else k1
    let rowBytes := packedBytes fa 128
    unitOp l t k2 unitArray occ (occ + 24)
      ((x.srcA, rowBytes * rows) :: (if mx then [(x.srcB, 4 * rows)] else []) ++ (List.range ones).map plane)
      (fun ins =>
        let a := at? ins 0 []
        let sc := if mx then at? ins 1 [] else []
        let planes := ins.drop (if mx then 2 else 1)
        let r := (List.range rows).flatMap fun i =>
          if strange then (List.range 64).map fun c => Config.freeFP32 (k1 + 64 * i + c)
          else rowResults fa fs (rKLEN t) (slice a (rowBytes * i) rowBytes) (slice sc (4 * i) 4) data scales
        [((plane ones).1, fpBytes (planes.foldl (fun acc p => List.zipWith fpAdd (fps p) acc) r))])
      fun t => { t with
        bufs := t.bufs.set b (now, now + occ)
        exe := if fKinc t then { t.exe with regs := t.exe.regs.set 2 ((kidx + 1) % 2 ^ 24) } else t.exe }

/-- Positions of the set bits of a chunk count, ascending. -/
def setBits (n : Nat) : List Nat := (List.range 24).filter (bit n)

/-- TFL (R149, R150). -/
def bodyTfl : Body := fun _ t _ l x k =>
  let rows := rMROWS t
  let bs := setBits (rKIDX t)
  let add := bit x.mode 0
  if rows = 0 ∨ 512 < rows then .fault 4
  else
    unitOp l t k unitArray rows (rows + 24)
      (bs.map (fun i => (x.dst + i * rPSTR t, 256 * rows)) ++ if add then [(x.srcB, 256 * rows)] else [])
      fun ins =>
        let planes := (ins.take bs.length).map fps
        let root := match planes with
          | [] => List.replicate (64 * rows) 0
          | p :: r => r.foldl (fun acc q => List.zipWith fpAdd q acc) p
        [(x.srcA, fpBytes (if add then List.zipWith fpAdd root (fps (at? ins bs.length [])) else root))]

/-! ## Pops and pushes (R151-R153) -/

/-- Bytes that a load queue holds before its first marker, and whether a marker follows. -/
def popAhead : List QItem → Nat × Bool
  | [] => (0, false)
  | .eos :: _ => (0, true)
  | .bytes b :: r => let (n, e) := popAhead r; (b.length + n, e)

/-- Up to `n` bytes taken from a queue's front, and what is left. -/
def popBytes : Nat → List QItem → List Byte × List QItem
  | _, [] => ([], [])
  | 0, q => ([], q)
  | _, .eos :: r => ([], .eos :: r)
  | n + 1, .bytes b :: r =>
    if b.length ≤ n + 1 then
      let (x, q) := popBytes (n + 1 - b.length) r
      (b ++ x, q)
    else (b.take (n + 1), .bytes (b.drop (n + 1)) :: r)

/-- Whether the access stream can move no further on its own (R152): nothing in flight, every entry that still generates is blocked,
and no further entry can issue. -/
def accessWaits (s : State) (t : Tile) (c : Cmd) (l : Launch) : Bool :=
  t.acc.reqs.isEmpty && t.acc.loads.all (loadBlocked l t) && t.acc.stores.all (storeBlocked t)
    && (t.acc.ended || decide (512 ≤ t.acc.loads.length + t.acc.stores.length)
        || match fetchEntry s c l t.acc.pos with
           | .got e => e.opcode == 0x1F && !(t.acc.loads.isEmpty && t.acc.stores.isEmpty)
           | _ => false)

/-- What a pop that finds too little does: a fault when it can never be satisfied, a park when it waits for a partner, else a wait. -/
def popWaits (s : State) (t : Tile) (c : Cmd) (l : Launch) (q : Nat) : Issue :=
  match t.acc.reqs.find? fun r => r.queue == q && r.got.isNone with
  | some r =>
    let b := slotAt l r.slot
    if b.kind = 2 ∧ (landedBytes s c.handle.ctx b.src b.tag r.off r.len).isNone then .park b.src b.tag else .wait
  | none => if t.acc.ended || accessWaits s t c l then .fault 8 else .wait

/-- Whether a QPOP finds too little in its queue (R151). -/
def popShort (t : Tile) (x : ExecInstr) : Bool :=
  let a := popAhead (at? t.loadQ (x.mode % 8) [])
  decide (a.1 < 64 * x.srcA) && !a.2

/-- QPOP (R151, R152). The bytes moved, B of R155, are those before the marker (log entry 143). -/
def bodyQpop : Body := fun s t c l x k =>
  let q := x.mode % 8
  let n := 64 * x.srcA
  let queue := at? t.loadQ q []
  let now := t.exe.cycle
  if x.srcA = 0 ∨ 512 < x.srcA then .fault 4
  else if loadQBytes l q = 0 ∨ loadQBytes l q < n then .fault 8
  else if !inWork l x.dst n then .fault 6
  else if popShort t x then popWaits s t c l q
  else if stillBusy t k t.waiting (at? t.units unitPop (0, 0)) then .fault 7
  else
    let k := if now < (at? t.units unitPop (0, 0)).2 then k + 1 else k
    let (bs, rest) := popBytes n queue
    let short := decide (bs.length < n)
    let occ := ceilDiv bs.length 512
    let (t1, k1) := writePad t k x.dst (now + occ + 4) (slice bs 0 n)
    .done { t1 with
      loadQ := t1.loadQ.set q (if short then rest.drop 1 else rest)
      endFlag := if short then t1.endFlag.set q true else t1.endFlag
      units := t1.units.set unitPop (now, now + occ)
      waitAt := if t.waiting then some now else t1.waitAt } (t.exe.pos + 1) 1 k1 none

/-- The source positions (row, column) of a QPUSH in the order pushed (R153). -/
def pushOrder (rows cols : Nat) (transpose : Bool) (edge : Nat) : List (Nat × Nat) :=
  let pr := if transpose then cols else rows
  let pc := if transpose then rows else cols
  let back := fun (i, j) => if transpose then (j, i) else ((i, j) : Nat × Nat)
  if edge = 0 then (List.range pr).flatMap fun i => (List.range pc).map fun j => back (i, j)
  else
    (List.range (pr / edge)).flatMap fun bi => (List.range (pc / edge)).flatMap fun bj =>
      (List.range edge).flatMap fun i => (List.range edge).map fun j => back (bi * edge + i, bj * edge + j)

/-- Bytes pushed into a store queue. -/
def pushQ (qs : List (List Byte)) (q : Nat) (bs : List Byte) : List (List Byte) := qs.modify q fun x => x ++ bs

/-- Whether a QPUSH finds too little room in its queues (R151). -/
def pushFull (t : Tile) (l : Launch) (x : ExecInstr) : Bool :=
  let q := x.mode % 4
  let sq := bits (rLAYOUT t) 6 5
  let fmt := fOut t
  let count := bits (rQSHAPE t) 15 0 * bits (rQSHAPE t) 31 16
  let m := if fmtMx fmt then count / 32 else 0
  decide (storeQBytes l q < (at? t.storeQ q []).length + packedBytes fmt count + (if q = sq then m else 0)
    ∨ (fmtMx fmt ∧ storeQBytes l sq < (at? t.storeQ sq []).length + m))

/-- Whether the pop or push that a tile waits on can never be done (R152). -/
def waitHopeless (s : State) (t : Tile) (c : Cmd) (l : Launch) (x : ExecInstr) : Bool :=
  if x.opcode = 0x30 then popShort t x && (match popWaits s t c l (x.mode % 8) with | .fault _ => true | _ => false)
  else if x.opcode = 0x31 then pushFull t l x && (t.acc.ended || accessWaits s t c l)
  else false

/-- A wait of a tile's execute stream that nothing can end any more ends the command at once (R152). -/
def hopelessNow (s : State) (die core : Nat) : State :=
  match issuing s die core with
  | none => s
  | some (t, c, l) =>
    if !t.waiting ∨ t.exe.ended then s
    else match fetchInstr s c l t.exe.pos with
      | .got x => if waitHopeless s t c l x then exeFault s t 8 else s
      | _ => s

/-- QPUSH (R152, R153). Where data and scales go to one queue, the manual does not say which come first: those bytes are free. -/
def bodyQpush : Body := fun s t c l x k =>
  let q := x.mode % 4
  let rows := bits (rQSHAPE t) 15 0
  let cols := bits (rQSHAPE t) 31 16
  let v := bits (rLAYOUT t) 4 1
  let transpose := bit (rLAYOUT t) 0
  let sq := bits (rLAYOUT t) 6 5
  let fmt := fOut t
  let mx := fmtMx fmt
  let edge := if v = 0 then 0 else 2 ^ v
  let count := rows * cols
  let n := packedBytes fmt count
  let m := if mx then count / 32 else 0
  let same := mx && q == sq
  let src := 4 * count
  let occ := ceilDiv src 1024 + (if mx then 8 else 0)
  let now := t.exe.cycle
  let pr := if transpose then cols else rows
  let pc := if transpose then rows else cols
  if rows = 0 ∨ cols = 0 ∨ 8 < v ∨ !fmtValid fmt then .fault 4
  else if (edge ≠ 0 ∧ (pr % edge ≠ 0 ∨ pc % edge ≠ 0)) ∨ (mx ∧ count % 32 ≠ 0) then .fault 10
  else if storeQBytes l q < n + (if same then m else 0) ∨ storeQBytes l q = 0 ∨ (mx ∧ storeQBytes l sq < m) ∨ t.acc.ended then .fault 8
  else if !inWork l x.srcA src then .fault 6
  else if pushFull t l x then if accessWaits s t c l then .fault 8 else .wait
  else if stillBusy t k t.waiting (at? t.units unitPush (0, 0)) then .fault 7
  else
    let k0 := if now < (at? t.units unitPush (0, 0)).2 then k + 1 else k
    let (ins, k1) := readAll t [(x.srcA, src)] k0
    let vals := fps (at? ins 0 [])
    let order := pushOrder rows cols transpose edge
    let (e, sc) := convertOut fmt (order.map fun (r, cc) => numOf (at? vals (r * cols + cc) 0))
      (order.map fun (r, cc) => roundingAt t (rIDXBASE t + r * rIDXROW t + cc * rIDXCOL t))
    let data := if same then freeBytes k1 (n + m) else e
    let k2 := if same then k1 + n + m else k1
    let qs := pushQ t.storeQ q data
    let dsts := if mx && !same then [ReadDst.queue q n, ReadDst.queue sq m] else [ReadDst.queue q data.length]
    .done { t with
      storeQ := if mx && !same then pushQ qs sq sc else qs
      units := t.units.set unitPush (now, now + occ)
      readers := t.readers ++ readersOf (now + occ + 16) [(x.srcA, src)] dsts
      waitAt := if t.waiting then some now else t.waitAt } (t.exe.pos + 1) 1 k2 none

end Sys2Proof.Machine
end

