-- ==== Sys2Proof/Machine/Operands.lean ====
section
/-!
DEFINITION. The operands of packets: parameter blocks (R321), sync blocks (R292), handles and rights (R48, R60, R313), parameter
tensors (R322), depends-on handles (R92); what a packet's own checks answer; and the making of commands (R318).
-/
namespace Sys2Proof.Machine

open Sys2Proof

/-- What a packet's decision answers: status, handle and value of the reply, and what is carried out once the reply stands. A
refusal's effect is empty but for ash that the decision itself found (R322). -/
structure Verdict where
  status : Nat
  handle : Handle := Handle.null
  value : Nat := 0
  effect : State → State := id

/-- A refusal. -/
def Verdict.refuse (status : Nat) : Verdict := { status := status }

/-- `OK` with a value. -/
def Verdict.ok (value : Nat) (effect : State → State := id) : Verdict :=
  { status := stOk, value := value, effect := effect }

/-- The first of several tests that fails, in their order (R515). -/
def firstFail : List (Bool × Nat) → Option Nat
  | [] => none
  | (bad, st) :: r => if bad then some st else firstFail r

/-- The verdict when no test fails. -/
def Verdict.unless (tests : List (Bool × Nat)) (v : Verdict) : Verdict :=
  match firstFail tests with
  | some st => .refuse st
  | none => v

/-- The opcode's own parameters, after any sync block (R292, R321). -/
def ownParams (p : Packet) : List Byte := if p.sync then p.params.drop 64 else p.params

/-- How many bytes of own parameters the packet gives. -/
def ownLen (p : Packet) : Nat := if p.sync then p.paramLen - 64 else p.paramLen

/-- The wait conditions of a sync block (R292). -/
def syncWaits (p : Packet) : List (Nat × Nat) :=
  if p.sync then
    (List.range 4).filterMap fun i =>
      let e := u64 p.params (8 * i)
      if bit e 6 then some (bits e 5 0, bits e 63 32) else none
  else []

/-- The flag operations of a sync block (R292). -/
def syncOps (p : Packet) : List FlagOp :=
  if p.sync then
    (List.range 4).filterMap fun i =>
      let e := u64 p.params (32 + 8 * i)
      if bit e 6 then some { flag := bits e 5 0, add := bit e 7, value := bits e 63 32 } else none
  else []

/-- A tensor's right for a context: owner, or grantee (R60). -/
def mayRead (t : Tensor) (n : Nat) : Bool := t.handle.ctx == n || t.grants.any fun g => g.1 == n

/-- A right to write (R60, R61). -/
def mayWrite (t : Tensor) (n : Nat) : Bool := t.handle.ctx == n || t.grants.any fun g => g.1 == n && g.2

/-- Whether a handle names no tensor now, which is answered `BAD_PARAM` (R321). -/
def badTensor (s : State) (h : Handle) : Bool := (tensorOf s h).isNone

/-- Whether a context lacks a right to a tensor, which is answered `DENIED` (R48). -/
def deniedTensor (s : State) (n : Nat) (h : Handle) (write : Bool) : Bool :=
  match tensorOf s h with
  | some t => if write then !mayWrite t n else !mayRead t n
  | none => false

/-- A depends-on handle is null, names a command of the context, or has a generation no longer current (R92). -/
def depOk (s : State) (n : Nat) (p : Packet) : Bool :=
  let h := Handle.decode p.dep
  h == Handle.null || (h.ctx == n &&
    ((cmdOf s h).isSome ||
      match tget? (slotsOf s n) h.slot with
      | some x => x.gen != h.gen && h.gen != 0
      | none => false))

/-- A command record from its packet. -/
def cmdFrom (s : State) (p : Packet) (h : Handle) (w : Work) : Cmd :=
  { handle := h, seq := p.seq, cookie := p.cookie, notify := p.notify, work := w, issuedAt := s.now }

/-- A queued command entered at the end of its queue (R65, R318). -/
def addQueued (p : Packet) (h : Handle) (w : Work) (s : State) : State :=
  let s := takeSlot s h
  let before := ((ctxOf s h.ctx).map fun x => (at? x.queues p.queue {}).reductions).getD 0
  let c := { cmdFrom s p h w with
    queue := some p.queue, waits := syncWaits p, ops := syncOps p, dep := Handle.decode p.dep, ordinal := before }
  let s := { s with cmds := s.cmds ++ [c] }
  modCtx s h.ctx fun x => { x with queues := x.queues.modify p.queue fun u =>
    { u with cmds := u.cmds ++ [h], reductions := u.reductions + b2n w.reduces } }

/-- A Q command accepted, when no test fails. -/
def queueCmd (s : State) (n : Nat) (p : Packet) (tests : List (Bool × Nat)) (w : Work) : Verdict :=
  let h := newHandle s n p.choice.pick
  .unless ((!depOk s n p, stBadParam) :: tests)
    { status := stAccepted, handle := h, effect := fun s => settled (addQueued p h w s) }

/-- A command without a queue entered in its run phase (R318, kind A). -/
def addRunning (p : Packet) (h : Handle) (w : Work) (s : State) : State :=
  let s := takeSlot s h
  { s with cmds := s.cmds ++ [{ cmdFrom s p h w with phase := .run, runAt := s.now }] }

/-- An A command accepted, when no test fails, and what it does at once. -/
def acceptCmd (s : State) (n : Nat) (p : Packet) (tests : List (Bool × Nat)) (w : Work)
    (after : Handle → State → State := fun _ s => s) : Verdict :=
  let h := newHandle s n p.choice.pick
  .unless tests { status := stAccepted, handle := h, effect := fun s => after h (addRunning p h w s) }

/-- A read of a parameter tensor at the decision (R322): its bytes, or the status and what the read found. -/
def readParamTensor (s : State) (n : Nat) (h : Handle) (off len limit : Nat) : Except Verdict (List Byte) :=
  match tensorOf s h with
  | none => .error (.refuse stBadParam)
  | some t =>
    if t.fmt ≠ 0x10 ∨ limit < len ∨ t.bytes < off + len then .error (.refuse stBadParam)
    else if !mayRead t n then .error (.refuse stDenied)
    else
      let r := checkSods s t.sods h (sodsOf 0 off len)
      if r.2 then .ok (readView t.sods 0 off len)
      else .error { status := stBadParam, effect := fun s => settled (checkSods s t.sods h (sodsOf 0 off len)).1 }

/-- Whether the host port can carry a write of host memory (R73). -/
def hostWritable (s : State) (fn addr : Nat) : Bool := rdy s rdyHostLink && !ideBlocks s fn addr

end Sys2Proof.Machine
end

