-- ==== Sys2Proof/Machine/FlueRun.lean ====
section
/-!
DEFINITION. The transfers of queued Flue commands (R376-R383): what a command sends and receives, tokens answered with DATA, landed data
taken into shadows, nodes of a reduction.
-/
namespace Sys2Proof.Machine

open Sys2Proof

/-! ## What a command sends and receives -/

/-- A transfer that a command sends: partner, the context there, tag, length; the block whose node it carries. -/
structure Outgoing where
  partner : Nat
  ctx : Nat
  tag : Nat
  len : Nat
  block : Nat
deriving DecidableEq, Repr, Inhabited

/-- The reduction of a FLUE_REDUCE, with its source. -/
def redOf (s : State) (c : Cmd) : Option (Tensor × Reduction) :=
  match c.work with
  | .flueReduce t _ dim => (tensorAny s t).bind fun x => (reductionOf s x dim).map (x, ·)
  | _ => none

/-- The transfers that a command sends (R378, R383). The nodes of a reduction go to the same context number (log entry 40). -/
def outgoing (s : State) (c : Cmd) : List Outgoing :=
  match c.work with
  | .flueSend _ _ len m x tag => [{ partner := m, ctx := x, tag := tag, len := len, block := 0 }]
  | .flueReduce .. =>
    match redOf s c with
    | some (_, r) => (r.outgoing c.nodeTag).map fun (p, tag, g) => { partner := p, ctx := c.handle.ctx, tag := tag, len := r.nodeLen, block := g }
    | none => []
  | _ => []

/-- The transfers that a command of the Flue group receives: partner, tag, length. -/
def incoming (s : State) (c : Cmd) : List (Nat × Nat × Nat) :=
  match c.work with
  | .flueReceive _ _ len m tag => [(m, tag, len)]
  | .flueReduce .. =>
    match redOf s c with
    | some (_, r) => (r.incoming c.nodeTag).map fun (p, tag, _) => (p, tag, r.nodeLen)
    | none => []
  | _ => []

/-! ## Nodes (R114-R117, R383) -/

/-- Element `e` of a tensor's array, through a view. -/
def tensorNum (t : Tensor) (view : Table Sod) (e : Nat) : Num :=
  let w := fmtBits t.fmt
  let raw := leNat (readView view 0 (e * w / 8) (w / 8 + 1)) / 2 ^ (e * w % 8) % 2 ^ w
  elemValue t.fmt raw (if fmtMx t.fmt then leNat (readView view (arraySods t) (e / 32) 1) else 0)

/-- The node of a block that this member holds, for one result. -/
def nodeValue (t : Tensor) (view : Table Sod) (r : Reduction) (g o n : Nat) : FP32 :=
  let first := g / r.size * r.block
  let count := min r.block (r.along - first)
  let nums := (List.range' first count).map fun i => tensorNum t view ((o * r.along + i) * r.inner + n)
  tree ((chunks 128 count nums).map (chunkResult (fmtNarrow t.fmt)))

/-- The node of a block for every result, as bytes. -/
def nodeBytes (t : Tensor) (view : Table Sod) (r : Reduction) (g : Nat) : List Byte :=
  (List.range r.outer).flatMap fun o => (List.range r.inner).flatMap fun n => natLE 4 (nodeValue t view r g o n).toNat

/-- Every node of a reduction in block order, those of other members from landed data. -/
def allNodes (s : State) (c : Cmd) (t : Tensor) (r : Reduction) : List (List Byte) :=
  (List.range r.blocks).map fun g =>
    if r.holder g = r.own then nodeBytes t (viewOf s c t.handle) r g
    else (landedBytes s c.handle.ctx (at? r.partners (r.holder g) 0) (c.nodeTag g) 0 r.nodeLen).getD []

/-- The roots of the canonical tree over the nodes, one for each result. -/
def rootsOf (nodes : List (List Byte)) (count : Nat) : List FP32 :=
  (List.range count).map fun j => tree (nodes.map fun b => BitVec.ofNat 32 (u32 b (4 * j)))

/-! ## Sending (R378, R380) -/

/-- The tensor that a Flue command sends from, and the sods that a part of a transfer needs: those of its range, for a node the whole
tensor's. -/
def outSods (s : State) (c : Cmd) (off n : Nat) : Option (Handle × List Nat) :=
  match c.work with
  | .flueSend t so .. => some (t, sodsOf 0 (so + off) (min n (4096 * ((tensorAny s t).map arraySods).getD 0 - (so + off))))
  | .flueReduce t .. => some (t, List.range (((tensorAny s t).map tensorSods).getD 0))
  | _ => none

/-- Bytes of a transfer from an offset, zeros past the last sod of the array. -/
def outBytes (s : State) (c : Cmd) (o : Outgoing) (off n : Nat) : List Byte :=
  match c.work with
  | .flueSend t so .. =>
    slice (readView (viewOf s c t) 0 (so + off) (min n (4096 * ((tensorAny s t).map arraySods).getD 0 - (so + off)))) 0 n
  | .flueReduce t .. =>
    match redOf s c with
    | none => zeros n
    | some (x, r) => slice (nodeBytes x (viewOf s c t) r o.block) off n
  | _ => zeros n

/-- The blocks of a DATA body: 4,096 bytes each with their tag. -/
def dataBody (bs : List Byte) : List Byte :=
  (chunks 4096 (bs.length / 4096 + 1) bs).flatMap fun b => slice b 0 4096 ++ natLE 8 (sodTag (memOf b)).toNat

/-- A sender's read meets ash (R380): ABORT, and the command runs once more or ends. -/
def abortSend (s : State) (c : Cmd) (o : Outgoing) (t : Handle) (k : Nat) : State :=
  let s := dataError s c.handle t k
  let done : Bool := match cmdOf s c.handle with | some x => x.phase == .ended | none => true
  sendMsg s o.partner mkAbort { dst := o.partner, src := 0, dctx := o.ctx, sctx := c.handle.ctx, status := if done then 2 else 1, tag := o.tag }

/-- The diagnostic of a Flue command (R475, engine 7). -/
def flueDiag (cause partner tag : Nat) : Diag := { engine := 7, cause := cause, detail := natLE 2 partner ++ natLE 8 tag }

/-- A token answered with one DATA message (R378), as far as the transfer reaches, after the checks of R35 and R47. -/
def answerToken (s : State) (c : Cmd) (o : Outgoing) (tok : Token) : State :=
  let s := { s with flue := { s.flue with offered := s.flue.offered.erase tok } }
  let n := min tok.len (4096 * ceilDiv o.len 4096 - tok.off)
  if n = 0 then s
  else match outSods s c tok.off n with
    | none => s
    | some (t, sods) =>
      let view := viewOf s c t
      if (firstForeign s t view sods).isSome then foreignFault s c.handle (flueDiag 3 o.partner o.tag)
      else match firstUnread c t view sods with
        | some k => abortSend s c o t k
        | none =>
          let s := modCmd (servedRun s c.handle.ctx t view 0 (4096 * sods.headD 0) (4096 * sods.length) .normal) c.handle fun c =>
            { c with transfer := { c.transfer with answered := true } }
          sendMsg s o.partner mkData
            { dst := o.partner, src := 0, dctx := o.ctx, sctx := c.handle.ctx, tag := tok.tag, off := tok.off, body := dataBody (outBytes s c o tok.off n) }

/-- Tokens held for a command in run, answered. -/
def answerTokens (s : State) (h : Handle) : State :=
  s.flue.offered.foldl (fun s tok =>
    match cmdOf s h with
    | some c =>
      if c.phase = .run then
        match (outgoing s c).find? fun o => o.partner == tok.src && o.ctx == tok.ctx && o.tag == tok.tag with
        | some o => answerToken s c o tok
        | none => s
      else s
    | none => s) s

/-! ## Taking landed data in (R379, R383) -/

/-- A CONFIRM sent, the landed data of the tag released, and the tag remembered as consumed (R74, R379). -/
def confirmTag (s : State) (ctx src tag : Nat) : State :=
  let s := sendMsg s src mkConfirm { dst := src, src := 0, sctx := ctx, tag := tag }
  let s := { s with flue := { s.flue with consumed := s.flue.consumed ++ [(ctx, src, tag)] } }
  dropLanded (withdrawTokens s ctx src tag) ctx src tag

/-- Whether a command has every byte of a transfer. -/
def allLanded (s : State) (c : Cmd) (x : Nat × Nat × Nat) : Bool :=
  (sodsOf 0 0 x.2.2).all fun k => hasLanded s c.handle.ctx x.1 x.2.1 (4096 * k)

/-- A run of bytes written into a command's shadows of a tensor. A sod that a shadow takes its seed from is checked first, and becomes ash
when its tag fails (R35, R51). -/
def writeShadow (s : State) (h t : Handle) (base off : Nat) (bs : List Byte) : State :=
  let seeds := match cmdOf s h with | some c => seededBy c.shadows t base off bs | none => []
  let s := checkSeeds s t seeds
  let view := ((tensorAny s t).map (·.sods)).getD []
  modCmd s h fun c => if c.live then { c with shadows := shadowRun view c.shadows t base off bs } else c

/-- The roots of a reduction written to its destination. DESIGN CHOICE (log entry 145): the destination may have any format, and the FP32
roots are converted to it with rounding to nearest even; a microscaling format takes its scales too (R107). -/
def writeRoots (s : State) (h d : Handle) (roots : List FP32) : State :=
  match tensorAny s d with
  | none => s
  | some x =>
    let out := convertOut x.fmt (roots.map numOf) (roots.map fun _ => .nearest)
    let s := writeShadow s h d 0 0 out.1
    if fmtMx x.fmt then writeShadow s h d (arraySods x) 0 out.2 else s

/-- What a Flue command in run does once more has arrived: a receive takes the landed bytes into shadows, a reduction forms its result, a
sender that holds every CONFIRM may commit. -/
def flueSettle (s : State) (h : Handle) : State :=
  match cmdOf s h with
  | none => s
  | some c =>
    if c.phase ≠ .run ∨ c.done then s
    else
      let sent := (outgoing s c).all fun o => c.transfer.confirmed.contains (o.partner, o.tag)
      match c.work with
      | .flueSend .. => if sent then modCmd s h fun c => { c with done := true } else s
      | .flueReceive t off len m tag =>
        match landedBytes s h.ctx m tag 0 len with
        | some bs => modCmd (writeShadow s h t 0 off bs) h fun c => { c with done := true }
        | none => s
      | .flueReduce _ d _ =>
        match redOf s c with
        | none => s
        | some (t, r) =>
          let fresh := (incoming s c).filter fun x => allLanded s c x && !c.transfer.taken.contains (x.1, x.2.1)
          let s := fresh.foldl (fun s x => sendMsg s x.1 mkConfirm { dst := x.1, src := 0, sctx := h.ctx, tag := x.2.1 }) s
          let s := modCmd s h fun c => { c with transfer := { c.transfer with taken := c.transfer.taken ++ fresh.map fun x => (x.1, x.2.1) } }
          if sent && (incoming s c).all (allLanded s c) then
            modCmd (writeRoots s h d (rootsOf (allNodes s c t r) (r.outer * r.inner))) h fun c => { c with done := true }
          else s
      | _ => s

/-- Tokens for what a command has still to receive (R377, R379). -/
def askMissing (s : State) (h : Handle) : State :=
  match cmdOf s h with
  | some c => (incoming s c).foldl (fun s x => issueTokens s h.ctx x.1 x.2.1 0 x.2.2) s
  | none => s

/-- Tokens for every receiving command in run and every parked tile that lacks some, after landing room has come free. -/
def askAll (s : State) : State :=
  (s.cmds.filter fun c => c.phase == .run).foldl (fun s c => askMissing s c.handle) (s.kiln.parked.foldl askParked s)

/-- Whether a run of bytes leaves a tensor's array. -/
def outside (s : State) (t : Handle) (off len : Nat) : Bool :=
  match tensorAny s t with
  | some x => decide (x.bytes < off + len)
  | none => true

/-- Whether a reduction's own blocks lie on a resource that their clamp does not own (R47). -/
def reduceForeign (s : State) (c : Cmd) : Bool :=
  match c.work with
  | .flueReduce t .. => (firstForeign s t (viewOf s c t) (List.range (((tensorAny s t).map tensorSods).getD 0))).isSome
  | _ => false

/-- A Flue command enters its run phase (R377-R380, R383); one that was killed asks with REOPEN. -/
def startFlue (s : State) (h : Handle) : State :=
  match cmdOf s h with
  | none => s
  | some c =>
    let bad := match c.work with
      | .flueSend t off len m _ tag => if outside s t off len then some (m, tag) else none
      | .flueReceive t off len m tag => if outside s t off len then some (m, tag) else none
      | .flueReduce t .. =>
        match tensorAny s t with
        | some x => if (firstUnread c t (viewOf s c t) (List.range (tensorSods x))).isSome then some (0, 0) else none
        | none => none
      | _ => none
    match bad, c.work with
    | some _, .flueReduce t .. => dataError s h t ((firstUnread c t (viewOf s c t) (List.range (((tensorAny s t).map tensorSods).getD 0))).getD 0)
    | some (m, tag), _ => finish s h stFaulted (some (flueDiag 1 m tag))
    | none, _ =>
      if reduceForeign s c then foreignFault s h (flueDiag 3 0 (c.nodeTag 0))
      else
      let s := if c.kills = 0 then s else (outgoing s c).foldl (fun s o =>
        sendMsg s o.partner mkReopen { dst := o.partner, src := 0, dctx := o.ctx, sctx := h.ctx, tag := o.tag }) s
      flueSettle (answerTokens (askMissing s h) h) h

end Sys2Proof.Machine
end

