-- ==== Sys2Proof/Machine/ServeOps.lean ====
section
/-!
DEFINITION. The serving engine's shared operations: the request table (R247-R249), turves and the pool (R241, R257-R261), TOKEN records
(R253, R254), the prefix index (R266-R271), versions (R273-R278), and how a request ends (R280, R282).
-/
namespace Sys2Proof.Machine

open Sys2Proof

/-- Sods of a turf (R241). -/
def Model.turfSods (m : Model) : Nat := m.layers * m.kvHeads * (if m.kvFmt = 0x02 then 2 else 1)

/-- Sods of a turf of a model of a clamp. -/
def turfSize (s : State) (clamp fp : Nat) : Nat := ((modelOf s clamp fp).map Model.turfSods).getD 1

/-- Turves that `n` positions need. -/
def turfCount (n : Nat) : Nat := ceilDiv n 16

/-! ## The turf pool -/

/-- Every turf of a clamp with its model: the live requests' private ones and the prefix index's. -/
def poolTurves (s : State) (k : Nat) : List (Nat × Turf) :=
  ((s.serve.reqs.filter fun q => q.live && q.clamp == k).flatMap fun q =>
      (q.turves.filter fun t => t.sharedEntry.isNone).map fun t => (q.model, t))
    ++ (s.serve.pfx.filter fun e => e.clamp == k).map fun e => (e.model, e.turf)

/-- Runs of 8 slots in use in the Exrad tier (R260). -/
def poolRuns (s : State) (k : Nat) : List (Nat × Nat) :=
  (((poolTurves s k).filter fun e => !e.2.inBog).map fun e => (e.1, e.2.slot / 8)).eraseDups

/-- Exrad sods that the runs take. -/
def poolExrad (s : State) (k : Nat) : Nat := sumN ((poolRuns s k).map fun e => 8 * turfSize s k e.1)

/-- Bog sods that demoted turves take, evicted entries' turves included (R261, R271). -/
def poolBog (s : State) (k : Nat) : Nat :=
  sumN (((poolTurves s k).filter fun e => e.2.inBog).map fun e => turfSize s k e.1)
    + sumN ((s.serve.orphans.filter fun o => o.1 == k).map fun o => turfSize s k o.2)

/-- The capacity of a clamp's pool in sods: Exrad and bog (R243). -/
def poolCap (s : State) (k : Nat) : Nat × Nat :=
  match (clampOf s k).serving with
  | some v => (v.turfExrad * 262144, v.turfBog * 262144)
  | none => (0, 0)

/-- The oldest turf of an evicted entry of a clamp dropped, its storage zero-filled (R62, R271). -/
def dropOrphan (s : State) (k : Nat) : State :=
  match s.serve.orphans.find? fun o => o.1 == k with
  | some o => { s with serve := { s.serve with orphans := s.serve.orphans.erase o } }
  | none => s

/-- Room for `n` sods made in turf_bog, by dropping turves of evicted entries one by one while it is short (R271). -/
def dropOrphans : Nat → State → Nat → Nat → State
  | 0, s, _, _ => s
  | fuel + 1, s, k, n => if poolBog s k + n ≤ (poolCap s k).2 then s else dropOrphans fuel (dropOrphan s k) k n

/-- Room made in turf_bog, and whether `n` sods fit. -/
def bogRoom (s : State) (k n : Nat) : State × Bool :=
  let s' := dropOrphans s.serve.orphans.length s k n
  (s', decide (poolBog s' k + n ≤ (poolCap s' k).2))

/-- The coldest unused prefix turf of a clamp in the Exrad tier. -/
def coldest (s : State) (k : Nat) : Option PfxEntry :=
  (s.serve.pfx.filter fun e => e.clamp == k && e.users == 0 && !e.turf.inBog).foldl
    (fun b e => match b with
      | none => some e
      | some x => if e.lastUse < x.lastUse then some e else some x) none

/-- The coldest unused prefix turf demoted, when the bog has room (R261). -/
def demoteColdest (s : State) (k : Nat) : State × Bool :=
  match coldest s k with
  | none => (s, false)
  | some e =>
    let r := bogRoom s k (turfSize s k e.model)
    if r.2 then
      ({ r.1 with serve := { r.1.serve with pfx := r.1.serve.pfx.map fun x =>
          if x.id = e.id then { x with turf := { x.turf with inBog := true } } else x } }, true)
    else (s, false)

/-- A free run of 8 slots of a model, prefix turves demoted until one is free (R260, R261). -/
def freeRun : Nat → State → Nat → Nat → State × Option Nat
  | 0, s, _, _ => (s, none)
  | fuel + 1, s, k, fp =>
    let used := (poolRuns s k).filterMap fun e => if e.1 = fp then some e.2 else none
    if poolExrad s k + 8 * turfSize s k fp ≤ (poolCap s k).1 then
      (s, (List.range (used.length + 1)).find? fun r => !used.contains r)
    else
      let r := demoteColdest s k
      if r.2 then freeRun fuel r.1 k fp else (s, none)

/-- A private turf for block `i` of a request: in the run that the request holds for its chunk, or in a new run (R260). -/
def addTurf (s : State) (id i : Nat) : State × Bool :=
  match reqOf s id with
  | none => (s, false)
  | some q =>
    let mates := (q.turves.zipIdx.filter fun e => e.1.own && !e.1.inBog && e.2 / 8 == i / 8).map (·.1.slot)
    match mates.head? with
    | some x => (modReq s id fun q => { q with turves := q.turves ++ [{ slot := x / 8 * 8 + i % 8, own := true }] }, true)
    | none =>
      let r := freeRun (s.serve.pfx.length + 1) s q.clamp q.model
      match r.2 with
      | some run => (modReq r.1 id fun q => { q with turves := q.turves ++ [{ slot := run * 8 + i % 8, own := true }] }, true)
      | none => (r.1, false)

/-- Private turves up to `n` blocks. -/
def growTurves : Nat → State → Nat → Nat → State × Bool
  | 0, s, id, n => (s, decide (n ≤ ((reqOf s id).map (·.turves.length)).getD 0))
  | fuel + 1, s, id, n =>
    let have_ := ((reqOf s id).map (·.turves.length)).getD 0
    if n ≤ have_ then (s, true)
    else
      let r := addTurf s id have_
      if r.2 then growTurves fuel r.1 id n else r

/-! ## What a model computes (R241, R242) -/

/-- What the work of a model depends on: its dimensions and its tensors (R242). -/
def modelDims (m : Model) : List Nat := [m.fingerprint, m.vocab, m.layers, m.kvHeads, m.kvFmt]

/-- The contents of a model's tensors. -/
def modelData (s : State) (m : Model) : List (List Byte) := (modelNames s m).map (tensorBytes s)

/-- The patch of the version that a request is bound to. -/
def patchData (s : State) (clamp model : Nat) (version : Option Nat) : List Byte :=
  match s.serve.versions.find? fun v => v.clamp == clamp && v.model == model && some v.fingerprint == version with
  | some v => readView v.sods 0 0 (4096 * v.size)
  | none => []

/-- The tokens of a request so far: its prompt and what it generated. -/
def Req.tokens (q : Req) : List Nat := q.block.prompt ++ q.generated

/-- The logits for the next position of a request (R242, R251). -/
def logitsOf (s : State) (m : Model) (q : Req) : List FP32 :=
  let x := Config.logit (modelDims m) (modelData s m) (patchData s q.clamp q.model q.version) q.tokens
  (List.range m.vocab).map x

/-- One byte of a turf of a request (R241): block `i`, sod of the turf, offset. An 8-bit format has the keys of 16 tokens in the lower half of
a sod and their values in the upper half; BF16 has them in two sods. Positions that are not filled are zero (R262). -/
def turfByte (s : State) (m : Model) (q : Req) (i sod off : Nat) : Byte :=
  let wide := m.kvFmt == 0x02
  let unit := if wide then 256 else 128
  let lh := if wide then sod / 2 else sod
  let value := if wide then sod % 2 == 1 else decide (2048 ≤ off)
  let p := 16 * i + off % (16 * unit) / unit
  if p < q.kvLen then
    Config.kvByte (modelDims m) (modelData s m) (patchData s q.clamp q.model q.version) (q.tokens.take (p + 1)) lh value (off % unit)
  else 0

/-- A run of the bytes of a request's turves, counted over all of them in order. -/
def turfRun (s : State) (m : Model) (q : Req) (off n : Nat) : List Byte :=
  let size := max m.turfSods 1
  (List.range' off n).map fun x => turfByte s m q (x / 4096 / size) (x / 4096 % size) (x % 4096)

/-! ## Stalls (R254) -/

/-- Whether a record now would be a 65th held one. -/
def ringStalls (s : State) (n : Nat) : Bool :=
  match ctxOf s n with
  | some c => decide (64 ≤ c.held.length)
  | none => false

/-! ## Handovers and cancels -/

/-- A request entered in the table; ended requests that held its slot before are forgotten (R249). -/
def addReq (s : State) (q : Req) : State :=
  { s with serve := { s.serve with
    nextReq := s.serve.nextReq + 1
    reqs := s.serve.reqs.filter (fun x => x.live || !(x.handle.ctx == q.handle.ctx && x.handle.slot == q.handle.slot)) ++ [q] } }

/-- The tag of a handover's transfer (log entry 40). -/
def handoverTag (id : Nat) : Nat := 2 ^ 63 + 2 ^ 62 + id

/-- Whether a tag is a handover's. -/
def isHandover (tag : Nat) : Bool := bit tag 63 && bit tag 62

/-- A reserved request whose handover came to nothing is gone (R265). -/
def dropOffered (s : State) : State :=
  let dead := s.serve.reqs.filter fun q => q.remote.isSome && q.state == .admitting &&
    !s.cmds.any fun c => c.live && (match c.work with | .handover r => r == q.id | _ => false)
  dead.foldl (fun s q =>
    let s := dropSlot (freeVersions (releaseTurves s q)) q.handle
    { s with serve := { s.serve with reqs := s.serve.reqs.filter fun x => x.id != q.id } }) s

/-- A handover in progress given up on both sides (R280): the target's reservation is dropped, or its module is told. -/
def abandonHandover (s : State) (q : Req) : State :=
  if q.state ≠ .shipping then s
  else if q.targetKind = 0 ∨ q.targetModule = s.flue.moduleId then
    match s.serve.reqs.find? fun x => x.remote == some (s.flue.moduleId, handoverTag q.id) && x.state == .admitting with
    | some x => dropOffered (dropReqCommands s x.id)
    | none => s
  else sendMsg s q.targetModule mkAbort { dst := q.targetModule, src := 0, status := 2, tag := handoverTag q.id }

/-- A cancel taken by the request table (R280). An end fixed at the last commit slot stands; a request between its slot and its
commit is marked, and ends at that commit. -/
def cancelReq (s : State) (id : Nat) : State × Bool :=
  match reqOf s id with
  | none => (s, false)
  | some q =>
    if q.state = .ended ∨ q.endReason ≠ 0 then (s, false)
    else if s.serve.slotTaken.any fun e => e.2.contains id then
      (modReq s id fun q => { q with endReason := 4, status := stCancelled }, true)
    else (endReq (abandonHandover (dropReqCommands s id) q) id 4 stCancelled, true)

/-- Stalled requests of a context rejoin, their records written, once it holds fewer than 64 records (R254). -/
def rejoin (s : State) (n : Nat) : State :=
  (s.serve.reqs.filter fun q => q.replyCtx == n && q.stalled && q.live).foldl (fun s q =>
    if ringStalls s n then s
    else
      let s := modReq s q.id fun q => { q with stalled := false, openRec := if q.endReason ≠ 0 then q.openRec else [] }
      if q.endReason ≠ 0 then endReq s q.id q.endReason q.status
      else putToken s q q.openRec false 0 stOk) s

/-! ## The prefix index -/

/-- The hash of a block (R266). -/
def blockHash (salt : List Byte) (parent : BitVec 128) (model version : Nat) (tokens : List Nat) : BitVec 128 :=
  (Config.sha512 (slice salt 0 32 ++ natLE 16 parent.toNat ++ natLE 8 model ++ natLE 8 version
    ++ slice (tokens.flatMap (natLE 4)) 0 64)).setWidth 128

/-- The entry that confirms a block, and whether a hash matched without confirming (R268). -/
def confirmBlock (s : State) (q : Req) (version : Nat) (parent hash : BitVec 128) (tokens : List Nat) :
    Option PfxEntry × Bool :=
  let cands := s.serve.pfx.filter fun e => e.clamp == q.clamp && e.hash == hash
  let hit := cands.find? fun e => e.tokens == tokens && e.parent == parent && e.salt == q.salt && e.group == q.group
    && e.model == q.model && e.version == version
  (hit, hit.isNone && !cands.isEmpty)

/-- The walk over a prompt's full blocks: the confirmed entries, and whether it stopped at a false match (R268). -/
def prefixWalk (s : State) (q : Req) (version : Nat) : Nat → BitVec 128 → List Nat → List PfxEntry × Bool
  | 0, _, _ => ([], false)
  | fuel + 1, parent, toks =>
    if toks.length < 16 then ([], false)
    else
      let hash := blockHash q.salt parent q.model version (toks.take 16)
      match confirmBlock s q version parent hash (toks.take 16) with
      | (some e, _) =>
        let r := prefixWalk s q version fuel hash (toks.drop 16)
        (e :: r.1, r.2)
      | (none, f) => ([], f)

/-- Entries a clamp may hold. -/
def pfxLimit (s : State) (k : Nat) : Nat := ((clampOf s k).serving.map (·.prefixEntries)).getD 0

/-- The entry that an insertion evicts: least recently used, without users and children (R271). -/
def evictable (s : State) (k : Nat) : Option PfxEntry :=
  (s.serve.pfx.filter fun e => e.clamp == k && e.users == 0 &&
      !s.serve.pfx.any (fun x => x.clamp == k && x.parent == e.hash && x.id != e.id)).foldl
    (fun b e => match b with
      | none => some e
      | some x => if e.lastUse < x.lastUse then some e else some x) none

/-- An entry evicted, its turf demoted when the bog has room (R271). -/
def evict (s : State) (e : PfxEntry) : State :=
  let s := { s with serve := { s.serve with pfx := s.serve.pfx.filter fun x => x.id != e.id } }
  let r := bogRoom s e.clamp (turfSize s e.clamp e.model)
  if r.2 then { r.1 with serve := { r.1.serve with orphans := r.1.serve.orphans ++ [(e.clamp, e.model)] } } else s

/-- Block `i` of a request inserted with its turf, when no entry confirms it and the index has or makes room (R270, R271). -/
def insertBlock (s : State) (id i : Nat) (parent : BitVec 128) (tokens : List Nat) : State :=
  match reqOf s id with
  | none => s
  | some q =>
    let version := q.version.getD 0
    let hash := blockHash q.salt parent q.model version tokens
    match q.turves[i]? with
    | none => s
    | some t =>
      if t.sharedEntry.isSome ∨ (confirmBlock s q version parent hash tokens).1.isSome then s
      else
        let count := (s.serve.pfx.filter fun e => e.clamp == q.clamp).length
        let s := if count < pfxLimit s q.clamp then s
          else match evictable s q.clamp with
            | some e => evict s e
            | none => s
        if (s.serve.pfx.filter fun e => e.clamp == q.clamp).length < pfxLimit s q.clamp then
          let e : PfxEntry := { id := s.serve.nextPfx, clamp := q.clamp, hash := hash, parent := parent, tokens := tokens, salt := q.salt
                                group := q.group, model := q.model, version := version, turf := t, users := 1, lastUse := s.now }
          let s := { s with serve := { s.serve with pfx := s.serve.pfx ++ [e], nextPfx := s.serve.nextPfx + 1 } }
          modReq s id fun q => { q with turves := q.turves.set i { t with sharedEntry := some e.id } }
        else s

/-- The hashes chained over a token sequence, one for each full block before block `n`. -/
def chainHash (q : Req) : Nat → BitVec 128 → List Nat → BitVec 128
  | 0, h, _ => h
  | n + 1, h, toks => chainHash q n (blockHash q.salt h q.model (q.version.getD 0) (toks.take 16)) (toks.drop 16)

/-- Full blocks [a, b) of a request inserted (R270). -/
def insertBlocks (s : State) (id a b : Nat) : State :=
  match reqOf s id with
  | none => s
  | some q =>
    let toks := q.block.prompt ++ q.generated
    (List.range' a (b - a)).foldl (fun s i =>
      insertBlock s id i (chainHash q i 0 toks) ((toks.drop (16 * i)).take 16)) s

/-! ## Ash in turves (R271, R282) -/

/-- The handle of a clamp's turf pool, a tensor of its serving context (log entry 156). -/
def poolHandle (s : State) (k : Nat) : Handle :=
  let x := Config.poolTensor k
  { ctx := ((clampOf s k).serving.map (·.ctx)).getD 0, gen := x / 2 ^ 24 % 16383 + 1, slot := x % 2 ^ 24 }

/-- The requests that use a turf of a request. -/
def turfUsers (s : State) (q : Req) (i : Nat) : List Nat :=
  match q.turves[i]? with
  | some t => match t.sharedEntry with
    | some e => (s.serve.reqs.filter fun x => x.live && x.turves.any fun u => u.sharedEntry == some e).map (·.id)
    | none => [q.id]
  | none => []

/-- A turf found ash: ASH of the pool, and its entry leaves the index at once (R271). -/
def spoilTurf (s : State) (q : Req) (i : Nat) : State :=
  match q.turves[i]? with
  | some t =>
    let s := noteAsh s (poolHandle s q.clamp) q.clamp
    { s with serve := { s.serve with pfx := s.serve.pfx.filter fun e => some e.id != t.sharedEntry } }
  | none => s

/-- A request that a serving command ended with a status (R282): its own commands end with it, and the other side of a handover is told. -/
def faultReq (s : State) (id status : Nat) : State :=
  match reqOf s id with
  | some q =>
    let s := endReq (abandonHandover (dropReqCommands s id status) q) id 5 status
    match q.remote with
    | some (src, tag) =>
      if q.state ≠ .admitting then s
      else if src = s.flue.moduleId then
        match s.serve.reqs.find? fun x => x.remote.isNone && x.state == .shipping && handoverTag x.id == tag with
        | some x => endReq (dropReqCommands s x.id status) x.id 5 status
        | none => s
      else sendMsg s src mkDecline { dst := src, src := 0, status := status, tag := tag }
    | none => s
  | none => s

/-- Turves of a request that a command meets as ash in its single re-run: every request that uses one of them ends DATA_ASH. -/
def ashTurves (s : State) (q : Req) (bad : List Nat) : State :=
  let users := (bad.flatMap (turfUsers s q)).eraseDups
  users.foldl (fun s id => faultReq s id stDataAsh) (bad.foldl (fun s i => spoilTurf s q i) s)

/-! ## Ends that follow from elsewhere -/

/-- Whether a request's reply context is a context of this module (R247). -/
def repliesHere (s : State) (q : Req) : Bool := q.remote.isSome || q.targetKind == 0 || q.targetModule == s.flue.moduleId

/-- Whether a context submitted a request or receives its tokens (R279). -/
def concerns (s : State) (n : Nat) (q : Req) : Bool := q.handle.ctx == n || (repliesHere s q && q.replyCtx == n)

/-- Requests submitted by, or replying to, a context end as cancelled (R280, R301). -/
def cancelReqsOf (s : State) (n : Nat) : State :=
  (s.serve.reqs.filter fun q => q.live && concerns s n q).foldl (fun s q => (cancelReq s q.id).1) s

/-- A context ends: its work, tensors, requests, records and handles (R301, R324). Its number stays taken while a command of it is
in commit. -/
def endContext (s : State) (n : Nat) : State :=
  match ctxOf s n with
  | none => s
  | some _ =>
    let s := modCtx s n fun c => { c with ending := true, held := [], window := [], taken := [], unreported := 0, winStart := none }
    let s := dropCommands (cancelReqsOf s n) n
    let s := (s.store.tensors.filter fun t => t.handle.ctx == n && !t.destroyed).foldl (fun s t => destroyTensor s t.handle) s
    let s := { s with
      store := { s.store with shardSets := s.store.shardSets.filter fun x => x.handle.ctx != n } }
    let s := releaseTensors s
    if s.cmds.any fun c => c.handle.ctx == n && c.phase == .commit then s else dropContext s n

/-- A context that was ending is gone once its last command in commit has finished (R324). -/
def reapContext (s : State) (n : Nat) : State :=
  match ctxOf s n with
  | some c => if c.ending && !s.cmds.any (fun c => c.handle.ctx == n && c.phase == .commit) then dropContext s n else s
  | none => s

end Sys2Proof.Machine
end

