-- ==== Sys2Proof/Machine/FlueMsg.lean ====
section
/-!
DEFINITION. Messages of transfers and remote flags as they arrive (R371-R382, R74, R81, R82), and the end of a transfer's wait (R381).
-/
namespace Sys2Proof.Machine

open Sys2Proof

/-- A message taken from the partner of a pair: of the pair's current epoch, and stamped; any other is discarded and counted (R371,
R372). -/
def fromPartner (s : State) (m : Msg) : Option State :=
  match pairOf s m.src with
  | some p =>
    if p.up && p.epoch == m.epoch && s.flue.lock && m.dst == s.flue.moduleId then
      some { s with flue := { s.flue with pairs := tset s.flue.pairs m.src { p with lastArrival := s.now } } }
    else none
  | none => none

/-- A message that is discarded (R371). -/
def discardMsg (s : State) (m : Msg) : State :=
  modPort s m.port fun x => { x with epochDiscards := satAdd 65535 x.epochDiscards 1 }

/-- What a message does when it is taken. -/
def taking (s : State) (m : Msg) (act : State → State) : State :=
  match fromPartner s m with
  | some s => act s
  | none => discardMsg s m

/-- The command that sends a transfer to a partner's context: in run, or between a kill and its re-run. -/
def senderOf (s : State) (m : Msg) : Option (Cmd × Outgoing) :=
  s.cmds.findSome? fun c =>
    if c.phase = .run ∨ c.killed then
      ((outgoing s c).find? fun o => o.partner == m.src && o.ctx == m.sctx && o.tag == m.tag).map fun o => (c, o)
    else none

/-- The command that receives a transfer: in run, or between a kill and its re-run. -/
def receiverOf (s : State) (ctx src tag : Nat) : Option Cmd :=
  s.cmds.find? fun c => c.handle.ctx == ctx && (c.phase == .run || c.killed) && (receiveTags s c).contains (src, tag)

/-- READY: the token is kept, and answered once its sender is in run (R377, R378). -/
def takeReady (m : Msg) (s : State) : State :=
  let tok : Token := { die := 0, ctx := m.sctx, src := m.src, tag := m.tag, off := m.off, len := u64 m.body 0 }
  let s := { s with flue := { s.flue with offered := s.flue.offered ++ [tok] } }
  match senderOf s m with
  | some (c, _) => answerTokens s c.handle
  | none => s

/-- WITHDRAW: the tokens of the tag are gone. -/
def takeWithdraw (m : Msg) (s : State) : State :=
  { s with flue := { s.flue with offered := s.flue.offered.filter fun t => !(t.src == m.src && t.ctx == m.sctx && t.tag == m.tag) } }

/-- The blocks of a DATA body: offset, bytes, tag. -/
def dataBlocks (m : Msg) : List (Nat × Memory × BitVec 64) :=
  (List.range (m.body.length / 4104)).map fun i =>
    (m.off + 4096 * i, memOf (slice m.body (4104 * i) 4096), BitVec.ofNat 64 (u64 m.body (4104 * i + 4096)))

/-- One block of DATA lands when its tag matches; on a mismatch the sod is asked for once more, and on a second one the receiving
command ends DATA_ASH (R378). -/
def landBlock (m : Msg) (s : State) (b : Nat × Memory × BitVec 64) : State :=
  let (off, data, tag) := b
  let s := { s with flue := { s.flue with
    tokens := s.flue.tokens.filter fun t => !(t.ctx == m.dctx && t.src == m.src && t.tag == m.tag && t.off == off) } }
  if hasLanded s m.dctx m.src m.tag off then s
  else if sodTag data = tag then
    { s with flue := { s.flue with landed := s.flue.landed ++
      [{ die := pairDie s m.src, ctx := m.dctx, src := m.src, tag := m.tag, off := off, bytes := data }] } }
  else match receiverOf s m.dctx m.src m.tag with
    | none => s
    | some c =>
      if c.transfer.resent.contains (m.tag, off) then finish s c.handle stDataAsh
      else issueToken (modCmd s c.handle fun c => { c with transfer := { c.transfer with resent := c.transfer.resent ++ [(m.tag, off)] } })
        m.dctx m.src m.tag off 4096

/-- Whether landing room holds a DATA message: its token's reservation, or room now (R82). -/
def roomFor (s : State) (m : Msg) : Bool :=
  (dataBlocks m).all (fun b => tokenOut s m.dctx m.src m.tag b.1)
    || decide (landingUsed s (pairDie s m.src) (clampNum s m.dctx) + 4096 * (dataBlocks m).length
        ≤ (clampOf s (clampNum s m.dctx)).landingShare * 1048576)

/-- What follows once data has landed: the receiver goes on, and parked tiles of the tag return whose data has landed in full (R81). -/
def afterLanding (s : State) (ctx src tag : Nat) : State :=
  let s := match receiverOf s ctx src tag with
    | some c => flueSettle (modCmd s c.handle fun c => { c with transfer := { c.transfer with arrived := true } }) c.handle
    | none => s
  settled (unpark s ctx src tag false)

/-- DATA: a copy of a consumed tag is discarded (R74); without room it is refused (R82). -/
def takeData (m : Msg) (s : State) : State :=
  if (ctxOf s m.dctx).isNone ∨ s.flue.consumed.contains (m.dctx, m.src, m.tag) then s
  else if roomFor s m then afterLanding ((dataBlocks m).foldl (landBlock m) (gather s 0x4002 (4096 * (dataBlocks m).length))) m.dctx m.src m.tag
  else
    let s := modClamp s (clampNum s m.dctx) fun k => { k with landingRefusals := k.landingRefusals + 1 }
    sendMsg s m.src mkRefuse { dst := m.src, src := 0, dctx := m.sctx, sctx := m.dctx, tag := m.tag, off := m.off }

/-- REOPEN: a consumed tag is confirmed again; otherwise tokens go out for what has not landed (R379). -/
def takeReopen (m : Msg) (s : State) : State :=
  let mine := fun t : Token => t.ctx == m.dctx && t.src == m.src && t.tag == m.tag
  match receiverOf s m.dctx m.src m.tag with
  | some c =>
    let old := s.flue.tokens.filter mine
    let s := { s with flue := { s.flue with tokens := s.flue.tokens.filter fun t => !mine t } }
    let s := old.foldl (fun s t => issueToken s m.dctx m.src m.tag t.off t.len) s
    if c.phase = .run then askMissing s c.handle else s
  | none =>
    if s.flue.consumed.contains (m.dctx, m.src, m.tag) ∨
        (s.cmds.any fun c => c.handle.ctx == m.dctx && c.transfer.taken.contains (m.src, m.tag)) then
      sendMsg s m.src mkConfirm { dst := m.src, src := 0, dctx := m.sctx, sctx := m.dctx, tag := m.tag }
    else s

/-- CONFIRM: kept for the sender, also between a kill and its re-run (R379). -/
def takeConfirm (m : Msg) (s : State) : State :=
  match senderOf s m with
  | some (c, o) =>
    settled (flueSettle (modCmd s c.handle fun c => { c with transfer := { c.transfer with
      confirmed := if c.transfer.confirmed.contains (o.partner, o.tag) then c.transfer.confirmed else c.transfer.confirmed ++ [(o.partner, o.tag)] } })
      c.handle)
  | none => s

/-- ABORT: with reason 2 the receiving command ends DATA_ASH; with reason 1 a resend follows (R380). -/
def takeAbort (m : Msg) (s : State) : State :=
  if m.status = 2 then
    match receiverOf s m.dctx m.src m.tag with
    | some c => finish s c.handle stDataAsh
    | none => settled (unpark s m.dctx m.src m.tag true)
  else settled (unpark s m.dctx m.src m.tag true)

/-- DECLINE: the sender ends DATA_ASH if that was the receiver's status, and CANCELLED otherwise (R380). -/
def takeDecline (m : Msg) (s : State) : State :=
  match senderOf s m with
  | some (c, _) => finish s c.handle (if m.status = stDataAsh then stDataAsh else stCancelled)
  | none => s

/-- The operation that a FLAG carries: flag, add or set, value. The manual does not lay out these bytes (log entry 42). -/
def flagBody (op : FlagOp) : List Byte := natLE 1 op.flag ++ natLE 1 (b2n op.add) ++ zeros 2 ++ natLE 4 op.value

/-- The operation read back. -/
def flagOfBody (b : List Byte) : FlagOp := { flag := u8 b 0 % 64, add := bit (u8 b 1) 0, value := u32 b 4 }

/-- FLAG: applied when the context exists and lets partners set the flag, and answered (R382). -/
def takeFlag (m : Msg) (s : State) : State :=
  let op := flagOfBody m.body
  let ok := match ctxOf s m.dctx with | some c => !c.ending && c.remoteMask.getLsbD op.flag | none => false
  let s := if ok then settled (applyFlag s m.dctx op) else s
  sendMsg s m.src mkFlagAnswer
    { dst := m.src, src := 0, dctx := m.sctx, sctx := m.dctx, status := if ok then stOk else stDenied, tag := m.tag }

/-- FLAG_ANSWER: the sender's DONE record is written, with committed set (R382). -/
def takeFlagAnswer (m : Msg) (s : State) : State :=
  match s.cmds.find? fun c => c.awaiting && Handle.encode c.handle == m.tag with
  | some c => settled (reapContext (endCmd s c.handle (if m.status = stOk then stOk else stDenied)) c.handle.ctx)
  | none => s

/-- The wait limit of a context. -/
def waitLimitOf (s : State) (n : Nat) : Nat := ((ctxOf s n).map (·.waitLimit)).getD 0

/-- Whether a command has received data of a transfer. -/
def hasData (s : State) (c : Cmd) : Bool :=
  c.transfer.arrived || (receiveTags s c).any fun x => s.flue.landed.any fun d => d.ctx == c.handle.ctx && d.src == x.1 && d.tag == x.2

end Sys2Proof.Machine
end

