-- ==== Sys2Proof/Machine/Sampling.lean ====
section
/-!
DEFINITION. The sampling tail (R255, R256) and the request block's layout (R246).
-/
namespace Sys2Proof.Machine

open Sys2Proof

/-- A candidate put in its place: z descending, then index ascending. -/
def insertCand (x : Nat × FP32) : List (Nat × FP32) → List (Nat × FP32)
  | [] => [x]
  | y :: r => if fpLt y.2 x.2 then x :: y :: r else y :: insertCand x r

/-- Candidates in their order; equal values keep the order of their indices. -/
def orderCands (l : List (Nat × FP32)) : List (Nat × FP32) := l.foldl (fun acc x => insertCand x acc) []

/-- The first position at which a test holds. -/
def firstAt (p : Nat → Bool) (n : Nat) : Option Nat := (List.range n).find? p

/-- Running sums of FP32 values. -/
def runningSums : FP32 → List FP32 → List FP32
  | _, [] => []
  | a, x :: r => fpAdd a x :: runningSums (fpAdd a x) r

/-- The sums a[0], a[1], ... of R255. -/
def cumulative : List FP32 → List FP32
  | [] => []
  | x :: r => x :: runningSums x r

/-- The smallest index that holds the maximum. -/
def argMax (x : List FP32) : Nat :=
  let m := fpMaxList x
  (firstAt (fun i => fpEq (at? x i fpNan) m) x.length).getD 0

/-- The choice among ordered candidates at a position. -/
def choose (c : List (Nat × FP32)) (topP : FP32) (seed q : Nat) : Nat :=
  let states := (chunks 128 c.length (c.map (·.2))).map fun xs => let (m, st, _) := chunkState xs; ({ m := m, s := st, o := [] } : SState)
  let root := treeFold mergeStates {} states.length states
  let p := c.map fun e => fpMul (fpExp (fpSub e.2 root.m)) (fpRcp root.s)
  let a := cumulative p
  let n := ((firstAt (fun j => fpLe topP (at? a j 0)) a.length).map (· + 1)).getD c.length
  let w := at? (fcg seed (q % 2 ^ 32) (q / 2 ^ 32) 0x534D0000 0) 0 0
  let r := fpMul (uniformOf w) (at? a (n - 1) 0)
  (at? c ((firstAt (fun j => fpLt r (at? a j 0)) n).getD (n - 1)) (0, 0)).1

/-- The sampled token; none ends the request FAULTED (R255, R256). -/
def sampleToken (b : ReqBlock) (q : Nat) (x : List FP32) : Option Nat :=
  if x.any fpIsNan || x.all (· == fpMinusInf) then none
  else if b.temperature &&& 0x7FFFFFFF = 0 then some (argMax x)
  else
    let g := fpRcp b.temperature
    let z := x.map fun v => fpMul v g
    if z.any (fun v => fpIsNan v || v == fpPlusInf) || z.all (· == fpMinusInf) then none
    else
      let c := orderCands ((z.zipIdx.filter fun e => e.1 != fpMinusInf).map fun e => (e.2, e.1))
      some (choose (if 0 < b.topK then c.take b.topK else c) b.topP b.seed q)

/-- The request block that bytes spell (R246). -/
def reqBlockOf (b : List Byte) : ReqBlock :=
  let n := u32 b 0
  { promptLen := n, maxNew := u32 b 4, seed := u64 b 8, temperature := BitVec.ofNat 32 (u32 b 16)
    topP := BitVec.ofNat 32 (u32 b 20), topK := u32 b 24, cacheOutput := bit (u8 b 28) 0, flushEvery := u8 b 31
    endTokens := (List.range (u8 b 29)).map fun i => u32 b (32 + 4 * i)
    stopSeqs := (List.range (u8 b 30)).map fun k => (List.range (u8 b (320 + k))).map fun i => u32 b (64 + 64 * k + 4 * i)
    prompt := (List.range n).map fun i => u32 b (512 + 4 * i) }

/-- A request block's bytes. -/
def reqBlockBytes (x : ReqBlock) : List Byte :=
  let head := natLE 4 x.promptLen ++ natLE 4 x.maxNew ++ natLE 8 x.seed ++ natLE 4 x.temperature.toNat ++ natLE 4 x.topP.toNat
    ++ natLE 4 x.topK ++ natLE 1 (b2n x.cacheOutput) ++ natLE 1 x.endTokens.length ++ natLE 1 x.stopSeqs.length ++ natLE 1 x.flushEvery
  let stops := (List.range 4).flatMap fun k => slice ((at? x.stopSeqs k []).flatMap (natLE 4)) 0 64
  let lens := (List.range 4).flatMap fun k => natLE 1 (at? x.stopSeqs k []).length
  head ++ slice (x.endTokens.flatMap (natLE 4)) 0 32 ++ stops ++ lens ++ zeros 188 ++ x.prompt.flatMap (natLE 4)

/-- The values of a request block that break the table of R246, for a model's vocabulary and longest sequence. DESIGN CHOICE (log entry 160): the
reserved bits [7:1] of the flags byte are ignored as R3 says of every reserved field; R246 refuses reserved bytes only, and this byte is none. -/
def badReqBlock (b : List Byte) (vocab maxSeq : Nat) : Bool :=
  let x := reqBlockOf b
  let t := numOf x.temperature
  let p := x.topP
  decide (x.promptLen = 0 ∨ maxSeq ≤ x.promptLen ∨ x.maxNew = 0 ∨ 131072 < x.maxNew ∨ 65536 < x.topK ∨ 8 < u8 b 29
      ∨ 4 < u8 b 30 ∨ u8 b 31 = 0 ∨ 8 < u8 b 31)
    || t.special || fpLt x.temperature 0
    || !(fpLt 0 p && fpLe p fpOne)
    || (x.stopSeqs.any fun q => q.isEmpty || decide (16 < q.length))
    || !((slice b 324 188).all (· == 0))
    || x.prompt.any (fun k => decide (vocab ≤ k))

end Sys2Proof.Machine
end

