-- ==== Sys2Proof/Machine/Serving.lean ====
section
/-!
DEFINITION. The serving engine's work (08_serving_engine): admission, prefill, decode steps and their commit slot, handovers between
clamps and modules, offers, forwarded cancels.
-/
namespace Sys2Proof.Machine

open Sys2Proof

/-! ## Commands of the serving context (R244) -/

/-- The serving context of a clamp. -/
def servingCtx (s : State) (k : Nat) : Option Nat := (clampOf s k).serving.map (·.ctx)

/-- Live commands of a serving queue of a clamp: 0 prefill, 1 handover, 2 steps. -/
def servingLive (s : State) (k q : Nat) : List Cmd :=
  match servingCtx s k with
  | none => []
  | some n => s.cmds.filter fun c => c.live && c.handle.ctx == n && c.queue == some q

/-- A command of the serving context created in its run phase. -/
def servingCmd (s : State) (k q : Nat) (w : Work) (done : Bool) : State × Handle :=
  match servingCtx s k with
  | none => (s, Handle.null)
  | some n =>
    let h := newHandle s n 0
    let s := takeSlot s h
    ({ s with cmds := s.cmds ++ [{ handle := h, queue := some q, work := w, phase := .run, issuedAt := s.now, runAt := s.now, done := done }] }, h)

/-- A lost weight ends every request of its model (R282). -/
def lostModel (s : State) (m : Model) : State := settled (endModelReqs s m.clamp m.fingerprint stWeightLost)

/-- Whether a clamp may serve a model: without a ready stack only BF16 key-value formats (R245). -/
def servesModel (s : State) (k : Nat) (m : Model) : Bool :=
  m.kvFmt == 0x02 || (List.range 12).any fun st => rdy s (rdyExrad st) && ownsAny (clampOf s k) st

/-- A serving command made, with the bytes that it moves: how many its graph moves the manual does not say (log entry 50). Steps run in the
critical class, prefill in the normal class (R244, R359). -/
def servingWork (s : State) (k q : Nat) (w : Work) : State :=
  let class_ := if q = 2 then Traffic.critical else Traffic.normal
  countTraffic { (servingCmd s k q w true).1 with freeCount := s.freeCount + 4 } k class_ (leNat (freeBytes s.freeCount 4))

/-! ## Admission (R248, R268, R269, R273) -/

/-- The version that a request would bind; none inside when it names no shaving; none outside when it must wait. -/
def bindVersion (s : State) (q : Req) : Option (Option Nat) :=
  if q.shaving = 0 then some none
  else if s.serve.noBind.contains (q.clamp, q.model, q.shaving) then none
  else (s.serve.versions.find? fun v => v.clamp == q.clamp && v.model == q.model && v.number == q.shaving && v.current).map
    fun v => some v.fingerprint

/-- The blocks of a prompt that the clamp's index confirms; the last block of a prompt of whole blocks counts as a miss (R269). -/
def confirmed (s : State) (q : Req) (version : Nat) : List PfxEntry × Bool :=
  let r := prefixWalk s q version (q.block.promptLen / 16) 0 q.block.prompt
  if q.block.promptLen % 16 = 0 ∧ r.1.length = q.block.promptLen / 16 then (r.1.dropLast, r.2) else r

/-- Confirmed blocks gain a user and join the request's turves read-only (R268). -/
def shareBlocks (s : State) (id : Nat) (l : List PfxEntry) : State :=
  let ids := l.map (·.id)
  let join := fun e : PfxEntry => if ids.contains e.id then { e with users := e.users + 1, lastUse := s.now } else e
  let s := { s with serve := { s.serve with pfx := s.serve.pfx.map join } }
  modReq s id fun q => { q with turves := l.map fun e => { slot := e.turf.slot, sharedEntry := some e.id, inBog := e.turf.inBog } }

/-- ADMISSION (R248): the version is bound, the prefix index walked, the prompt's turves found; without room the request waits. -/
def execServingAdmission (id : Nat) (s : State) : Host.Outcome State Fault Refusal :=
  .next (match reqOf s id with
    | none => s
    | some q =>
      match modelOf s q.clamp q.model, bindVersion s q with
      | some m, some v =>
        if q.state ≠ .admitting ∨ q.remote.isSome ∨ (clampOf s q.clamp).state ≠ .running then s
        else if modelLost s m then lostModel s m
        else
          let hit := confirmed s { q with version := v } (v.getD 0)
          let r := growTurves (turfCount q.block.promptLen) (shareBlocks s id hit.1) id (turfCount q.block.promptLen)
          if r.2 then
            let s := modClamp r.1 q.clamp fun k => { k with
              prefixConfirmed := k.prefixConfirmed + hit.1.length, prefixFalse := k.prefixFalse + b2n hit.2 }
            let s := modReq s id fun q => { q with
              state := .prefill, version := v, admitted := s.serve.admissions, done := 16 * hit.1.length, kvLen := 16 * hit.1.length }
            { s with serve := { s.serve with admissions := s.serve.admissions + 1 } }
          else s
      | _, _ => s)

/-! ## Prefill (R250) -/

/-- Requests of a clamp in a state. -/
def reqsIn (s : State) (k : Nat) (st : ReqState) : List Req := s.serve.reqs.filter fun q => q.clamp == k && q.state == st

/-- Requests of a clamp that a step can take. -/
def ready (s : State) (k : Nat) : List Req := (reqsIn s k .decode).filter fun q => !q.stalled && !q.parked && q.endReason == 0

/-- Whether it is the turn of a prefill command in a clamp: a MIXED clamp runs one between consecutive steps (R250). -/
def prefillTurn (s : State) (k : Nat) : Bool :=
  (clampOf s k).role != 0 || tgetD s.serve.prefillTurn k true || (ready s k).isEmpty

/-- PREFILL_COMMAND (R250): a chunk of a request's prompt; the last chunk samples the first token at position prompt_len (R255). `ash` names
the turves that it meets as ash (R282). -/
def execPrefillCommand (clamp req : Nat) (ash : List Nat) (s : State) : Host.Outcome State Fault Refusal :=
  .next (match reqOf s req, (clampOf s clamp).serving with
    | some q, some v =>
      match modelOf s clamp q.model with
      | none => s
      | some m =>
        let n := min v.prefillChunk (q.block.promptLen - q.done)
        let last := q.done + n == q.block.promptLen
        let bad := ash.filter fun i => decide (i < q.kvLen / 16)
        if q.clamp ≠ clamp ∨ q.state ≠ .prefill ∨ q.first.isSome ∨ (clampOf s clamp).state ≠ .running ∨ !(servingLive s clamp 0).isEmpty
            ∨ ((clampOf s clamp).role = 0 ∧ !(servingLive s clamp 2).isEmpty) ∨ !servesModel s clamp m ∨ !prefillTurn s clamp then s
        else if modelLost s m then lostModel s m
        else if !bad.isEmpty then settled (ashTurves s q bad)
        else
          let token := if last then some (sampleToken q.block q.block.promptLen (logitsOf s m q)) else none
          let s := servingWork s clamp 0 (.prefill clamp req q.done n token)
          { s with serve := { s.serve with prefillTurn := tset s.serve.prefillTurn clamp false } }
    | _, _ => s)

/-! ## Turf room for steps (R261) -/

/-- The most recently admitted of some requests. -/
def latest (l : List Req) : Option Req :=
  l.foldl (fun b q => match b with | none => some q | some x => if x.admitted < q.admitted then some q else some x) none

/-- The most recently admitted decoding request of a clamp parked, or ended NO_SPACE when turf_bog is full (R261). -/
def parkLatest (s : State) (k : Nat) : State :=
  match latest ((reqsIn s k .decode).filter fun q => !q.parked) with
  | none => s
  | some q =>
    let own := (q.turves.filter fun t => t.sharedEntry.isNone && !t.inBog).length
    let r := bogRoom s k (own * turfSize s k q.model)
    if r.2 then
      modReq r.1 q.id fun q => { q with parked := true, turves := q.turves.map fun t => if t.sharedEntry.isNone then { t with inBog := true } else t }
    else endReq s q.id 6 stNoSpace

/-- Chunks of a request with a turf of the prefix index that lies in the bog. -/
def bogChunks (q : Req) : List Nat :=
  ((q.turves.zipIdx.filter fun e => e.1.sharedEntry.isSome && e.1.inBog).map fun e => e.2 / 8).eraseDups

/-- The turves of prefix entries moved to a run of the Exrad tier, block by block, in the index and for every user. -/
def liftEntries (s : State) (run : Nat) (l : List (Nat × Nat)) : State :=
  let lift := fun (t : Turf) (e : Nat) => match l.find? fun x => x.1 == e with
    | some x => { t with slot := run * 8 + x.2 % 8, inBog := false }
    | none => t
  { s with serve := { s.serve with
    pfx := s.serve.pfx.map fun e => { e with turf := lift e.turf e.id }
    reqs := s.serve.reqs.map fun q => { q with turves := q.turves.map fun t => match t.sharedEntry with | some e => lift t e | none => t } } }

/-- Shared turves of a request promoted from the bog, which in-bank attention needs (R43, R241, R261). -/
def promoteChunks : List Nat → State → Nat → State × Bool
  | [], s, _ => (s, true)
  | c :: rest, s, id =>
    match reqOf s id with
    | none => (s, false)
    | some q =>
      let r := freeRun (s.serve.pfx.length + 1) s q.clamp q.model
      match r.2 with
      | none => (r.1, false)
      | some run =>
        let l := (q.turves.zipIdx.filter fun e => e.1.inBog && e.2 / 8 == c).filterMap fun e => e.1.sharedEntry.map fun x => (x, e.2)
        promoteChunks rest (liftEntries r.1 run l) id

/-- The turves that the next position of a request needs: its shared ones in the Exrad tier, but for BF16 models, and room for the new one. -/
def turvesForStep (s : State) (id : Nat) (q : Req) : State × Bool :=
  let wide := (modelOf s q.clamp q.model).any fun m => m.kvFmt == 0x02
  let r := if wide then (s, true) else promoteChunks (bogChunks q) s id
  if r.2 then growTurves 2 r.1 id (turfCount (q.kvLen + 1)) else r

/-- Turves for the next position of a request, others parked until it has them or is parked itself. -/
def roomForStep : Nat → State → Nat → Nat → State
  | 0, s, _, _ => s
  | fuel + 1, s, k, id =>
    match reqOf s id with
    | none => s
    | some q =>
      if q.parked ∨ q.state ≠ .decode then s
      else
        let r := turvesForStep s id q
        if r.2 then r.1 else roomForStep fuel (parkLatest s k) k id

/-- New runs for the chunks of a parked request's private turves. -/
def unparkChunks : List Nat → State → Nat → State × Bool
  | [], s, _ => (s, true)
  | c :: rest, s, id =>
    match reqOf s id with
    | none => (s, false)
    | some q =>
      let r := freeRun 1 s q.clamp q.model
      match r.2 with
      | none => (s, false)
      | some run =>
        unparkChunks rest (modReq s id fun q => { q with turves := q.turves.zipIdx.map fun (t, i) =>
          if t.sharedEntry.isNone ∧ t.inBog ∧ i / 8 = c then { t with slot := run * 8 + i % 8, inBog := false } else t }) id

/-- Parked requests rejoin while their turves fit, the oldest first (R261). -/
def rejoinParked : Nat → State → Nat → State
  | 0, s, _ => s
  | fuel + 1, s, k =>
    match ((reqsIn s k .decode).filter (·.parked)).foldl
        (fun b q => match b with | none => some q | some x => if q.admitted < x.admitted then some q else some x) (none : Option Req) with
    | none => s
    | some q =>
      let cs := ((q.turves.zipIdx.filter fun e => e.1.sharedEntry.isNone && e.1.inBog).map fun e => e.2 / 8).eraseDups
      let r := unparkChunks cs s q.id
      if r.2 then rejoinParked fuel (modReq r.1 q.id fun q => { q with parked := false }) k else s

/-! ## Steps (R250-R252) -/

/-- The fingerprints of a clamp's models with waiting requests. -/
def waitingModels (s : State) (k : Nat) : List Nat := ((ready s k).map (·.model)).eraseDups

/-- The least number of a list that is above a bound. -/
def leastAbove (l : List Nat) (b : Nat) : Option Nat :=
  (l.filter fun x => decide (b < x)).foldl (fun m x => match m with | none => some x | some y => some (min x y)) none

/-- The model whose turn it is: in fingerprint order, after the last one (R250). -/
def nextModel (s : State) (k : Nat) : Option Nat :=
  let l := waitingModels s k
  (leastAbove l (tgetD s.serve.lastModel k 0)).or (leastAbove l 0)

/-- Requests in order of admission. -/
def byAdmission (l : List Req) : List Req :=
  l.foldr (fun q acc => (acc.takeWhile fun x => decide (x.admitted < q.admitted)) ++ q :: acc.dropWhile fun x => decide (x.admitted < q.admitted)) []

/-- The batch of a step: the oldest admissions first (R250). -/
def batchOf (s : State) (k model maxBatch : Nat) : List Req :=
  (byAdmission ((ready s k).filter fun q => q.model == model)).take maxBatch

/-- The turves of a batch's requests that a step meets as ash, request by request. -/
def batchAsh (batch : List Req) (ash : List (Nat × Nat)) : List (Req × List Nat) :=
  batch.filterMap fun q =>
    let bad := (ash.filter fun x => x.1 == q.id && decide (x.2 < turfCount q.kvLen)).map (·.2)
    if bad.isEmpty then none else some (q, bad)

/-- A step that met ash ends without committing, and with it every request that uses one of the turves (R282). -/
def ashStep (s : State) (l : List (Req × List Nat)) : State := settled (l.foldl (fun s x => ashTurves s x.1 x.2) s)

/-- DECODE_STEP (R250, R251, R261): parked requests that have room rejoin before the batch is formed. `ash` names the turves that the step
meets as ash: request and block (R282). -/
def execDecodeStep (clamp : Nat) (model : Nat) (ash : List (Nat × Nat)) (s : State) : Host.Outcome State Fault Refusal :=
  .next (match (clampOf s clamp).serving, modelOf s clamp model with
    | some v, some m =>
      let k := clampOf s clamp
      let r := rejoinParked s.serve.reqs.length s clamp
      if k.state ≠ .running ∨ k.role = 1 ∨ !servesModel s clamp m ∨ !(servingLive s clamp 2).isEmpty
          ∨ (k.role = 0 ∧ !(servingLive s clamp 0).isEmpty) ∨ nextModel r clamp ≠ some model
          ∨ (k.role = 0 ∧ tgetD s.serve.prefillTurn clamp true ∧ !(reqsIn s clamp .prefill).isEmpty) then s
      else if modelLost s m then lostModel s m
      else
        let s := (batchOf r clamp model v.maxBatch).foldl (fun s q => roomForStep (s.serve.reqs.length + 1) s clamp q.id) r
        let batch := (batchOf s clamp model v.maxBatch).filter fun q => decide (turfCount (q.kvLen + 1) ≤ q.turves.length)
        let bad := batchAsh batch ash
        if batch.isEmpty then settled s
        else if !bad.isEmpty then ashStep s bad
        else
          let tokens := batch.map fun q => sampleToken q.block (q.kvLen + 1) (logitsOf s m q)
          let s := servingWork s clamp 2 (.step clamp model (batch.map (·.id)) tokens)
          { s with serve := { s.serve with
            lastModel := tset s.serve.lastModel clamp model, prefillTurn := tset s.serve.prefillTurn clamp true } }
    | _, _ => s)

/-- Whether the tokens generated so far end with a stop sequence. -/
def endsWith (gen stop : List Nat) : Bool := decide (stop.length ≤ gen.length) && gen.drop (gen.length - stop.length) == stop

/-- The stop checks in their order (R257): the end reason, 0 when none holds. -/
def stopReason (q : Req) (token maxSeq : Nat) : Nat :=
  if q.block.endTokens.contains token then 1
  else if q.block.stopSeqs.any (endsWith q.generated) then 3
  else if q.block.maxNew ≤ q.generated.length ∨ maxSeq ≤ q.kvLen + 1 then 2
  else 0

/-- A token appended to a request, and the stop checks made. -/
def appendToken (maxSeq token : Nat) (q : Req) : Req :=
  let q := { q with generated := q.generated ++ [token], openRec := q.openRec ++ [token] }
  { q with endReason := stopReason q token maxSeq, status := stOk }

/-- What a step's commit slot does for one request of its batch (R252, R255). -/
def slotReq (maxSeq : Nat) (s : State) (x : Nat × Option Nat) : State :=
  match reqOf s x.1 with
  | none => s
  | some q =>
    if q.state ≠ .decode ∨ q.endReason ≠ 0 then s
    else match x.2 with
      | none => modReq s x.1 fun q => { q with endReason := 5, status := stFaulted }
      | some t => modReq s x.1 fun q => appendToken maxSeq t { q with kvLen := q.kvLen + 1 }

/-- COMMIT_SLOT (R252): the request table takes the clamp's step as it enters its commit phase, in time for a drain (R97); from then on nothing
can kill it (R67). -/
def execCommitSlot (clamp : Nat) (s : State) : Host.Outcome State Fault Refusal :=
  let inTime := !(clampOf s clamp).stop.any fun x => decide (x.deadline ≤ s.now)
  .next (match (servingLive s clamp 2).find? fun c => c.phase == .run && c.done && inTime with
    | none => s
    | some c =>
      match c.work with
      | .step k m batch tokens =>
        let live := batch.filter fun id => match reqOf s id with | some q => q.state == .decode && q.endReason == 0 | none => false
        let s := (batch.zip tokens).foldl (slotReq ((modelOf s k m).map (·.maxSeq) |>.getD 0)) s
        let s := modCmd s c.handle fun c => { c with phase := .commit }
        { s with serve := { s.serve with slotTaken := s.serve.slotTaken ++ [(c.handle, live)] } }
      | _ => s)

/-- The diagnostic of a sampling fault (R475, engine 9). -/
def samplingDiag (q : Req) : Option Diag :=
  if q.status = stFaulted then some { engine := 9, cause := 17, detail := natLE 3 q.handle.slot ++ natLE 1 3 } else none

/-- A request's open tokens published at a commit, or the request ended (R253, R254). -/
def publish (s : State) (id : Nat) : State :=
  match reqOf s id with
  | none => s
  | some q =>
    if q.endReason = 0 ∧ q.openRec.length < min q.block.flushEvery 8 ∧ !heldTakes s q then s
    else if ringStalls s q.replyCtx ∧ !heldTakes s q then modReq s id fun q => { q with stalled := true }
    else if q.endReason ≠ 0 then endReq s id q.endReason q.status (samplingDiag q)
    else putToken (modReq s id fun q => { q with openRec := [] }) q q.openRec false 0 stOk

/-- Serving state at the commit of a step (R72 step 3, R270): full turves inserted when asked, tokens published. -/
def commitStep (s : State) (h : Handle) : State :=
  let ids := ((s.serve.slotTaken.find? fun e => e.1 == h).map (·.2)).getD []
  let s := { s with serve := { s.serve with slotTaken := s.serve.slotTaken.filter fun e => e.1 != h } }
  ids.foldl (fun s id =>
    match reqOf s id with
    | none => s
    | some q =>
      let s := if q.block.cacheOutput ∧ q.kvLen % 16 = 0 then insertBlocks s id (q.kvLen / 16 - 1) (q.kvLen / 16) else s
      publish s id) s

/-- Serving state at the commit of a prefill command (R250, R255, R258, R270). -/
def commitPrefill (s : State) (clamp id first n : Nat) (token : Option (Option Nat)) : State :=
  match reqOf s id with
  | none => s
  | some q =>
    let s := modReq s id fun q => { q with done := first + n, kvLen := first + n }
    let s := insertBlocks s id (first / 16) ((first + n) / 16)
    match token with
    | none => s
    | some none => endReq s id 5 stFaulted (some { engine := 9, cause := 17, detail := natLE 3 q.handle.slot ++ natLE 1 3 })
    | some (some t) =>
      if (clampOf s clamp).role = 1 then modReq s id fun q => { q with state := .shipping, first := some t }
      else
        let maxSeq := ((modelOf s clamp q.model).map (·.maxSeq)).getD 0
        publish (modReq s id fun q => appendToken maxSeq t { q with state := .decode }) id

/-! ## Handovers (R262-R265, R384) -/

/-- Sixteen tokens of a block, 4 bytes each; positions past the last token are zero. -/
def blockTokens (toks : List Nat) (i : Nat) : List Byte := slice (((toks.drop (16 * i)).take 16).flatMap (natLE 4)) 0 64

/-- Bytes of a turf of a model. -/
def turfBytes (s : State) (clamp fp : Nat) : Nat := 4096 * turfSize s clamp fp

/-- The offer of a handover (R262). The manual lists what it carries and not its layout, which is the model's (log entry 43). -/
def offerBody (s : State) (q : Req) : List Byte :=
  let n := turfCount q.block.promptLen
  natLE 8 q.model ++ natLE 8 (q.version.getD 0) ++ natLE 4 (q.first.getD 0) ++ natLE 4 n ++ natLE 1 q.targetClamp ++ natLE 1 0
    ++ natLE 2 (q.replyCtx) ++ natLE 4 0 ++ reqBlockBytes q.block
    ++ (List.range n).flatMap fun i => blockTokens q.block.prompt i ++ natLE 4 (turfSize s q.clamp q.model)

/-- Whether a version is resident and may be bound: no drain or retirement of its shaving is in progress (R276, R278; log entry 157). -/
def versionOpen (s : State) (clamp model version : Nat) : Bool :=
  s.serve.versions.any fun v => v.clamp == clamp && v.model == model && v.fingerprint == version
    && !s.serve.noBind.contains (clamp, model, v.number)

/-- Why a target refuses an offer, if it does (R240, R245, R265). -/
def offerFails (s : State) (clamp : Nat) (model version replyCtx : Nat) : Option Nat :=
  let k := clampOf s clamp
  let resident := (modelOf s clamp model).any (fun m => !m.retiring) && (version == 0 || versionOpen s clamp model version)
  let reply := match ctxOf s replyCtx with | some c => c.clamp == clamp && c.replyEnabled && !c.ending | none => false
  let live := (s.serve.reqs.filter fun q => q.live && q.clamp == clamp).length
  firstFail [(!resident || k.role != 2 || k.serving.isNone, stBadParam), (!reply, stDenied),
    (!(modelOf s clamp model).any (servesModel s clamp), stNotReady),
    (decide (((k.serving.map (·.maxRequests)).getD 0) ≤ live) || decide (65536 ≤ (s.serve.reqs.filter (·.live)).length), stNoSpace)]

/-- The request that an offer describes, reserved in the table of the target. -/
def offeredReq (s : State) (clamp model version first replyCtx : Nat) (b : ReqBlock) (remote : Nat × Nat) : Req :=
  let c := (ctxOf s replyCtx).getD { fn := 0, clamp := clamp }
  { id := s.serve.nextReq, handle := newHandle s replyCtx 0, clamp := clamp, model := model, shaving := 0, block := b
    targetKind := 0, targetModule := 0, targetClamp := clamp, replyCtx := replyCtx, replyHandle := newHandle s replyCtx 0
    issuedAt := s.now, salt := c.salt, group := c.group, first := some first
    version := if version = 0 then none else some version, remote := some remote }

/-- An offer accepted: a table entry and slots reserved, blocks confirmed, and the receiving command entered in its run phase. -/
def acceptOffer (s : State) (q : Req) : Option (State × Handle) :=
  let s := takeSlot s q.handle
  let s := addReq s q
  let hit := prefixWalk s q (q.version.getD 0) (q.block.promptLen / 16) 0 q.block.prompt
  let r := growTurves (turfCount q.block.promptLen) (shareBlocks s q.id hit.1) q.id (turfCount q.block.promptLen)
  if r.2 then
    let s := modClamp r.1 q.clamp fun k => { k with
      prefixConfirmed := k.prefixConfirmed + hit.1.length, prefixFalse := k.prefixFalse + b2n hit.2 }
    some (servingCmd s q.clamp 1 (.handover q.id) false)
  else none

/-- Turves of an offered request that have to be pulled. -/
def pulled (q : Req) : List Nat := (q.turves.zipIdx.filter fun e => e.1.sharedEntry.isNone).map (·.2)

/-- Ready-tokens for the turves that have not landed, one for each turf (R384). -/
def askTurves (s : State) (h : Handle) (q : Req) : State :=
  match q.remote with
  | none => s
  | some (src, tag) =>
    let len := turfBytes s q.clamp q.model
    (pulled q).foldl (fun s i =>
      if (sodsOf 0 (i * len) len).all fun k => hasLanded s h.ctx src tag (4096 * k) then s else issueToken s h.ctx src tag (i * len) len) s

/-- A receiving handover goes on to its commit once every pulled turf has landed. -/
def settleHandover (s : State) (h : Handle) : State :=
  match cmdOf s h with
  | some c =>
    match c.work with
    | .handover r =>
      match reqOf s r with
      | some q =>
        match q.remote with
        | some (src, tag) =>
          let len := turfBytes s q.clamp q.model
          let landed := (pulled q).all fun i => (sodsOf 0 (i * len) len).all fun k => hasLanded s h.ctx src tag (4096 * k)
          if c.phase = .run ∧ (landed ∨ src = s.flue.moduleId) then modCmd s h fun c => { c with done := true } else s
        | none => s
      | none => s
    | _ => s
  | none => s

/-- A handover that failed: its command and its request end with a status (R265). -/
def failHandover (s : State) (id status : Nat) : State :=
  settled (dropOffered (endReq (dropReqCommands s id) id 5 status))

/-- The sending side of a handover runs: an offer to the target module, or to a clamp of this one. -/
def startHandover (s : State) (h : Handle) (q : Req) : State :=
  if q.targetModule = s.flue.moduleId ∨ q.targetKind = 0 then
    match s.serve.reqs.find? fun x => x.remote == some (s.flue.moduleId, handoverTag q.id) with
    | some x => if x.state = .admitting then s else modCmd s h fun c => { c with done := true }
    | none =>
    match offerFails s q.targetClamp q.model (q.version.getD 0) q.replyCtx with
    | some st => failHandover s q.id st
    | none =>
      let r := offeredReq s q.targetClamp q.model (q.version.getD 0) (q.first.getD 0) q.replyCtx q.block (s.flue.moduleId, handoverTag q.id)
      match acceptOffer s r with
      | some (s, g) => settleHandover s g
      | none => failHandover s q.id stNoSpace
  else
    match pairOf s q.targetModule with
    | some p =>
      if p.up then
        let tag := handoverTag q.id
        if (cmdOf s h).any fun c => c.kills != 0 then
          sendMsg s q.targetModule mkReopen { dst := q.targetModule, src := 0, sctx := h.ctx, tag := tag }
        else sendMsg s q.targetModule mkOffer { dst := q.targetModule, src := 0, sctx := h.ctx, tag := tag, body := offerBody s q }
      else failHandover s q.id stLinkLost
    | none => failHandover s q.id stLinkLost

/-- HANDOVER (R262): the handover command of a request whose prefill has finished. `ash` names the turves that it meets as ash (R282). -/
def execServingHandover (x : TurfWork) (s : State) : Host.Outcome State Fault Refusal :=
  .next (match reqOf s x.req with
    | none => s
    | some q =>
      if q.state ≠ .shipping ∨ (clampOf s q.clamp).state ≠ .running ∨ !(servingLive s q.clamp 1).isEmpty then s
      else if x.ash.any fun i => decide (i < q.turves.length) then settled (ashTurves s q (x.ash.filter fun i => decide (i < q.turves.length)))
      else
        let r := servingCmd s q.clamp 1 (.handover x.req) false
        startHandover r.1 r.2 q)

/-- OFFER arrives (R262, R263): refused with its status, or accepted and its missing turves asked for. -/
def takeOffer (m : Msg) (s : State) : State :=
  let b := m.body
  let clamp := u8 b 24
  let block := reqBlockOf (b.drop 32)
  let decline := fun st => sendMsg s m.src mkDecline { dst := m.src, src := 0, dctx := m.sctx, status := st, tag := m.tag }
  match offerFails s clamp (u64 b 0) (u64 b 8) (u16 b 26) with
  | some st => decline st
  | none =>
    match acceptOffer s (offeredReq s clamp (u64 b 0) (u64 b 8) (u32 b 16) (u16 b 26) block (m.src, m.tag)) with
    | none => decline stNoSpace
    | some (s, h) =>
      match s.serve.reqs.find? fun q => q.remote == some (m.src, m.tag) && q.live with
      | some q => settleHandover (askTurves s h q) h
      | none => s

/-- A handover command's request, from the sending side. -/
def shippingReq (s : State) (tag : Nat) : Option Req :=
  s.serve.reqs.find? fun q => q.remote.isNone && q.state == .shipping && handoverTag q.id == tag

/-- The handover command of a request. -/
def handoverCmd (s : State) (id : Nat) : Option Cmd :=
  s.cmds.find? fun c => c.live && (match c.work with | .handover r => r == id | _ => false)

/-- READY for a handover: the turf's sods go out, read as they stand (R262). -/
def readyHandover (m : Msg) (s : State) : State :=
  match shippingReq s m.tag with
  | none => s
  | some q =>
    match handoverCmd s q.id, modelOf s q.clamp q.model with
    | some c, some x =>
      let n := min (u64 m.body 0 / 4096 * 4096) (4096 * x.turfSods * q.turves.length - m.off)
      let bs := turfRun s x q m.off n
      let s := modCmd (countTraffic s q.clamp .normal n) c.handle fun c => { c with transfer := { c.transfer with answered := true } }
      sendMsg s m.src mkData { dst := m.src, src := 0, dctx := m.sctx, sctx := c.handle.ctx, tag := m.tag, off := m.off, body := dataBody bs }
    | _, _ => s

/-- CONFIRM of a handover: its body names the decode-side handle; the handover command may commit. -/
def confirmHandover (m : Msg) (s : State) : State :=
  match shippingReq s m.tag with
  | none => s
  | some q =>
    match handoverCmd s q.id with
    | none => s
    | some c =>
      let s := modCmd s q.handle fun c => { c with result := u64 m.body 0 }
      modCmd s c.handle fun c => { c with done := true }

/-- DECLINE of a handover: GENERATE ends with the status (R265). -/
def declineHandover (m : Msg) (s : State) : State :=
  match shippingReq s m.tag with
  | some q => failHandover s q.id m.status
  | none => s

/-- ABORT of a handover: the sender gave it up, and nothing of it is kept (R280). -/
def abortHandover (m : Msg) (s : State) : State :=
  match s.serve.reqs.find? fun q => q.remote == some (m.src, m.tag) && q.state == .admitting with
  | some q => dropOffered (dropReqCommands s q.id)
  | none => s

/-- REOPEN of a handover: tokens for the turves that have not landed. -/
def reopenHandover (m : Msg) (s : State) : State :=
  match s.serve.reqs.find? fun q => q.remote == some (m.src, m.tag) with
  | some q =>
    match handoverCmd s q.id with
    | some c => askTurves { s with flue := { s.flue with tokens := s.flue.tokens.filter fun t => !(t.ctx == c.handle.ctx && t.src == m.src && t.tag == m.tag) } } c.handle q
    | none => s
  | none => s

/-- The commit of a handover on the receiving side (R72 step 3, R258, R263): the request is admitted in DECODE, its first token published,
its full turves inserted. -/
def commitReceived (s : State) (h : Handle) (q : Req) : State :=
  let maxSeq := ((modelOf s q.clamp q.model).map (·.maxSeq)).getD 0
  let s := match q.remote with
    | some (src, tag) => { s with flue := { s.flue with
        consumed := s.flue.consumed ++ [(h.ctx, src, tag)]
        landed := s.flue.landed.filter fun d => !(d.ctx == h.ctx && d.src == src && d.tag == tag) } }
    | none => s
  let s := modReq s q.id fun q => appendToken maxSeq (q.first.getD 0) { q with
    state := .decode, admitted := s.serve.admissions, kvLen := q.block.promptLen, done := q.block.promptLen }
  let s := { s with serve := { s.serve with admissions := s.serve.admissions + 1 } }
  publish (insertBlocks s q.id 0 (q.block.promptLen / 16)) q.id

/-- The commit of a handover on the sending side: GENERATE ends OK with the decode-side handle (R265). -/
def commitSent (s : State) (q : Req) : State :=
  let s := modReq (releaseTurves s q) q.id fun q => { q with state := .ended, sentAway := true, turves := [] }
  endCmd (freeVersions s) q.handle stOk

/-- CONFIRM sent for a received handover, or told to the sending clamp of this module. -/
def confirmReceived (s : State) (h : Handle) (q : Req) : State :=
  match q.remote with
  | none => s
  | some (src, tag) =>
    let m : Msg := { dst := src, src := src, sctx := h.ctx, tag := tag, body := natLE 8 (Handle.encode q.replyHandle) }
    if src = s.flue.moduleId then confirmHandover m s else sendMsg s src mkConfirm { m with src := 0 }

/-! ## Forwarded cancels (R281) -/

/-- A cancel of a request that has been handed over: sent to the decode module, or decided here when that is this module. -/
def forwardCancel (s : State) (me : Handle) (q : Req) : State :=
  let tag := handoverTag q.id
  if q.targetKind = 0 ∨ q.targetModule = s.flue.moduleId then
    match s.serve.reqs.find? fun x => x.remote == some (s.flue.moduleId, tag) with
    | some x =>
      let r := cancelReq s x.id
      finish r.1 me (if r.2 then stOk else stAlreadyDone)
    | none => finish s me stAlreadyDone
  else match pairOf s q.targetModule with
    | some p =>
      if p.up then
        sendMsg (modCmd s me fun c => { c with awaiting := true }) q.targetModule mkCancel
          { dst := q.targetModule, src := 0, sctx := me.ctx, tag := tag, body := natLE 8 (Handle.encode me) }
      else finish s me stLinkLost
    | none => finish s me stLinkLost

/-- CANCEL arrives: a cancel to decide, or the decision on one sent (R281). Byte 8 of the body tells them apart (log entry 43). -/
def takeCancelMsg (m : Msg) (s : State) : State :=
  if u8 m.body 8 = 1 then
    match s.cmds.find? fun c => c.awaiting && Handle.encode c.handle == u64 m.body 0 with
    | some c => finish s c.handle m.status
    | none => s
  else
    let r := match s.serve.reqs.find? fun q => q.remote == some (m.src, m.tag) with
      | some q => cancelReq s q.id
      | none => (s, false)
    sendMsg (settled r.1) m.src mkCancel
      { dst := m.src, src := 0, dctx := m.sctx, status := if r.2 then stOk else stAlreadyDone, tag := m.tag, body := slice m.body 0 8 ++ natLE 1 1 }

def execFlueOffer (m : Msg) (s : State) : Host.Outcome State Fault Refusal := .next (taking s m (takeOffer m))
def execFlueCancel (m : Msg) (s : State) : Host.Outcome State Fault Refusal := .next (taking s m (takeCancelMsg m))

end Sys2Proof.Machine
end

