-- ==== Sys2Proof/Machine/FlueRows.lean ====
section
/-!
DEFINITION. The rows of transfer messages (R373-R382) for queued commands and for handovers, and the end of a transfer's wait (R381).
-/
namespace Sys2Proof.Machine

open Sys2Proof

/-- Whether a command's transfer has brought nothing yet: a sender that has answered no token, a receiver without data. -/
def nothingYet (s : State) (c : Cmd) : Bool :=
  match c.work with
  | .flueSend .. => !c.transfer.answered
  | .flueReceive .. => !hasData s c
  | .flueReduce .. => !c.transfer.answered && !hasData s c
  | .program _ => !(receiveTags s c).isEmpty && !hasData s c
  | .handover r => !c.transfer.answered && (match reqOf s r with | some q => q.remote.isNone | none => false)
  | _ => false

/-- The end of a command's wait, when its window [run start, run start + wait limit) is over and nothing has come in it (R381, R265). A
sender sends ABORT with reason 2; a receiver's end sends DECLINE. -/
def closeWait (s : State) (h : Handle) : State :=
  match cmdOf s h with
  | none => s
  | some c =>
    if c.phase = .run ∧ !c.done ∧ nothingYet s c ∧ c.runAt + waitLimitOf s h.ctx ≤ s.now then
      match c.work with
      | .handover r =>
        match reqOf s r with
        | some q => failHandover (abandonHandover s q) r stWaitTimeout
        | none => s
      | _ =>
        let s := (outgoing s c).foldl (fun s o => sendMsg s o.partner mkAbort
          { dst := o.partner, src := 0, dctx := o.ctx, sctx := h.ctx, status := 2, tag := o.tag }) s
        finish s h stWaitTimeout
    else s

/-- Every wait that is over ends before a token or data can answer it: what comes at a window's end comes too late (R9, R381). -/
def closeWaits (s : State) : State := (s.cmds.map (·.handle)).foldl closeWait s

def execFlueReady (m : Msg) (s : State) : Host.Outcome State Fault Refusal :=
  .next (taking s m fun s => (if isHandover m.tag then readyHandover m else takeReady m) (closeWaits s))
def execFlueWithdraw (m : Msg) (s : State) : Host.Outcome State Fault Refusal := .next (taking s m (takeWithdraw m))

/-- DATA lands (R378), and a receiving handover goes on once it has every turf (R384). -/
def landData (m : Msg) (s : State) : State :=
  let s := takeData m s
  if isHandover m.tag then
    match s.serve.reqs.find? fun q => q.remote == some (m.src, m.tag) && q.state == .admitting with
    | some q =>
      match handoverCmd s q.id with
      | some c => settleHandover (askTurves s c.handle q) c.handle
      | none => dropOffered s
    | none => s
  else askAll s

def execFlueData (m : Msg) (s : State) : Host.Outcome State Fault Refusal := .next (taking s m fun s => landData m (closeWaits s))
/-- REFUSE: the sender sends again when new tokens come; the message itself changes nothing (R82). -/
def execFlueRefuse (m : Msg) (s : State) : Host.Outcome State Fault Refusal := .next (taking s m id)
def execFlueReopen (m : Msg) (s : State) : Host.Outcome State Fault Refusal :=
  .next (taking s m (if isHandover m.tag then reopenHandover m else takeReopen m))
def execFlueConfirm (m : Msg) (s : State) : Host.Outcome State Fault Refusal :=
  .next (taking s m (if isHandover m.tag then confirmHandover m else takeConfirm m))
def execFlueAbort (m : Msg) (s : State) : Host.Outcome State Fault Refusal :=
  .next (taking s m (if isHandover m.tag then abortHandover m else takeAbort m))
def execFlueDecline (m : Msg) (s : State) : Host.Outcome State Fault Refusal :=
  .next (taking s m (if isHandover m.tag then declineHandover m else takeDecline m))
def execFlueFlag (m : Msg) (s : State) : Host.Outcome State Fault Refusal := .next (taking s m (takeFlag m))
def execFlagAnswer (m : Msg) (s : State) : Host.Outcome State Fault Refusal := .next (taking s m (takeFlagAnswer m))

/-- TRANSFER_TIMEOUT (R381, R265): the end of a transfer's wait. -/
def execTransferTimeout (h : Handle) (s : State) : Host.Outcome State Fault Refusal :=
  .next (closeWait s h)

end Sys2Proof.Machine
end

