-- ==== Sys2Proof/Machine/IntegrityOps.lean ====
section
/-!
DEFINITION. What controllers do about errors in stored bits (11_memory_integrity): corrected bursts and hard faults (R339-R342), remap
tables (R342), page retirement (R343-R345), and errors that no controller corrects (R37, R342, R346).
-/
namespace Sys2Proof.Machine

open Sys2Proof

/-- Where a burst lies physically: tier, stack or package, channel, bank, row. -/
structure Spot where
  bog : Bool
  dev : Nat
  chan : Nat
  bank : Nat
  row : Nat
deriving DecidableEq, Repr, Inhabited

/-- A free number below a bound. -/
def freeBelow (k n : Nat) : Nat := ((Config.freeByte k).toNat + 256 * (Config.freeByte (k + 1)).toNat) % max n 1

/-- The spot of a burst of a place. The hash of an interleaved sod and the channel of a bog page are the Collier's alone (R44), so
those parts of the spot are free. A bog page stands as its number in `row`. -/
def spotOf (s : State) : Loc → Spot
  | .bank st ch b r => { bog := false, dev := st, chan := ch, bank := b, row := r }
  | .interleaved st m =>
    let chans := (List.range 32).filter fun i => m.getLsbD i
    { bog := false, dev := st, chan := at? chans (freeBelow s.freeCount chans.length) 0
      bank := freeBelow (s.freeCount + 2) 32, row := freeBelow (s.freeCount + 4) 12288 }
  | .bog p pg => { bog := true, dev := p, chan := freeBelow s.freeCount 4, bank := 0, row := pg }

/-- A channel's number in the table of its tier: stack·32 + channel, package·4 + channel. -/
def Spot.num (x : Spot) : Nat := if x.bog then x.dev * 4 + x.chan else x.dev * 32 + x.chan

/-- A channel's counts. -/
def errOf (s : State) (x : Spot) : ChanErr := tgetD (if x.bog then s.store.bogErr else s.store.exradErr) x.num {}

/-- A channel's counts changed. -/
def modErr (s : State) (x : Spot) (g : ChanErr → ChanErr) : State :=
  let e := g (errOf s x)
  if x.bog then { s with store := { s.store with bogErr := Machine.tset s.store.bogErr x.num e } }
  else { s with store := { s.store with exradErr := Machine.tset s.store.exradErr x.num e } }

/-- The event source of a spot's tier and device, at an offset (R462): 96 + s, or 108 + home die. -/
def spotSource (x : Spot) (base : Nat) : Nat := base + (if x.bog then 12 + x.dev / 4 else x.dev)

/-- Detail bytes of REMAP and PAGE_RETIRE (R474). Bank and row of a bog page are free. -/
def spotDetail (s : State) (x : Spot) (col : Nat) : List Byte :=
  let bank := if x.bog then freeBelow (s.freeCount + 6) 256 else x.bank
  let row := if x.bog then freeBelow (s.freeCount + 8) 65536 else x.row
  natLE 1 (b2n x.bog) ++ natLE 1 x.dev ++ natLE 1 x.chan ++ natLE 1 bank ++ natLE 2 row ++ natLE 1 col

/-- The page of a spot. -/
def Spot.page (x : Spot) : Loc := if x.bog then .bog x.dev x.row else .bank x.dev x.chan x.bank x.row

/-- Deferred retirements written to the list in flash, when no non-volatile write runs and none is held (R345, R432). -/
def startListWrite (s : State) : State :=
  if s.sec.nv.isNone ∧ !s.pwr.nvHold ∧ !s.store.flashDeferred.isEmpty then
    { s with
      sec := { s.sec with nv := some (.retiredList s.store.flashDeferred) }
      store := { s.store with flashDeferred := [] } }
  else s

/-- Whether a place still holds a sod or a shadow. -/
def pageHeld (s : State) (l : Loc) : Bool := pageTaken s l

/-- A page retired: no sod is placed on it any more; its remap entries are released once its sod has moved; the list in flash is
written, or the retirement lasts until fundamental reset when the list is full (R343-R345). -/
def retirePage (s : State) (x : Spot) (col : Nat) : State :=
  let l := x.page
  if s.store.retired.any fun e => e.1 == l then s
  else
    let full := decide (65536 ≤ s.store.flashRetired.length + s.store.flashDeferred.length)
    let s := if pageHeld s l then s
      else modErr s x fun e => { e with remap := e.remap.filter fun r => !(r.bank == x.bank && r.row == x.row) }
    let s := { s with store := { s.store with
      retired := s.store.retired ++ [(l, full)]
      flashDeferred := if full then s.store.flashDeferred else s.store.flashDeferred ++ [l] } }
    startListWrite (raise s (spotSource x 128) 0x0D (spotDetail s x col ++ natLE 1 (b2n full)))

/-- A burst takes a remap entry, or its page is retired when it is the page's fourth or the table is full (R342-R344). -/
def takeEntry (s : State) (x : Spot) (col : Nat) : State :=
  let e := errOf s x
  let mine := e.remap.filter fun r => r.bank == x.bank && r.row == x.row
  if mine.any fun r => r.column == col then s
  else if 3 ≤ mine.length then retirePage s x col
  else if 32 ≤ e.remap.length then
    let s := retirePage s x col
    if x.bog then s else { s with store := { s.store with proposed := s.store.proposed ++ [x.page] } }
  else
    let s := modErr s x fun e => { e with remap := e.remap ++ [{ bank := x.bank, row := x.row, column := col }] }
    let s := raise s (spotSource x 96) 0x0B (spotDetail s x col)
    if e.remap.length = 31 then raise s (spotSource x 112) 0x0C (natLE 1 (b2n x.bog) ++ natLE 1 x.dev ++ natLE 1 x.chan) else s

/-- A burst corrected and written back, with the result of its verify read (R339, R340). -/
def correctedBurst (s : State) (x : Spot) (col : Nat) (hard : Bool) : State :=
  let s := modErr s x fun e => { e with corrected := e.corrected + 1, hard := e.hard + b2n hard }
  let s := if hard then takeEntry s x col else s
  { s with freeCount := s.freeCount + 10 }

/-- A burst that stays uncorrectable takes an entry too (R342). -/
def uncorrectableBurst (s : State) (x : Spot) (col : Nat) : State :=
  let s := takeEntry s x col
  { s with freeCount := s.freeCount + 10 }

/-- Whether the controller checks the bursts of a place (R181, R186). -/
def checkedAt (s : State) : Loc → Bool
  | .bank st ch b r => !rowIsOpen s st ch b r
  | _ => true

/-- Check bytes of a burst at a place: 3 in the bog, 4 in a stack (R336). -/
def checkBytes : Loc → Nat
  | .bog .. => 3
  | _ => 4

/-- What a read of a sod's stored bits meets: the state afterwards and whether the bits can be used. An open row shows no controller
error; its tag alone finds wrong bits (R181). -/
def storedRead (s : State) (loc : Option Loc) (err : MemErr) : State × Bool :=
  match loc with
  | none => (s, err != .tagMismatch)
  | some l =>
    if !checkedAt s l then (s, !anyFlip err)
    else match seenOf (checkBytes l) err with
      | .clean => (s, true)
      | .corrected => (correctedBurst s (spotOf s l) (flipBurst err) (flipHard err), true)
      | .uncorrectable => (uncorrectableBurst s (spotOf s l) (flipBurst err), false)
      | .missed => (s, false)

end Sys2Proof.Machine
end

