-- ==== Sys2Proof/Machine/Slane.lean ====
section
/-!
DEFINITION. Slane engines and the host data path (R165-R168, R328, R20, R21): the queued commands that move tensor data, their reads through
snapshots, their writes into shadows, a channel's halt, and how commands come by channels (R86).
-/
namespace Sys2Proof.Machine

open Sys2Proof

/-- The channel that serves a command. -/
def slaneOf (s : State) (h : Handle) : Option (Nat × SlaneChan) := s.kiln.slane.find? fun e => e.2.cmd == h

/-- The byte that names a channel (R474, SLANE_HALT byte 19). -/
def slaneByte (n : Nat) : Nat := n / 32 + 4 * (n % 32 / 4) + 32 * (n % 4)

/-- The diagnostic of a Slane channel (R475, engine 4): cause, offset. -/
def slaneDiag (s : State) (h : Handle) (cause off : Nat) : Diag :=
  { engine := 4, cause := cause, detail := natLE 1 (slaneByte (((slaneOf s h).map (·.1)).getD 0)) ++ natLE 6 off ++ natLE 1 0xFF }

/-- A command of the Slane engines ends FAULTED (R48). -/
def slaneFault (s : State) (h : Handle) (off : Nat) : State := finish s h stFaulted (some (slaneDiag s h 1 off))

/-- The diagnostic of the host data path (R475, engine 6): cause, host address, failure byte. -/
def hostDiag (cause addr failure : Nat) : Diag := { engine := 6, cause := cause, detail := natLE 7 addr ++ natLE 1 failure }

/-- A command of the host data path ends FAULTED (R285). -/
def hostFault (s : State) (h : Handle) (cause addr failure : Nat) : State :=
  finish s h stFaulted (some (hostDiag cause addr failure))

/-- Why a run of bytes cannot be read now: a sod that cannot be used, a sod on a resource that its clamp does not own (R47), or a channel
that does not serve requests now, at which the read waits (R17, R172). -/
inductive Unread where
  | bad (k : Nat)
  | foreign (k : Nat)
  | waits

/-- What a data command meets: a bad sod of a tensor, a sod that its clamp does not own, an offset outside an array, a channel that does not
serve now, or its work done. -/
inductive Moved where
  | bad (t : Handle) (k : Nat)
  | foreign (k : Nat)
  | outside (off : Nat)
  | waits
  | done (s : State)

/-- What a read of a tensor that came to nothing means for its command. -/
def Unread.moved (t : Handle) : Unread → Moved
  | .bad k => .bad t k
  | .foreign k => .foreign k
  | .waits => .waits

/-- Bytes of a run through the command's view, after the checks of R47 and R35, or why there are none. -/
def readRun (s : State) (c : Cmd) (t : Handle) (plane : Bool) (off n : Nat) : Except Unread (List Byte) :=
  match tensorAny s t with
  | none => .ok (zeros n)
  | some x =>
    let view := viewOf s c t
    let sods := sodsOf (sodBase x plane) off n
    match firstForeign s t view sods with
    | some k => .error (.foreign k)
    | none =>
      if !(runChans t view (sodBase x plane) off n).all (chanReady s) then .error .waits
      else match firstUnread c t view sods with
        | some k => .error (.bad k)
        | none => .ok (readView view (sodBase x plane) off n)

/-- A run that a data command has read, counted. -/
def noteRun (s : State) (c : Cmd) (t : Handle) (plane : Bool) (off n : Nat) : State :=
  match tensorAny s t with
  | none => s
  | some x => servedRun s c.handle.ctx t (viewOf s c t) (sodBase x plane) off n .normal

/-- A run of elements that a data command has read, counted, with the scales of their blocks. -/
def noteElems (s : State) (c : Cmd) (t : Handle) (off n : Nat) : State :=
  match tensorAny s t with
  | none => s
  | some x =>
    let w := fmtBits x.fmt
    let s := noteRun s c t false (off * w / 8) (ceilDiv ((off + n) * w) 8 - off * w / 8)
    if fmtMx x.fmt then noteRun s c t true (off / 32) (ceilDiv (off + n) 32 - off / 32) else s

/-- Elements [off, off + n) of a tensor's array as encodings. -/
def readElems (s : State) (c : Cmd) (t : Handle) (off n : Nat) : Except Unread (List Nat) :=
  let f := ((tensorAny s t).map (·.fmt)).getD 1
  let w := fmtBits f
  let lo := off * w / 8
  match readRun s c t false lo (ceilDiv ((off + n) * w) 8 - lo) with
  | .error k => .error k
  | .ok bs => .ok ((List.range n).map fun i => leNat bs / 2 ^ ((off + i) * w - 8 * lo) % 2 ^ w)

/-- Elements [off, off + n) as exact values, each under its own block's scale (R105, R165). -/
def readValues (s : State) (c : Cmd) (t : Handle) (off n : Nat) : Except Unread (List Num) :=
  let f := ((tensorAny s t).map (·.fmt)).getD 1
  match readElems s c t off n with
  | .error k => .error k
  | .ok es =>
    if fmtMx f then
      match readRun s c t true (off / 32) ((off + n - 1) / 32 + 1 - off / 32) with
      | .error k => .error k
      | .ok sc => .ok (es.zipIdx.map fun (e, i) => elemValue f e (at? sc ((off + i) / 32 - off / 32) 0).toNat)
    else .ok (es.map fun e => elemValue f e 0)

/-- Encodings put over the bits of old bytes, from bit `r` on (R31). -/
def spliceElems (fmt r : Nat) (old : List Byte) (xs : List Nat) : List Byte :=
  let w := fmtBits fmt
  let x := xs.foldr (fun x acc => x % 2 ^ w + 2 ^ w * acc) 0
  let o := leNat old
  natLE old.length (o % 2 ^ r + 2 ^ r * x + 2 ^ (r + w * xs.length) * (o / 2 ^ (r + w * xs.length)))

/-- Elements written into a command's shadows from element `off` on. Bits of a byte that the run does not cover keep what the shadow or
the committed sod holds. -/
def writeElems (s : State) (h t : Handle) (off : Nat) (xs : List Nat) : State :=
  match tensorAny s t, cmdOf s h with
  | some x, some c =>
    let w := fmtBits x.fmt
    let lo := off * w / 8
    let n := ceilDiv ((off + xs.length) * w) 8 - lo
    let now := fun i =>
      match shadowOf c.shadows t (i / 4096) with
      | some sh => rdByte sh.data (i % 4096)
      | none => rdByte (sodIn x.sods (i / 4096)).data (i % 4096)
    writeShadow s h t 0 lo (spliceElems x.fmt (off * w - 8 * lo) ((List.range' lo n).map now) xs)
  | _, _ => s

/-- Elements of a tensor's array. -/
def elemCount (t : Tensor) : Nat := prodN t.localShape

/-- Exact values written to a tensor in its format (R106, R107), scales of a microscaling format too. -/
def writeValues (s : State) (h : Handle) (x : Tensor) (off : Nat) (vals : List Num) : State :=
  if fmtMx x.fmt then
    let out := convertOut x.fmt vals (vals.map fun _ => .nearest)
    let s := writeShadow s h x.handle 0 (off * fmtBits x.fmt / 8) out.1
    writeShadow s h x.handle (arraySods x) (off / 32) out.2
  else writeElems s h x.handle off (vals.map (encodeElem .nearest x.fmt))

/-- TENSOR_COPY (R165): the same format moves elements unchanged; other copies convert. -/
def moveCopy (s : State) (c : Cmd) (src dst : Handle) (so d n : Nat) : Moved :=
  match tensorAny s src, tensorAny s dst with
  | some x, some y =>
    if elemCount x < so + n then .outside (so * fmtBits x.fmt / 8)
    else if elemCount y < d + n then .outside (d * fmtBits y.fmt / 8)
    else if x.fmt = y.fmt ∧ (!fmtMx x.fmt ∨ (so % 32 = 0 ∧ d % 32 = 0 ∧ n % 32 = 0)) then
      match readElems s c src so n with
      | .error k => k.moved src
      | .ok es =>
        let t := noteElems s c src so n
        if fmtMx x.fmt then
          match readRun s c src true (so / 32) (n / 32) with
          | .error k => k.moved src
          | .ok sc => .done (writeShadow (writeElems t c.handle dst d es) c.handle dst (arraySods y) (d / 32) sc)
        else .done (writeElems t c.handle dst d es)
    else match readValues s c src so n with
      | .error k => k.moved src
      | .ok vs => .done (writeValues (noteElems s c src so n) c.handle y d vs)
  | _, _ => .done s

/-- The pattern of TENSOR_FILL repeated over a run. -/
def fillBytes (pattern : List Byte) (n : Nat) : List Byte := (List.range n).map fun i => at? pattern (i % 8) 0

/-- TENSOR_FILL. -/
def moveFill (s : State) (c : Cmd) (t : Handle) (off len : Nat) (pattern : List Byte) : Moved :=
  if outside s t off len then .outside off else .done (writeShadow s c.handle t 0 off (fillBytes pattern len))

/-- The rows of TENSOR_GATHER, one after the other. -/
def gatherRows (c : Cmd) (src dst : Handle) (rb : Nat) : List (Nat × Nat) → State → Moved
  | [], s => .done s
  | (i, n) :: rest, s =>
    if outside s src (n * rb) rb then .outside (n * rb)
    else match readRun s c src false (n * rb) rb with
      | .error k => k.moved src
      | .ok bs => gatherRows c src dst rb rest (writeShadow (noteRun s c src false (n * rb) rb) c.handle dst 0 (i * rb) bs)

/-- TENSOR_GATHER: row numbers are unsigned words of the index tensor. -/
def moveGather (s : State) (c : Cmd) (src idx dst : Handle) (rows rb : Nat) : Moved :=
  if outside s idx 0 (4 * rows) then .outside 0
  else if outside s dst 0 (rows * rb) then .outside 0
  else match readRun s c idx false 0 (4 * rows) with
    | .error k => k.moved idx
    | .ok bs => gatherRows c src dst rb ((List.range rows).map fun i => (i, u32 bs (4 * i))) (noteRun s c idx false 0 (4 * rows))

/-- The bytes that TENSOR_READ writes to host memory (R328), or what it meets. -/
def readForHost (s : State) (c : Cmd) (t : Handle) (off len plane fmt : Nat) : Except Moved (List Byte) :=
  match tensorAny s t with
  | none => .ok []
  | some x =>
    if fmt = 1 then
      if elemCount x < off + len then .error (.outside (off * fmtBits x.fmt / 8))
      else match readValues s c t off len with
        | .error k => .error (k.moved t)
        | .ok vs => .ok (vs.flatMap fun v => natLE 4 (fpOf v).toNat)
    else if runBytes x (plane == 1) < off + len then .error (.outside off)
    else match readRun s c t (plane == 1) off len with
      | .error k => .error (k.moved t)
      | .ok bs => .ok bs

/-- Host bytes that a TENSOR_WRITE reads. -/
def hostLen (len fmt : Nat) : Nat := if fmt = 1 then 4 * len else len

/-- The host address at which a command's read of host memory begins. -/
def readBase (c : Cmd) : Nat :=
  match c.work with
  | .tensorWrite _ _ host .. => host
  | .bankWrite _ _ _ _ _ host => host
  | _ => 0

/-- The lowest of the 4,096 tags that no outstanding read holds (R21). -/
def freeTag (s : State) : Option Nat :=
  (List.range 4096).find? fun t => !(s.cmds.any fun c => c.hostReqs.any fun r => r.1 == t)

/-- Requests sent for the reads of host memory that have some to send, as long as a tag is free (R20, R21). DESIGN CHOICE (log entry 147):
a request asks for at most 4,096 bytes and crosses no boundary of 4,096. -/
def pumpHost : Nat → State → State
  | 0, s => s
  | fuel + 1, s =>
    match s.cmds.find? (fun c => c.phase == .run && decide (c.hostNext < c.hostEnd)), freeTag s with
    | some c, some tag =>
      let addr := readBase c + c.hostNext
      let n := min (c.hostEnd - c.hostNext) (4096 - addr % 4096)
      let s := modCmd s c.handle fun c => { c with hostReqs := c.hostReqs ++ [(tag, c.hostNext, n)], hostNext := c.hostNext + n }
      pumpHost fuel (emit s (.hostRead (ctxFn s c.handle.ctx) addr n tag c.handle))
    | _, _ => s

/-- A read of host memory begun (R285). Without the link, or on an insecure stream, it fails (R73, R453). -/
def askHost (s : State) (h : Handle) (addr len : Nat) : State :=
  if ideBlocks s (ctxFn s h.ctx) addr then hostFault s h 16 addr 32
  else if !rdy s rdyHostLink then hostFault s h 13 addr 0
  else pumpHost 4096 (modCmd s h fun c => { c with hostOut := [(0, len)], hostReqs := [], hostNext := 0, hostEnd := len })

/-- TENSOR_WRITE: bounds, then the read of host memory. -/
def startWrite (s : State) (c : Cmd) (t : Handle) (off host len plane fmt : Nat) : State :=
  match tensorAny s t with
  | none => s
  | some x =>
    let bad := if fmt = 1 then decide (elemCount x < off + len) else decide (runBytes x (plane == 1) < off + len)
    if bad then hostFault s c.handle 1 host 0 else askHost s c.handle host (hostLen len fmt)

/-- A TENSOR_WRITE whose host bytes have all arrived writes its shadows (R328). -/
def endWrite (s : State) (c : Cmd) : State :=
  match c.work with
  | .tensorWrite t off _ len plane fmt =>
    match tensorAny s t with
    | none => s
    | some x =>
      let bs := rdBytes c.hostData 0 (hostLen len fmt)
      if fmt = 1 then writeValues s c.handle x off ((fps bs).map numOf)
      else writeShadow s c.handle t (sodBase x (plane == 1)) off bs
  | _ => s

/-- A command's work on the data movers is over. -/
def doneNow (s : State) (h : Handle) : State := modCmd s h fun c => { c with done := true }

/-- A sod that a command could not read, made ash, and no longer counted among its errors. -/
def spoilRead (s : State) (c : Cmd) (t : Handle) (k : Nat) : State :=
  modCmd (spoilSod s (viewOf s c t) t k) c.handle fun c => { c with errs := c.errs.filter fun e => e != (t, k) }

/-- A channel halts at a sod (R166): the sod becomes ash, and SLANE_HALT is raised. DESIGN CHOICE (log entry 148): the offset of a sod of
the scale plane counts from the start of the element array. -/
def haltSlane (s : State) (h t : Handle) (k : Nat) : State :=
  match cmdOf s h, slaneOf s h with
  | some c, some (n, x) =>
    let s := modCmd (spoilRead s c t k) h fun c => { c with shadows := [] }
    let s := { s with kiln := { s.kiln with slane := tset s.kiln.slane n { x with halt := some (s.now, t, 4096 * k) } } }
    settled (raise s (176 + clampNum s h.ctx) 0x11
      (natLE 3 h.slot ++ natLE 1 (slaneByte n) ++ natLE 6 (4096 * k) ++ natLE 3 t.slot ++ natLE 2 t.ctx) (some h.ctx))
  | _, _ => s

/-- What a data command's work comes to. A command whose read waits for a channel stays as it is (log entry 149). -/
def afterMove (s : State) (h : Handle) (m : Moved) (hostPath : Bool) : State :=
  let addr := match cmdOf s h with
    | some c => (match c.work with | .tensorRead _ _ a .. => a | _ => 0)
    | none => 0
  match m with
  | .done s => doneNow s h
  | .waits => s
  | .outside off => if hostPath then hostFault s h 1 addr 0 else slaneFault s h off
  | .foreign k => foreignFault s h (if hostPath then hostDiag 3 addr 0 else slaneDiag s h 3 (4096 * k))
  | .bad t k =>
    if hostPath then
      match cmdOf s h with
      | some c => finish (spoilRead s c t k) h stDataAsh
      | none => s
    else haltSlane s h t k

/-- What a TENSOR_READ has read, counted. -/
def noteRead (s : State) (c : Cmd) (t : Handle) (off len plane fmt : Nat) : State :=
  if fmt = 1 then noteElems s c t off len else noteRun s c t (plane == 1) off len

/-- A command on a Slane channel runs its descriptor from the start (R165, R167). -/
def runSlane (s : State) (h : Handle) : State :=
  match cmdOf s h with
  | none => s
  | some c =>
    match c.work with
    | .tensorRead t off _ len plane fmt =>
      match readForHost s c t off len plane fmt with
      | .ok bs => doneNow (modCmd (noteRead s c t off len plane fmt) h fun c => { c with hostData := memOf bs }) h
      | .error m => afterMove s h m true
    | .tensorWrite t off host len plane fmt => startWrite s c t off host len plane fmt
    | .tensorCopy a b so d n => afterMove s h (moveCopy s c a b so d n) false
    | .tensorFill t off len p => afterMove s h (moveFill s c t off len p) false
    | .tensorGather a i d r rb => afterMove s h (moveGather s c a i d r rb) false
    | _ => s

/-! ## Channels bound to commands (R86, R165, R518) -/

/-- Whether a command's work goes through a Slane channel. -/
def usesSlane : Work → Bool
  | .tensorRead .. => true
  | .tensorWrite .. => true
  | .tensorCopy .. => true
  | .tensorFill .. => true
  | .tensorGather .. => true
  | _ => false

/-- The Slane channels that serve a clamp: those of the ready dies on which it holds cores, or of every ready die when it holds none. No
setting of a clamp names Slane engines (DESIGN CHOICE, log entry 149). -/
def clampSlanes (s : State) (k : Nat) : List Nat :=
  let own := (List.range 4).filter fun d => rdy s (rdyKiln d) && at? (clampOf s k).cores d 0 != 0
  let dies := if own.isEmpty then (List.range 4).filter fun d => rdy s (rdyKiln d) else own
  dies.flatMap fun d => (List.range 32).map fun i => 32 * d + i

/-- Commands in run of a context whose Slane descriptor waits for a channel, oldest first. -/
def slaneWaiting (s : State) (n : Nat) : List Handle :=
  (s.cmds.filter fun c => c.handle.ctx == n && c.phase == .run && usesSlane c.work && !c.done && (slaneOf s c.handle).isNone).map (·.handle)

/-- Slane descriptors of a context, running or waiting (R86). -/
def slaneWork (s : State) (n : Nat) : Nat :=
  (s.cmds.filter fun c => c.handle.ctx == n && c.phase == .run && usesSlane c.work && !c.done).length

/-- The command of a clamp whose turn it is for a free channel: of the context that comes first in the order of R86, the oldest. -/
def slaneTurn (s : State) (k : Nat) : Option Handle :=
  let waiting := (s.ctxs.filter fun e => e.2.clamp == k && !(slaneWaiting s e.1).isEmpty).map (·.1)
  (vtOrder s .slane waiting).head?.bind fun n => (slaneWaiting s n).head?

/-- A command in run goes on: with a free channel, and its turn come, its descriptor starts; one whose read waited for a channel of a stack
tries it again (R17). -/
def serveSlane (s : State) (h : Handle) : State :=
  match cmdOf s h with
  | none => s
  | some c =>
    if c.phase ≠ .run ∨ c.done ∨ !c.hostOut.isEmpty ∨ !usesSlane c.work then s
    else match slaneOf s h with
      | some (_, x) => if x.halt.isNone then runSlane s h else s
      | none =>
        match (clampSlanes s (clampNum s h.ctx)).find? fun n => (tget? s.kiln.slane n).isNone with
        | some n =>
          if slaneTurn s (clampNum s h.ctx) = some h then
            runSlane { s with kiln := { s.kiln with slane := tset s.kiln.slane n { cmd := h, since := s.now } } } h
          else s
        | none => s

/-- ABORT of a halted channel: the command ends DATA_ASH (R167). -/
def abortSlane (s : State) (h : Handle) : State := finish s h stDataAsh

/-- SLANE_HALT_TIMEOUT (R167). -/
def execSlaneHaltTimeout (h : Handle) (s : State) : Host.Outcome State Fault Refusal :=
  .next (match slaneOf s h with
    | some (_, { halt := some (since, _, _), .. }) =>
      if since + ((ctxOf s h.ctx).map (·.waitLimit)).getD 0 ≤ s.now then abortSlane s h else s
    | _ => s)

end Sys2Proof.Machine
end

