-- ==== Sys2Proof/Machine/Sched.lean ====
section
/-!
DEFINITION. The clamp and context scheduler (R76-R80, R86-R88, R518), the start of the run phase (R67, R68, R158), promotion (R43), waits
and the deadlock detector (R91, R94-R96), stops (R97), tile commit (R160).
-/
namespace Sys2Proof.Machine

open Sys2Proof

/-! ## Entitlements (R86) -/

/-- Ready cores of a clamp, as engine numbers. -/
def clampCores (s : State) (k : Nat) : List Nat :=
  (List.range 4).flatMap fun d =>
    if rdy s (rdyKiln d) then
      ((List.range (at? s.rst.cores d 0)).filter fun c => (at? (clampOf s k).cores d 0).getLsbD c).map fun c => coreNum d c
    else []

/-- Ready channels of a clamp, as channel numbers. -/
def clampChannels (s : State) (k : Nat) : List Nat :=
  (List.range 12).flatMap fun st =>
    if rdy s (rdyExrad st) then
      ((List.range 32).filter fun ch => ownsChan (clampOf s k) st ch && (tgetD s.exrad.chans (chanNum st ch) {}).trained).map (chanNum st)
    else []

/-- Engines of the core class that a context has work for: tiles on cores and tiles waiting. -/
def coreWork (s : State) (n : Nat) : Nat := (s.kiln.tiles.filter fun t => t.cmd.ctx == n).length + tilesWaiting s n

/-- Engines of the channel class that a context has work for: in-bank parts not ended. -/
def chanParts (s : State) (n : Nat) : Nat :=
  sumN (s.cmds.map fun c => if c.handle.ctx = n ∧ c.phase = .run then c.partsLeft.length else 0)

/-- One spare engine each to the first contexts of an order. -/
def giveOne : Nat → List (Nat × Nat × Nat) → List (Nat × Nat × Nat)
  | 0, l => l
  | _, [] => []
  | n + 1, (c, e, w) :: r => (c, e + 1, w) :: giveOne n r

/-- Spare engines to contexts with work left, in order. -/
def giveRest : Nat → List (Nat × Nat × Nat) → List (Nat × Nat)
  | _, [] => []
  | n, (c, e, w) :: r => (c, e + min n (w - e)) :: giveRest (n - min n (w - e)) r

/-- `assign` (R86): runnable contexts with their work, in the order of vt; answers each one's entitlement, in that order. -/
def entitle (s : State) (k : EngineClass) (n : Nat) (run : List (Nat × Nat)) : List (Nat × Nat) :=
  let order := vtOrder s k (run.map (·.1))
  let total := sumN (order.map (weightOf s))
  let base := order.map fun c => (c, n * weightOf s c / total, ((run.find? fun x => x.1 == c).map (·.2)).getD 0)
  let given := giveOne (n - sumN (base.map (·.2.1))) base
  let capped := given.map fun (c, e, w) => (c, min e w, w)
  giveRest (n - sumN (capped.map (·.2.1))) capped

/-- Contexts of a clamp with work of a class. -/
def runnable (s : State) (k : Nat) (work : Nat → Nat) : List (Nat × Nat) :=
  ((s.ctxs.filter fun e => e.2.clamp == k).map fun e => (e.1, work e.1)).filter fun e => decide (0 < e.2)

/-- Cores that a context holds in a clamp. -/
def heldCores (s : State) (cores : List Nat) (n : Nat) : List Nat :=
  cores.filter fun c => match tget? s.kiln.cores c with | some e => e.ctx == n | none => false

/-- How early an engine is taken: idle, switching, running, in tile commit; a halted tile keeps its core (R86, R163). -/
def takeRank (s : State) (num : Nat) : Option (Nat × Nat) :=
  match tileOn s (num / 64) (num % 64) with
  | some t => if t.halted then none else if t.committing then some (3, 0) else some (2, s.now + 1 - t.startedAt)
  | none =>
    match tget? s.kiln.cores num with
    | some { use := .switching _, .. } => some (1, 0)
    | _ => some (0, 0)

/-- The engine that is taken first among a context's cores: by rank, the most recently started first, the highest number among equals. -/
def firstTaken (s : State) (l : List Nat) : Option Nat :=
  (l.foldl (fun b c =>
    match takeRank s c with
    | none => b
    | some r =>
      match b with
      | none => some (c, r)
      | some (_, x) => if r.1 < x.1 ∨ (r.1 = x.1 ∧ r.2 ≤ x.2) then some (c, r) else b) (none : Option (Nat × Nat × Nat))).map (·.1)

/-- The context that holds the most cores above its entitlement, the higher number among equals (R80). -/
def richest (s : State) (cores : List Nat) (ents : List (Nat × Nat)) : Option Nat :=
  let spare := fun n : Nat => (heldCores s cores n).length - ((ents.find? fun x => x.1 == n).map (·.2)).getD 0
  let holders := ((cores.filterMap fun c => (tget? s.kiln.cores c).map (·.ctx)).eraseDups).filter fun n =>
    decide (0 < spare n) && (firstTaken s (heldCores s cores n)).isSome
  holders.foldl (fun b n => match b with
    | none => some n
    | some m => if spare m < spare n ∨ (spare m = spare n ∧ m < n) then some n else some m) none

/-- A core given to a context: at once when nobody held it, otherwise through a switch, its tile killed unless it is in tile commit (R76,
R78), and then the switch's time counts from the end of the tile commit (R88). -/
def moveCore (s : State) (num n : Nat) : State :=
  match tget? s.kiln.cores num with
  | none => { s with kiln := { s.kiln with cores := tset s.kiln.cores num { ctx := n, since := s.now } } }
  | some e =>
    let s := match tileOn s (num / 64) (num % 64) with
      | some t => if t.committing then s else killTile true s t
      | none => s
    let from_ := match e.use with | .switching x => x | _ => e.ctx
    modCore s (num / 64) (num % 64) fun _ => { ctx := n, use := .switching from_, since := s.now }

/-- Cores brought to one context up to its entitlement: cores that nobody holds, then those of the contexts most above theirs. Without
`kill` only idle cores are taken. -/
def bringCores (s : State) (cores : List Nat) (ents : List (Nat × Nat)) (kill : Bool) (n : Nat) : Nat → State
  | 0 => s
  | fuel + 1 =>
    match cores.find? fun c => (tget? s.kiln.cores c).isNone with
    | some c => bringCores (moveCore s c n) cores ents kill n fuel
    | none =>
      match richest s cores ents with
      | none => s
      | some m =>
        match firstTaken s (heldCores s cores m) with
        | some c =>
          if kill ∨ (takeRank s c).map (·.1) = some 0 then bringCores (moveCore s c n) cores ents kill n fuel else s
        | none => s

/-- The core class of a clamp assigned anew (R86). -/
def assignCores (s : State) (k : Nat) (kill : Bool) : State :=
  let cores := clampCores s k
  let ents := entitle s .core cores.length (runnable s k (coreWork s))
  ents.foldl (fun s e => bringCores s cores ents kill e.1 (e.2 - (heldCores s cores e.1).length)) s

/-- Channels that a context holds in a clamp, the most recently started first, the highest number among equals. -/
def heldChans (s : State) (chans : List Nat) (n : Nat) : List Nat :=
  (s.kiln.chans.filter fun e => e.2.ctx == n && chans.contains e.1).foldl (fun l e =>
    let before := fun c => match tget? s.kiln.chans c with | some x => decide (e.2.since < x.since) | none => false
    l.takeWhile before ++ e.1 :: l.dropWhile before) []

/-- Every busy unit of a channel stops (R79). -/
def stopChan (s : State) (num : Nat) : State :=
  ((tgetD s.exrad.chans num {}).units.filter fun u => u.2.state.busy).foldl (fun s u => stopUnit s (num / 32) (num % 32) u.1) s

/-- The channel class: channels above a context's entitlement are given up as far as other contexts lack some. The procedure gives no order
among the contexts that hold too many; the order here is that in which the table of held channels names them (DESIGN CHOICE, log
entry 28). -/
def assignChans (s : State) (k : Nat) : State :=
  let chans := clampChannels s k
  let ents := entitle s .channel chans.length (runnable s k (chanParts s))
  let held := fun n => heldChans s chans n
  let lack := sumN (ents.map fun e => e.2 - (held e.1).length)
  let free := chans.length - (s.kiln.chans.filter fun e => chans.contains e.1).length
  let extra := ((s.kiln.chans.filter fun e => chans.contains e.1).map (·.2.ctx)).eraseDups.flatMap fun n =>
    (held n).take ((held n).length - ((ents.find? fun x => x.1 == n).map (·.2)).getD 0)
  (extra.take (lack - free)).foldl stopChan s

/-- Whether the command of a Slane channel has no more work for it: the channel is one of its context's idle engines. -/
def slaneIdle (s : State) (num : Nat) : Bool :=
  match tget? s.kiln.slane num with
  | some x => (cmdOf s x.cmd).any (·.done)
  | none => true

/-- Slane channels that a context holds among some, in the order in which they are taken from it (R86): idle ones, then the most recently
started first, the highest number among equals. -/
def heldSlanes (s : State) (slanes : List Nat) (n : Nat) : List Nat :=
  let mine := (s.kiln.slane.filter fun e => e.2.cmd.ctx == n && slanes.contains e.1).map (·.1)
  let since : Nat → Nat := fun c => ((tget? s.kiln.slane c).map (·.since)).getD 0
  let before := fun a b : Nat =>
    if slaneIdle s a != slaneIdle s b then slaneIdle s a else (decide (since b < since a) || (since a == since b && decide (b ≤ a)))
  mine.foldr (insertBy before) []

/-- A Slane channel taken from its context: a command whose work on it is over is charged for it (R87), any other is killed (R76). -/
def takeSlane (s : State) (num : Nat) : State :=
  match tget? s.kiln.slane num with
  | none => s
  | some x =>
    if slaneIdle s num then
      let s := charge s x.cmd.ctx .slane x.since
      { s with kiln := { s.kiln with slane := tdel s.kiln.slane num } }
    else killCmd s x.cmd

/-- The Slane class of a clamp assigned anew (R86): channels above a context's entitlement are taken as far as other contexts lack some. -/
def assignSlane (s : State) (k : Nat) : State :=
  let slanes := clampSlanes s k
  let ents := entitle s .slane slanes.length (runnable s k (slaneWork s))
  let held := fun n => heldSlanes s slanes n
  let lack := sumN (ents.map fun e => e.2 - (held e.1).length)
  let free := (slanes.filter fun n => (tget? s.kiln.slane n).isNone).length
  let mine := ((s.kiln.slane.filter fun e => slanes.contains e.1 && clampNum s e.2.cmd.ctx == k).map (·.2.cmd.ctx)).eraseDups
  let extra := mine.flatMap fun n => (held n).take ((held n).length - ((ents.find? fun x => x.1 == n).map (·.2)).getD 0)
  (extra.take (lack - free)).foldl takeSlane s

/-- Switches to processor mode in progress on a clamp's channels lead back at once: a slice end or a stop has met them (R178, log entry
153). -/
def abandonSwitches (s : State) (k : Nat) : State :=
  let mine := fun e : Nat × Chan => ownsChan (clampOf s k) (e.1 / 32) (e.1 % 32) && e.2.mode == .toProcessor
  { s with exrad := { s.exrad with chans := s.exrad.chans.map fun e => (e.1, { e.2 with abandon := e.2.abandon || mine e }) } }

/-- The three engine classes of a clamp assigned at the end of a slice. -/
def assignAll (s : State) (k : Nat) : State :=
  fillCores (assignSlane (assignChans (assignCores (abandonSwitches s k) k true) k) k)

/-- SLICE_BOUNDARY (R86). The manual does not say when a clamp's first slice starts; here it starts at CLAMP_START, and each next one at the
stamp at which the boundary before it was taken (DESIGN CHOICE, log entry 28). -/
def execSliceBoundary (clamp : Nat) (s : State) : Host.Outcome State Fault Refusal :=
  let k := clampOf s clamp
  .next (if (k.state = .running ∨ k.state = .stopping) ∧ k.sliceStart + k.slice ≤ s.now then
    settled (assignAll (modClamp s clamp fun k => { k with sliceStart := s.now }) clamp)
  else s)

/-- CORE_SWITCH_DONE (R78, R88): the time of the switch is discarded, and the core starts its context's next tile. -/
def execCoreSwitchDone (die core : Nat) (s : State) : Host.Outcome State Fault Refusal :=
  .next (match tget? s.kiln.cores (coreNum die core) with
    | some e =>
      match e.use with
      | .switching _ =>
        if (tileOn s die core).isSome then s
        else fillCores (modCore (discard s e.ctx .core e.since) die core fun e => { e with use := .idle, since := s.now })
      | _ => s
    | none => s)

/-- The counts of the current and the previous accounting period: earlier ones are published and no longer used. -/
def recentTimes (s : State) (t : Table (List Nat)) : Table (List Nat) := t.filter fun e => decide (periodOf s ≤ e.1 + 1)

/-- ACCOUNTING_PERIOD_END (R46, R87): the charges of the period stand under its number, and the access counts begin anew. -/
def execAccountingPeriodEnd (s : State) : Host.Outcome State Fault Refusal :=
  .next (if s.now % 1000000 = 0 then
    { s with
      ctxs := s.ctxs.map fun e => (e.1, { e.2 with charge := recentTimes s e.2.charge })
      clamps := s.clamps.map fun k => { k with discarded := recentTimes s k.discarded }
      store := { s.store with tensors := s.store.tensors.map fun t => { t with hits := [], hitsPrev := t.hits } } }
  else s)

/-! ## The start of the run phase -/

/-- `n` things divided in proportion to weights, the remainder to the first that have any (R158). -/
def spread (n : Nat) (ws : List Nat) : List Nat :=
  let total := sumN ws
  let base := ws.map fun w => n * w / total
  let rest := n - sumN base
  (base.zip ws).foldl (fun (l : List Nat × Nat) x =>
    if x.2 ≠ 0 ∧ 0 < l.2 then (l.1 ++ [x.1 + 1], l.2 - 1) else (l.1 ++ [x.1], l.2)) (([] : List Nat), rest) |>.1

/-- Consecutive runs of given lengths of the numbers from `i` on. -/
def runsFrom : Nat → List Nat → List (List Nat)
  | _, [] => []
  | i, n :: r => List.range' i n :: runsFrom (i + n) r

/-- The tiles of a command put into deques (R158): by die, then by core. A context that holds no core yet uses all of its clamp's. -/
def dealTiles (s : State) (h : Handle) (count : Nat) : State :=
  let all := clampCores s (clampNum s h.ctx)
  let mine := heldCores s all h.ctx
  let cores := if mine.isEmpty then all else mine
  let dies := List.range 4
  let perDie := spread count (dies.map fun d => (cores.filter fun c => c / 64 == d).length)
  let ds := (dies.zip (runsFrom 0 perDie)).flatMap fun (d, tiles) =>
    let cs := cores.filter fun c => c / 64 == d
    (cs.zip (runsFrom (tiles.headD 0) (spread tiles.length (cs.map fun _ => 1)))).map fun (c, ts) =>
      ({ cmd := h, die := d, core := c % 64, tiles := ts } : Deque)
  { s with kiln := { s.kiln with deques := s.kiln.deques ++ ds.filter fun d => !d.tiles.isEmpty } }

/-- Sods of which a command's shadows are known before it runs (R53): tensor and sod. -/
def knownShadows (s : State) (c : Cmd) : List (Handle × Nat) :=
  let run := fun (t : Handle) (plane : Bool) (lo n : Nat) =>
    match tensorAny s t with | some x => (sodsOf (sodBase x plane) lo n).map fun k => (t, k) | none => []
  let elems := fun (t : Handle) (off n : Nat) =>
    match tensorAny s t with
    | some x =>
      let w := fmtBits x.fmt
      run t false (off * w / 8) (ceilDiv ((off + n) * w) 8 - off * w / 8) ++ if fmtMx x.fmt then run t true (off / 32) (n / 32) else []
    | none => []
  let parts := fun b : InbankBlock =>
    (List.range b.parts).flatMap fun p => (partSods b p).filterMap fun (_, t, rw, k) => if rw then some (t, k) else none
  (match c.work with
    | .tensorWrite t off _ len plane fmt => if fmt = 1 then elems t off len else run t (plane == 1) off len
    | .tensorCopy _ d _ off n => elems d off n
    | .tensorFill t off len _ => run t false off len
    | .tensorGather _ _ d r rb => run d false 0 (r * rb)
    | .flueReceive t off len _ _ => run t false off len
    | .flueReduce _ d _ => match tensorAny s d with | some x => run d false 0 x.bytes | none => []
    | .inband b => parts b
    | .program l => match l.inband with | some b => parts b | none => []
    | _ => []).eraseDups

/-- Whether every clamp has room for shadows of some sods (R53). -/
def roomForShadows (s : State) (sods : List (Handle × Nat)) : Bool :=
  (List.range 8).all fun k =>
    decide ((sods.filter fun x => match tensorAny s x.1 with | some t => t.clamp == k | none => false).length ≤ clampFree s k)

/-- Whether every clamp has room for the shadows that a command is known to need. -/
def hasRoom (s : State) (c : Cmd) : Bool := roomForShadows s (knownShadows s c)

/-- Shadows of an in-bank command's read-write sods, each in the place that the Collier chose, seeded from the committed sod after its check
(R35, R51); none when a place is not allowed. -/
def inbankShadows : List (Handle × Nat) → List Loc → State → Handle → Option State
  | [], _, s, _ => some s
  | _ :: _, [], _, _ => none
  | (t, k) :: rest, l :: locs, s, h =>
    match tensorAny s t with
    | none => none
    | some x =>
      if placeOk s x k l then
        let s := checkSeeds s t [k]
        let sh := seededShadow t k (committedSod s t k) (some l)
        inbankShadows rest locs (openAt (modCmd s h fun c => { c with shadows := c.shadows ++ [sh] }) (some l)) h
      else none

/-- The snapshot of a command (R68). -/
def snapshotOf (s : State) (c : Cmd) : List (Handle × Table Sod) :=
  c.work.reads.eraseDups.filterMap fun h => (tensorAny s h).map fun t => (h, t.sods)

/-- Whether a tensor that a command reads is lost (R353). -/
def readsLost (s : State) (c : Cmd) : Bool :=
  c.work.reads.any fun h => match tensorAny s h with | some t => !t.lost.isEmpty | none => false

/-- Whether a rebuild is still to come for a tensor that a killed command reads: its re-run waits for it (R355). -/
def awaitsRebuild (s : State) (c : Cmd) : Bool :=
  c.killed && c.work.reads.any fun h => match tensorAny s h with
    | some t => t.shared && t.lost.isEmpty && t.sods.any fun e => e.2.ash
    | none => false

/-- The places of a part's committed sods; ash holds none. -/
def readPlaces (s : State) (c : Cmd) (b : InbankBlock) (p : Nat) : List (Option (Nat × Nat × Nat)) :=
  (partSods b p).filterMap fun (_, t, _, k) => if (sodIn (viewOf s c t) k).ash then none else some (placeUnit (sodIn (viewOf s c t) k).loc)

/-- Whether every sod that each part needs is bank-resident, those of a part in one bank pair (R43, R209). -/
def allPlaced (s : State) (c : Cmd) (b : InbankBlock) : Bool :=
  (List.range b.parts).all fun p =>
    match readPlaces s c b p with
    | [] => true
    | u :: r => u.isSome && r.all (· == u)

/-- Whether a command's depends-on handle was satisfied within its wait window (R12, R91, R92). -/
def depInTime (s : State) (c : Cmd) : Bool :=
  depState s c == .satisfied && match cmdOf s c.dep with
    | some d => c.dep == Handle.null || decide (d.endedAt < c.waitEnd)
    | none => true

/-- Whether a head's waits have ended in time, and its shadows have room and its sods their places (R43, R53, R90-R92): it has left the waiting
phase but for its turn to run, and no wait limit can end it any more. -/
def waitsOver (s : State) (c : Cmd) : Bool :=
  c.flagsOk && depInTime s c && hasRoom s c && (inbandOf c).all (allPlaced s c)

/-- Whether a waiting command may enter its run phase (R65, R67, R90-R92, R97, R99, R355). -/
def mayRun (s : State) (c : Cmd) : Bool :=
  let k := clampOf s (clampNum s c.handle.ctx)
  c.phase == .waiting && (k.state == .running || k.state == .unconfigured)
    && (if c.killed then hasRoom s c && (inbandOf c).all (allPlaced s c) else waitsOver s c) && !awaitsRebuild s c

/-- A command in its run phase, with its snapshot; `errs` names the sods whose stored bits will fail it (log entry 17). A tag it receives
under begins a new transfer when the command runs for the first time. -/
def enterRun (s : State) (h : Handle) (errs : List (Handle × Nat)) : State :=
  let tags := match cmdOf s h with | some c => if c.snap.isNone then receiveTags s c else [] | none => []
  let s := { s with flue := { s.flue with consumed := s.flue.consumed.filter fun x => !(x.1 == h.ctx && tags.contains (x.2.1, x.2.2)) } }
  modCmd s h fun c => { c with
    phase := .run, killed := false, runAt := s.now, snap := some (c.snap.getD (snapshotOf s c)), done := false, errs := errs
    transfer := { c.transfer with answered := false, arrived := false, resent := [] } }

/-- Ash that an in-bank part would read, if any (R220). -/
def inbankAsh (s : State) (c : Cmd) (b : InbankBlock) : Option (Handle × Nat) :=
  (List.range b.parts).findSome? fun p => (partSods b p).findSome? fun (_, t, rw, k) =>
    if !rw && (sodIn (viewOf s c t) k).ash then some (t, k) else none

/-- A command of tiles, parts or both starts (R136, R158, R208). -/
def startWork (s : State) (h : Handle) (locs : List Loc) : Option State :=
  match cmdOf s h with
  | none => none
  | some c =>
    match inbandOf c with
    | some b =>
      match inbankAsh s c b with
      | some (t, k) => some (dataError s h t k)
      | none =>
        match inbankShadows ((knownShadows s c).filter fun x => (shadowOf c.shadows x.1 x.2).isNone) locs s h with
        | none => none
        | some s =>
          if (List.range b.parts).all fun p => match cmdOf s h with | some c => partFits s c b p | none => false then
            let s := modCmd s h fun c => { c with partsLeft := List.range b.parts }
            match launchOf c with
            | some l => some (modCmd s h fun c => { c with tilesLeft := List.range (prodN l.grid) })
            | none => some s
          else none
    | none =>
      match launchOf c with
      | some l => some (modCmd s h fun c => { c with tilesLeft := List.range (prodN l.grid) })
      | none => some s

/-- Whether a command's work of a class makes its context runnable for the class: it has some, and the context had none (R86). -/
def becomesRunnable (s : State) (c : Cmd) : EngineClass → Bool
  | .core => !c.tilesLeft.isEmpty && coreWork s c.handle.ctx == 0
  | .channel => !c.partsLeft.isEmpty && chanParts s c.handle.ctx == c.partsLeft.length
  | .slane => usesSlane c.work && slaneWork s c.handle.ctx == 1

/-- Tiles dealt, and engines assigned where the context has become runnable (R80, R86, R158). -/
def arrive (s : State) (h : Handle) : State :=
  match cmdOf s h with
  | none => s
  | some c =>
    if c.phase ≠ .run then s
    else
      let k := clampNum s h.ctx
      let kill := (clampOf s k).preempt
      let tiles := c.tilesLeft.length
      let chans := becomesRunnable s c .channel
      let slanes := becomesRunnable s c .slane
      -- the work counts before the deques are dealt, so that the range follows the cores now entitled
      let counted := { s with kiln := { s.kiln with deques := s.kiln.deques ++ [{ cmd := h, die := 4, core := 0, tiles := c.tilesLeft }] } }
      let s := if becomesRunnable s c .core then assignCores counted k kill else s
      let s := { s with kiln := { s.kiln with deques := s.kiln.deques.filter fun d => !(d.cmd == h && d.die == 4) } }
      let s := if tiles = 0 then s else dealTiles s h tiles
      let s := if kill && chans then assignChans s k else s
      fillCores (if kill && slanes then assignSlane s k else s)

/-- A serving command that was killed runs again (R76, R251). -/
def rerunServing (s : State) (c : Cmd) : State :=
  match c.work with
  | .handover r =>
    match reqOf s r with
    | some q => if q.remote.isSome then settleHandover (askTurves s c.handle q) c.handle else startHandover s c.handle q
    | none => s
  | _ => doneNow s c.handle


/-- The sods that a command reads, as far as its parameters name them: tensor and sod (R420). -/
def knownReads (s : State) (c : Cmd) : List (Handle × Nat) :=
  let run := fun (t : Handle) (plane : Bool) (lo n : Nat) =>
    match tensorAny s t with | some x => (sodsOf (sodBase x plane) lo n).map fun k => (t, k) | none => []
  let whole := fun t : Handle => match tensorAny s t with | some x => (List.range (tensorSods x)).map fun k => (t, k) | none => []
  match c.work with
  | .tensorRead t off _ len plane fmt => if fmt = 1 then whole t else run t (plane == 1) off len
  | .flueSend t off len .. => run t false off len
  | w => w.reads.flatMap whole

/-- Whether a place lies on a stack out of service for temperature (R419). -/
def onHotStack (s : State) : Option Loc → Bool
  | some (.interleaved st _) => (at? s.pwr.sensors (4 + st) {}).out
  | some (.bank st ..) => (at? s.pwr.sensors (4 + st) {}).out
  | _ => false

/-- Whether a command reads or writes a sod on a stack that is out of service (R420). -/
def touchesHot (s : State) (c : Cmd) : Bool :=
  (knownReads s c).any (fun x => onHotStack s (sodIn (viewOf s c x.1) x.2).loc)
    || (knownShadows s c).any (fun x => onHotStack s (((tensorAny s x.1).map fun t => (sodIn t.sods x.2).loc).getD none))
    || c.shadows.any fun sh => onHotStack s (sh.loc.or (((tensorAny s sh.t).map fun t => (sodIn t.sods sh.sod).loc).getD none))

/-- Whether a command has tiles and its clamp has no ready Kiln die left, one of its dies being too hot (R420). -/
def lacksDie (s : State) (c : Cmd) : Bool :=
  let k := clampNum s c.handle.ctx
  (launchOf c).isSome && (clampCores s k).isEmpty
    && (List.range 4).any fun d => (at? s.pwr.sensors d {}).out && at? (clampOf s k).cores d 0 != 0

/-- Whether a command is one of a serving context, which never ends THERMAL (R421). -/
def isServing (s : State) (c : Cmd) : Bool := (ctxOf s c.handle.ctx).any (·.serving)

/-- What a command that has entered its run phase begins with; a data command waits in run for its Slane channel. -/
def beginWork (s : State) (h : Handle) (w : Work) (locs : List Loc) (c : Cmd) : State :=
  match w with
  | .program _ => match startWork s h locs with | some s => arrive s h | none => s
  | .inband _ => match startWork s h locs with | some s => arrive s h | none => s
  | .flueSend .. => startFlue s h
  | .flueReceive .. => startFlue s h
  | .flueReduce .. => startFlue s h
  | .prefill .. => rerunServing s c
  | .step .. => rerunServing s c
  | .handover _ => rerunServing s c
  | w => if usesSlane w then serveSlane (arrive s h) h else doneNow s h

/-- Whether the module's choice of places lets the work of a command start (R209). -/
def placesAllowed (s : State) (h : Handle) (w : Work) (locs : List Loc) : Bool :=
  match w with
  | .program _ => (startWork s h locs).isSome
  | .inband _ => (startWork s h locs).isSome
  | _ => true

/-- RUN_PHASE_START (R67, R68): nothing happens while the command may not run, and the module's choice of places must be allowed. For a data
command in run that waits for a Slane channel, or for a channel of a stack, the row is its next try (log entry 149). -/
def execRunPhaseStart (h : Handle) (x : RunChoice) (s : State) : Host.Outcome State Fault Refusal :=
  .next (match cmdOf s h with
    | none => s
    | some c =>
      if c.phase = .run then serveSlane s h
      else if !mayRun s c then s
      else if readsLost s c then finish s h stWeightLost
      else if touchesHot s c || lacksDie s c then (if isServing s c then s else finish s h stThermal)
      else
        let s' := enterRun s h x.errs
        if placesAllowed s' h c.work x.locs then beginWork s' h c.work x.locs c else s)

/-! ## Promotion (R43) -/

/-- The sods of an in-bank command, each once: those that it reads, and the committed sods under its shadows (R209). -/
def neededSods (b : InbankBlock) : List (Handle × Nat) :=
  ((List.range b.parts).flatMap fun p => (partSods b p).map fun (_, t, _, k) => (t, k)).eraseDups

/-- Whether a bank-resident place lies on a channel in memory mode, outside a refresh (R56). -/
def quiet (s : State) : Option Loc → Bool
  | some (.bank st ch _ _) => chanReady s (chanNum st ch)
  | _ => true

/-- Whether the clamp of a tensor lets the Collier move its sods: a stop in progress wins over a move (R57). -/
def movesStand (s : State) (t : Tensor) : Bool := (clampOf s t.clamp).state != .stopping

/-- A sod moved to a place, its tag checked (R55); an unbacked sod becomes a zero sod there. None when the move is not allowed (R41, R54,
R56, R57). -/
def promote (s : State) (t : Handle) (k : Nat) (l : Loc) : Option State :=
  match tensorAny s t with
  | none => none
  | some x =>
    match tget? x.sods k with
    | some old =>
      if old.loc = some l ∨ old.ash then some s
      else if !placeOk s x k l || shadowed s t k || !quiet s old.loc || !quiet s (some l) || !movesStand s x then none
      else if tagFails old then some (makeAsh s t k)
      else some (openAt (gather (modTensor s t fun x => { x with sods := tset x.sods k { old with loc := some l } }) 0x3002 1) (some l))
    | none =>
      if placeOk s x k l ∧ quiet s (some l) ∧ movesStand s x then
        some (openAt (modTensor s t fun x => { x with sods := tset x.sods k (mkSod [] (some l)) }) (some l))
      else none

/-- Sods moved one after the other. -/
def promoteAll : List (Handle × Nat) → List Loc → State → Option State
  | (t, k) :: rest, l :: locs, s => (promote s t k l).bind (promoteAll rest locs)
  | _, _, s => some s

/-- PROMOTION: the Collier has made every sod that a waiting in-bank command needs bank-resident, those of each part in one bank pair. -/
def execSodPromotion (h : Handle) (locs : List Loc) (s : State) : Host.Outcome State Fault Refusal :=
  .next (match cmdOf s h with
    | none => s
    | some c =>
      match inbandOf c with
      | none => s
      | some b =>
        if c.phase ≠ .waiting ∨ c.snap.isSome ∨ allPlaced s c b then s
        else match promoteAll (neededSods b) locs s with
          | none => s
          | some s' => if allPlaced s' c b then settled s' else s)

/-! ## Waits (R91, R94-R96) -/

/-- WAIT_TIMEOUT (R24, R91, R276): a waiting head whose waits have not ended, a held GENERATE, a SHAVING_REPLACE that drains, or a command one
of whose tile commits waits for shadow room. -/
def execWaitTimeout (h : Handle) (s : State) : Host.Outcome State Fault Refusal :=
  .next (match cmdOf s h with
    | none => s
    | some c =>
      let late := c.issuedAt + waitLimitOf s h.ctx ≤ s.now
      if c.phase = .waiting ∧ !c.killed ∧ c.headAt.isSome ∧ c.waitEnd ≤ s.now then (if waitsOver s c then s else finish s h stWaitTimeout)
      else if c.phase = .run ∧ (c.roomWait.any fun t => decide (t + waitLimitOf s h.ctx ≤ s.now)) then finish s h stWaitTimeout
      else if c.phase = .run ∧ late then
        match c.work with
        | .generate r =>
          match reqOf s r with
          | some q => if q.state = .admitting ∧ (bindVersion s q).isNone then settled (endReq s r 5 stWaitTimeout) else s
          | none => s
        | .shavingReplace k m n _ _ =>
          if c.done then s
          else finish { s with serve := { s.serve with noBind := s.serve.noBind.erase (k, m, n) } } h stWaitTimeout
        | _ => s
      else s)

/-- The head of a queue that waits on flags. -/
def flagHead (s : State) (x : Ctx) (q : Nat) : Option Cmd :=
  match (at? x.queues q {}).cmds.head? with
  | some h =>
    match cmdOf s h with
    | some c => if c.phase = .waiting ∧ !c.killed ∧ !c.flagsOk then some c else none
    | none => none
  | none => none

/-- Commands of a context not yet committed that carry an operation on a flag: queue, and whether the command is its queue's head. -/
def setters (s : State) (n f : Nat) : List (Option Nat × Bool) :=
  (s.cmds.filter fun c => c.handle.ctx == n && c.live && !c.committed).filterMap fun c =>
    let ops := c.ops ++ match c.work with | .flagWrite o => [o] | _ => []
    if ops.any fun o => o.flag == f then
      some (c.queue, match ctxOf s n, c.queue with
        | some x, some q => (at? x.queues q {}).cmds.head? == some c.handle
        | _, _ => true)
    else none

/-- An edge of the wait graph (R94): queue, flag, threshold, value, the queue whose command would set the flag. -/
structure WaitEdge where
  queue : Nat
  flag : Nat
  threshold : Nat
  value : Nat
  setter : Nat
deriving DecidableEq, Repr, Inhabited

/-- The wait graph of a context. -/
def waitGraph (s : State) (n : Nat) (x : Ctx) : List WaitEdge :=
  (List.range 16).flatMap fun q =>
    match flagHead s x q with
    | none => []
    | some c => c.waits.filterMap fun (f, t) =>
        let v := at? x.flags f 0
        if t ≤ v ∨ x.remoteMask.getLsbD f then none
        else match setters s n f with
          | (some b, false) :: r => if r.all (· == (some b, false)) then some ⟨q, f, t, v, b⟩ else none
          | _ => none

/-- Whether a walk of at most `fuel` edges leads from one queue to another. -/
def walks (g : List WaitEdge) : Nat → Nat → Nat → Bool
  | 0, _, _ => false
  | fuel + 1, a, b => g.any fun e => e.queue == a && (e.setter == b || walks (g.filter fun x => x.queue != a) fuel e.setter b)

/-- The edges that lie on a cycle, the first of each queue. -/
def cycleEdges (g : List WaitEdge) : List WaitEdge :=
  (List.range 16).filterMap fun q => g.find? fun e => e.queue == q && (e.setter == q || walks g 16 e.setter q)

/-- The DEADLOCK record of a queue (R95, R308). -/
def deadlockRec (h : Handle) (e : WaitEdge) : Rec :=
  { kind := 0x05, status := stDeadlock
    body := natLE 1 e.queue ++ natLE 1 e.setter ++ natLE 1 e.flag ++ [0] ++ natLE 8 (Handle.encode h) ++ zeros 4
      ++ natLE 4 e.threshold ++ natLE 4 e.value ++ zeros 4 }

/-- Heads of a cycle whose wait window has ended by now (R96). -/
def lateHeads (s : State) (n : Nat) (x : Ctx) : List Handle :=
  (cycleEdges (waitGraph s n x)).filterMap fun e =>
    match flagHead s x e.queue with
    | some c => if c.waitEnd ≤ s.now then some c.handle else none
    | none => none

/-- The heads of a context's cycles end DEADLOCK, queue by queue. -/
def breakCycle (s : State) (n : Nat) : State :=
  match ctxOf s n with
  | none => s
  | some x =>
    (cycleEdges (waitGraph s n x)).foldl (fun s e =>
      match flagHead s x e.queue with
      | some c => putRec (endCmd s c.handle stDeadlock) n (deadlockRec c.handle e)
      | none => s) s

/-- The check of one context: wait limits act first (R96). -/
def checkDeadlock (s : State) (n : Nat) : State :=
  match ctxOf s n with
  | none => s
  | some x => breakCycle ((lateHeads s n x).foldl (fun s h => finish s h stWaitTimeout) s) n

/-- DEADLOCK_CHECK (R94-R96). -/
def execDeadlockCheck (s : State) : Host.Outcome State Fault Refusal :=
  .next (if s.now % 100000 = 0 then settled ((s.ctxs.map (·.1)).foldl checkDeadlock s) else s)

/-! ## Stops (R97) -/

/-- Commands of a clamp that a stop kills: those in run that belong to a queue. -/
def stoppable (s : State) (k : Nat) : List Cmd :=
  s.cmds.filter fun c => c.phase == .run && c.queue.isSome && clampNum s c.handle.ctx == k

/-- Every command of a clamp in run killed, and the switches in progress on its channels abandoned (R76, R97, R178). -/
def killClamp (s : State) (k : Nat) : State :=
  let s := abandonSwitches s k
  let cs := (s.kiln.tiles.filter fun t => clampNum s t.cmd.ctx == k).map fun t => (t.die, t.core)
  let s := (stoppable s k).foldl (fun s c => killCmd s c.handle) s
  cs.foldl (fun s x => modCore s x.1 x.2 fun e => { e with use := .switching e.ctx, since := s.now }) s

/-- DRAIN_LIMIT_EXPIRY (R97). -/
def execDrainLimitExpiry (clamp : Nat) (s : State) : Host.Outcome State Fault Refusal :=
  .next (match (clampOf s clamp).stop with
    | some x =>
      if !x.kill ∧ x.deadline ≤ s.now then
        settled (killClamp (modClamp s clamp fun k => { k with stop := some { x with kill := true } }) clamp)
      else s
    | none => s)

/-- Whether a clamp is at rest: no command of it in run or commit, its cores switched, its channels back in memory mode (R97). -/
def atRest (s : State) (k : Nat) : Bool :=
  let mine := fun n => clampNum s n == k
  !(s.cmds.any fun c => mine c.handle.ctx && c.queue.isSome && (c.phase == .run || c.phase == .commit))
    && !(s.kiln.tiles.any fun t => mine t.cmd.ctx || coreClamp s t.die t.core == some k)
    && !(s.kiln.cores.any fun e => mine e.2.ctx && e.2.use != .idle)
    && !(s.exrad.chans.any fun e => ownsChan (clampOf s k) (e.1 / 32) (e.1 % 32)
      && (e.2.mode == .processor || e.2.mode == .toProcessor || e.2.mode == .toMemory || e.2.anyBusy))

/-- What a clamp reset ends, once the clamp is stopped: its contexts and serving context, their requests, and its models and shavings
(R405). -/
def endClamp (s : State) (k : Nat) : State :=
  let s := (s.ctxs.filter fun e => e.2.clamp == k).foldl (fun s e => endContext s e.1) s
  let s := (s.serve.reqs.filter fun q => q.live && q.clamp == k).foldl (fun s q => (cancelReq s q.id).1) s
  let s := (s.serve.models.filter fun m => m.clamp == k).foldl (fun s m => dropSlot s m.handle) s
  let s := modClamp s k fun c => { c with serving := none }
  settled { s with serve := { s.serve with
    models := s.serve.models.filter fun m => m.clamp != k, versions := s.serve.versions.filter fun v => v.clamp != k
    noBind := s.serve.noBind.filter fun x => x.1 != k, pfx := s.serve.pfx.filter fun e => e.clamp != k
    orphans := s.serve.orphans.filter fun o => o.1 != k } }

/-- A clamp reset begins (R405): the clamp stops as by `KILL`; a clamp that does not run is ended at once. -/
def beginClampReset (s : State) (k : Nat) : State :=
  let s := modClamp s k fun c => { c with resetting := true, resetWaits := false, changing := true }
  if (clampOf s k).state = .running then
    let s := modClamp s k fun c => { c with state := .stopping, stop := some { cmd := none, kill := true, deadline := s.now } }
    settled (killClamp s k)
  else endClamp s k

/-- CLAMP_STOPPED (R97): the stop's record is written; a clamp reset goes on, or one that waited begins (R401, R405). -/
def execClampStopped (clamp : Nat) (s : State) : Host.Outcome State Fault Refusal :=
  .next (match (clampOf s clamp).stop with
    | some x =>
      if (clampOf s clamp).state = .stopping ∧ atRest s clamp then
        let gone := fun e : Nat × Engine => clampNum s e.2.ctx != clamp
        let s := modClamp s clamp fun k => { k with state := .stopped, stop := none }
        let s := { s with kiln := { s.kiln with cores := s.kiln.cores.filter gone } }
        let s := match x.cmd with
          | some h => finish s h stOk
          | none => s
        if (clampOf s clamp).resetting then endClamp s clamp
        else if (clampOf s clamp).resetWaits then beginClampReset s clamp
        else s
      else s
    | none => s)

/-! ## Tile commit (R160, R161) -/

/-- The tensor of a hold record's slot and its first sod. -/
def holdPlace (s : State) (l : Launch) (r : HoldRec) : Option (Handle × Nat) :=
  let h := (slotAt l r.slot).handle
  (tensorAny s h).map fun t => (h, sodBase t r.plane)

/-- The pieces of a tile's hold area by sod: tensor, sod, offset, bytes. -/
def holdPieces (s : State) (l : Launch) (t : Tile) : List (Handle × Nat × Nat × List Byte) :=
  t.hold.flatMap fun r =>
    match holdPlace s l r with
    | some (h, base) => (splitRun (r.bytes.length / 4096 + 2) base r.off r.bytes).map fun (k, o, b) => (h, k, o, b)
    | none => []

/-- Whether a tile writes a byte that another tile of the command has written. -/
def overlaps (c : Cmd) (pieces : List (Handle × Nat × Nat × List Byte)) : Bool :=
  pieces.any fun (h, k, o, b) =>
    match shadowOf c.shadows h k with
    | some sh => sh.tileMask &&& byteMask o b.length != 0
    | none => false

/-- The binding slot and offset of the first byte of a tile that another tile has written (R475). -/
def overlapAt (s : State) (c : Cmd) (l : Launch) (t : Tile) : Nat × Nat :=
  (t.hold.findSome? fun r =>
    match holdPlace s l r with
    | some (h, base) =>
      ((List.range' r.off r.bytes.length).find? fun a =>
        match shadowOf c.shadows h (base + a / 4096) with
        | some sh => sh.tileMask &&& byteMask (a % 4096) 1 != 0
        | none => false).map fun a => (r.slot, a)
    | none => none).getD (0, 0)

/-- The bytes of a tile marked as written by a tile. -/
def markTile (l : List Shadow) (p : Handle × Nat × Nat × List Byte) : List Shadow :=
  let (h, k, o, b) := p
  l.map fun x => if x.t = h ∧ x.sod = k then { x with tileMask := x.tileMask ||| byteMask o b.length } else x

/-- The sods of pieces for which a command has no shadow yet. -/
def newShadows (c : Cmd) (pieces : List (Handle × Nat × Nat × List Byte)) : List (Handle × Nat) :=
  ((pieces.map fun p => (p.1, p.2.1)).eraseDups).filter fun x => (shadowOf c.shadows x.1 x.2).isNone

/-- TILE_COMMIT: both streams have retired END and every store queue is empty. The shadows it needs must have room; without it the tile
waits (R24, R53). -/
def execTileCommit (die core : Nat) (s : State) : Host.Outcome State Fault Refusal :=
  .next (match issuing s die core with
    | none => s
    | some (t, c, l) =>
      if !t.exe.ended ∨ !t.acc.ended ∨ t.storeQ.any (fun q => !q.isEmpty) ∨ !t.acc.stores.isEmpty then s
      else
        let pieces := holdPieces s l t
        if overlaps c pieces then
          let (slot, off) := overlapAt s c l t
          finish s t.cmd stFaulted (some { engine := 3, cause := 11, detail := coreDetail t t.acc.retired ++ natLE 1 slot ++ natLE 5 off })
        else if !roomForShadows s (newShadows c pieces) then
          modCmd s t.cmd fun c => { c with roomWait := c.roomWait.or (some s.now) }
        else
          let s := modCmd s t.cmd fun c => { c with roomWait := none }
          let s := pieces.foldl (fun s (h, k, o, b) => writeShadow s t.cmd h k o b) s
          let s := modCmd s t.cmd fun c => { c with shadows := pieces.foldl markTile c.shadows }
          modTile s die core fun t => { t with committing := true })

/-- TILE_COMMIT_DONE: the tile is charged, or, when its command was killed or has ended meanwhile, discarded; its core takes the next one, or
goes on with its switch, whose time counts from here (R87, R88, R158). -/
def execTileCommitDone (die core : Nat) (s : State) : Host.Outcome State Fault Refusal :=
  .next (match tileOn s die core with
    | none => s
    | some t =>
      if !t.committing then s
      else
        let s := if t.dropped then (match coreClamp s die core with | some k => discardIn s k .core t.startedAt | none => s)
          else charge s t.cmd.ctx .core t.startedAt
        let s := { s with kiln := { s.kiln with tiles := s.kiln.tiles.filter fun x => !(x.die == die && x.core == core) } }
        let s := modCore s die core fun e => match e.use with
          | .switching _ => { e with since := s.now }
          | _ => { e with use := .idle, since := s.now }
        if t.dropped then settled s
        else settled (markDone (modCmd s t.cmd fun c => { c with tilesLeft := c.tilesLeft.filter (· != t.index) }) t.cmd))

end Sys2Proof.Machine
end

