-- ==== Sys2Proof/Machine/ClampOps.lean ====
section
/-!
DEFINITION. How new settings of a clamp take hold (R83, R98): what they are, what must move first (R54, R55), and whether the storage fits.
-/
namespace Sys2Proof.Machine

open Sys2Proof

/-! ## Placeable capacity (R18) -/

/-- Whether a start-up step has come to an end. -/
def StepState.finished : StepState → Bool
  | .ok => true
  | .failed => true
  | _ => false

/-- Retired pages of the bog. -/
def bogRetired (s : State) : Nat := (s.store.retired.filter fun e => match e.1 with | .bog .. => true | _ => false).length

/-- Channels of the bog that trained. -/
def bogChanCount (s : State) : Nat := ((List.range 64).filter fun i => s.rst.bogChans.getLsbD i).length

/-- Bytes of the bog that can be placed on: 16 GiB a channel, less the reservation and retired pages (R18). -/
def bogPlaceable (s : State) : Nat :=
  (if s.rst.bog.finished then bogChanCount s else 64) * 2 ^ 34 - 2 ^ 32 - 4096 * bogRetired s

/-- Bytes of the stacks that can be placed on: 1.5 GiB a channel, less retired pages (R18); all 384 channels count until their stacks' training
has ended. -/
def exradPlaceable (s : State) : Nat :=
  let here := fun st : Nat => if (at? s.rst.training st .idle).finished
    then ((List.range 32).filter fun i => (tgetD s.exrad.chans (chanNum st i) {}).trained).length else 32
  sumN ((List.range 12).map here) * 1610612736
    - 4096 * (s.store.retired.filter fun e => match e.1 with | .bog .. => false | _ => true).length

/-! ## Settings -/

/-- The settings that a CLAMP_CONFIGURE gives a clamp. -/
def clampFrom (b : List Byte) (c : Clamp) : Clamp :=
  { c with
    state := .stopped, role := u8 b 1, preempt := u8 b 2 == 1, hostShare := u8 b 3, flueShare := u8 b 4, landingShare := u8 b 5
    bogShare := u16 b 6, maxCtx := if u16 b 8 = 0 then 128 else u16 b 8, slice := if u32 b 16 = 0 then 25000 else u32 b 16
    cores := (List.range 4).map fun d => BitVec.ofNat 64 (u64 b (24 + 8 * d))
    chans := (List.range 12).map fun k => BitVec.ofNat 32 (u32 b (56 + 4 * k)) }

/-- Whether new settings cannot hold the clamp's storage (R45, R98, R243). -/
def storageLacks (s : State) (k : Nat) (c : Clamp) : Bool :=
  decide (clampCap s c < clampUsed s k)
    || (s.store.tensors.any (fun t => t.clamp == k && t.shared) && decide ((c.chans.filter fun m => m != 0).length < 11))
    || match c.serving with
       | some v => decide (3 * chanCount c < 2 * v.turfExrad ∨ c.bogShare < v.turfBog)
       | none => false

/-- Whether a sod may stay where it lies under new settings, the bog apart. -/
def keepsPlace (c : Clamp) : Loc → Bool
  | .interleaved st m => m &&& ~~~(at? c.chans st 0) == 0
  | .bank st ch _ _ => ownsChan c st ch
  | .bog .. => true

/-- Sods of a clamp that its share of the bog can hold beside its turf pool and its library (R41, R243, R275). -/
def bogHolds (s : State) (k : Nat) (c : Clamp) : Nat :=
  c.bogShare * 262144 - (match c.serving with | some v => v.turfBog * 262144 | none => 0)
    - sumN (s.serve.versions.map fun v => if v.clamp = k then v.size else 0)

/-- The sods of a clamp that must leave their places under new settings (R98): those on channels given up, and those in the bog beyond a
smaller share. -/
def mustMove (s : State) (k : Nat) (c : Clamp) : List (Handle × Nat) :=
  let sods := (s.store.tensors.filter fun t => t.clamp == k).flatMap fun t => t.sods.map fun e => (t.handle, e.1, e.2.loc)
  let off := sods.filter fun x => x.2.2.any fun l => !keepsPlace c l
  let bog := (sods.filter fun x => inBog x.2.2).drop (bogHolds s k c)
  (off ++ bog).map fun x => (x.1, x.2.1)

/-- Whether a shadow of an uncommitted command holds up the moves that new settings need (R54). -/
def movesHeld (s : State) (k : Nat) (c : Clamp) : Bool := (mustMove s k c).any fun x => shadowed s x.1 x.2

/-- A sod taken off its place by the Collier, after the check of its tag (R55); the new place is the Collier's (log entry 54). -/
def moveOff (s : State) (x : Handle × Nat) : State :=
  let s := checkSeeds s x.1 [x.2]
  modTensor s x.1 fun t => { t with sods := tmod t.sods x.2 fun d => { d with loc := none } }

/-- Storage that snapshots of killed commands still name, taken off what a clamp gives up (R69, R98). -/
def moveKept (s : State) (k : Nat) (c : Clamp) : State :=
  let mine := fun h : Handle => (tensorAny s h).any fun t => t.clamp == k
  let off := fun d : Sod => if d.loc.any fun l => !keepsPlace c l then { d with loc := none } else d
  { s with cmds := s.cmds.map fun x => { x with
      snap := x.snap.map fun l => l.map fun e => if mine e.1 then (e.1, e.2.map fun d => (d.1, off d.2)) else e } }

/-- Everything that must move under new settings, moved. -/
def moveSods (s : State) (k : Nat) (c : Clamp) : State := (mustMove s k c).foldl moveOff (moveKept s k c)

/-- The layout generation moves on with every change of the clamp layout (R452). -/
def newLayout (s : State) : State := { s with layoutGen := (s.layoutGen + 1) % 2 ^ 32 }

/-- New settings take hold (R98): the Collier has moved the sods, and the layout changes. -/
def configureNow (s : State) (k : Nat) (b : List Byte) : State :=
  let new := { clampFrom b (clampOf s k) with changing := false }
  newLayout (modClamp (moveSods s k new) k fun _ => new)

end Sys2Proof.Machine
end

