-- ==== Sys2Proof/Machine/Stripes.lean ====
section
/-!
DEFINITION. Parity stripes of shared-weight tensors (R351-R354): parity of a commit's stripes, and stripes restored.
-/
namespace Sys2Proof.Machine

open Sys2Proof

/-- Byte-wise exclusive-or of two sods. -/
def xorSod (a b : Memory) : Memory := cellsFrom 0 ((List.range 4096).map fun i => rdByte a i ^^^ rdByte b i)

/-- Contents of a sod; absent and unbacked sods are zero. -/
def sodData (t : Tensor) (k : Nat) : Memory := (sodIn t.sods k).data

/-- A parity sod over contents, in its place. -/
def paritySod (m : Memory) (l : Option Loc) : Sod := { data := m, tag := sodTag m, loc := l }

/-- Fresh bog storage for a parity sod (R45, R354): the page that the Collier chose when it is free, otherwise the first that is. -/
def parityPlace (s : State) (l : Option Loc) : Option Loc :=
  match l with
  | some (.bog p pg) => if bogPageFree s p pg then some (.bog p pg) else firstBog s fun x => match x with | .bog p pg => bogPageFree s p pg | _ => false
  | _ => firstBog s fun x => match x with | .bog p pg => bogPageFree s p pg | _ => false

/-- The stripe record over contents that are all good. -/
def freshStripe (t : Tensor) (j : Nat) (l : Option Loc) : Stripe :=
  { tags := (stripeSods j).map fun k => sodTag (sodData t k)
    parity := paritySod ((stripeSods j).foldl (fun m k => xorSod m (sodData t k)) []) l }

/-- Whether a data sod of a stripe is ash. -/
def dataAsh (t : Tensor) (j : Nat) : Bool := (stripeSods j).any fun k => (sodIn t.sods k).ash

/-- The stripe record after a commit that changed a tensor (R352). With an ash sod left in the stripe, the parity takes the difference
of what was written. -/
def stripeAfter (old new : Tensor) (j : Nat) (l : Option Loc) : Stripe :=
  if dataAsh new j then
    let rec_ := (tget? old.stripes j).getD (freshStripe old j l)
    let changed := (stripeSods j).filter fun k => !(sodIn new.sods k).ash && !(sodIn old.sods k).ash
    { tags := (stripeSods j).zipIdx.map fun (k, i) => if changed.contains k then sodTag (sodData new k) else at? rec_.tags i 0
      parity := paritySod (changed.foldl (fun m k => xorSod m (xorSod (sodData old k) (sodData new k))) rec_.parity.data) l }
  else freshStripe new j l

/-- Whether a commit restores a lost stripe (R354): it overwrote the last ash data sods, or, when none was ash, one data sod whole. -/
def restores (old new : Tensor) (shs : List Shadow) (j : Nat) : Bool :=
  !dataAsh new j && (dataAsh old j || shs.any fun x => x.t == old.handle && x.sod / 11 == j && x.mask == fullMask)

/-- One stripe of a shared-weight tensor brought up to date, its parity sod in fresh storage. -/
def updateStripe (old : State) (shs : List Shadow) (h : Handle) (s : State) (j : Nat) (l : Option Loc) : State :=
  match tensorAny old h, tensorAny s h with
  | some a, some b =>
    if b.lost.contains j ∧ !restores a b shs j then s
    else
      let place := parityPlace s l
      modTensor s h fun t => { t with stripes := tset t.stripes j (stripeAfter a b j place), lost := t.lost.filter (· != j) }
  | _, _ => s

/-- Every stripe that a commit touched, from the state before its flips (R352). `locs` are the places chosen for the parity sods, stripe
by stripe. -/
def updateStripes (old : State) (shs : List Shadow) (locs : List Loc) (s : State) : State :=
  let touched := ((shs.map fun x => (x.t, x.sod / 11)).eraseDups.filter fun x => (tensorAny s x.1).any (·.shared)).zipIdx
  touched.foldl (fun s x => updateStripe old shs x.1.1 s x.1.2 locs[x.2]?) s

end Sys2Proof.Machine
end

