-- ==== Sys2Proof/Machine/EmberExec.lean ====
section
/-!
DEFINITION. Ember micro-operations (07_ember_programs): the format (R215, R216), addresses (R211, R217-R219), matrix-vector work (R222-R224),
patches (R225), dequantisation and copies (R226, R227), attention (R228-R232), loops, yields and ends (R233-R236).
-/
namespace Sys2Proof.Machine

open Sys2Proof

/-- A micro-operation's fields (R215). `n` is the count, 1 to 64. -/
structure EOp where
  op : Nat
  a : Nat
  v : Nat
  p : Nat
  n : Nat
  line : Nat
  flags : Nat
  imm : Nat
deriving DecidableEq, Repr, Inhabited

def decodeEmber (w : BitVec 64) : EOp :=
  let x := w.toNat
  { op := bits x 7 0, a := bits x 10 8, v := bits x 14 11, p := bits x 16 15, n := bits x 22 17 + 1, line := bits x 29 23
    flags := bits x 39 32, imm := bits x 63 40 }

/-- The listed operation codes (R216). -/
def emberOps : List Nat :=
  [0x00, 0x01, 0x02, 0x03, 0x04, 0x08, 0x09, 0x0A, 0x0B, 0x0C, 0x10, 0x11, 0x12, 0x13, 0x14, 0x20, 0x28, 0x29, 0x2A, 0x2B, 0x2C, 0x2D]

/-- What a micro-operation does when it issues: a fault with a cause and a slot, a sod whose data cannot be used, or the unit afterwards
with the bursts it writes (slot, sod, burst, bytes) and the next free index. -/
inductive EIssue where
  | fault (cause : Nat) (slot : Nat)
  | bad (slot sod : Nat)
  | done (u : EUnit) (writes : List (Nat × List Byte)) (k : Nat)

/-- What a body sees. -/
structure ECtx where
  s : State
  stack : Nat
  chan : Nat
  unit : Nat
  c : Cmd
  b : InbankBlock
  part : Nat
  k : Nat

/-- The body of a micro-operation. -/
abbrev EBody := ECtx → EUnit → EOp → EIssue

/-! ## Addresses (R214, R217) -/

/-- The fields of a logical address: slot, sod, burst. -/
def addrSlot (x : Nat) : Nat := bits x 41 39
def addrSod (x : Nat) : Nat := bits x 38 7
def addrBurst (x : Nat) : Nat := bits x 6 0

/-- The address of burst `i` of a span: sods run on, the slot stays. -/
def addrPlus (x i : Nat) : Nat :=
  let y := bits x 38 0 + i
  bits x 41 39 * 2 ^ 39 + y % 2 ^ 39

/-- An address register. -/
def areg (u : EUnit) (i : Nat) : Nat := (at? u.areg i 0).toNat

/-- An address register moved on by a signed count of bursts. -/
def bump (u : EUnit) (i : Nat) (n : Int) : EUnit :=
  { u with areg := u.areg.modify i fun x => x + BitVec.ofInt 64 n }

/-- The inc flag. -/
def EOp.inc (x : EOp) : Bool := bit x.flags 7

/-- The tensor of a binding slot. -/
def slotTensor (b : InbankBlock) (slot : Nat) : Option Handle := (b.bindings[slot]?).map (·.handle)

/-! ## Reads and writes of bursts (R182, R188, R211, R219, R220) -/

/-- How a read ends. -/
inductive ERead (α : Type) where
  | fault (cause slot : Nat)
  | bad (slot sod : Nat)
  | got (x : α)

/-- A row of a channel in bank view: what was written there, else the bank-resident sod that lies there, else zero, or a free value where
interleaved sods may lie (log entry 52). -/
def rowBytes (s : State) (stack chan bank row free : Nat) : List Byte :=
  match tget? (chanOf s stack chan).rows (bank * 12288 + row) with
  | some m => rdBytes m 0 4096
  | none =>
    match sodAt s (.bank stack chan bank row) with
    | some (t, k) => match tensorAny s t with | some x => rdBytes (sodIn x.sods k).data 0 4096 | none => zeros 4096
    | none =>
      let here := fun l : Option Loc => match l with | some (.interleaved st m) => st == stack && m.getLsbD chan | _ => false
      if s.store.tensors.any fun t => t.sods.any fun e => here e.2.loc then freeBytes free 4096 else zeros 4096

/-- A sod whose stored bytes changed under it; its tag stays (R58). -/
def overwriteSod (s : State) (t : Handle) (k : Nat) (m : Memory) : State :=
  modTensor s t fun x => { x with sods := tmod x.sods k fun d => { d with data := m } }

/-- One row of a bank written in bank view, which leaves it open (R190). -/
def writeRow (s : State) (stack chan bank row : Nat) (data : Memory) : State :=
  let s := match sodAt s (.bank stack chan bank row) with | some (t, k) => overwriteSod s t k data | none => s
  openAt (modChan s stack chan fun c => { c with rows := tset c.rows (bank * 12288 + row) data }) (some (.bank stack chan bank row))

/-- Whether the unit runs in bank view, with no translation of places and no tags (R58). -/
def ECtx.bankView (e : ECtx) : Bool := (chanOf e.s e.stack e.chan).mode == .bankView

/-- One burst. -/
def readBurst (e : ECtx) (u : EUnit) (x : Nat) : ERead (List Byte) :=
  let slot := addrSlot x
  let sod := addrSod x
  if e.bankView then
    match mapFind u.bankMap slot sod with
    | some (bank, row, _) => .got (slice (rowBytes e.s e.stack e.chan (2 * e.unit + bank) row e.k) (32 * addrBurst x) 32)
    | none => .fault 6 slot
  else match mapFind u.bankMap slot sod, slotTensor e.b slot with
  | some (bank, row, w), some h =>
    if !rowIsOpen e.s e.stack e.chan (2 * e.unit + bank) row then .fault 2 slot
    else if w then
      match shadowOf e.c.shadows h sod with
      | some sh =>
        let mask := byteMask (32 * addrBurst x) 32
        if sh.fromAsh && (sh.mask &&& mask) != mask then .bad slot sod else .got (rdBytes sh.data (32 * addrBurst x) 32)
      | none => .fault 6 slot
    else
      let d := sodIn (viewOf e.s e.c h) sod
      if d.ash then .bad slot sod else .got (rdBytes d.data (32 * addrBurst x) 32)
  | _, _ => .fault 6 slot

/-- Consecutive bursts. -/
def readBursts (e : ECtx) (u : EUnit) (x : Nat) : Nat → ERead (List Byte)
  | 0 => .got []
  | n + 1 =>
    match readBurst e u x with
    | .got a =>
      match readBursts e u (addrPlus x 1) n with
      | .got r => .got (a ++ r)
      | r => r
    | r => r

/-- The sods that a span of bursts names. -/
def spanSods (x n : Nat) : List (Nat × Nat) := ((List.range n).map fun i => (addrSlot x, addrSod (addrPlus x i))).eraseDups

/-- The row of a sod open in its bank, and the row of the sod that follows it prepared when that lies in the other bank (R218). -/
def streamRow (u : EUnit) (k : Nat × Nat) : EUnit :=
  match mapFind u.bankMap k.1 k.2 with
  | none => u
  | some (b, r, _) =>
    { u with
      openRow := u.openRow.set b (some r)
      prepared := match mapFind u.bankMap k.1 (k.2 + 1) with
        | some (b', r', _) => if b' = b then u.prepared.set b none else (u.prepared.set b none).set b' (some r')
        | none => u.prepared.set b none }

/-- The sods of a span noted as read, and the rows as the reads leave them (R218, R220). -/
def noteReads (u : EUnit) (x n : Nat) : EUnit :=
  let sods := spanSods x n
  sods.foldl streamRow { u with readSods := u.readSods ++ sods.filter fun k => !u.readSods.contains k }

/-- Whether two spans of bursts overlap. -/
def spansMeet (x n y m : Nat) : Bool :=
  addrSlot x == addrSlot y && decide (bits x 38 0 < bits y 38 0 + m ∧ bits y 38 0 < bits x 38 0 + n)

/-- The sods of a span noted as written, the rows as the writes leave them, and normalised states that the span covers forgotten. -/
def noteWrites (u : EUnit) (x n : Nat) : EUnit :=
  let sods := spanSods x n
  sods.foldl streamRow { u with
    wroteSods := u.wroteSods ++ sods.filter fun k => !u.wroteSods.contains k
    normalised := u.normalised.filter fun y => !spansMeet x n y 17 }

/-- The cause for which a write of one burst is refused, if any. -/
def writeRefused (e : ECtx) (u : EUnit) (x : Nat) : Option Nat :=
  match mapFind u.bankMap (addrSlot x) (addrSod x) with
  | none => some 6
  | some (bank, row, w) =>
    if !w then some 6
    else if e.bankView then (if fenceAdmits u.fences bank row then none else some 1)
    else if !fenceAdmits u.fences bank row || !rowIsOpen e.s e.stack e.chan (2 * e.unit + bank) row then some 1
    else none

/-- A span of bytes written at an address, when every burst of it may be written. -/
def writeSpan (e : ECtx) (u : EUnit) (x : Nat) (bs : List Byte) (k : Nat) : EIssue :=
  let n := ceilDiv bs.length 32
  match (List.range n).findSome? fun i => (writeRefused e u (addrPlus x i)).map fun c => c with
  | some cause => .fault cause (addrSlot x)
  | none => .done (noteWrites u x n) ((List.range n).map fun i => (addrPlus x i, slice bs (32 * i) 32)) k

/-- The writes of a unit put into its command's shadows. -/
def applyWrites (e : ECtx) (l : List Shadow) (ws : List (Nat × List Byte)) : List Shadow :=
  ws.foldl (fun l (x, bs) =>
    match slotTensor e.b (addrSlot x) with
    | some h => shadowWrite none l h (addrSod x) (32 * addrBurst x) bs
    | none => l) l

/-- The writes of a unit in bank view put into the rows of its bank pair. -/
def applyRows (e : ECtx) (u : EUnit) (s : State) (ws : List (Nat × List Byte)) : State :=
  ws.foldl (fun s (x, bs) =>
    match mapFind u.bankMap (addrSlot x) (addrSod x) with
    | some (bank, row, _) =>
      let old := rowBytes s e.stack e.chan (2 * e.unit + bank) row e.k
      writeRow s e.stack e.chan (2 * e.unit + bank) row (wrBytes (memOf old) (32 * addrBurst x) bs)
    | none => s) s

/-! ## Issue -/

/-- Whether a channel lets its units run: in processor mode and while they yield, outside a refresh (R170, R191), or in bank view (R58). -/
def unitsRun (c : Chan) : Bool := c.mode == .bankView || ((c.mode == .processor || c.mode == .toMemory) && !c.refreshing)

/-- What a running unit works for: its part with its command and block; in bank view nothing, which the null handle stands for. -/
def unitWork (s : State) (stack chan : Nat) (u : EUnit) : Option (Cmd × InbankBlock × Nat) :=
  match u.part with
  | some (h, p) => (cmdOf s h).bind fun c => (inbandOf c).map fun b => (c, b, p)
  | none =>
    if (chanOf s stack chan).mode = .bankView then
      some ({ handle := Handle.null, work := .atOnce 0 },
        { program := Handle.null, parts := 0, entry := 0, args := [], bcast := Handle.null, bcastOff := 0, bcastLen := 0, bcastStep := 0, bindings := [] }, 0)
    else none

/-- Whether a sod of a part lies on a resource that its tensor's clamp does not own (R47). -/
def partForeign (s : State) (c : Cmd) (b : InbankBlock) (p : Nat) : Bool :=
  (partSods b p).any fun (_, h, rw, k) => (tensorAny s h).any fun t => !ownedLoc s t.clamp (sodPlace s c h rw k)

/-- A micro-operation of a code issues on a unit that runs, when it is what the unit's store holds next. -/
def emberIssue (op : Nat) (body : EBody) (s : State) (stack chan unit : Nat) : State :=
  let u := unitOf s stack chan unit
  match unitWork s stack chan u with
  | none => s
  | some (c, b, p) =>
    if u.state ≠ .running ∨ !unitsRun (chanOf s stack chan) then s
    else if 255 < u.pc then unitFault s stack chan unit 5 0xFF
    else
      let x := decodeEmber (at? u.store u.pc 0)
      if !emberOps.contains x.op then unitFault s stack chan unit 3 0xFF
      else if x.op ≠ op then s
      else if partForeign s c b p then foreignFault s c.handle (startDiag stack chan unit p u.entry 3)
      else
        let e : ECtx := { s := s, stack := stack, chan := chan, unit := unit, c := c, b := b, part := p, k := s.freeCount }
        match body e u x with
        | .fault cause slot => unitFault s stack chan unit cause slot
        | .bad slot sod => match slotTensor b slot with | some t => dataError s c.handle t sod | none => s
        | .done u' ws k =>
          let s := { s with freeCount := if e.bankView then k + 4096 else k }
          let s := if ws.isEmpty then s
            else if e.bankView then applyRows e u s ws
            else modCmd s c.handle fun c => { c with shadows := applyWrites e c.shadows ws }
          setUnit s stack chan unit u'

/-- The unit past its current micro-operation. -/
def stepPc (u : EUnit) (next : Nat) : EUnit :=
  let (p, l) := nextPos u.loops next
  { u with pc := p, loops := l, lastPc := u.pc, atYield := false }

/-- The unit past an operation that falls through. -/
def pass (u : EUnit) : EUnit := stepPc u (u.pc + 1)

/-! ## Control (R216, R233-R235) -/

def eNop : EBody := fun e u _ => .done (pass u) [] e.k

def eFence : EBody := fun e u _ => .done (pass u) [] e.k

/-- YIELD (R234): with a yield requested, the unit suspends at the next entry. -/
def eYield : EBody := fun e u _ =>
  .done (if u.yieldStop then { pass u with state := .suspended, yieldStop := false, atYield := true } else { pass u with atYield := true }) [] e.k

/-- The ARG register that v names. -/
def argOf (u : EUnit) (v : Nat) : Nat := (at? u.argsIn (v % 4) 0).toNat

/-- LOOP (R233). -/
def eLoop : EBody := fun e u x =>
  let len := bits x.imm 7 0
  let count := if bit x.flags 0 then argOf u x.v % 2 ^ 24 else bits x.imm 23 8
  if len = 0 then .fault 3 0xFF
  else if 256 < u.pc + 1 + len then .fault 5 0xFF
  else if count = 0 then .done (stepPc u (u.pc + 1 + len)) [] e.k
  else if 2 ≤ u.loops.length then .fault 4 0xFF
  else .done { u with
    pc := u.pc + 1, lastPc := u.pc, atYield := false, loops := { first := u.pc + 1, last := u.pc + 1 + len, left := count } :: u.loops } [] e.k

/-- The part's first sod of a binding, as an address. -/
def firstAddr (b : InbankBlock) (p slot : Nat) : Nat :=
  match b.bindings[slot]? with
  | some x => slot * 2 ^ 39 + (x.first + p * x.step) % 2 ^ 32 * 2 ^ 7
  | none => slot * 2 ^ 39

/-- SETA. -/
def eSeta : EBody := fun e u x =>
  let set := fun v => EIssue.done (pass { u with areg := u.areg.set x.a v }) [] e.k
  match bits x.flags 1 0 with
  | 0 => set (BitVec.ofNat 64 (firstAddr e.b e.part (bits x.imm 2 0)))
  | 1 => set (at? u.argsIn (x.v % 4) 0)
  | 2 => set (at? u.areg (bits x.imm 2 0) 0)
  | _ => .fault 3 0xFF

/-- ADDA. -/
def eAdda : EBody := fun e u x => .done (pass (bump u x.a (signed 24 x.imm))) [] e.k

/-- SETB. -/
def eSetb : EBody := fun e u x =>
  .done (pass { u with bb := if bit x.flags 0 then argOf u x.v % 128 else bits x.imm 6 0 }) [] e.k

/-- SETF. -/
def eSetf : EBody := fun e u x => .done (pass { u with fmt := BitVec.ofNat 24 x.imm }) [] e.k

/-! ## Streams of bursts -/

/-- A lane of a vector register. -/
def vlane (u : EUnit) (v i : Nat) : FP32 := BitVec.ofNat 32 (leNat (rdBytes u.vregs (32 * v + 4 * i) 4))

/-- LDV. -/
def eLdv : EBody := fun e u x =>
  if 16 < x.n ∨ 16 < x.v + x.n then .fault 3 0xFF
  else match readBursts e u (areg u x.a) x.n with
    | .fault c sl => .fault c sl
    | .bad sl k => .bad sl k
    | .got bs =>
      let u := noteReads u (areg u x.a) x.n
      let u := { u with vregs := wrBytes u.vregs (32 * x.v) bs }
      .done (pass (if x.inc then bump u x.a x.n else u)) [] e.k

/-- A finished write operation: the unit past it, with address registers moved when inc is set. -/
def afterWrite (x : EOp) (moves : List (Nat × Nat)) : EIssue → EIssue
  | .done u ws k => .done (pass (if x.inc then moves.foldl (fun u m => bump u m.1 m.2) u else u)) ws k
  | r => r

/-- STV. -/
def eStv : EBody := fun e u x =>
  if 16 < x.n ∨ 16 < x.v + x.n then .fault 3 0xFF
  else afterWrite x [(x.a, x.n)] (writeSpan e u (areg u x.a) (rdBytes u.vregs (32 * x.v) (32 * x.n)) e.k)

/-- 32-bit words of bytes. -/
def words32 : List Byte → List (BitVec 32)
  | a :: b :: c :: d :: r => (d ++ c ++ b ++ a) :: words32 r
  | _ => []

/-- SHV (R225). -/
def eShv : EBody := fun e u x =>
  let old := if bit x.flags 0 then [] else u.patch
  if 512 < old.length + 8 * x.n then .fault 3 0xFF
  else match readBursts e u (areg u x.a) x.n with
    | .fault c sl => .fault c sl
    | .bad sl k => .bad sl k
    | .got bs =>
      let u := noteReads u (areg u x.a) x.n
      let u := { u with patch := old ++ words32 bs, rowOpen := if bit x.flags 0 then false else u.rowOpen }
      .done (pass (if x.inc then bump u x.a x.n else u)) [] e.k

/-- STRM (R227). -/
def eStrm : EBody := fun e u x =>
  let d := bits x.imm 2 0
  if 32 < x.n ∨ spansMeet (areg u x.a) x.n (areg u d) x.n then .fault 3 0xFF
  else match readBursts e u (areg u x.a) x.n with
    | .fault c sl => .fault c sl
    | .bad sl k => .bad sl k
    | .got bs => afterWrite x [(x.a, x.n), (d, x.n)] (writeSpan e (noteReads u (areg u x.a) x.n) (areg u d) bs e.k)

/-- The formats of FMT. -/
def eStream (u : EUnit) : Nat := bits u.fmt.toNat 7 0
def eVector (u : EUnit) : Nat := bits u.fmt.toNat 15 8
def eOut (u : EUnit) : Nat := bits u.fmt.toNat 23 16

/-- The stream and the vector formats that R222 accepts. -/
def streamFmt (f : Nat) : Bool := [0x02, 0x03, 0x04, 0x05, 0x08, 0x09, 0x0C, 0x0D, 0x10, 0x11].contains f
def vectorFmt (f : Nat) : Bool := [0x02, 0x03, 0x04, 0x05, 0x10].contains f

/-- Elements in a burst of a format. -/
def perBurst (f : Nat) : Nat := 256 / fmtBits f

/-- The elements of a span: position within its sod, encoding, scale byte of V8 to V15 (R222). -/
def spanElems (u : EUnit) (f x : Nat) (bs : List Byte) (n : Nat) : List (Nat × Nat × Nat) :=
  let w := perBurst f
  (List.range (n * w)).map fun i =>
    let e := addrBurst (addrPlus x (i / w)) * w + i % w
    (e, elemBits f bs i, (rdByte u.vregs (256 + e / 32)).toNat)

/-- DQ (R226). -/
def eDq : EBody := fun e u x =>
  let d := bits x.imm 2 0
  let fs := eStream u
  let fo := eOut u
  let count := x.n * perBurst fs
  let outBits := count * fmtBits fo
  let m := outBits / 256
  if !streamFmt fs ∨ !([0x01, 0x02, 0x03, 0x04, 0x05].contains fo) ∨ outBits % 256 ≠ 0 ∨ 64 < x.n + m then .fault 3 0xFF
  else match readBursts e u (areg u x.a) x.n with
    | .fault c sl => .fault c sl
    | .bad sl k => .bad sl k
    | .got bs =>
      let vals := (spanElems u fs (areg u x.a) bs x.n).map fun (_, y, sc) => encodeElem .nearest fo (elemValue fs y sc)
      afterWrite x [(x.a, x.n), (d, m)]
        (writeSpan e (noteReads u (areg u x.a) x.n) (areg u d) (packElems fo vals) e.k)

/-! ## Reductions (R222-R225) -/

/-- One term of a slot as an exact value: stream format, encoding, scale, vector format (0 for none), encoding. -/
def termNum : Nat × Nat × Nat × Nat × Nat → Num
  | (fs, x, sc, fv, y) => if fv = 0 then elemValue fs x sc else mulNum (elemValue fs x sc) (elemValue fv y 0)

/-- Whether every operand of a term is narrow (R110). -/
def termNarrow : Nat × Nat × Nat × Nat × Nat → Bool
  | (fs, _, _, fv, _) => fmtNarrow fs && (fv == 0 || fmtNarrow fv)

/-- A value put into the levels of a tree at chunk `k` (R149): none when it would need a level that there is not. -/
def treePush {α : Type} (f : α → α → α) : Nat → Nat → List α → α → Option (List α)
  | _, _, [], _ => none
  | 0, _, _, _ => none
  | fuel + 1, k, l :: r, x => if k % 2 = 1 then (treePush f fuel (k / 2) r (f l x)).map (l :: ·) else some (x :: r)

/-- The root over the levels of the set bits of a count (R149). -/
def treeRoot {α : Type} (f : α → α → α) : Nat → List α → Option α → Option α
  | _, [], acc => acc
  | n, l :: r, acc => treeRoot f (n / 2) r (if n % 2 = 1 then some (match acc with | none => l | some a => f l a) else acc)

/-- A slot whose open chunk closes; none on a counter overflow (R216). -/
def closeChunk (q : RSlot) : Option RSlot :=
  let r := chunkResult (q.terms.all termNarrow) (q.terms.map termNum)
  (treePush fpAdd 25 q.chunks q.levels r).map fun l => { terms := [], chunks := q.chunks + 1, levels := l }

/-- One term more. -/
def addTerm (q : RSlot) (t : Nat × Nat × Nat × Nat × Nat) : Option RSlot :=
  let q := { q with terms := q.terms ++ [t] }
  if q.terms.length = 128 then closeChunk q else some q

/-- Terms in order. -/
def addTerms : RSlot → List (Nat × Nat × Nat × Nat × Nat) → Option RSlot
  | q, [] => some q
  | q, t :: r => (addTerm q t).bind fun q => addTerms q r

/-- Fields of a patch entry (R225). -/
def pePos (x : BitVec 32) : Nat := bits x.toNat 12 0
def peEnd (x : BitVec 32) : Bool := x.getLsbD 14
def peEmpty (x : BitVec 32) : Bool := x.getLsbD 15
def peValue (x : BitVec 32) : Nat := bits x.toNat 31 16

/-- The queue head tested before an element at a position: the queue afterwards and the value that replaces the element, if any. -/
def patchAt : List (BitVec 32) → Nat → List (BitVec 32) × Option Nat
  | [], _ => ([], none)
  | h :: r, e =>
    if peEnd h then (h :: r, none)
    else if peEmpty h ∨ pePos h < e then patchAt r e
    else if pePos h = e then (r, some (peValue h))
    else (h :: r, none)

/-- Entries dropped up to and including the next row_end. -/
def dropRow : List (BitVec 32) → List (BitVec 32)
  | [] => []
  | h :: r => if peEnd h then r else dropRow r

/-- A span's elements with patches applied. -/
def patchSpan (bitsOf : Nat) : List (BitVec 32) → List (Nat × Nat × Nat) → List (BitVec 32) × List (Nat × Nat × Nat)
  | q, [] => (q, [])
  | q, (e, x, sc) :: r =>
    let (q, v) := patchAt q e
    let (q', rest) := patchSpan bitsOf q r
    (q', (e, match v with | some y => y % 2 ^ bitsOf | none => x, sc) :: rest)

/-- The broadcast vector's bytes from a line; past the buffer's end nothing is stated, and those bytes are free. -/
def vectorBytes (e : ECtx) (line n : Nat) : List Byte :=
  let buf := (chanOf e.s e.stack e.chan).bbuf
  (List.range n).map fun i => if 32 * line + i < 4096 then rdByte buf (32 * line + i) else Config.freeByte (e.k + i)

/-- The lanes of V[v] shifted down, lane 7 taking a root. -/
def shiftIn (u : EUnit) (v : Nat) (root : FP32) : EUnit :=
  { u with vregs := wrBytes u.vregs (32 * v) (rdBytes u.vregs (32 * v + 4) 28 ++ natLE 4 root.toNat) }

/-- MAC (R222, R223, R225). -/
def eMac : EBody := fun e u x =>
  let fs := eStream u
  let fv := eVector u
  let sum := bit x.flags 4
  let pat := bits x.flags 3 2
  let line := (u.bb + x.line) % 128
  let count := x.n * perBurst fs
  if !streamFmt fs ∨ (!sum ∧ !vectorFmt fv) ∨ pat = 3 then .fault 3 0xFF
  else match readBursts e u (areg u x.a) x.n with
    | .fault c sl => .fault c sl
    | .bad sl k => .bad sl k
    | .got bs =>
      let vb := packedBytes fv count
      let vec := if sum then [] else vectorBytes e line vb
      let k := if !sum && decide (4096 < 32 * line + vb) then e.k + vb else e.k
      let q0 := if pat = 2 && u.rowOpen then dropRow u.patch else u.patch
      let elems := spanElems u fs (areg u x.a) bs x.n
      let (patch, elems) := if pat = 0 then (q0, elems) else patchSpan (fmtBits fs) q0 elems
      let terms := elems.zipIdx.map fun ((_, y, sc), i) =>
        (fs, y, sc, if sum then 0 else fv, if sum then 0 else elemBits fv vec i)
      let start : RSlot := if bit x.flags 0 then {} else at? u.slots x.p {}
      match addTerms start terms with
      | none => .fault 3 0xFF
      | some q =>
        let u := noteReads u (areg u x.a) x.n
        let u := { u with patch := patch, rowOpen := if pat = 2 then true else u.rowOpen }
        let u := if x.inc then bump u x.a x.n else u
        if bit x.flags 1 then
          match (if q.terms.isEmpty then some q else closeChunk q) with
          | none => .fault 3 0xFF
          | some q =>
            let root := (treeRoot fpAdd q.chunks q.levels none).getD 0
            .done (pass { shiftIn u x.v root with slots := u.slots.set x.p {} }) [] k
        else .done (pass { u with slots := u.slots.set x.p q }) [] k

/-- TSET (R224). -/
def eTset : EBody := fun e u x =>
  let lv := Nat.log2 x.imm
  if bit x.flags 0 ∧ (x.imm = 0 ∨ 2 ^ lv ≠ x.imm) then .fault 3 0xFF
  else
    let base : RSlot := { chunks := x.imm }
    let q := if bit x.flags 0 then { base with levels := base.levels.set lv (vlane u x.v (x.line % 8)) } else base
    .done (pass { u with slots := u.slots.set x.p q }) [] e.k

/-! ## Attention (R228-R232) -/

/-- A stream format that keys and values may have (R228). -/
def turfFmt (f : Nat) : Bool := f == 0x04 || f == 0x05

/-- The bursts of keys or of one value group that token `j` has in a turf's sod. -/
def keyAddr (sod j : Nat) : Nat := sod / 128 * 128 + 4 * j
def valueAddr (sod j g : Nat) : Nat := sod / 128 * 128 + 64 + 4 * j + g

/-- Several spans of bursts read one after another. -/
def readSpans (e : ECtx) (u : EUnit) : List (Nat × Nat) → ERead (List Byte)
  | [] => .got []
  | (x, n) :: r =>
    match readBursts e u x n with
    | .got a =>
      match readSpans e u r with
      | .got b => .got (a ++ b)
      | y => y
    | y => y

/-- The score of a token: one chunk of 128 products, times the scale once. -/
def scoreOf (fs fv : Nat) (key query : List Byte) (scale : FP32) : FP32 :=
  fpMul (chunkResult (fmtNarrow fs && fmtNarrow fv)
    ((List.range 128).map fun i => mulNum (elemValue fs (elemBits fs key i) 0) (elemValue fv (elemBits fv query i) 0))) scale

/-- ASC (R228). -/
def eAsc : EBody := fun e u x =>
  let tokens := bits x.imm 4 0
  let fs := eStream u
  let fv := eVector u
  let sod := areg u x.a
  if tokens = 0 ∨ 16 < tokens ∨ !turfFmt fs ∨ !vectorFmt fv ∨ 128 < u.scores.length + tokens then .fault 3 0xFF
  else match readSpans e u ((List.range tokens).map fun j => (keyAddr sod j, 4)) with
    | .fault c sl => .fault c sl
    | .bad sl k => .bad sl k
    | .got bs =>
      let line := (u.bb + x.line) % 128
      let qb := packedBytes fv 128
      let query := vectorBytes e line qb
      let k := if 4096 < 32 * line + qb then e.k + qb else e.k
      let scale := BitVec.ofNat 32 (argOf u x.v)
      let u := noteReads u (keyAddr sod 0) 1
      let u := { u with scores := u.scores ++ (List.range tokens).map fun j => scoreOf fs fv (slice bs (128 * j) 128) query scale }
      .done (pass (if x.inc then bump u x.a 128 else u)) [] k

/-- ASM (R229). -/
def eAsm : EBody := fun e u _ =>
  let (m, s, ps) := chunkState u.scores
  .done (pass { u with
    scores := [], scoresBack := u.scores, chunkM := m, chunkS := s, probs := ps ++ List.replicate (128 - ps.length) 0 }) [] e.k

/-- AVG (R230): value group g of the tokens present. -/
def eAvg : EBody := fun e u x =>
  let g := bits x.imm 1 0
  let fs := eStream u
  let n := u.scoresBack.length
  let at0 := areg u x.a
  if !turfFmt fs then .fault 3 0xFF
  else match readSpans e u ((List.range n).map fun i => (valueAddr (addrPlus (at0 / 128 * 128) (128 * (i / 16))) (i % 16) g, 1)) with
    | .fault c sl => .fault c sl
    | .bad sl k => .bad sl k
    | .got bs =>
      let u := (List.range (ceilDiv n 16)).foldl (fun u i => noteReads u (addrPlus (at0 / 128 * 128) (128 * i)) 1) u
      let o := (List.range 32).map fun d =>
        if u.chunkM = fpMinusInf then (0 : FP32)
        else alignedChunk ((List.range n).map fun i =>
          mulNum (numOf (at? u.probs i 0)) (elemValue fs (elemBits fs (slice bs (32 * i) 32) d) 0))
      let u := { u with
        chunkO := u.chunkO.take (32 * g) ++ o ++ u.chunkO.drop (32 * g + 32)
        chunkBuf := wrBytes u.chunkBuf 0 bs }
      .done (pass (if x.inc then bump u x.a n else u)) [] e.k

/-- ACL (R231). -/
def eAcl : EBody := fun e u _ =>
  match treePush mergeStates 8 u.treeCount u.tree { m := u.chunkM, s := u.chunkS, o := u.chunkO } with
  | none => .fault 3 0xFF
  | some t => .done (pass { u with tree := t, treeCount := u.treeCount + 1 }) [] e.k

/-- The 17 bursts of a state (R232). -/
def stateBytes (st : SState) : List Byte :=
  natLE 4 st.m.toNat ++ natLE 4 st.s.toNat ++ zeros 24 ++ fpBytes ((List.range 128).map fun d => at? st.o d 0)

/-- The state that 17 bursts hold. -/
def stateFrom (bs : List Byte) : SState :=
  { m := BitVec.ofNat 32 (u32 bs 0), s := BitVec.ofNat 32 (u32 bs 4), o := fps (slice bs 32 512) }

/-- AFL (R232). What the root of an empty tree is, the manual does not say: its values are free. -/
def eAfl : EBody := fun e u x =>
  let root := match treeRoot mergeStates u.treeCount u.tree none with
    | some r => r
    | none => { m := Config.freeFP32 e.k, s := Config.freeFP32 (e.k + 1), o := (List.range 128).map fun i => Config.freeFP32 (e.k + 2 + i) }
  let out := if bit x.flags 0 then { root with o := root.o.map fun v => fpMul v (fpRcp root.s) } else root
  let u' := { u with tree := List.replicate 7 {}, treeCount := 0 }
  match writeSpan e u' (areg u x.a) (stateBytes out) (if u.treeCount = 0 then e.k + 130 else e.k) with
  | .done w ws k =>
    afterWrite x [(x.a, 17)] (.done (if bit x.flags 0 then { w with normalised := areg u x.a :: w.normalised } else w) ws k)
  | r => r

/-- ASL (R231). A state that AFL normalised is not accepted (R232): an operand rule broken (DESIGN CHOICE, log entry 151). -/
def eAsl : EBody := fun e u x =>
  let lv := bits x.imm 2 0
  if lv = 7 ∨ u.normalised.any (spansMeet (areg u x.a) 17 · 17) then .fault 3 0xFF
  else match readBursts e u (areg u x.a) 17 with
    | .fault c sl => .fault c sl
    | .bad sl k => .bad sl k
    | .got bs =>
      let u := noteReads u (areg u x.a) 17
      let u := { u with tree := u.tree.set lv (stateFrom bs), treeCount := 2 ^ lv }
      .done (pass (if x.inc then bump u x.a 17 else u)) [] e.k

/-! ## The end of a part (R220, R221, R236) -/

/-- A sod that the unit has read and whose tag does not match (R220): one whose stored tag is wrong or whose bits are, of those read through
read entries, for a shadow's seed was checked as it was taken; or, when the check itself found bits that the stored data does not show, the
first one read. -/
def endBad (e : ECtx) (u : EUnit) (err : MemErr) : Option (Nat × Nat) :=
  let readOnly := u.readSods.filter fun k => match mapFind u.bankMap k.1 k.2 with | some (_, _, w) => !w | none => false
  match readOnly.find? fun k => match slotTensor e.b k.1 with
      | some h => (firstUnread e.c h (viewOf e.s e.c h) [k.2]).isSome
      | none => false with
  | some k => some k
  | none => if anyFlip err then u.readSods.head? else none

/-- The unit's part over: DONE, fences cleared, the part ticked off. -/
def partDone (s : State) (stack chan unit : Nat) (h : Handle) (p : Nat) (u : EUnit) : State :=
  let s := setUnit s stack chan unit { u with state := .done, ended := true, part := none, fences := List.replicate 8 {} }
  let s := if (chanOf s stack chan).anyBusy then s else chargeChan s stack chan
  markDone (modCmd s h fun c => { c with partsLeft := c.partsLeft.filter (· != p) }) h

/-- END (R236). -/
def emberEndOp (s : State) (stack chan unit : Nat) (err : MemErr) : State :=
  let u := unitOf s stack chan unit
  match unitWork s stack chan u with
  | none => s
  | some (c, b, p) =>
    if u.state = .running ∧ unitsRun (chanOf s stack chan) ∧ u.pc ≤ 255 ∧ (decodeEmber (at? u.store u.pc 0)).op = 0x01 then
      let e : ECtx := { s := s, stack := stack, chan := chan, unit := unit, c := c, b := b, part := p, k := s.freeCount }
      match if e.bankView then none else endBad e u err with
      | some (slot, sod) => match slotTensor b slot with | some t => dataError s c.handle t sod | none => s
      | none => partDone s stack chan unit c.handle p u
    else emberIssue 0x01 eNop s stack chan unit

/-! ## The rows -/

def execEmberNop (st ch u : Nat) (s : State) : Host.Outcome State Fault Refusal := .next (emberIssue 0x00 eNop s st ch u)
def execEmberEnd (st ch u : Nat) (err : MemErr) (s : State) : Host.Outcome State Fault Refusal := .next (emberEndOp s st ch u err)
def execEmberYield (st ch u : Nat) (s : State) : Host.Outcome State Fault Refusal := .next (emberIssue 0x02 eYield s st ch u)
def execEmberLoop (st ch u : Nat) (s : State) : Host.Outcome State Fault Refusal := .next (emberIssue 0x03 eLoop s st ch u)
def execEmberFence (st ch u : Nat) (s : State) : Host.Outcome State Fault Refusal := .next (emberIssue 0x04 eFence s st ch u)
def execSeta (st ch u : Nat) (s : State) : Host.Outcome State Fault Refusal := .next (emberIssue 0x08 eSeta s st ch u)
def execAdda (st ch u : Nat) (s : State) : Host.Outcome State Fault Refusal := .next (emberIssue 0x09 eAdda s st ch u)
def execSetb (st ch u : Nat) (s : State) : Host.Outcome State Fault Refusal := .next (emberIssue 0x0A eSetb s st ch u)
def execSetf (st ch u : Nat) (s : State) : Host.Outcome State Fault Refusal := .next (emberIssue 0x0B eSetf s st ch u)
def execTset (st ch u : Nat) (s : State) : Host.Outcome State Fault Refusal := .next (emberIssue 0x0C eTset s st ch u)
def execLdv (st ch u : Nat) (s : State) : Host.Outcome State Fault Refusal := .next (emberIssue 0x10 eLdv s st ch u)
def execStv (st ch u : Nat) (s : State) : Host.Outcome State Fault Refusal := .next (emberIssue 0x11 eStv s st ch u)
def execShv (st ch u : Nat) (s : State) : Host.Outcome State Fault Refusal := .next (emberIssue 0x12 eShv s st ch u)
def execStrm (st ch u : Nat) (s : State) : Host.Outcome State Fault Refusal := .next (emberIssue 0x13 eStrm s st ch u)
def execDq (st ch u : Nat) (s : State) : Host.Outcome State Fault Refusal := .next (emberIssue 0x14 eDq s st ch u)
def execMac (st ch u : Nat) (s : State) : Host.Outcome State Fault Refusal := .next (emberIssue 0x20 eMac s st ch u)
def execAsc (st ch u : Nat) (s : State) : Host.Outcome State Fault Refusal := .next (emberIssue 0x28 eAsc s st ch u)
def execAsm (st ch u : Nat) (s : State) : Host.Outcome State Fault Refusal := .next (emberIssue 0x29 eAsm s st ch u)
def execAvg (st ch u : Nat) (s : State) : Host.Outcome State Fault Refusal := .next (emberIssue 0x2A eAvg s st ch u)
def execAcl (st ch u : Nat) (s : State) : Host.Outcome State Fault Refusal := .next (emberIssue 0x2B eAcl s st ch u)
def execAfl (st ch u : Nat) (s : State) : Host.Outcome State Fault Refusal := .next (emberIssue 0x2C eAfl s st ch u)
def execAsl (st ch u : Nat) (s : State) : Host.Outcome State Fault Refusal := .next (emberIssue 0x2D eAsl s st ch u)

end Sys2Proof.Machine
end

