-- ==== Sys2Proof/Machine/Telemetry.lean ====
section
/-!
DEFINITION. Snapshots: the telemetry sets of R476 and R477, and what DBG_READ returns (R203, R480, the 0x7Fxx table).
-/
namespace Sys2Proof.Machine

open Sys2Proof

/-! ## Telemetry (R476, R477) -/

/-- The tensors that a context owns. -/
def tensorsOwned (s : State) (n : Nat) : List Tensor := s.store.tensors.filter fun t => t.handle.ctx == n && !t.destroyed

/-- Three counts of 8 bytes. -/
def words3 (l : List Nat) : List Byte := (List.range 3).flatMap fun i => natLE 8 (at? l i 0)

/-- The counts of the accounting period before the one that runs; before the first there are none. -/
def lastTimes (s : State) (t : Table (List Nat)) : List Nat := if periodOf s = 0 then [0, 0, 0] else timeIn t (periodOf s - 1)

/-- Bytes [79:32] of set 0: the charges of a context in the previous and in the current period (R87). -/
def ctxCharges (s : State) (n : Nat) : List Byte :=
  match ctxOf s n with
  | some c => words3 (lastTimes s c.charge) ++ words3 (timeIn c.charge (periodOf s))
  | none => zeros 48

/-- Set 0 after the header. -/
def ctxSet (s : State) (n : Nat) : List Byte :=
  match ctxOf s n with
  | none => zeros 96
  | some c =>
    ctxCharges s n ++ natLE 8 c.endedOk ++ natLE 8 c.endedOther ++ natLE 8 c.kills ++ natLE 8 c.held.length
      ++ natLE 8 (tensorsOwned s n).length ++ natLE 8 (sumN ((tensorsOwned s n).map ashCount))

/-- Requests of a clamp that have not ended. -/
def liveReqs (s : State) (k : Nat) : List Req := s.serve.reqs.filter fun q => q.live && q.clamp == k

/-- Turves of a clamp's pool in one tier. -/
def turvesIn (s : State) (k : Nat) (bog : Bool) : Nat := ((poolTurves s k).filter fun e => e.2.inBog == bog).length

/-- A clamp body. Of the bytes that each traffic class served, those of the access streams, of the data movers and of migrations are counted;
what fetches, walks and the graphs of the serving engine add is a free value (log entry 50). -/
def clampBody (s : State) (k free : Nat) : List Byte :=
  let c := clampOf s k
  let served := (List.range 3).map fun i => at? c.classBytes i 0 + leNat (freeBytes (free + 8 * i) 8)
  slice (words3 (lastTimes s c.discarded)
    ++ natLE 8 (sumN ((s.store.tensors.filter fun t => t.clamp == k && !t.destroyed).map ashCount))
    ++ words3 served ++ natLE 8 c.landingRefusals ++ natLE 8 (liveReqs s k).length ++ natLE 8 c.tokens
    ++ natLE 8 c.prefixConfirmed ++ natLE 8 c.prefixFalse ++ natLE 8 (turvesIn s k false) ++ natLE 8 (turvesIn s k true)
    ++ natLE 8 ((liveReqs s k).filter (·.parked)).length) 0 224

/-- The block of a memory channel; the on-die count saturates at three bytes and is reserved for Exrad. -/
def chanBlock (x : ChanErr) (bog : Bool) : List Byte :=
  natLE 8 x.corrected ++ natLE 4 x.hard ++ natLE 1 x.remap.length ++ natLE 3 (if bog then min x.onDie (2 ^ 24 - 1) else 0)

/-- Retired pages of a tier. -/
def retiredIn (s : State) (bog : Bool) : Nat :=
  (s.store.retired.filter fun e => match e.1 with | .bog .. => bog | _ => !bog).length

/-- The temp field of a sensor (R435). -/
def tempField (x : Sensor) : Nat := unsigned 12 x.temp

/-- The module block. -/
def moduleBlock (s : State) : List Byte :=
  slice (natLE 8 (retiredIn s false) ++ natLE 8 (retiredIn s true)
    ++ ((List.range 16).flatMap fun n => natLE 2 (tempField (at? s.pwr.sensors n {})))
    ++ natLE 8 s.evt.logDropped ++ ((List.range 16).flatMap fun b => natLE 8 (at? s.evt.bank b 0))) 0 256

/-- Set 2 after the header. -/
def moduleSet (s : State) : List Byte :=
  slice ((List.range 8).flatMap fun k => clampBody s k (s.freeCount + 24 * k)) 0 2016
    ++ ((List.range 384).flatMap fun n => chanBlock (tgetD s.store.exradErr n {}) false)
    ++ ((List.range 64).flatMap fun n => chanBlock (tgetD s.store.bogErr n {}) true)
    ++ ((List.range 1024).flatMap (ctxCharges s)) ++ moduleBlock s

/-- Size of a set in bytes. -/
def setSize (set : Nat) : Nat := if set = 0 then 128 else if set = 1 then 256 else 58624

/-- A snapshot of a set at this stamp. -/
def snapshotBytes (s : State) (set clamp ctx : Nat) : List Byte :=
  natLE 4 set ++ natLE 4 (setSize set) ++ natLE 8 s.now ++ natLE 8 (s.now / 1000000) ++ zeros 8
    ++ (if set = 0 then ctxSet s ctx else if set = 1 then clampBody s clamp s.freeCount else moduleSet s)

/-! ## Debug reads -/

/-- A unit's part of the control space (R203); EMB_CMD is write-only. -/
def unitSpace (u : EUnit) : Memory :=
  let m := wrBytes [] 0x008 ((List.range 4).flatMap fun i => natLE 8 (at? u.args i 0).toNat)
  let m := wrBytes m 0x028 (natLE 8 (statusWord u))
  let m := wrBytes m 0x040 ((List.range 8).flatMap fun i =>
    let f := at? u.fences i {}
    natLE 8 (b2n f.valid + 2 * (f.bank % 2) + 2 ^ 16 * (f.firstRow % 2 ^ 14) + 2 ^ 32 * (f.rows % 2 ^ 14)))
  let m := wrBytes m 0x200 (rdBytes u.vregs 0 512)
  wrBytes m 0x800 ((List.range 256).flatMap fun i => natLE 8 (at? u.store i 0).toNat)

/-- The code of a channel mode (R170). -/
def ChanMode.code : ChanMode → Nat
  | .offline => 0
  | .memory => 1
  | .toProcessor => 2
  | .processor => 3
  | .toMemory => 4
  | .bankView => 5

/-- Bit u is set while unit u runs or pauses. -/
def unitsRunning (c : Chan) : Nat :=
  sumN ((List.range 16).map fun u =>
    let x := (tgetD c.units u {}).state
    if x = .running ∨ x = .refreshPause then 2 ^ u else 0)

/-- EMB_CH_STATE, with the number of requests that wait in the channel's queue. -/
def chanState (c : Chan) (waiting : Nat) : Nat :=
  c.mode.code + 8 * b2n c.trigger + 16 * min c.debt 8 + 256 * b2n c.hot + 2 ^ 16 * unitsRunning c + 2 ^ 32 * min waiting 256

/-- EMB_CH_COUNT. -/
def chanCounts (c : Chan) : Nat :=
  c.switches % 2 ^ 32 + 2 ^ 32 * min c.forcedPauses 4095 + 2 ^ 44 * min c.fenceRefusals 4095 + 2 ^ 56 * min c.refusedWrites 255

/-- The channel's own part of the control space. -/
def chanSpace (c : Chan) (waiting hold : Nat) : Memory :=
  let m := wrBytes [] 0x10000 (rdBytes c.bbuf 0 4096)
  wrBytes m 0x11008 (natLE 8 (chanState c waiting) ++ natLE 8 hold ++ natLE 8 (chanCounts c))

/-- Bytes of the control space of a channel. -/
def controlBytes (s : State) (stack chan off len : Nat) : List Byte :=
  let c := chanOf s stack chan
  let units := (List.range 16).map fun u => unitSpace (tgetD c.units u {})
  let own := chanSpace c (queuedAt s (chanNum stack chan)).length (chanHold s stack chan)
  (List.range' off len).map fun a =>
    if a < 0x10000 then rdByte (at? units (a / 4096) []) (a % 4096) else rdByte own a


/-- Bytes of a unit's bank pair in bank view: bank, then row, then column. -/
def bankBytes (s : State) (stack chan unit off len : Nat) : List Byte :=
  if len = 0 then []
  else
    let first := off / 4096
    let rows := (List.range' first ((off + len - 1) / 4096 - first + 1)).flatMap fun r =>
      rowBytes s stack chan (2 * unit + r / 12288) (r % 12288) (s.freeCount + 4096 * (r - first))
    slice rows (off % 4096) len

/-- A tile of a command on a core. -/
def tileOf (s : State) (h : Handle) (i : Nat) : Option Tile := s.kiln.tiles.find? fun t => t.cmd == h && t.index == i

/-- What DBG_READ returns: the work area of a tile, the state of its queues (whose layout the manual does not give: free bytes, log entry
53), a control space, or rows in bank view. -/
def debugBytes (s : State) (space locator off len tile : Nat) : List Byte :=
  match space with
  | 0 => match tileOf s (Handle.decode locator) tile with
    | some t => rdBytes t.pad off len
    | none => zeros len
  | 1 => freeBytes s.freeCount len
  | 2 => controlBytes s (bits locator 7 0) (bits locator 15 8) (bits locator 23 16 * 4096 + off) len
  | _ => bankBytes s (bits locator 7 0) (bits locator 15 8) (bits locator 23 16) off len

end Sys2Proof.Machine
end

