-- ==== Sys2Proof/Machine/Commit.lean ====
section
/-!
DEFINITION. COMMIT (R52, R71-R73): a command enters commit, its extents flip and its deferred effects are released in order; the commits
of library commands (R240, R275-R278); rows in bank view (R58, R59, R190).
-/
namespace Sys2Proof.Machine

open Sys2Proof

/-! ## Models and shavings -/

/-- Whether a version belongs to a shaving. -/
def Version.of (v : Version) (clamp model number : Nat) : Bool := v.clamp == clamp && v.model == model && v.number == number

/-- Sods that a patch tensor takes in the library. -/
def versionSods (s : State) (p : Handle) : Nat := ((tensorAny s p).map tensorSods).getD 0

/-- Whether a library command may commit: no request of the model is live (R240), none is bound to the version that was current when a drain
began, whose storage makes room for the new one (R276), or every version of a retired shaving has been freed (R278). -/
def libraryReady (s : State) : Work → Bool
  | .modelRetire k fp => !s.serve.reqs.any fun q => q.live && q.clamp == k && q.model == fp
  | .shavingReplace k m n _ p => (s.serve.versions.filter fun v => v.of k m n && v.current).all fun v =>
      !versionBound s k m v.fingerprint && decide (versionSods s p ≤ clampFree s k + v.size)
  | .shavingRetire k m n => !s.serve.versions.any fun v => v.of k m n
  | _ => false

/-- What the commit of a library command does. -/
def libraryCommit (s : State) : Work → State
  | .modelRetire k fp => { s with serve := { s.serve with models := s.serve.models.filter fun m => !(m.clamp == k && m.fingerprint == fp) } }
  | .shavingReplace k m n v p =>
    let old := s.serve.versions.map fun x => if x.of k m n then { x with current := false } else x
    let new : Version := { clamp := k, model := m, number := n, fingerprint := v, patch := p, size := versionSods s p, current := true
                           sods := ((tensorAny s p).map (·.sods)).getD [] }
    freeVersions { s with serve := { s.serve with versions := old ++ [new], noBind := s.serve.noBind.filter fun x => x != (k, m, n) } }
  | .shavingRetire k m n => { s with serve := { s.serve with noBind := s.serve.noBind.filter fun x => x != (k, m, n) } }
  | _ => s

/-! ## Rows in bank view -/

/-- Rows of a bank written in bank view, which leaves them open (R190). -/
def writeRows (s : State) (stack chan bank first rows : Nat) (m : Memory) : State :=
  (List.range rows).foldl (fun s i => writeRow s stack chan bank (first + i) (memOf (rdBytes m (4096 * i) 4096))) s

/-- The clamp that holds a channel. -/
def ownerOf (s : State) (stack chan : Nat) : Option Nat :=
  (List.range 8).find? fun k => (clampOf s k).state != .unconfigured && ownsChan (clampOf s k) stack chan

/-- A channel leaves bank view, zero-filled and resealed (R59). Sods that lay there lose their bytes; what is left of interleaved ones is a
free value, and writes of rows not yet committed end CANCELLED (log entry 52). -/
def leaveBankView (s : State) (stack chan : Nat) : State :=
  let late := fun c : Cmd => match c.work with | .bankWrite st ch .. => c.live && st == stack && ch == chan | _ => false
  let s := (s.cmds.filter late).foldl (fun s c => endCmd s c.handle stCancelled) s
  let s := modChan s stack chan fun c => { c with mode := if c.trained then .memory else .offline, rows := [], openRows := [], units := [] }
  let junk := memOf (freeBytes s.freeCount 4096)
  let hit := fun d : Sod =>
    match d.loc with
    | some (.bank st ch _ _) => if st = stack ∧ ch = chan then { d with data := [] } else d
    | some (.interleaved st m) => if st = stack ∧ m.getLsbD chan then { d with data := junk } else d
    | _ => d
  { s with
    freeCount := s.freeCount + 4096
    store := { s.store with tensors := s.store.tensors.map fun t => { t with sods := t.sods.map fun e => (e.1, hit e.2) } } }

/-- A channel enters bank view (R58): its units are at rest. -/
def enterBankView (s : State) (stack chan : Nat) : State :=
  modChan s stack chan fun c => { c with mode := .bankView, rows := [], units := [] }

/-! ## The steps of R72 -/

/-- Shadows that hold something written. -/
def written (c : Cmd) : List Shadow := c.shadows.filter fun x => x.mask != 0

/-- Whether a command's writes meet ash that they do not cover whole (R38, R39, R161). -/
def commitMeetsAsh (s : State) (c : Cmd) : Bool := meetsAsh s { c with shadows := written c }

/-- Transfers that a command received: CONFIRM goes out as it enters commit, and the landed data is released (R379). -/
def confirmAll (s : State) (c : Cmd) : State :=
  match c.work with
  | .flueReduce .. => dropTaken ((nodesIn s c).foldl (fun s x => withdrawTokens s c.handle.ctx x.1 x.2) s) c.handle.ctx (nodesIn s c)
  | .handover r =>
    match reqOf s r with
    | some q => confirmReceived s c.handle q
    | none => s
  | _ => (receiveTags s c).foldl (fun s x => confirmTag s c.handle.ctx x.1 x.2) s

/-- Step 1: the flip (R52, R71), parity with it (R352), a destroyed tensor (R26), library changes and rows in bank view. The places chosen
for parity sods follow those of the sods. -/
def commitFlip (s : State) (c : Cmd) (locs : List Loc) : State :=
  let old := s
  let s := updateStripes old (written c) (locs.drop (written c).length) (flipShadows locs 0 (written c) s)
  match c.work with
  | .tensorDestroy t => destroyTensor s t
  | .bankWrite st ch bank first rows _ => writeRows s st ch bank first rows c.hostData
  | .bankView st ch enter => if enter then enterBankView s st ch else leaveBankView s st ch
  | w => libraryCommit s w

/-- Step 2: flag operations in the order the command lists them. -/
def commitFlags (s : State) (c : Cmd) : State :=
  (c.ops ++ match c.work with | .flagWrite o => [o] | _ => []).foldl (fun s o => applyFlag s c.handle.ctx o) s

/-- Step 3: serving state (R252, R255, R258, R265). -/
def commitServing (s : State) (c : Cmd) : State :=
  match c.work with
  | .prefill k r first n t => commitPrefill s k r first n t
  | .step .. => commitStep s c.handle
  | .handover r =>
    match reqOf s r with
    | some q => if q.remote.isSome then commitReceived s c.handle q else commitSent s q
    | none => s
  | _ => s

/-- What a command writes to host memory at step 5: address and bytes. -/
def hostWriteOf (s : State) (c : Cmd) : Option (Nat × List Byte) :=
  match c.work with
  | .tensorRead _ _ host len _ fmt => some (host, rdBytes c.hostData 0 (hostLen len fmt))
  | .telemetry set clamp host => some (host, snapshotBytes s set clamp c.handle.ctx)
  | .dbgRead space loc off len tile host => some (host, debugBytes s space loc off len tile)
  | _ => none

/-- Free values that a snapshot or a debug read used. -/
def freeUsed : Work → Nat
  | .telemetry .. => 192
  | .dbgRead _ _ _ len _ _ => len + 8192
  | _ => 0

/-- Steps 5 and 6: host writes, then the completion record; an error that the module finds ends the command FAULTED with committed set
(R73). -/
def commitHost (s : State) (c : Cmd) : State :=
  match hostWriteOf s c with
  | none => endCmd s c.handle stOk
  | some (addr, bs) =>
    let s' := { s with freeCount := s.freeCount + freeUsed c.work }
    let fn := ctxFn s c.handle.ctx
    if hostWritable s fn addr then endCmd (hostPut s' fn addr bs) c.handle stOk
    else
      let insecure := ideBlocks s fn addr
      endCmd s' c.handle stFaulted (some { engine := 6, cause := if insecure then 16 else 13, detail := natLE 7 addr ++ natLE 1 (32 * b2n insecure) })

/-- Whether a transfer-complete notice of a command cannot be delivered, its pair not being up. -/
def noticeLost (s : State) (c : Cmd) : Bool :=
  let partners := match c.work with
    | .flueReceive .. => receiveTags s c
    | .program _ => receiveTags s c
    | .flueReduce .. => nodesIn s c
    | _ => []
  partners.any fun x => !(pairOf s x.1).any (·.up)

/-- Step 4: for a remote flag set, FLAG goes out, the command is passed in its queue (R65), and DONE waits for the answer (R382). A command
one of whose messages cannot be delivered ends LINK_LOST with committed set (R73, R385). -/
def commitFlue (s : State) (c : Cmd) : State :=
  match c.work with
  | .flueFlagSet m x f add v =>
    if (pairOf s m).any (·.up) then
      let s := leaveQueue (modCmd s c.handle fun c => { c with phase := .commit, awaiting := true }) c false
      sendMsg s m mkFlag { dst := m, src := 0, dctx := x, sctx := c.handle.ctx, tag := Handle.encode c.handle
                           body := flagBody { flag := f, add := add, value := v } }
    else endCmd s c.handle stLinkLost
  | _ => if noticeLost s c then endCmd s c.handle stLinkLost else commitHost s c

/-- Engine time of a command on a Slane channel (R87). -/
def chargeSlane (s : State) (c : Cmd) : State :=
  match slaneOf s c.handle with
  | some (_, x) => charge s c.handle.ctx .slane x.since
  | none => s

/-- Whether the drain window of a command's clamp has ended, so that a command of a queue no longer reaches commit (R97). -/
def drainOver (s : State) (c : Cmd) : Bool :=
  c.queue.isSome && (clampOf s (clampNum s c.handle.ctx)).stop.any fun x => decide (x.deadline ≤ s.now)

/-- Whether a CLAMP_CONFIGURE that waits for shadows can take hold (R54, R98). -/
def configureReady (s : State) : Work → Bool
  | .clampConfigure k b => !movesHeld s k (clampFrom b (clampOf s k))
  | _ => false

/-- A CLAMP_CONFIGURE that has waited takes hold, or ends NO_SPACE with the old settings kept. -/
def configureLate (s : State) (h : Handle) (k : Nat) (b : List Byte) : State :=
  if storageLacks s k (clampFrom b (clampOf s k)) then finish s h stNoSpace
  else finish (configureNow s k b) h stOk

/-- Whether a command may enter commit (R67), its run phase over. A step is in its commit phase from its commit slot on (R252). -/
def mayCommit (s : State) (c : Cmd) : Bool :=
  match c.work with
  | .step .. => c.phase == .commit && s.serve.slotTaken.any fun e => e.1 == c.handle
  | w => c.phase == .run && (c.done || libraryReady s w || configureReady s w) && !drainOver s c
      && match w with
         | .bankWrite st ch .. => (chanOf s st ch).mode == .bankView
         | _ => true

/-- The commit of a command whose outputs meet no ash. -/
def commitNow (s : State) (c : Cmd) (locs : List Loc) : State :=
  let s := commitFlip (confirmAll (chargeSlane s c) c) c locs
  let s := modCmd s c.handle fun x => { x with committed := true, stamp := s.now, shadows := [] }
  commitFlue (commitServing (commitFlags s c) c) c

/-- COMMIT (R72). Committed sods that a merge would take bytes from are checked first (R35); where an output met ash that was not written
whole, the command ends DATA_ASH with nothing committed (R38). -/
def execCommandCommit (h : Handle) (locs : List Loc) (s : State) : Host.Outcome State Fault Refusal :=
  .next (match cmdOf s h with
    | none => s
    | some c =>
      if mayCommit s c then
        match c.work with
        | .clampConfigure k b => configureLate s h k b
        | _ =>
          let s := (tornMerges s { c with shadows := written c }).foldl (fun s x => makeAsh s x.1 x.2) s
          if commitMeetsAsh s c then finish s h stDataAsh
          else settled (askAll (commitNow s c locs))
      else s)

end Sys2Proof.Machine
end

