-- ==== Sys2Proof/Machine/Session.lean ====
section
/-!
DEFINITION. The decisions on the packets of group 0x00xx (10_nirra_commands): contexts, queries, cancels, queues and flags.
-/
namespace Sys2Proof.Machine

open Sys2Proof

/-- Who sent a packet: the function, and the context when it came through a submission window (R290). -/
structure Sender where
  fn : Nat
  boot : Bool := false
  ctx : Nat := 0
deriving DecidableEq, Repr, Inhabited

/-- CONTEXT_NOP: the credit it carries has been taken already (R309). -/
def decideContextNop (_s : State) (_w : Sender) (_p : Packet) : Verdict := .ok 0

/-- The highest version the module speaks inside a range of 16-bit versions (R2). -/
def agreedVersion (low high : Nat) : Option Nat :=
  [0x102, 0x101, 0x100].find? fun v => decide (low ≤ v ∧ v ≤ high)

/-- A power of two. -/
def isPow2 (n : Nat) : Bool := n != 0 && 2 ^ Nat.log2 n == n

/-- The values of CONTEXT_CREATE that break a rule (R304, R316, the parameter table). -/
def badContextParams (b : List Byte) (minor : Nat) : Bool :=
  let entries := u32 b 16
  let wait := u64 b 32
  decide (7 < u8 b 4 ∨ u16 b 6 = 0 ∨ 1024 < u16 b 6 ∨ u64 b 8 % 4096 ≠ 0 ∨ entries < 64 ∨
      (if 2 ≤ minor then 65536 else 4096) < entries ∨ u16 b 20 = 0 ∨ 64 < u16 b 20 ∨ u32 b 24 = 0 ∨ 100000 < u32 b 24 ∨
      (wait ≠ 0 ∧ (wait < 1000 ∨ 6000000000 < wait)))
    || !isPow2 entries

/-- Contexts that a clamp holds. -/
def clampContexts (s : State) (k : Nat) : Nat := (s.ctxs.filter fun e => e.2.clamp == k).length

/-- Contexts a clamp may hold (R64). -/
def clampMaxCtx (c : Clamp) : Nat := if c.state = .unconfigured then 128 else c.maxCtx

/-- The context that a CONTEXT_CREATE describes. -/
def ctxFrom (fn minor : Nat) (b salt : List Byte) : Ctx :=
  { fn := fn, clamp := u8 b 4, minor := minor, vector := u16 b 6, ringBase := u64 b 8, ringEntries := u32 b 16
    coalCount := u16 b 20, coalTime := u32 b 24, winCount := u16 b 20, winTime := u32 b 24
    weight := if u16 b 28 = 0 then 1000 else u16 b 28
    waitLimit := if u64 b 32 = 0 then 5000000 else u64 b 32
    remoteMask := BitVec.ofNat 64 (u64 b 40), salt := salt }

/-- CONTEXT_CREATE (R2, R64, R304): the lowest free number; value [15:0] number, [23:16] major, [31:24] minor. -/
def decideContextCreate (s : State) (w : Sender) (p : Packet) : Verdict :=
  let b := ownParams p
  match agreedVersion (u16 b 0) (u16 b 2) with
  | none => .refuse stBadVersion
  | some v =>
    let minor := v % 256
    let k := u8 b 4
    let c := clampOf s k
    let n := tfree s.ctxs 0
    .unless
      [(badContextParams b minor || (w.fn != 0 && c.state == .unconfigured), stBadParam),
       (!c.assign.getLsbD w.fn, stDenied),
       (decide (1024 ≤ s.ctxs.length ∨ clampMaxCtx c ≤ clampContexts s k), stNoSpace)]
      (.ok (n + 2 ^ 16 + minor * 2 ^ 24) fun s =>
        { s with ctxs := tset s.ctxs n (ctxFrom w.fn minor b (slice p.choice.rand 0 32)) })

/-- CONTEXT_DESTROY (R324): from the owning function only. -/
def decideContextDestroy (s : State) (w : Sender) (p : Packet) : Verdict :=
  let n := u16 (ownParams p) 0
  let owned := match ctxOf s n with | some c => c.fn == w.fn && !c.ending | none => false
  .unless [(decide (1023 < n), stBadParam), (!owned, stDenied)] (.ok 0 fun s => settled (endContext s n))

/-- CONTEXT_SET (R325). -/
def decideContextSet (_s : State) (w : Sender) (p : Packet) : Verdict :=
  let b := ownParams p
  let m := u8 b 0
  let wait := u64 b 8
  let bad := (bit m 1 && decide (wait ≠ 0 ∧ (wait < 1000 ∨ 6000000000 < wait)))
    || (bit m 3 && decide (u16 b 24 = 0 ∨ 64 < u16 b 24 ∨ u32 b 28 = 0 ∨ 100000 < u32 b 28))
  .unless [(bad, stBadParam)] (.ok 0 fun s => modCtx s w.ctx fun c => { c with
    weight := if bit m 0 then (if u16 b 2 = 0 then 1000 else u16 b 2) else c.weight
    waitLimit := if bit m 1 then (if wait = 0 then 5000000 else wait) else c.waitLimit
    remoteMask := if bit m 2 then BitVec.ofNat 64 (u64 b 16) else c.remoteMask
    coalCount := if bit m 3 then u16 b 24 else c.coalCount
    coalTime := if bit m 3 then u32 b 28 else c.coalTime })

/-- The code of a phase (R326). -/
def Phase.code : Phase → Nat
  | .queued => 0
  | .waiting => 1
  | .run => 2
  | .commit => 3
  | .ended => 4

/-- The value that COMMAND_QUERY returns (R326). -/
def queryValue (s : State) (c : Cmd) : Nat :=
  let st := if c.phase = .ended then c.status else if c.killed then stPreempted else stOk
  let pos := match c.queue, ctxOf s c.handle.ctx with
    | some q, some x => ((at? x.queues q {}).cmds.findIdx? fun h => h == c.handle).getD 0
    | _, _ => 0
  c.phase.code + st * 2 ^ 8 + min c.kills 65535 * 2 ^ 16 + pos * 2 ^ 32

/-- COMMAND_QUERY (R326). -/
def decideCommandQuery (s : State) (w : Sender) (p : Packet) : Verdict :=
  let h := handleAt (ownParams p) 0
  match cmdOf s h with
  | none => .refuse stBadParam
  | some c => .unless [(h.ctx != w.ctx, stDenied)] (.ok (queryValue s c))

/-- The commit sequencer takes a cancel (R75): whether it won. -/
def takeCancel (s : State) (h : Handle) : State × Bool :=
  match cmdOf s h with
  | none => (s, false)
  | some c =>
    match c.work with
    | .generate r => cancelReq s r
    | .clampStop _ => (s, false)
    | _ =>
      if c.phase = .ended ∨ c.phase = .commit then (s, false)
      else (endCmd s h stCancelled none true, true)

/-- COMMAND_CANCEL (R75). -/
def decideCommandCancel (s : State) (w : Sender) (p : Packet) : Verdict :=
  let h := handleAt (ownParams p) 0
  acceptCmd s w.ctx p [((cmdOf s h).isNone, stBadParam), (h.ctx != w.ctx, stDenied)] (.atOnce 0x0011) fun me s =>
    let r := takeCancel s h
    finish r.1 me (if r.2 then stOk else stAlreadyDone)

/-- QUEUE_RESUME (R93). -/
def decideQueueResume (s : State) (w : Sender) (p : Packet) : Verdict :=
  let q := u8 (ownParams p) 0
  let halted := match ctxOf s w.ctx with | some c => (at? c.queues q {}).halted | none => false
  .unless [(decide (15 < q), stBadParam)] (.ok (b2n halted) fun s =>
    settled (modCtx s w.ctx fun c => { c with queues := c.queues.modify q fun u => { u with halted := false } }))

/-- The commands of a queue that QUEUE_FLUSH ends: queued, waiting or in run (R327). -/
def flushable (s : State) (n q : Nat) : List Cmd :=
  match ctxOf s n with
  | none => []
  | some x => (at? x.queues q {}).cmds.filterMap fun h =>
      match cmdOf s h with
      | some c => if c.live ∧ c.phase ≠ .commit then some c else none
      | none => none

/-- QUEUE_FLUSH (R327). -/
def decideQueueFlush (s : State) (w : Sender) (p : Packet) : Verdict :=
  let q := u8 (ownParams p) 0
  .unless [(decide (15 < q), stBadParam)] (.ok (flushable s w.ctx q).length fun s =>
    let s := (flushable s w.ctx q).foldl (fun s c => endCmd s c.handle stCancelled none true) s
    settled (modCtx s w.ctx fun c => { c with queues := c.queues.modify q fun u => { u with halted := false } }))

/-- FLAG_WRITE (R89). -/
def decideFlagWrite (s : State) (w : Sender) (p : Packet) : Verdict :=
  let b := ownParams p
  queueCmd s w.ctx p [(decide (63 < u8 b 0 ∨ 1 < u8 b 1), stBadParam)]
    (.flagWrite { flag := u8 b 0, add := u8 b 1 == 1, value := u32 b 4 })

/-- FLAG_READ (R89). -/
def decideFlagRead (s : State) (w : Sender) (p : Packet) : Verdict :=
  let f := u8 (ownParams p) 0
  let v := match ctxOf s w.ctx with | some c => at? c.flags f 0 | none => 0
  .unless [(decide (63 < f), stBadParam)] (.ok v)

end Sys2Proof.Machine
end

