-- ==== Sys2Proof/Machine/LaunchCmd.lean ====
section
/-!
DEFINITION. The decisions on the packets of group 0x02xx (10_nirra_commands, R136, R167, R198, R208, R329-R331, R517): the launch block, the
in-bank block and their checks, and SLANE_RESUME.
-/
namespace Sys2Proof.Machine

open Sys2Proof

/-! ## The blocks -/

/-- A binding entry (R330). -/
def bindingAt (b : List Byte) (i : Nat) : Binding :=
  let o := 128 + 16 * i
  { kind := u8 b (o + 8), rw := u8 b (o + 9) == 1, handle := handleAt b o, tag := u64 b o, src := u16 b (o + 10) }

/-- A binding of an in-bank block (R331). -/
def inbankBindingAt (b : List Byte) (i : Nat) : InbankBinding :=
  let o := 112 + 24 * i
  { handle := handleAt b o, rw := u8 b (o + 8) == 1, first := u32 b (o + 12), count := u32 b (o + 16), step := u32 b (o + 20) }

/-- The in-bank block (R331). -/
def inbankFrom (b : List Byte) : InbankBlock :=
  { program := handleAt b 0, parts := u32 b 8, entry := u8 b 12
    args := (List.range 4).map fun i => (u64 b (16 + 16 * i), u64 b (24 + 16 * i))
    bcast := handleAt b 80, bcastOff := u64 b 88, bcastLen := u32 b 96, bcastStep := u32 b 100
    bindings := (List.range (u8 b 13)).map (inbankBindingAt b) }

/-- Whether a launch block has an in-bank section. -/
def hasInband (b : List Byte) : Bool := bit (u8 b 10) 0

/-- Bytes of a launch block (R329). -/
def launchLen (b : List Byte) : Nat := if hasInband b then 1456 else 1152

/-- The launch block (R329): grid sizes past grid_dims count as 1. -/
def launchFrom (b : List Byte) : Launch :=
  { program := handleAt b 0
    grid := (List.range 3).map fun d => if d < u8 b 8 then u32 b (16 + 4 * d) else 1
    counts := (List.range 13).map fun i => u32 b (32 + 4 * i)
    queueKib := (List.range 12).map fun i => u8 b (84 + i)
    holdKib := u16 b 96, seed := u64 b 104
    bindings := (List.range (u8 b 9)).map (bindingAt b)
    inband := if hasInband b then some (inbankFrom (b.drop 1152)) else none }

/-! ## Checks of an in-bank block (R208, R213, R331) -/

/-- The ranges of one in-bank binding break R208: they leave the array, or two parts overlap. -/
def badRange (s : State) (parts : Nat) (x : InbankBinding) : Bool :=
  match tensorOf s x.handle with
  | some t => decide (arraySods t < x.first + (parts - 1) * x.step + x.count ∨ (1 < parts ∧ x.step < x.count))
  | none => true

/-- Rows that a part needs: a read-write sod counts twice. -/
def partRows (b : InbankBlock) : Nat := sumN (b.bindings.map fun x => if x.rw then 2 * x.count else x.count)

/-- The values of an in-bank block that break a rule; `limit` bounds the parts. -/
def badInbank (s : State) (b : List Byte) (limit : Nat) : Bool :=
  let x := inbankFrom b
  decide (x.parts = 0 ∨ limit < x.parts ∨ u8 b 13 = 0 ∨ 8 < u8 b 13 ∨ x.bcastLen < 32 ∨ 4096 < x.bcastLen ∨ x.bcastLen % 32 ≠ 0
      ∨ 24576 < partRows x)
    || (List.range (u8 b 13)).any (fun i => decide (1 < u8 b (112 + 24 * i + 8)))
    || badTensor s x.program || badTensor s x.bcast || x.bindings.any (badRange s x.parts)

/-- Rights that the context lacks for an in-bank block. -/
def deniedInbank (s : State) (n : Nat) (x : InbankBlock) : Bool :=
  deniedTensor s n x.program false || deniedTensor s n x.bcast false || x.bindings.any fun b => deniedTensor s n b.handle b.rw

/-- Whether a clamp owns no ready stack (R43). -/
def noStack (s : State) (k : Nat) : Bool := (clampChannels s k).isEmpty

/-- Whether a clamp owns no ready Kiln core (R319). -/
def noCore (s : State) (k : Nat) : Bool := (clampCores s k).isEmpty

/-- The stacks in which a clamp has channels. -/
def clampStacks (c : Clamp) : Nat := (c.chans.filter fun m => m != 0).length

/-! ## Checks of a launch block (R136, R329, R330) -/

/-- A binding entry below the count breaks R330. `graph` says that the block belongs to a graph descriptor. -/
def badBinding (s : State) (b : List Byte) (graph inband : Bool) (i : Nat) : Bool :=
  let o := 128 + 16 * i
  let x := bindingAt b i
  decide (1 < u8 b (o + 9)) || match x.kind with
    | 0 => decide (u64 b o ≠ 0 ∨ u32 b (o + 10) ≠ 0)
    | 1 => badTensor s x.handle || decide (u32 b (o + 10) ≠ 0)
    | 2 => bit x.tag 63 || decide (u16 b (o + 12) ≠ 0)
    | 3 => !inband || decide (u64 b o ≠ 0 ∨ u32 b (o + 10) ≠ 0)
    | 8 => !graph || decide (u64 b o / 256 ≠ 0 ∨ u32 b (o + 10) ≠ 0)
    | k => !graph || decide (8 < k ∨ u64 b o ≠ 0 ∨ u32 b (o + 10) ≠ 0)

/-- The queue, hold and work areas do not fit (R132, R136). -/
def badAreas (l : Launch) : Bool :=
  l.queueKib.any (fun q => decide (32 < q)) || decide (384 < sumN l.queueKib ∨ scratchKib < l.holdKib + sumN l.queueKib)

/-- The grid breaks R136 or R329. -/
def badGrid (b : List Byte) : Bool :=
  let dims := u8 b 8
  let sizes := (List.range 3).map fun d => u32 b (16 + 4 * d)
  decide (dims = 0 ∨ 3 < dims) || (sizes.take dims).any (· == 0) || (sizes.drop dims).any (· != 0)
    || decide (16777216 < prodN (sizes.take dims))

/-- Whether a slot of a launch has something bound. -/
def slotBound (l : Launch) (i : Nat) : Bool := match l.bindings[i]? with | some x => x.kind != 0 | none => false

/-- An access-stream entry that names a slot with nothing bound; one that lies in a bad sod is skipped (R136). -/
def badSlotEntry (t : Tensor) (l : Launch) (i : Nat) : Bool :=
  if (firstBad t.sods (sodsOf 0 (entryOffset i) 64)).isSome then false
  else
    let e := decodeEntry (readView t.sods 0 (entryOffset i) 64)
    (e.opcode == 1 || e.opcode == 2) && !slotBound l e.slot

/-- The program image breaks R136 or R517. With its first sod bad, nothing of it can be judged. -/
def badImage (s : State) (l : Launch) : Bool :=
  match tensorOf s l.program with
  | none => true
  | some t =>
    if (firstBad t.sods [0]).isSome then false
    else
      let (a, x) := imageSizes (readView t.sods 0 0 8)
      decide (t.bytes < 8 ∨ a = 0 ∨ 16777216 < a ∨ x = 0 ∨ 16777216 < x ∨ t.bytes < instrOffset a x) || (List.range a).any (badSlotEntry t l)

/-- The values of a launch block that break a rule. -/
def badLaunch (s : State) (k : Nat) (b : List Byte) (graph : Bool) : Bool :=
  let l := launchFrom b
  let inband := hasInband b
  badGrid b || badAreas l || decide (64 < u8 b 9) || (List.range (u8 b 9)).any (badBinding s b graph inband)
    || badTensor s l.program || badImage s l
    || (inband && badInbank s (b.drop 1152) 512)
    || (l.bindings.any (·.kind == 3) && decide (1 < clampStacks (clampOf s k)))

/-- Rights that the context lacks for a launch block. -/
def deniedLaunch (s : State) (n : Nat) (l : Launch) : Bool :=
  deniedTensor s n l.program false || l.bindings.any (fun x => x.kind == 1 && deniedTensor s n x.handle x.rw)
    || match l.inband with | some x => deniedInbank s n x | none => false

/-- Sods of a program image whose tags the decision found wrong become ash (R37, R136). -/
def imageFinds (s : State) (h : Handle) : State :=
  match tensorOf s h with
  | some t => (t.sods.filter fun e => tagFails e.2 && decide (e.1 < arraySods t)).foldl (fun s e => makeAsh s h e.1) s
  | none => s

/-- A transfer tag already used by a live command of the same context and partner (10_nirra_commands, Flue). -/
def tagInUse (s : State) (n partner tag : Nat) : Bool :=
  s.cmds.any fun c => c.handle.ctx == n && c.live && (match c.work with
    | .flueSend _ _ _ m _ t => m == partner && t == tag
    | .flueReceive _ _ _ m t => m == partner && t == tag
    | .program l => l.bindings.any fun b => b.kind == 2 && b.src == partner && b.tag == tag
    | _ => false)

/-- PROGRAM_LAUNCH (R136, R329). -/
def decideProgramLaunch (s : State) (w : Sender) (p : Packet) : Verdict :=
  let b := ownParams p
  let k := clampNum s w.ctx
  if !depOk s w.ctx p then .refuse stBadParam
  else match readParamTensor s w.ctx (handleAt b 0) (u64 b 8) (u32 b 16) 655360 with
  | .error v => v
  | .ok x =>
    let l := launchFrom x
    let busy := l.bindings.any fun y => y.kind == 2 && tagInUse s w.ctx y.src y.tag
    let v := queueCmd s w.ctx p
      [(decide (x.length < launchLen x) || busy || badLaunch s k x false, stBadParam), (deniedLaunch s w.ctx l, stDenied),
       (noCore s k || (l.inband.isSome && noStack s k), stNotReady)] (.program l)
    { v with effect := fun s => v.effect (imageFinds s l.program) }

/-- INBANK_LAUNCH (R208, R331). -/
def decideInbankLaunch (s : State) (w : Sender) (p : Packet) : Verdict :=
  let b := ownParams p
  if !depOk s w.ctx p then .refuse stBadParam
  else match readParamTensor s w.ctx (handleAt b 0) (u64 b 8) (u32 b 16) 655360 with
  | .error v => v
  | .ok x =>
    queueCmd s w.ctx p
      [(decide (x.length < 304) || badInbank s x 16777216, stBadParam), (deniedInbank s w.ctx (inbankFrom x), stDenied),
       (noStack s (clampNum s w.ctx), stNotReady)] (.inband (inbankFrom x))

/-- The halt of a command's Slane channel, when a resume still comes in time (R167). -/
def haltOpen (s : State) (h : Handle) : Bool :=
  match slaneOf s h with
  | some (_, { halt := some (since, _, _), .. }) => decide (s.now < since + waitLimitOf s h.ctx)
  | _ => false

/-- A halted channel runs its descriptor again from the start. -/
def retrySlane (s : State) (h : Handle) : State :=
  match slaneOf s h with
  | some (n, x) => settled (runSlane { s with kiln := { s.kiln with slane := tset s.kiln.slane n { x with halt := none } } } h)
  | none => s

/-- SLANE_RESUME (R167). -/
def decideSlaneResume (s : State) (w : Sender) (p : Packet) : Verdict :=
  let b := ownParams p
  let h := handleAt b 0
  acceptCmd s w.ctx p [((cmdOf s h).isNone || decide (1 < u8 b 8), stBadParam), (h.ctx != w.ctx, stDenied)] (.atOnce 0x0202) fun me s =>
    if haltOpen s h then finish (if u8 b 8 = 0 then retrySlane s h else abortSlane s h) me stOk
    else finish s me stAlreadyDone

end Sys2Proof.Machine
end

