-- ==== Sys2Proof/Machine/FlueCmd.lean ====
section
/-!
DEFINITION. The decisions on the packets of group 0x04xx (10_nirra_commands, R117, R319, R376, R382, R383).
-/
namespace Sys2Proof.Machine

open Sys2Proof

/-- A tag that a driver may not use: a module tag (R376), or one already in use by a live command of the context and partner. -/
def badTag (s : State) (n partner tag : Nat) : Bool := bit tag 63 || tagInUse s n partner tag

/-- FLUE_SEND (R378, R379). -/
def decideFlueSend (s : State) (w : Sender) (p : Packet) : Verdict :=
  let b := ownParams p
  let h := handleAt b 0
  queueCmd s w.ctx p
    [(badTensor s h || badTag s w.ctx (u16 b 24) (u64 b 32) || decide (1023 < u16 b 26), stBadParam), (deniedTensor s w.ctx h false, stDenied)]
    (.flueSend h (u64 b 8) (u64 b 16) (u16 b 24) (u16 b 26) (u64 b 32))

/-- FLUE_RECEIVE (R377, R379). -/
def decideFlueReceive (s : State) (w : Sender) (p : Packet) : Verdict :=
  let b := ownParams p
  let h := handleAt b 0
  queueCmd s w.ctx p
    [(badTensor s h || badTag s w.ctx (u16 b 24) (u64 b 32), stBadParam), (deniedTensor s w.ctx h true, stDenied)]
    (.flueReceive h (u64 b 8) (u64 b 16) (u16 b 24) (u64 b 32))

/-- FLUE_FLAG_SET (R382). -/
def decideFlueFlagSet (s : State) (w : Sender) (p : Packet) : Verdict :=
  let b := ownParams p
  queueCmd s w.ctx p [(decide (1023 < u16 b 2 ∨ 63 < u8 b 4 ∨ 1 < u8 b 5), stBadParam)]
    (.flueFlagSet (u16 b 0) (u16 b 2) (u8 b 4) (u8 b 5 == 1) (u32 b 8))

/-- A block size that a reduction takes: 128 · 2^L for L of 0 to 24, or the whole length (R117). -/
def reducibleBlock (block len : Nat) : Bool :=
  decide (len ≤ block) || (List.range 25).any fun l => block == 128 * 2 ^ l

/-- The destination of a reduction: the source's shape with size 1 in the reduced dimension, replicated along its axis. -/
def reduceFits (x y : Tensor) (dim : Nat) : Bool :=
  y.localShape == x.localShape.set dim 1 && !(at? y.shards dim {}).split
    && !(y.shardSet == x.shardSet && y.shards.any fun d => d.split && d.axis == (at? x.shards dim {}).axis)

/-- The values of a FLUE_REDUCE break a rule. A set of clamps has no members that a transfer could reach (log entry 57). -/
def badReduce (s : State) (src dst : Handle) (dim op : Nat) : Bool :=
  decide (op ≠ 0) || match tensorOf s src, tensorOf s dst with
  | some x, some y =>
    match reductionOf s x dim with
    | some r =>
      !reducibleBlock r.block (at? x.shape dim 0) || !reduceFits x y dim
        || (match shardSetOf s x.shardSet with | some g => g.clamps | none => true)
    | none => true
  | _, _ => true

/-- A member of a reduction's axis that no ready port reaches (R319). -/
def reduceUnreached (s : State) (src : Handle) (dim : Nat) : Bool :=
  match (tensorOf s src).bind fun x => reductionOf s x dim with
  | some r => (List.range r.size).any fun j => j != r.own && !reaches s (at? r.partners j 0)
  | none => false

/-- FLUE_REDUCE (R117, R383). -/
def decideFlueReduce (s : State) (w : Sender) (p : Packet) : Verdict :=
  let b := ownParams p
  let src := handleAt b 0
  let dst := handleAt b 8
  queueCmd s w.ctx p
    [(badReduce s src dst (u8 b 16) (u8 b 17), stBadParam), (deniedTensor s w.ctx src false || deniedTensor s w.ctx dst true, stDenied),
     (reduceUnreached s src (u8 b 16), stNotReady)]
    (.flueReduce src dst (u8 b 16))

/-- The code of a port state. -/
def PortState.code : PortState → Nat
  | .down => 0
  | .training => 1
  | .up => 2
  | .retired => 3

/-- Bits [2:0] of a port's status: its state, and whether its spare lane is in use (R363, R387). -/
def Port.brief (x : Port) : Nat := x.state.code + 4 * b2n (decide (x.excluded < 4))

/-- FLUE_PORT_STATUS: byte p for port p. -/
def decideFluePortStatus (s : State) (_w : Sender) (_p : Packet) : Verdict :=
  .ok (leNat ((List.range 8).map fun i => BitVec.ofNat 8 (portOf s i).brief))

end Sys2Proof.Machine
end

