-- ==== Sys2Proof/Machine/ServingCmd.lean ====
section
/-!
DEFINITION. The decisions on the packets of group 0x03xx (08_serving_engine, 10_nirra_commands): requests, models, shavings, the serving
settings of a clamp, sharing groups.
-/
namespace Sys2Proof.Machine

open Sys2Proof

/-! ## Requests (R245-R249, R279) -/

/-- Live requests of the module and of a clamp fill their tables (R243, R247). -/
def tableFull (s : State) (k : Nat) : Bool :=
  decide (65536 ≤ (s.serve.reqs.filter (·.live)).length ∨ ((clampOf s k).serving.map (·.maxRequests)).getD 0 ≤ (liveReqs s k).length)

/-- The turves of a prompt exceed a clamp's pool (R247). -/
def promptTooBig (s : State) (k : Nat) (m : Model) (len : Nat) : Bool :=
  decide ((poolCap s k).1 + (poolCap s k).2 < turfCount len * m.turfSods)

/-- The reply context does not serve a decoding clamp of this module (R247). -/
def badReply (s : State) (clamp ctx : Nat) : Bool :=
  match ctxOf s ctx with
  | some c => c.clamp != clamp || !c.replyEnabled || c.ending
  | none => true

/-- The request that a GENERATE creates. -/
def reqFrom (s : State) (w : Sender) (b : List Byte) (x : ReqBlock) (h : Handle) : Req :=
  let c := (ctxOf s w.ctx).getD { fn := w.fn, clamp := 0 }
  { id := s.serve.nextReq, handle := h, clamp := c.clamp, model := u64 b 0, shaving := u16 b 8, block := x
    targetKind := u8 b 35, targetModule := u16 b 32, targetClamp := if u8 b 35 = 0 then c.clamp else u8 b 34
    replyCtx := u16 b 36, replyHandle := Handle.null, issuedAt := s.now, salt := c.salt, group := c.group }

/-- GENERATE (R246, R247). -/
def decideGenerate (s : State) (w : Sender) (p : Packet) : Verdict :=
  let b := ownParams p
  let k := clampNum s w.ctx
  let role := (clampOf s k).role
  let kind := u8 b 35
  let here := kind == 0 || u16 b 32 == s.flue.moduleId
  let shaved := u16 b 8 == 0 || s.serve.versions.any fun v => v.of k (u64 b 0) (u16 b 8) && v.current
  let badTarget := decide (1 < kind) || (role == 0 && kind != 0) || (role == 1 && kind != 1) || (kind == 1 && decide (7 < u8 b 34))
  match (modelOf s k (u64 b 0)).filter fun m => !m.retiring with
  | none => .refuse stBadParam
  | some m =>
    let away := here && kind == 1 && (modelOf s (u8 b 34) (u64 b 0)).isNone
    if badTarget || away || !shaved || decide (1023 < u16 b 36) then .refuse stBadParam
    else match readParamTensor s w.ctx (handleAt b 16) (u64 b 24) 512 655360 with
      | .error v => v
      | .ok head =>
        let n := u32 head 0
        if m.maxSeq ≤ n then .refuse stBadParam
        else match readParamTensor s w.ctx (handleAt b 16) (u64 b 24) (512 + 4 * n) 655360 with
          | .error v => v
          | .ok x =>
            let blk := reqBlockOf x
            let h := newHandle s w.ctx p.choice.pick
            let q := reqFrom s w b blk h
            acceptCmd s w.ctx p
              [(badReqBlock x m.vocab m.maxSeq, stBadParam),
               (role == 2 || (here && badReply s q.targetClamp q.replyCtx), stDenied),
               (!servesModel s k m, stNotReady),
               (tableFull s k || promptTooBig s k m n, stNoSpace)] (.generate q.id) fun _ s => addReq s q

/-- REQUEST_CANCEL (R279-R281): a request handed over is cancelled where it is decoded. -/
def decideRequestCancel (s : State) (w : Sender) (p : Packet) : Verdict :=
  let h := handleAt (ownParams p) 0
  match reqByHandle s h with
  | none => .refuse stBadParam
  | some q =>
    acceptCmd s w.ctx p [(!concerns s w.ctx q, stDenied)] (.requestCancel q.id) fun me s =>
      if q.sentAway then forwardCancel s me q
      else
        let r := cancelReq s q.id
        finish r.1 me (if r.2 then stOk else stAlreadyDone)

/-- The code of a request's state (the table of R247). -/
def ReqState.code : ReqState → Nat
  | .admitting => 0
  | .prefill => 1
  | .shipping => 2
  | .decode => 3
  | .ended => 4

/-- REQUEST_QUERY (R279). -/
def decideRequestQuery (s : State) (w : Sender) (p : Packet) : Verdict :=
  match reqByHandle s (handleAt (ownParams p) 0) with
  | none => .refuse stBadParam
  | some q =>
    .unless [(!concerns s w.ctx q, stDenied)]
      (.ok (q.state.code + 256 * b2n q.stalled + 512 * b2n q.parked + 2 ^ 32 * q.kvLen))

/-! ## Models (R240, R332) -/

/-- A graph descriptor breaks R332 or its launches' rules, or lacks the batch-invariant mark. -/
def badGraph (s : State) (k : Nat) (t : Tensor) : Bool :=
  let bs := readView t.sods 0 0 t.bytes
  let n := u16 bs 0
  let launch := fun i =>
    let off := u32 bs (64 + 8 * i + 4)
    let x := bs.drop off
    match u8 bs (64 + 8 * i) with
    | 1 => decide (x.length < 1152) || decide (x.length < launchLen x) || badLaunch s k x true
    | 2 => decide (x.length < 304) || badInbank s x 16777216
    | _ => true
  t.fmt != 0x10 || decide (n = 0 ∨ 1024 < n ∨ t.bytes < 64 + 8 * n) || !bit (u8 bs 2) 0 || (List.range n).any launch

/-- A graph's tensor, its format, its bytes and its launches are in order. -/
def badGraphHandle (s : State) (k : Nat) (h : Handle) : Bool :=
  match tensorOf s h with
  | some t => (firstBad t.sods (sodsOf 0 0 t.bytes)).isSome || badGraph s k t
  | none => true

/-- MODEL_REGISTER (R240): the model stands once its command has committed, at its decision. -/
def decideModelRegister (s : State) (w : Sender) (p : Packet) : Verdict :=
  let b := ownParams p
  let k := clampNum s w.ctx
  let fp := u64 b 0
  let vocab := u32 b 8
  let seq := u32 b 20
  let bad := decide (fp = 0 ∨ vocab < 2 ∨ 16777216 < vocab ∨ u8 b 12 = 0 ∨ u8 b 13 = 0 ∨ 64 < u8 b 13 ∨ u16 b 14 ≠ 128 ∨ seq < 16
      ∨ 131072 < seq ∨ seq % 16 ≠ 0)
    || !([0x02, 0x04, 0x05].contains (u8 b 16)) || (modelOf s k fp).isSome
    || badGraphHandle s k (handleAt b 24) || badGraphHandle s k (handleAt b 32)
  acceptCmd s w.ctx p
    [(bad, stBadParam), (deniedTensor s w.ctx (handleAt b 24) false || deniedTensor s w.ctx (handleAt b 32) false, stDenied),
     (decide (16 ≤ (s.serve.models.filter fun m => m.clamp == k).length), stNoSpace)] (.atOnce 0x0302) fun me s =>
      let m : Model := { clamp := k, fingerprint := fp, vocab := vocab, layers := u8 b 12, kvHeads := u8 b 13, kvFmt := u8 b 16, maxSeq := seq
                         prefill := handleAt b 24, stepGraph := handleAt b 32, handle := me }
      finish { s with serve := { s.serve with models := s.serve.models ++ [m] } } me stOk

/-- MODEL_RETIRE (R240): no new request from its stamp; it commits when none is live. -/
def decideModelRetire (s : State) (w : Sender) (p : Packet) : Verdict :=
  let k := clampNum s w.ctx
  let fp := u64 (ownParams p) 0
  acceptCmd s w.ctx p [((modelOf s k fp).isNone, stBadParam)] (.modelRetire k fp) fun _ s =>
    { s with serve := { s.serve with models := s.serve.models.map fun m => if m.clamp = k ∧ m.fingerprint = fp then { m with retiring := true } else m } }

/-! ## Shavings (R272-R278) -/

/-- Sods that a patch tensor takes in the library. -/
def patchSods (s : State) (h : Handle) : Nat := ((tensorOf s h).map tensorSods).getD 0

/-- A block of a patch tensor: its last entry, and no other, marks its end. -/
def badPatchBlock (b : List (BitVec 32)) : Bool := !(b.getLast?.any peEnd) || b.dropLast.any peEnd

/-- Patch bytes that are not whole blocks of one capacity, a multiple of 8 entries. -/
def badPatch (bs : List Byte) : Bool :=
  let ws := words32 bs
  match ws.findIdx? peEnd with
  | none => true
  | some e => decide ((e + 1) % 8 ≠ 0 ∨ ws.length % (e + 1) ≠ 0) || (chunks (e + 1) ws.length ws).any badPatchBlock

/-- A version fingerprint or a patch tensor breaks R272: its blocks, as far as the tensor shows it; against the model's weights, as the
packet's operand says (log entry 36). -/
def badVersion (s : State) (k : Nat) (p : Packet) (b : List Byte) : Bool :=
  decide (u64 b 24 = 0) || (s.serve.versions.any fun v => v.clamp == k && v.model == u64 b 0 && v.fingerprint == u64 b 24)
    || badTensor s (handleAt b 16) || badPatch (tensorBytes s (handleAt b 16)) || p.choice.misfit

/-- No room for a version: in the module's library or in the clamp. -/
def versionRoomLacks (s : State) (k : Nat) (h : Handle) : Bool :=
  decide (4096 ≤ s.serve.versions.length ∨ clampFree s k < patchSods s h)

/-- SHAVING_LOAD (R272). -/
def decideShavingLoad (s : State) (w : Sender) (p : Packet) : Verdict :=
  let b := ownParams p
  let k := clampNum s w.ctx
  let n := u16 b 8
  let h := handleAt b 16
  acceptCmd s w.ctx p
    [((modelOf s k (u64 b 0)).isNone || n == 0 || (s.serve.versions.any fun v => v.clamp == k && v.number == n) || badVersion s k p b, stBadParam),
     (deniedTensor s w.ctx h false, stDenied), (versionRoomLacks s k h, stNoSpace)] (.atOnce 0x0304) fun me s =>
      let v : Version := { clamp := k, model := u64 b 0, number := n, fingerprint := u64 b 24, patch := h, size := patchSods s h, current := true
                           sods := ((tensorOf s h).map (·.sods)).getD [] }
      finish { s with serve := { s.serve with versions := s.serve.versions ++ [v] } } me stOk

/-- Uncommitted replacements of a shaving, which a later one supersedes (R277). -/
def endReplaces (s : State) (k m n : Nat) : State :=
  (s.cmds.filter fun c => c.live && (match c.work with | .shavingReplace a b d _ _ => a == k && b == m && d == n | _ => false)).foldl
    (fun s c => endCmd s c.handle stCancelled) s

/-- SHAVING_REPLACE (R275-R277): with drain and without room it waits for the requests bound to the old version. -/
def decideShavingReplace (s : State) (w : Sender) (p : Packet) : Verdict :=
  let b := ownParams p
  let k := clampNum s w.ctx
  let m := u64 b 0
  let n := u16 b 8
  let h := handleAt b 16
  let lacks := versionRoomLacks s k h
  let known := (s.serve.versions.any fun v => v.of k m n && v.current) && !retiringShaving s k m n
  let v := acceptCmd s w.ctx p
    [(!known || badVersion s k p b, stBadParam), (deniedTensor s w.ctx h false, stDenied), (lacks && !bit (u8 b 32) 0, stNoSpace)]
    (.shavingReplace k m n (u64 b 24) h) fun me s =>
      if lacks then { s with serve := { s.serve with noBind := s.serve.noBind ++ [(k, m, n)] } }
      else modCmd s me fun c => { c with done := true }
  { v with effect := fun s => v.effect (if v.status = stAccepted then endReplaces s k m n else s) }

/-- SHAVING_RETIRE (R278): no new bindings at once. -/
def decideShavingRetire (s : State) (w : Sender) (p : Packet) : Verdict :=
  let b := ownParams p
  let k := clampNum s w.ctx
  let m := u64 b 0
  let n := u16 b 8
  acceptCmd s w.ctx p [(!s.serve.versions.any fun v => v.of k m n, stBadParam)] (.shavingRetire k m n) fun _ s =>
    freeVersions { s with serve := { s.serve with noBind := s.serve.noBind ++ [(k, m, n)] } }

/-! ## Serving settings and sharing groups (R243, R267, R333) -/

/-- The settings that a SERVING_CONFIGURE gives, under the serving context's number. -/
def servingFrom (b : List Byte) (ctx : Nat) : ServingCfg :=
  { ctx := ctx, weight := u16 b 2, maxRequests := u32 b 4, maxBatch := u16 b 8, turfExrad := u16 b 10, turfBog := u16 b 12
    prefillChunk := u16 b 14, prefixEntries := u32 b 16 }

/-- The sum of a setting over the other clamps. -/
def othersSum (s : State) (k : Nat) (f : ServingCfg → Nat) : Nat :=
  sumN ((List.range 8).map fun c => if c = k then 0 else ((clampOf s c).serving.map f).getD 0)

/-- The settings break R243. -/
def badServing (s : State) (k : Nat) (v : ServingCfg) : Bool :=
  let c := clampOf s k
  decide (v.weight = 0 ∨ v.maxRequests = 0 ∨ 65536 < v.maxRequests ∨ v.maxBatch = 0 ∨ 4096 < v.maxBatch ∨ v.prefillChunk < 128
    ∨ 8192 < v.prefillChunk ∨ v.prefillChunk % 128 ≠ 0 ∨ 3 * chanCount c < 2 * v.turfExrad ∨ c.bogShare < v.turfBog
    ∨ 65536 < v.maxRequests + othersSum s k (·.maxRequests) ∨ 8388608 < v.prefixEntries + othersSum s k (·.prefixEntries)
    ∨ exradPlaceable s < (v.turfExrad + othersSum s k (·.turfExrad)) * 2 ^ 30
    ∨ bogPlaceable s < (v.turfBog + othersSum s k (·.turfBog)) * 2 ^ 30)

/-- Sods of a pool. -/
def poolSods (v : ServingCfg) : Nat := (v.turfExrad + v.turfBog) * 262144

/-- SERVING_CONFIGURE (R85, R243, R334): the serving context is created once and kept. -/
def decideServingConfigure (s : State) (_w : Sender) (p : Packet) : Verdict :=
  let b := ownParams p
  let k := u8 b 0
  let c := clampOf s k
  let old := c.serving.map (·.ctx)
  let n := old.getD (tfree s.ctxs 0)
  let v := servingFrom b n
  let held := (c.serving.map poolSods).getD 0
  .unless
    [(decide (7 < k) || (c.state == .stopped && badServing s k v), stBadParam),
     (c.state != .stopped || c.changing, stDenied),
     (decide ((old.isNone ∧ (1024 ≤ s.ctxs.length ∨ clampMaxCtx c ≤ clampContexts s k)) ∨ clampFree s k + held < poolSods v), stNoSpace)]
    (.ok n fun s =>
      let s := modClamp s k fun c => { c with serving := some v }
      let s := { s with layoutGen := (s.layoutGen + 1) % 2 ^ 32 }
      match ctxOf s n with
      | some _ => modCtx s n fun x => { x with weight := v.weight }
      | none => { s with ctxs := tset s.ctxs n { fn := 0, clamp := k, weight := v.weight, serving := true } })

/-- Contexts that a SHARING_GROUP_SET names. -/
def groupMembers (b : List Byte) : List Nat := (List.range (u8 b 2)).map fun i => u16 b (40 + 2 * i)

/-- SHARING_GROUP_SET (R267, R333, R452). -/
def decideSharingGroupSet (s : State) (_w : Sender) (p : Packet) : Verdict :=
  let b := ownParams p
  let g := u16 b 0
  let salt := slice b 8 32
  let names := groupMembers b
  .unless
    [(decide (g = 0 ∨ 1023 < g ∨ u8 b 2 = 0 ∨ 16 < u8 b 2) || names.any (fun n => match ctxOf s n with | some c => c.ending | none => true), stBadParam)]
    (.ok 0 fun s =>
      let join := fun e : Nat × Ctx => if names.contains e.1 then (e.1, { e.2 with group := g, salt := salt })
        else if e.2.group = g then (e.1, { e.2 with salt := salt }) else e
      { s with
        ctxs := s.ctxs.map join, layoutGen := (s.layoutGen + 1) % 2 ^ 32
        serve := { s.serve with salts := tset s.serve.salts g salt } })

/-- SERVING_REPLY_ENABLE (R333). -/
def decideServingReplyEnable (_s : State) (w : Sender) (p : Packet) : Verdict :=
  let v := u8 (ownParams p) 0
  .unless [(decide (1 < v), stBadParam)] (.ok 0 fun s => modCtx s w.ctx fun c => { c with replyEnabled := v == 1 })

end Sys2Proof.Machine
end

