-- ==== Sys2Proof/Machine/ClampCmd.lean ====
section
/-!
DEFINITION. The decisions on the packets of group 0x05xx (R83-R85, R97-R99, R334, R335), and how a configuration takes hold (R98).
-/
namespace Sys2Proof.Machine

open Sys2Proof

/-! ## What the module has to give -/

/-- Cores of a die that can be named: those it presents (R15), or all 64 while its self-test has not ended. -/
def coresOf (s : State) (die : Nat) : Nat :=
  if (at? s.rst.kiln die .idle).finished then at? s.rst.cores die 0 else 64

/-- Whether a channel can be named: its training has not failed (R207). -/
def chanPresent (s : State) (stack chan : Nat) : Bool :=
  if (at? s.rst.training stack .idle).finished then (chanOf s stack chan).trained else true

/-! ## CLAMP_CONFIGURE -/

/-- Values outside the table of R83. -/
def badSettings (b : List Byte) : Bool :=
  decide (7 < u8 b 0 ∨ 2 < u8 b 1 ∨ 1 < u8 b 2 ∨ 100 < u8 b 3 ∨ 100 < u8 b 4 ∨ 64 < u8 b 5 ∨ 1020 < u16 b 6 ∨ 1024 < u16 b 8
    ∨ (u32 b 16 ≠ 0 ∧ (u32 b 16 < 5000 ∨ 1000000 < u32 b 16)))

/-- A setting summed over the other clamps. -/
def othersHold (s : State) (k : Nat) (f : Clamp → Nat) : Nat :=
  sumN ((List.range 8).map fun j => if j = k then 0 else f (clampOf s j))

/-- A core or channel that a new clamp names and may not have (R84). -/
def badUnits (s : State) (k : Nat) (c : Clamp) : Bool :=
  let others := (List.range 8).filter fun j => j != k
  (List.range 4).any (fun d => (List.range 64).any fun i => (at? c.cores d 0).getLsbD i
      && (decide (coresOf s d ≤ i) || others.any fun j => (at? (clampOf s j).cores d 0).getLsbD i))
    || (List.range 12).any fun st => (List.range 32).any fun i => ownsChan c st i
      && (!chanPresent s st i || others.any fun j => ownsChan (clampOf s j) st i)

/-- Sums over all clamps that pass R84's limits. -/
def badSums (s : State) (k : Nat) (c : Clamp) : Bool :=
  decide (bogPlaceable s < (c.bogShare + othersHold s k (·.bogShare)) * 2 ^ 30 ∨ 100 < c.hostShare + othersHold s k (·.hostShare)
    ∨ 100 < c.flueShare + othersHold s k (·.flueShare) ∨ 64 < c.landingShare + othersHold s k (·.landingShare))

/-- CLAMP_CONFIGURE (R84, R98): applied whole, or NO_SPACE with the old settings kept. While a shadow stands over a sod that must move, the
command stays in run, and COMMIT applies it later (R54). -/
def decideClampConfigure (s : State) (w : Sender) (p : Packet) : Verdict :=
  let b := ownParams p
  let k := u8 b 0
  let c := clampOf s k
  let new := clampFrom b c
  acceptCmd s w.ctx p
    [(badSettings b || badUnits s k new || badSums s k new, stBadParam),
     ((c.state != .unconfigured && c.state != .stopped) || c.changing, stDenied)] (.clampConfigure k b) fun me s =>
      if storageLacks s k new then finish s me stNoSpace
      else if movesHeld s k new then modClamp s k fun c => { c with changing := true }
      else finish (configureNow s k b) me stOk

/-! ## States (R85) -/

/-- Whether debug is between its two states, so that no clamp may start (R335, R461). -/
def debugMoving (s : State) : Bool := s.sec.debug == .unlocking || s.sec.debug == .locking

/-- Whether a channel of a clamp is in bank view, or about to enter it (R58). -/
def anyBankView (s : State) (c : Clamp) : Bool :=
  (s.exrad.chans.any fun e => e.2.mode == .bankView && ownsChan c (e.1 / 32) (e.1 % 32))
    || s.cmds.any fun x => x.live && (match x.work with | .bankView st ch true => ownsChan c st ch | _ => false)

/-- CLAMP_START (R85, R99). -/
def decideClampStart (s : State) (_w : Sender) (p : Packet) : Verdict :=
  let k := u8 (ownParams p) 0
  let c := clampOf s k
  .unless
    [(decide (7 < k), stBadParam),
     (c.state != .stopped || c.changing || c.resetting || debugMoving s || anyBankView s c, stDenied)]
    (.ok 0 fun s => settled (modClamp s k fun c => { c with state := .running, sliceStart := s.now }))

/-- CLAMP_STOP (R97): `DRAIN` with a limit of 10 µs to 60 s, or `KILL`. -/
def decideClampStop (s : State) (w : Sender) (p : Packet) : Verdict :=
  let b := ownParams p
  let k := u8 b 0
  let kill := u8 b 1 == 1
  let c := clampOf s k
  acceptCmd s w.ctx p
    [(decide (7 < k ∨ 1 < u8 b 1 ∨ (u8 b 1 = 0 ∧ (u64 b 8 < 1000 ∨ 6000000000 < u64 b 8))), stBadParam),
     (c.state != .running || c.changing, stDenied)] (.clampStop k) fun me s =>
      let s := modClamp s k fun c => { c with state := .stopping, stop := some { cmd := some me, kill := kill, deadline := s.now + u64 b 8 } }
      if kill then settled (killClamp s k) else abandonSwitches s k

/-- A clamp unconfigured: default settings; its assignment and its counts stay (R83, R476). -/
def unconfigure (c : Clamp) : Clamp :=
  { assign := c.assign, discarded := c.discarded, classBytes := c.classBytes, landingRefusals := c.landingRefusals, tokens := c.tokens, prefixConfirmed := c.prefixConfirmed, prefixFalse := c.prefixFalse }

/-- CLAMP_DELETE (R85). -/
def decideClampDelete (s : State) (_w : Sender) (p : Packet) : Verdict :=
  let k := u8 (ownParams p) 0
  let c := clampOf s k
  .unless
    [(decide (7 < k), stBadParam),
     (c.state != .stopped || c.changing || c.resetting || decide (0 < clampContexts s k) || s.store.tensors.any fun t => t.clamp == k, stDenied)]
    (.ok 0 fun s => newLayout (modClamp s k unconfigure))

/-- CLAMP_ASSIGN (R64): accepted in every state. -/
def decideClampAssign (_s : State) (_w : Sender) (p : Packet) : Verdict :=
  let b := ownParams p
  let k := u8 b 0
  .unless [(decide (7 < k), stBadParam)]
    (.ok 0 fun s => newLayout (modClamp s k fun c => { c with assign := BitVec.ofNat 64 (u64 b 8) }))

/-- The code of a clamp state. -/
def ClampState.code : ClampState → Nat
  | .unconfigured => 0
  | .stopped => 1
  | .running => 2
  | .stopping => 3

/-- The value that CLAMP_QUERY returns. -/
def clampValue (s : State) (k : Nat) : Nat :=
  let c := clampOf s k
  c.state.code + 4 * b2n c.serving.isSome + 8 * (if c.state = .unconfigured then 0 else c.role) + 32 * b2n c.changing
    + 2 ^ 16 * clampContexts s k

/-- CLAMP_QUERY: the physical function, or an assigned one. -/
def decideClampQuery (s : State) (w : Sender) (p : Packet) : Verdict :=
  let k := u8 (ownParams p) 0
  .unless [(decide (7 < k), stBadParam), (w.fn != 0 && !(clampOf s k).assign.getLsbD w.fn, stDenied)] (.ok (clampValue s k))

end Sys2Proof.Machine
end

