-- ==== Sys2Proof/Machine/Manage.lean ====
section
/-!
DEFINITION. The decisions on the packets of groups 0x06xx and 0x07xx (R206, R335, R423, R432, R435-R444, R454-R457, R464, R476-R478), and the
non-volatile writes they begin.
-/
namespace Sys2Proof.Machine

open Sys2Proof

/-! ## Telemetry, counters, routes -/

/-- TELEMETRY_READ (R476, R477). -/
def decideTelemetryRead (s : State) (w : Sender) (p : Packet) : Verdict :=
  let b := ownParams p
  let set := u8 b 8
  let k := u8 b 9
  acceptCmd s w.ctx p
    [(decide (2 < set ∨ (set = 1 ∧ 7 < k)), stBadParam),
     (w.fn != 0 && (set == 2 || (set == 1 && !(clampOf s k).assign.getLsbD w.fn)), stDenied)]
    (.telemetry set k (u64 b 0)) fun me s => modCmd s me fun c => { c with done := true }

/-- The selectors of R478. -/
def selectors : List Nat :=
  [0x0000, 0x1001, 0x1002, 0x1003, 0x1004, 0x2001, 0x2002, 0x2003, 0x2004, 0x3001, 0x3002, 0x4001, 0x4002, 0x5001, 0x5002]

/-- COUNTER_SELECT (R478): the bank's event is chosen and the bank cleared. -/
def decideCounterSelect (_s : State) (_w : Sender) (p : Packet) : Verdict :=
  let b := ownParams p
  .unless [(decide (15 < u8 b 0) || !selectors.contains (u16 b 2), stBadParam)] (.ok 0 fun s =>
    { s with evt := { s.evt with bankSel := s.evt.bankSel.set (u8 b 0) (u16 b 2), bank := s.evt.bank.set (u8 b 0) 0 } })

/-- A route that R464 refuses. -/
def badRoute (src tgt level : Nat) : Bool := decide (src = 0 ∨ 512 ≤ src ∨ 67 < tgt ∨ tgt < 4 ∨ 15 < level)

/-- EVENT_ROUTE (R464, R468): the lines of the old and the new target are taken anew. -/
def decideEventRoute (s : State) (_w : Sender) (p : Packet) : Verdict :=
  let b := ownParams p
  let src := u16 b 0
  let old := (srcOf s src).target
  .unless [(badRoute src (u8 b 2) (u8 b 3), stBadParam)] (.ok 0 fun s =>
    reassess (reassess (modSrc s src fun x => { x with target := u8 b 2, level := u8 b 3 }) old) (u8 b 2))

/-! ## Power and scrub -/

/-- POWER_CAP_SET (R423, R425): the cap holds at once; DONE waits for the window ends. -/
def decidePowerCapSet (s : State) (w : Sender) (p : Packet) : Verdict :=
  let n := u16 (ownParams p) 0
  acceptCmd s w.ctx p [(decide (n < 600 ∨ 2400 < n), stBadParam)] (.powerCap n) fun me s =>
    let s := modCmd s me fun c => { c with phase := .commit, committed := true, stamp := s.now }
    { s with pwr := { s.pwr with cap := n, capCmds := s.pwr.capCmds ++ [me] } }

/-- SCRUB_SET (R356). -/
def decideScrubSet (_s : State) (_w : Sender) (p : Packet) : Verdict :=
  let n := u8 (ownParams p) 0
  .unless [(decide (n = 0 ∨ 168 < n), stBadParam)] (.ok 0 fun s => { s with store := { s.store with scrubNext := n } })

/-! ## Non-volatile writes (R432, R438) -/

/-- Whether a command's work is a non-volatile write. -/
def isNv : Work → Bool
  | .fwStage .. => true
  | .fwActivate _ => true
  | .keyRevoke _ => true
  | .repairCommit .. => true
  | _ => false

/-- FW_STAGE erases the old slot record first (R438). -/
def eraseRecord (s : State) : Work → State
  | .fwStage n _ => { s with sec := { s.sec with slots := s.sec.slots.modify n fun x => { x with digest := none } } }
  | _ => s

/-- A command's write starts, is refused because of the hold, or waits for the write before it. -/
def startNv (s : State) (h : Handle) : State :=
  match cmdOf s h with
  | none => s
  | some c =>
    if s.pwr.nvHold then finish s h stNvHeld
    else if s.sec.nv.isSome ∨ s.rst.warmWait.isSome then s
    else
      let s := modCmd (eraseRecord s c.work) h fun c => { c with phase := .commit }
      { s with sec := { s.sec with nv := some (.command h) } }

/-- The next non-volatile write: a command's, then the svn burn, then the retired-page list. -/
def nextNv (s : State) : State :=
  if s.pwr.nvHold ∨ s.sec.nv.isSome ∨ s.rst.warmWait.isSome then s
  else match s.cmds.find? fun c => c.phase == .run && isNv c.work with
    | some c => startNv s c.handle
    | none =>
      if s.sec.svnDeferred then { s with sec := { s.sec with nv := some .svnBurn, svnDeferred := false } }
      else startListWrite s

/-! ## Firmware and keys (R436-R444) -/

/-- Bytes of an image as its header gives them: header, body, signature (R435, R436). -/
def imageLen (b : List Byte) : Nat := 1024 + u32 b 4 + 512

/-- The header's values (R436). -/
def headerOk (b : List Byte) : Bool :=
  decide (u32 b 0 = 0x5746534B ∧ 4096 ≤ u32 b 4 ∧ u32 b 4 ≤ 16775168 ∧ u8 b 8 ≤ 3 ∧ u8 b 9 ≤ 63 ∧ u32 b 544 = 65537
    ∧ imageLen b ≤ b.length)

/-- The header and the body, over which digest and signature run (R437). -/
def signedPart (b : List Byte) : List Byte := b.take (1024 + u32 b 4)

/-- Verification of an image (R442). -/
def imageVerifies (s : State) (b : List Byte) : Bool :=
  headerOk b && Config.sha512 (slice b 32 516) == Config.keyHash (u8 b 8) && !at? s.sec.revoked (u8 b 8) true
    && decide (s.sec.svnMin ≤ u8 b 9) && Config.pssVerify (slice b 32 512) (signedPart b) (slice b (1024 + u32 b 4) 512)

/-- FW_STAGE (R438, R440): the image is read and verified, and then the slot is written. -/
def decideFwStage (s : State) (w : Sender) (p : Packet) : Verdict :=
  let b := ownParams p
  let h := handleAt b 0
  let len := u32 b 8
  let slot := u8 b 12
  let big := match tensorOf s h with | some t => decide (t.bytes < len) | none => true
  let view := ((tensorOf s h).map (·.sods)).getD []
  let image := readView view 0 0 len
  acceptCmd s w.ctx p
    [(badTensor s h || big || decide (1 < slot ∨ 16777216 < len), stBadParam), (deniedTensor s w.ctx h false, stDenied)]
    (.fwStage slot image) fun me s =>
      let r := checkSods s view h (sodsOf 0 0 len)
      if !r.2 then finish r.1 me stDataAsh
      else if !imageVerifies s image || slot == s.sec.running.slot then finish s me stDenied
      else startNv s me

/-- The pointer record that FW_ACTIVATE writes: the one that does not hold (R439). -/
def otherRecord (l : List (Option (Nat × Nat))) : Nat :=
  match at? l 0 none, at? l 1 none with
  | some (_, x), some (_, y) => if x < y then 0 else 1
  | none, some _ => 0
  | _, none => if (at? l 0 none).isSome then 1 else 0

/-- FW_ACTIVATE (R439, R440). -/
def decideFwActivate (s : State) (w : Sender) (p : Packet) : Verdict :=
  let n := u8 (ownParams p) 0
  acceptCmd s w.ctx p [(decide (1 < n), stBadParam), ((at? s.sec.slots n {}).digest.isNone, stDenied)] (.fwActivate n) fun me s => startNv s me

/-- Key slots not yet revoked. -/
def keysLeft (s : State) : List Nat := (List.range 4).filter fun k => !at? s.sec.revoked k true

/-- KEY_REVOKE (R335, R443). -/
def decideKeyRevoke (s : State) (w : Sender) (p : Packet) : Verdict :=
  let n := u8 (ownParams p) 0
  acceptCmd s w.ctx p [(decide (3 < n), stBadParam), (n == s.sec.running.key || keysLeft s == [n], stDenied)] (.keyRevoke n) fun me s => startNv s me

/-- A row of a row list: channel, bank, row (the layout is the model's, log entry 55), under the key that soft repairs use. -/
def repairRow (b : List Byte) (i : Nat) : Nat × Nat := (u8 b (4 * i) * 32 + u8 b (4 * i + 1), u16 b (4 * i + 2))

/-- A row of a list that no stack has. -/
def badRow (b : List Byte) (i : Nat) : Bool := decide (32 ≤ u8 b (4 * i) ∨ 32 ≤ u8 b (4 * i + 1) ∨ 12288 ≤ u16 b (4 * i + 2))

/-- REPAIR_COMMIT (R206, R335). -/
def decideRepairCommit (s : State) (w : Sender) (p : Packet) : Verdict :=
  let b := ownParams p
  let st := u8 b 0
  let n := u16 b 16
  if decide (11 < st ∨ n = 0 ∨ 256 < n) then .refuse stBadParam
  else match readParamTensor s w.ctx (handleAt b 8) 0 (4 * n) 655360 with
  | .error v => v
  | .ok x =>
    let rows := (List.range n).map (repairRow x)
    acceptCmd s w.ctx p
      [((List.range n).any (badRow x), stBadParam),
       (decide (4096 < (tgetD s.store.softRepairs st []).length + n), stNoSpace)] (.repairCommit st rows) fun me s => startNv s me

/-! ## Debug (R454-R457) -/

/-- Whether every clamp is stopped or unconfigured. -/
def clampsQuiet (s : State) : Bool := s.clamps.all fun c => c.state == .stopped || c.state == .unconfigured

/-- Bytes of a token: header, serial number, nonce, signature (R455; log entry 56). -/
abbrev tokenLen : Nat := 568

/-- Whether a token opens this module now (R454, R455). -/
def tokenValid (s : State) (b : List Byte) : Bool :=
  decide (u32 b 0 = 0x4B444247 ∧ u32 b 4 = tokenLen ∧ u8 b 8 = 0 ∧ BitVec.ofNat 64 (u64 b 16) = Config.serial ∧ b.length = tokenLen)
    && slice b 24 32 == s.sec.nonce && Config.pssVerify Config.debugKey (b.take 56) (slice b 56 512) && Config.debugFuseMode == 0

/-- A channel zero-filled (R456). -/
def wipeChan (c : Chan) : Chan := { c with bbuf := [], slices := [], openRows := [], rows := [], units := [] }

/-- The three steps of R456: every context but one ends, every object is destroyed, all memory is zero-filled. -/
def wipe (keep : Nat) (s : State) : State :=
  let s := (s.ctxs.filter fun e => e.1 != keep).foldl (fun s e => endContext s e.1) s
  let s := (s.serve.reqs.filter fun q => q.live).foldl (fun s q => (cancelReq s q.id).1) s
  let s := (s.store.tensors.map (·.handle)).foldl destroyTensor s
  let s := (s.store.shardSets.map (·.handle) ++ s.serve.models.map (·.handle)).foldl dropSlot s
  releaseTensors { s with
    store := { s.store with
      tensors := s.store.tensors.map fun t => { t with sods := [], stripes := [] }, shardSets := [] }
    serve := { s.serve with models := [], versions := [], noBind := [], pfx := [], orphans := [] }
    flue := { s.flue with landed := [] }
    exrad := { chans := s.exrad.chans.map fun e => (e.1, wipeChan e.2) }
    evt := { s.evt with log := [] } }

/-- DEBUG_UNLOCK (R335, R456). -/
def decideDebugUnlock (s : State) (w : Sender) (p : Packet) : Verdict :=
  let b := ownParams p
  match readParamTensor s w.ctx (handleAt b 0) 0 (u32 b 8) 655360 with
  | .error v => v
  | .ok x =>
    acceptCmd s w.ctx p [(!clampsQuiet s, stDenied)] (.debugUnlock x) fun me s =>
      if s.sec.debug ≠ .locked ∨ !tokenValid s x then finish s me stDenied
      else
        let s := modCmd s me fun c => { c with phase := .commit }
        wipe w.ctx { s with sec := { s.sec with debug := .unlocking, transition := some me, lastToken := Config.sha512 x } }

/-- Whether a command is one of the debug group that has yet to commit. -/
def isDebugWork : Work → Bool
  | .dbgRead .. => true
  | .bankView .. => true
  | .bankWrite .. => true
  | _ => false

/-- Debug access ends: its commands are cancelled, its channels leave bank view, the JTAG session is over, breakpoints are cleared. -/
def endDebug (s : State) : State :=
  let s := (s.cmds.filter fun c => c.phase == .run && isDebugWork c.work).foldl (fun s c => endCmd s c.handle stCancelled) s
  let s := (s.exrad.chans.filter fun e => e.2.mode == .bankView).foldl (fun s e => leaveBankView s (e.1 / 32) (e.1 % 32)) s
  { s with
    ctxs := s.ctxs.map fun e => (e.1, { e.2 with breaks := [none, none, none, none] })
    evt := { s.evt with jtagOwner := false } }

/-- DEBUG_LOCK (R457): breakpoints are cleared, and JTAG access ends. -/
def decideDebugLock (s : State) (w : Sender) (p : Packet) : Verdict :=
  acceptCmd s w.ctx p [] .debugLock fun me s =>
    if s.sec.debug ≠ .unlocked ∨ Config.debugFuseMode = 1 ∨ !clampsQuiet s then finish s me stDenied
    else
      let s := modCmd s me fun c => { c with phase := .commit }
      wipe w.ctx (endDebug { s with sec := { s.sec with debug := .locking, transition := some me } })

end Sys2Proof.Machine
end

