-- ==== Sys2Proof/Machine/DebugCmd.lean ====
section
/-!
DEFINITION. The decisions on the packets of group 0x7Fxx (10_nirra_commands, R58, R59, R162, R163, R480).
-/
namespace Sys2Proof.Machine

open Sys2Proof

/-- Whether debug is unlocked: the state says so, or the fuses keep it always so (R454). -/
def debugOpen (s : State) : Bool := s.sec.debug == .unlocked || Config.debugFuseMode == 1

/-- The breakpoint that a DBG_BREAK_SET describes (R162). -/
def breakFrom (b : List Byte) : Break :=
  { execStream := u8 b 3 == 1, onTag := u8 b 4 == 1, oneShot := u8 b 5 == 1, value := u64 b 8
    tile := if u32 b 16 = 0xFFFFFFFF then none else some (u32 b 16) }

/-- DBG_BREAK_SET (R162). -/
def decideDbgBreakSet (s : State) (_w : Sender) (p : Packet) : Verdict :=
  let b := ownParams p
  let n := u16 b 0
  let bad := decide (3 < u8 b 2 ∨ 1 < u8 b 3 ∨ 1 < u8 b 4 ∨ 1 < u8 b 5 ∨ u64 b 8 = 0 ∨ (u8 b 4 = 1 ∧ 65535 < u64 b 8))
  .unless [((ctxOf s n).isNone || bad, stBadParam)]
    (.ok 0 fun s => modCtx s n fun c => { c with breaks := c.breaks.set (u8 b 2) (some (breakFrom b)) })

/-- DBG_BREAK_CLEAR. -/
def decideDbgBreakClear (s : State) (_w : Sender) (p : Packet) : Verdict :=
  let b := ownParams p
  let n := u16 b 0
  .unless [((ctxOf s n).isNone || decide (3 < u8 b 2), stBadParam)]
    (.ok 0 fun s => modCtx s n fun c => { c with breaks := c.breaks.set (u8 b 2) none })

/-- A halted tile resumed, or stepped by a number of retirements of one stream (R163). -/
def tileGoes (step exec : Bool) (n : Nat) (t : Tile) : Tile :=
  if !step then { t with halted := false, stepLeft := none }
  else if n = 0 then t
  else { t with halted := false, stepLeft := some (exec, n) }

/-- DBG_TILE_CONTROL (R163, R480). -/
def decideDbgTileControl (s : State) (_w : Sender) (p : Packet) : Verdict :=
  let b := ownParams p
  let h := handleAt b 0
  match tileOf s h (u32 b 8) with
  | none => .refuse stBadParam
  | some t =>
    .unless [(!t.halted || decide (1 < u8 b 12 ∨ 1 < u8 b 13), stBadParam), (s.evt.jtagOwner, stDenied)]
      (.ok 0 fun s => modTile s t.die t.core (tileGoes (u8 b 12 == 1) (u8 b 13 == 1) (u64 b 16)))

/-- A stack, channel and unit that a locator may name. -/
def badSpot (stack chan unit : Nat) : Bool := decide (11 < stack ∨ 31 < chan ∨ 15 < unit)

/-- A locator names nothing: no command for a tile's spaces, no unit for a channel's. -/
def badLocator (s : State) (space locator : Nat) : Bool :=
  if space ≤ 1 then (cmdOf s (Handle.decode locator)).isNone
  else badSpot (bits locator 7 0) (bits locator 15 8) (bits locator 23 16) || decide (2 ^ 24 ≤ locator)

/-- DBG_READ (R59, R203). -/
def decideDbgRead (s : State) (w : Sender) (p : Packet) : Verdict :=
  let b := ownParams p
  let space := u8 b 0
  let loc := u64 b 8
  acceptCmd s w.ctx p
    [(decide (3 < space ∨ 6291456 < u32 b 24 ∨ (space = 0 ∧ 6291456 < u64 b 16 + u32 b 24)) || badLocator s space loc, stBadParam),
     (space == 3 && (chanOf s (bits loc 7 0) (bits loc 15 8)).mode != .bankView, stDenied)]
    (.dbgRead space loc (u64 b 16) (u32 b 24) (u32 b 28) (u64 b 36)) fun me s => modCmd s me fun c => { c with done := true }

/-- Whether R58 admits a channel to bank view: it is in memory mode and belongs to no clamp that runs or stops. -/
def bankViewOk (s : State) (stack chan : Nat) : Bool :=
  (chanOf s stack chan).mode == .memory && match ownerOf s stack chan with
    | some k => (clampOf s k).state == .stopped
    | none => true

/-- DBG_BANK_VIEW (R58, R59). -/
def decideDbgBankView (s : State) (w : Sender) (p : Packet) : Verdict :=
  let b := ownParams p
  let st := u8 b 0
  let ch := u8 b 1
  let enter := u8 b 2 == 0
  acceptCmd s w.ctx p
    [(badSpot st ch 0 || decide (1 < u8 b 2), stBadParam),
     (if enter then !bankViewOk s st ch else (chanOf s st ch).mode != .bankView, stDenied)]
    (.bankView st ch enter) fun me s => modCmd s me fun c => { c with done := true }

/-- DBG_BANK_WRITE (R58, R480): host memory is read in run. -/
def decideDbgBankWrite (s : State) (w : Sender) (p : Packet) : Verdict :=
  let b := ownParams p
  let st := u8 b 0
  let ch := u8 b 1
  let first := u16 b 4
  let rows := u16 b 6
  acceptCmd s w.ctx p
    [(badSpot st ch 0 || decide (31 < u8 b 2 ∨ rows = 0 ∨ 64 < rows ∨ 12288 < first + rows), stBadParam),
     ((chanOf s st ch).mode != .bankView || s.evt.jtagOwner, stDenied)]
    (.bankWrite st ch (u8 b 2) first rows (u64 b 8)) fun me s => askHost s me (u64 b 8) (4096 * rows)

end Sys2Proof.Machine
end

