-- ==== Sys2Proof/Machine/ResetUp.lean ====
section
/-!
DEFINITION. Resets and start-up (13_clocks_resets_bringup): the four kinds of reset (R400-R405), the steps of start-up (R406-R408), the
watchdog (R403), and the rows of this chapter's happenings.
-/
namespace Sys2Proof.Machine

open Sys2Proof

/-! ## What survives (R400, R402) -/

/-- Whether a row has a spare row in its bank's stead (R205): its soft repair comes, after the factory repairs of the bank and the soft repairs
committed before it, among the 64 that a bank's spare rows serve. -/
def rowSpared (s : State) (st : Nat) (x : Nat × Nat) : Bool :=
  match ((tgetD s.store.softRepairs st []).filter fun y => y.1 == x.1).findIdx? (· == x) with
  | some i => decide (i + Config.factoryRepairs (st * 1024 + x.1) < 64)
  | none => false

/-- Pages retired at start-up: those of the list in flash that no repair has spared, and rows whose soft repair found no spare row (R205,
R206, R345). -/
def listedPages (s : State) : List (Loc × Bool) :=
  let listed := s.store.flashRetired.filter fun l => match l with
    | .bank st ch b r => !rowSpared s st (ch * 32 + b, r)
    | _ => true
  let left := s.store.softRepairs.flatMap fun e =>
    (e.2.filter fun x => !rowSpared s e.1 x).map fun x => Loc.bank e.1 (x.1 / 32) (x.1 % 32) x.2
  (listed ++ left.filter fun l => !listed.contains l).map fun l => (l, false)

/-- A non-volatile write cut short: a pointer record being written is no longer valid; a slot's record was erased first, and a fuse stays
unburnt (R402, R438, R439). -/
def cutNv (s : State) : List (Option (Nat × Nat)) :=
  match s.sec.nv with
  | some (.command h) =>
    match cmdOf s h with
    | some c => match c.work with
      | .fwActivate _ => s.sec.bootPtr.set (otherRecord s.sec.bootPtr) none
      | _ => s.sec.bootPtr
    | none => s.sec.bootPtr
  | _ => s.sec.bootPtr

/-- Fundamental reset (R400): fuses, flash, straps, pins, the trip log and what has been sent are kept. -/
def fundamental (s : State) : State :=
  { rst := { perst := s.rst.perst, refHeld := s.rst.refHeld, refGood := s.rst.refGood, thermCompat := s.rst.thermCompat, bootSel := s.rst.bootSel }
    store := { flashRetired := s.store.flashRetired, softRepairs := s.store.softRepairs, retired := listedPages s }
    pwr := { tripped := s.pwr.tripped, tripSensor := s.pwr.tripSensor, trips := s.pwr.trips, quench := s.pwr.quench }
    sec := { revoked := s.sec.revoked, svnMin := s.sec.svnMin, slots := s.sec.slots, bootPtr := cutNv s }
    evt := { jtag := s.evt.jtag, jtagOwner := s.evt.jtagOwner && Config.debugFuseMode == 1 }
    i3c := s.i3c, out := s.out, freeCount := s.freeCount, pending := s.pending }

/-- Every handle slot of a context given a new generation. -/
def renewSlots (t : Table Slot) : Table Slot :=
  t.map fun e => (e.1, if e.2.fresh then e.2 else { gen := nextGen e.2.gen, live := false, fresh := true })

/-- A port at a warm module reset: retired ports stay so; counts of retrains are kept (R364, R400). -/
def warmPort (x : Port) : Port :=
  { state := if x.state = .retired then .retired else .down, excluded := x.excluded, retrains := x.retrains }

/-- A step of start-up begun now. -/
def running (s : State) : StepState := .running s.now

/-- The steps that begin once the VCORE setpoint is set: Kiln self-test, the first stacks, the bog (R406, R412). -/
def beginTests (s : State) : State :=
  let first := fun k : Nat => k % 3 == 0
  emit { s with
    pwr := { s.pwr with setpoint := Config.setpointFuse }
    rst := { s.rst with
      kiln := List.replicate 4 (running s), bog := running s
      training := (List.range 12).map fun k => if first k then running s else .idle } } (.avs Config.setpointFuse)

/-- Warm module reset (R400, R403): from Kindling onwards; the cause is recorded. -/
def warmNow (s : State) (watchdog : Bool) : State :=
  let f := fundamental s
  beginTests { f with
    now := s.now
    rst := { s.rst with
      ready := s.rst.ready &&& 1, failed := 0, causeRequested := !watchdog, causeWatchdog := watchdog
      warmCount := satAdd 255 s.rst.warmCount 1, warmWait := none, kindling := running s, security := .idle, serving := .idle
      releasedAt := s.now, lastService := s.now, cores := [0, 0, 0, 0], bogChans := 0, bogSlow := 0, cdcOverrun := 0
      cdcLost := List.replicate 64 0, wakePending := [] }
    slots := s.slots.map fun e => (e.1, renewSlots e.2)
    store := { f.store with retired := listedPages s ++ s.store.retired.filter fun e => e.2 }
    flue := {
      moduleId := s.flue.moduleId, lock := s.flue.lock, ports := s.flue.ports.map warmPort
      pairs := s.flue.pairs.map fun e => (e.1, { e.2 with up := false }) }
    sec := { f.sec with unlockCount := s.sec.unlockCount, lastToken := s.sec.lastToken, nonce := s.sec.nonce } }

/-- A warm module reset asked for: it waits for a non-volatile write in progress (R402). A wait already begun stands. -/
def warm (s : State) (watchdog : Bool) : State :=
  if s.rst.warmWait.isSome then s
  else if s.sec.nv.isSome then { s with rst := { s.rst with warmWait := some (watchdog, s.now) } }
  else warmNow s watchdog

/-! ## Function-level reset (R301, R400, R470) -/

/-- A function's target after its reset: its claims are dropped, and its sources are out of service. -/
def resetTarget (s : State) (t : Nat) : State :=
  let held := (tgtOf s t).stack.map (·.1)
  let s := held.foldl (fun s n => modSrc s n fun x => { x with inService := false }) s
  reassess (modTgt s t fun x => { x with threshold := 0, stack := [], badComplete := false }) t

/-- A stream's keys that its key set in use does not need are dropped. -/
def dropKeys (x : Ide) : Ide :=
  { x with programmed := if x.state = .secure then x.programmed.filter fun k => k.1 % 2 == x.keySet else [] }

/-- A function's SPDM state ends, and with it the programming of keys that its mailbox carries (R450, R453). -/
def endSpdm (s : State) (f : Nat) : State :=
  { s with sec := { s.sec with spdm := s.sec.spdm.set f {}, ide := if f = 0 then s.sec.ide.map dropKeys else s.sec.ide } }

/-- The contexts that a function created end, and its own registers, mailbox and target are reset. -/
def resetFunction (s : State) (f : Nat) : State :=
  let s := (s.ctxs.filter fun e => e.2.fn == f && !e.2.serving).foldl (fun s e => endContext s e.1) (endSpdm s f)
  let s := modFn s f fun x => { lost := x.lost }
  settled (resetTarget s (4 + f))

/-- Virtual functions beyond a count go: each is reset, and takes no more packets. -/
def setVfs (s : State) (n : Nat) : State :=
  let gone := (List.range 64).filter fun f => decide (n < f ∧ f ≤ s.rst.vfEnabled)
  let s := gone.foldl resetFunction s
  { s with rst := { s.rst with vfEnabled := n } }

/-- FUNCTION_LEVEL_RESET: discarded while a warm module reset is under way (R401). That of the physical function disables the virtual ones, as PCI Express lays down. -/
def execFunctionLevelReset (fn : Nat) (s : State) : Host.Outcome State Fault Refusal :=
  .next (if s.rst.perst ∨ !s.rst.rootLocked ∨ s.rst.warmWait.isSome then s else resetFunction (if fn = 0 then setVfs s 0 else s) fn)

/-- VF_ENABLE (R283, R410). -/
def execVfEnable (count : Nat) (s : State) : Host.Outcome State Fault Refusal :=
  .next (if s.rst.perst ∨ !s.rst.rootLocked then s else setVfs s (min count 63))

/-! ## Clamp reset (R401, R404, R405) -/

/-- The key of RDY_RESET. -/
abbrev resetKey : Nat := 0x4B52

/-- A clamp reset asked for: it waits for a stop of the clamp; one already asked for stands, and a warm module reset under way discards it
(R401). -/
def askClampReset (s : State) (k : Nat) : State :=
  let c := clampOf s k
  if 7 < k ∨ c.resetting ∨ c.resetWaits ∨ s.rst.warmWait.isSome then s
  else if c.state = .stopping ∨ c.changing then modClamp s k fun c => { c with resetWaits := true }
  else beginClampReset s k

/-- WARM (R404). -/
def execWarmReset (fn key : Nat) (s : State) : Host.Outcome State Fault Refusal :=
  .next (if fn = 0 ∧ key = resetKey ∧ s.rst.rootLocked then warm s false else s)

/-- CLAMP_RESET (R404, R405). -/
def execClampReset (fn clamp key : Nat) (s : State) : Host.Outcome State Fault Refusal :=
  .next (if fn = 0 ∧ key = resetKey ∧ s.rst.rootLocked then askClampReset s clamp else s)

/-- CLAMP_RESET_DONE (R405): once no context of the clamp is left. -/
def execClampResetDone (clamp : Nat) (s : State) : Host.Outcome State Fault Refusal :=
  let c := clampOf s clamp
  .next (if c.resetting ∧ c.stop.isNone ∧ clampContexts s clamp = 0 then
      let s := newLayout (modClamp s clamp fun c => { c with resetting := false, changing := false })
      raise s (80 + clamp) 0x0A (natLE 1 clamp)
    else s)

/-! ## The steps of start-up (R406, R407) -/

/-- The home die of a stack and of a bog package (R14). -/
def stackDie (k : Nat) : Nat := k / 3
def bogDie (p : Nat) : Nat := p / 4

/-- Whether a die has failed its self-test. -/
def dieFailed (s : State) (d : Nat) : Bool := at? s.rst.kiln d .idle == .failed

/-- Whether every step except the Flue ports has ended (R407). -/
def startupOver (r : Reset) : Bool :=
  (r.hostLink :: r.kindling :: r.security :: r.bog :: r.serving :: (r.kiln ++ r.training)).all StepState.finished

/-- startup_done and the stacks whose predecessor has ended brought up to date (R407). -/
def advance13 (s : State) : State :=
  let next := fun k : Nat =>
    match at? s.rst.training k .idle with
    | .idle => if k % 3 ≠ 0 ∧ (at? s.rst.training (k - 1) .idle).finished then running s else .idle
    | x => x
  let s := { s with rst := { s.rst with training := (List.range 12).map next } }
  if startupOver s.rst then { s with rst := { s.rst with ready := s.rst.ready ||| BitVec.ofNat 64 (2 ^ 36) } } else s

/-- Readiness bits set, after the steps of a change. -/
def withReady (s : State) (set : Nat) : State :=
  let s' := advance13 s
  setReady { s' with rst := { s'.rst with ready := s.rst.ready } } (s'.rst.ready ||| BitVec.ofNat 64 set) s'.rst.failed

/-- Failure bits set. -/
def withFailed (s : State) (set : Nat) : State :=
  let s' := advance13 s
  setReady { s' with rst := { s'.rst with ready := s.rst.ready, failed := s.rst.failed } } s'.rst.ready (s'.rst.failed ||| BitVec.ofNat 64 set)

/-- The valid pointer record with the higher sequence names the active slot (R439). -/
def activeSlot (l : List (Option (Nat × Nat))) : Nat :=
  match at? l 0 none, at? l 1 none with
  | some (a, x), some (b, y) => if x < y then b else a
  | some (a, _), none => a
  | none, some (b, _) => b
  | none, none => 0

/-- Whether a slot verifies: its record names the digest of its image, and the image passes R442 (R438, R441). -/
def slotVerifies (s : State) (n : Nat) : Bool :=
  let x := at? s.sec.slots n {}
  x.digest == some (Config.sha512 (signedPart x.image)) && imageVerifies s x.image

/-- The slot that Kindling tries first (R408). -/
def firstSlot (s : State) : Nat := let a := activeSlot s.sec.bootPtr; if s.rst.bootSel then 1 - a else a

/-- The slot that Kindling boots, and boot_error. -/
def bootSlot (s : State) : Option (Nat × Nat) :=
  let a := firstSlot s
  if slotVerifies s a then some (a, 0) else if slotVerifies s (1 - a) then some (1 - a, 1) else none

/-- What runs once a slot has booted. -/
def runningFrom (s : State) (n : Nat) : Running :=
  let b := (at? s.sec.slots n {}).image
  { slot := n, key := u8 b 8, svn := u8 b 9, version := u32 b 12, commitSvn := bit (u8 b 10) 0, digest := Config.sha512 (signedPart b) }

/-- boot_error written into RDY_STATUS. -/
def setBootError (s : State) (n : Nat) : State :=
  { s with rst := { s.rst with ready := (s.rst.ready &&& ~~~(BitVec.ofNat 64 (15 * 2 ^ 32))) ||| BitVec.ofNat 64 (n * 2 ^ 32) } }

/-- Serving starts once Hearth and bog are ready. -/
def beginServing (s : State) : State :=
  if s.rst.serving = .idle ∧ s.rst.kindling = .ok ∧ s.rst.bog = .ok then { s with rst := { s.rst with serving := running s } } else s

/-- Channels of a stack as they leave training, in memory mode, every row sealed (R205, R207). -/
def trainChans (s : State) (st : Nat) (mask : BitVec 32) : State :=
  (List.range 32).foldl (fun s i =>
    if mask.getLsbD i && !(chanOf s st i).trained then modChan s st i fun c => { c with trained := true, mode := .memory } else s) s

/-- Home dies on which a package has a trained channel (R407). -/
def bogDies (m : BitVec 64) : Nat :=
  ((List.range 4).filter fun d => (List.range 16).any fun i => m.getLsbD (16 * d + i)).length

/-- Channels of the bog whose home die has not failed. -/
def bogMask (s : State) (m : BitVec 64) : BitVec 64 :=
  BitVec.ofNat 64 (sumN ((List.range 64).map fun i => if m.getLsbD i && !dieFailed s (bogDie (i / 4)) then 2 ^ i else 0))

/-- The readiness bit of a unit, unless it is too hot to be in service (R409, R419). -/
def coolBit (s : State) (sensor i : Nat) : Nat := if (at? s.pwr.sensors sensor {}).out then 0 else 2 ^ i

/-- Whether a step that has not ended meets its limit, counted from the release of PERST# (R406). -/
def limitMet (s : State) (x : StepState) (limit : Nat) : Bool := !x.finished && decide (s.rst.releasedAt + limit ≤ s.now)

/-- A stack's limit counts from its own start. -/
def stackLimitMet (s : State) : StepState → Bool
  | .running t => decide (t + 180000000 ≤ s.now)
  | _ => false

/-- Whether a step has met its limit without having ended (R406). -/
def stepLate (s : State) : StartStep → Bool
  | .hostLink => limitMet s s.rst.hostLink 10000000
  | .kindling => limitMet s s.rst.kindling 100000000
  | .security => limitMet s s.rst.security 120000000
  | .kiln d _ => limitMet s (at? s.rst.kiln d .idle) 60000000
  | .stack k _ _ => stackLimitMet s (at? s.rst.training k .idle)
  | .bog .. => limitMet s s.rst.bog 120000000
  | .serving => limitMet s s.rst.serving 150000000

/-- A step that runs and succeeds. Channels of a stack join as they train, until its step ends (R207). -/
def stepDone (s : State) : StartStep → State
  | .hostLink =>
    match s.rst.hostLink with
    | .running _ => emit (withReady { s with rst := { s.rst with hostLink := .ok } } 1) .deviceReady
    | _ => s
  | .kindling =>
    match s.rst.kindling, bootSlot s with
    | .running _, some (n, e) =>
      let s := { s with
        sec := { s.sec with running := runningFrom s n }
        rst := { s.rst with kindling := .ok, security := running s, lastService := s.now } }
      withReady (beginServing (setBootError s e)) 2
    | _, _ => s
  | .security =>
    match s.rst.security with
    | .running _ =>
      let burn := s.sec.running.commitSvn && decide (s.sec.svnMin < s.sec.running.svn)
      withReady { s with rst := { s.rst with security := .ok }, sec := { s.sec with svnDeferred := burn } } 4
    | _ => s
  | .kiln d n =>
    match at? s.rst.kiln d .idle with
    | .running _ =>
      withReady { s with rst := { s.rst with kiln := s.rst.kiln.set d .ok, cores := s.rst.cores.set d (min n 64) } } (coolBit s d (rdyKiln d))
    | _ => s
  | .stack k m ends =>
    match at? s.rst.training k .idle with
    | .running _ =>
      if dieFailed s (stackDie k) then s
      else
        let u := trainChans s k m
        if !(List.range 32).any fun i => (chanOf u k i).trained then s
        else withReady (if ends then { u with rst := { u.rst with training := u.rst.training.set k .ok } } else u) (coolBit s (4 + k) (rdyExrad k))
    | _ => s
  | .bog m slow =>
    match s.rst.bog with
    | .running _ =>
      let m := bogMask s m
      if bogDies m < 2 then s
      else
        let s := { s with rst := { s.rst with bog := .ok, bogChans := m, bogSlow := slow &&& m } }
        withReady (beginServing s) (2 ^ rdyBog)
    | _ => s
  | .serving =>
    match s.rst.serving with
    | .running _ => withReady { s with rst := { s.rst with serving := .ok } } (2 ^ rdyServing)
    | _ => s

/-- STARTUP_STEP_DONE (R406, R407): before the step's limit; a step that has met its limit has failed. -/
def execStartupStepDone (step : StartStep) (s : State) : Host.Outcome State Fault Refusal :=
  .next (if s.rst.perst ∨ !s.rst.rootLocked ∨ stepLate s step then s else settled (stepDone s step))

/-- Failure bits set and readiness bits cleared. -/
def withLost (s : State) (fail clear : Nat) : State :=
  let s' := advance13 s
  setReady { s' with rst := { s'.rst with ready := s.rst.ready, failed := s.rst.failed } } (s'.rst.ready &&& ~~~(BitVec.ofNat 64 clear))
    (s'.rst.failed ||| BitVec.ofNat 64 fail)

/-- The bog without the channels of a die that has failed; it fails when packages on fewer than two home dies are left (R407). -/
def bogWithout (r : Reset) (d : Nat) : Reset :=
  let m := r.bogChans &&& ~~~(BitVec.ofNat 64 (65535 * 2 ^ (16 * d)))
  { r with bogChans := m, bogSlow := r.bogSlow &&& m, bog := if r.bog = .ok ∧ bogDies m < 2 then .failed else r.bog }

/-- A die that fails takes its stacks, its bog packages and its Flue ports with it, those that had trained before included (R407). -/
def failDie (s : State) (d : Nat) : State :=
  let mine := (List.range 12).filter fun k => stackDie k == d
  let ports := (List.range 8).filter fun p => portDie p == d
  let after := fun k : Nat => if mine.contains k then StepState.failed else at? s.rst.training k .idle
  let gone := fun p : Nat => if ports.contains p then { portOf s p with state := .retired, excluded := 7 } else portOf s p
  let off := fun e : Nat × Chan => if mine.contains (e.1 / 32) then (e.1, { e.2 with trained := false, mode := .offline }) else e
  let s := { s with
    rst := { bogWithout s.rst d with kiln := s.rst.kiln.set d .failed, training := (List.range 12).map after }
    exrad := { s.exrad with chans := s.exrad.chans.map off }
    flue := { s.flue with ports := (List.range 8).map gone } }
  let lost := sumN (mine.map fun k => 2 ^ rdyExrad k)
  let bog := if s.rst.bog = .failed then 2 ^ rdyBog else 0
  withLost s (2 ^ rdyKiln d + lost + sumN (ports.map fun p => 2 ^ rdyFlue p) + bog) (lost + bog)

/-- The boot_error of a Kindling that found nothing to boot (R408, R409). -/
def noBoot (s : State) : Nat := if keysLeft s = [] then 4 else if (bootSlot s).isNone then 2 else 0

/-- A step that fails; the step of a stack that has a trained channel ends at its limit instead. -/
def stepFailed (s : State) : StartStep → State
  | .hostLink => withFailed { s with rst := { s.rst with hostLink := .failed } } 0
  | .kindling => withFailed (setBootError { s with rst := { s.rst with kindling := .failed } } (noBoot s)) 2
  | .security => withFailed { s with rst := { s.rst with security := .failed } } 4
  | .kiln d _ => failDie s d
  | .stack k _ _ =>
    if (List.range 32).any fun i => (chanOf s k i).trained then
      withReady { s with rst := { s.rst with training := s.rst.training.set k .ok } } 0
    else
      withFailed { s with rst := { s.rst with training := s.rst.training.set k .failed } } (2 ^ rdyExrad k)
  | .bog .. => withFailed { s with rst := { s.rst with bog := .failed } } (2 ^ rdyBog)
  | .serving => withFailed { s with rst := { s.rst with serving := .failed } } (2 ^ rdyServing)

/-- STARTUP_STEP_LIMIT (R406, R407). -/
def execStartupStepLimit (step : StartStep) (s : State) : Host.Outcome State Fault Refusal :=
  .next (if s.rst.perst ∨ !s.rst.rootLocked ∨ !stepLate s step then s else stepFailed s step)

/-! ## Pins and clocks (R388, R391, R392) -/

/-- The root PLL begins to lock, with a nonce drawn for debug (R406, R455). -/
def release (s : State) (nonce : List Byte) : State :=
  { s with
    rst := { s.rst with rootPll := running s, releasedAt := s.now }
    sec := { s.sec with nonce := slice nonce 0 32 } }

/-- PERST_ASSERT (R392, R400). -/
def execPerstAssert (s : State) : Host.Outcome State Fault Refusal :=
  .next (fundamental { s with rst := { s.rst with perst := true, refHeld := s.rst.refHeld && !s.rst.refGood } })

/-- Whether every sensor's last reading is valid and below 85 °C (R430). -/
def allCool (s : State) : Bool := s.pwr.sensors.all fun x => x.valid && x.badRun == 0 && decide (x.temp < 680)

/-- PERST_RELEASE (R392, R406, R429, R430): the straps are sampled. A latched Quench, or a reference not yet good, holds the module. -/
def execPerstRelease (thermCompat bootSel : Bool) (nonce : List Byte) (s : State) : Host.Outcome State Fault Refusal :=
  .next (if !s.rst.perst then s
    else
      let free := s.rst.thermCompat && allCool s
      let s := { s with rst := { s.rst with perst := false, thermCompat := thermCompat, bootSel := bootSel } }
      if s.rst.refHeld ∨ !s.rst.refGood then s
      else if s.pwr.quench ∧ !free then s
      else release { s with pwr := { s.pwr with quench := false } } nonce)

/-- REFCLK_LOSS (R392). -/
def execRefclkLoss (s : State) : Host.Outcome State Fault Refusal :=
  .next (fundamental { s with rst := { s.rst with refGood := false, refHeld := true } })

/-- REFCLK_RETURN (R392). -/
def execRefclkReturn (s : State) : Host.Outcome State Fault Refusal := .next { s with rst := { s.rst with refGood := true } }

/-- ROOT_PLL_LOCK (R388, R391): the host link and Kindling begin, and with the setpoint the tests. -/
def execRootPllLock (s : State) : Host.Outcome State Fault Refusal :=
  .next (match s.rst.rootPll with
    | .running _ =>
      beginTests { s with rst := { s.rst with rootPll := .ok, rootLocked := true, hostLink := running s, kindling := running s } }
    | _ => s)

/-- POWER_ON (R400): the supplies come up from nothing, PERST# asserted; fuses and flash keep what they hold. -/
def execPowerOn (s : State) : Host.Outcome State Fault Refusal :=
  .next { fundamental s with rst := {}, pwr := {}, i3c := {} }

/-- HOST_LINK_DOWN (R73, R409): reads of host memory fail, and the link trains again. -/
def execHostLinkDown (s : State) : Host.Outcome State Fault Refusal :=
  .next (if rdy s rdyHostLink then
      let s := readyOff { s with rst := { s.rst with hostLink := running s } } rdyHostLink
      (s.cmds.filter fun c => c.phase == .run && !c.hostOut.isEmpty).foldl (fun s c => hostFault s c.handle 13 (readBase c) 0) s
    else s)

/-! ## The watchdog (R403) -/

/-- WATCHDOG_SERVICE. -/
def execWatchdogService (s : State) : Host.Outcome State Fault Refusal :=
  .next (if rdy s rdyHearth then { s with rst := { s.rst with lastService := s.now } } else s)

/-- WATCHDOG_EXPIRY. -/
def execWatchdogExpiry (s : State) : Host.Outcome State Fault Refusal :=
  .next (if rdy s rdyHearth ∧ s.rst.lastService + 50000000 ≤ s.now then warm s true else s)

end Sys2Proof.Machine
end

