-- ==== Sys2Proof/Machine/Regs.lean ====
section
/-!
DEFINITION. The registers of BAR0 (17_register_reference): where each lies (R287, R482), what a read of it returns (R485-R489 and the register
tables of the other chapters).
-/
namespace Sys2Proof.Machine

open Sys2Proof

/-- A register of a BAR0. `ident n` is the identity register at offset 8·n; `clm k o` lies at offset o of clamp k's block. -/
inductive Reg where
  | ident (n : Nat)
  | ready
  | failed
  | reset
  | cause
  | time
  | bootReply (n : Nat)
  | sealMiss (f : Nat)
  | dropCount (f : Nat)
  | ctxOwned (f n : Nat)
  | src (n : Nat)
  | threshold (t : Nat)
  | claim (t : Nat)
  | tgtStatus (t : Nat)
  | lost (f : Nat)
  | clm (k o : Nat)
  | layout
  | temp (n : Nat)
  | tripLog
  | pwrStatus
  | pwrClock
  | smoulder
  | secStatus
  | nonce (n : Nat)
  | dbgStatus
  | moduleId
  | portStatus (p : Nat)
  | portCount (p : Nat)
  | overrun
  | cdcLost (n : Nat)
deriving DecidableEq, Repr, Inhabited

/-! ## Where they lie -/

/-- The Nirra registers of a function, counted from its boot window. -/
def nirReg (f o : Nat) : Option Reg :=
  if 0x100 ≤ o ∧ o < 0x120 then some (.bootReply ((o - 0x100) / 8))
  else if o = 0x200 then some (.sealMiss f)
  else if o = 0x208 then some (.dropCount f)
  else if 0x400 ≤ o ∧ o < 0x480 then some (.ctxOwned f ((o - 0x400) / 8))
  else none

/-- The three registers of a target. -/
def tgtReg (t o : Nat) : Option Reg :=
  if o = 0 then some (.threshold t) else if o = 8 then some (.claim t) else if o = 0x10 then some (.tgtStatus t) else none

/-- The events block. -/
def evtReg (o : Nat) : Option Reg :=
  if o < 0x2000 then some (.src (o / 8))
  else if 0x4000 ≤ o ∧ o < 0x4800 then tgtReg (4 + (o - 0x4000) / 0x20) (o % 0x20)
  else if 0x5000 ≤ o ∧ o < 0x5200 then some (.lost ((o - 0x5000) / 8))
  else none

/-- The clamp block. -/
def clmReg (o : Nat) : Option Reg :=
  if o < 0x800 then some (.clm (o / 0x100) (o % 0x100)) else if o = 0x800 then some .layout else none

/-- The thermal and power block. -/
def pwrReg (o : Nat) : Option Reg :=
  if o < 0x80 then some (.temp (o / 8))
  else if o = 0x80 then some .tripLog
  else if o = 0x100 then some .pwrStatus
  else if o = 0x108 then some .pwrClock
  else if o = 0x110 then some .smoulder
  else none

/-- The Flue block. -/
def fluReg (o : Nat) : Option Reg :=
  if o = 0 then some .moduleId
  else if 0x100 ≤ o ∧ o < 0x200 then
    (if o % 0x20 = 0 then some (.portStatus ((o - 0x100) / 0x20)) else if o % 0x20 = 8 then some (.portCount ((o - 0x100) / 0x20)) else none)
  else none

/-- The readiness block. -/
def rdyReg (o : Nat) : Option Reg :=
  if o = 0 then some .ready else if o = 8 then some .failed else if o = 0x10 then some .reset
  else if o = 0x18 then some .cause else if o = 0x20 then some .time else none

/-- The security block. -/
def secReg (o : Nat) : Option Reg :=
  if o = 0 then some .secStatus else if 0x10 ≤ o ∧ o < 0x30 then some (.nonce ((o - 0x10) / 8)) else none

/-- The crossings block. -/
def cdcReg (o : Nat) : Option Reg :=
  if o = 0 then some .overrun else if 0x100 ≤ o ∧ o < 0x300 then some (.cdcLost ((o - 0x100) / 8)) else none

/-- The physical function's map, by an offset that is a multiple of 8. -/
def pfReg (off : Nat) : Option Reg :=
  let o := off % 65536
  match off / 65536 with
  | 0 => if o ≤ 0x80 then some (.ident (o / 8)) else none
  | 1 => rdyReg o
  | 2 => nirReg 0 o
  | 3 => evtReg o
  | 4 => clmReg o
  | 5 => pwrReg o
  | 6 => secReg o
  | 7 => if o = 0 then some .dbgStatus else none
  | 8 => fluReg o
  | 9 => cdcReg o
  | _ => none

/-- A virtual function's slice. -/
def vfReg (f off : Nat) : Option Reg :=
  if off ≤ 0x80 then some (.ident (off / 8))
  else if off = 0x1000 then some .ready
  else if off = 0x1008 then some .failed
  else if 0x2000 ≤ off ∧ off < 0x3000 then nirReg f (off - 0x2000)
  else if off = 0x3018 then some (.lost f)
  else if 0x3000 ≤ off ∧ off < 0x3018 then tgtReg (4 + f) (off - 0x3000)
  else if 0x4000 ≤ off ∧ off ≤ 0x4800 then clmReg (off - 0x4000)
  else if off = 0x6000 then some .secStatus
  else none

/-- The register at an offset of a function's BAR0; the offset is a multiple of 8 (R482). -/
def regAt (f off : Nat) : Option Reg := if f = 0 then pfReg off else vfReg f off

/-! ## Identity and sizes (R485, R486) -/

/-- Clamps whose resources a function's sizes report: none for the physical function, which reports the module. -/
def assignedClamps (s : State) (f : Nat) : List Clamp := s.clamps.filter fun c => c.assign.getLsbD f

/-- Cores of a die that a function's sizes count: those presented, and for a virtual function those of its clamps among them. -/
def sizeCores (s : State) (f d : Nat) : Nat :=
  let n := at? s.rst.cores d 0
  if f = 0 then n
  else sumN ((assignedClamps s f).map fun c => ((List.range n).filter fun i => (at? c.cores d 0).getLsbD i).length)

/-- Trained channels of a stack that a function's sizes count, once the stack's training step has ended (R207). -/
def sizeChans (s : State) (f st : Nat) : Nat :=
  let here := if (at? s.rst.training st .idle).finished then (List.range 32).filter fun i => (tgetD s.exrad.chans (st * 32 + i) {}).trained else []
  if f = 0 then here.length
  else sumN ((assignedClamps s f).map fun c => (here.filter fun i => ownsChan c st i).length)

/-- All channels that a function's sizes count. -/
def sizeChansAll (s : State) (f : Nat) : Nat := sumN ((List.range 12).map (sizeChans s f))

/-- Retired Exrad pages on trained channels that a function's sizes count. -/
def sizeRetired (s : State) (f : Nat) : Nat :=
  (s.store.retired.filter fun e => match e.1 with
    | .bank st ch _ _ => (tgetD s.exrad.chans (st * 32 + ch) {}).trained && (f == 0 || (assignedClamps s f).any fun c => ownsChan c st ch)
    | _ => false).length

/-- A power of two for every number that a test admits. -/
def maskOf (n : Nat) (p : Nat → Bool) : Nat := sumN ((List.range n).map fun i => if p i then 2 ^ i else 0)

/-- Bytes of the bog: placeable, or the share of a function's clamps less retired pages. -/
def sizeBog (s : State) (f : Nat) : Nat :=
  if !s.rst.bog.finished then 0
  else if f = 0 then bogPlaceable s
  else sumN ((assignedClamps s f).map (·.bogShare)) * 2 ^ 30 - 4096 * bogRetired s

/-- ID_FEAT_MODULE. -/
def featModule (s : State) : Nat := 0x010F + 16 * b2n s.rst.thermCompat + 32 * b2n s.rst.bootSel

/-- ID_SIZE_KILN_CORES. -/
def sizeKiln (s : State) (f : Nat) : Nat :=
  let n := sizeCores s f
  n 0 + n 1 * 2 ^ 8 + n 2 * 2 ^ 16 + n 3 * 2 ^ 24 + (n 0 + n 1 + n 2 + n 3) * 2 ^ 32

/-- ID_SIZE_STACKS. -/
def sizeStacks (s : State) (f : Nat) : Nat :=
  maskOf 12 (fun st => sizeChans s f st != 0) + sizeChansAll s f * 2 ^ 16 + 16 * sizeChansAll s f * 2 ^ 32

/-- ID_SIZE_SERVING: zero until the serving step has succeeded. -/
def sizeServing (s : State) : Nat := if s.rst.serving = .ok then 65536 + 8388608 * 2 ^ 24 + 4096 * 2 ^ 48 else 0

/-- ID_SIZE_PORTS. -/
def sizePorts (s : State) : Nat :=
  maskOf 8 (fun p => (at? s.flue.ports p {}).state != .retired) + 4 * 2 ^ 8 + 0x1000 * 2 ^ 16 + 0x3F * 2 ^ 32 + 0x401 * 2 ^ 40

/-- ID_SIZE_BOG. -/
def sizeBogUnits (s : State) : Nat :=
  maskOf 16 (fun k => (List.range 4).any fun i => s.rst.bogChans.getLsbD (4 * k + i)) + bogChanCount s * 2 ^ 16
    + ((List.range 64).filter fun i => s.rst.bogSlow.getLsbD i).length * 2 ^ 24 + 0x40 * 2 ^ 48

/-- The identity registers. -/
def identValue (s : State) (f : Nat) : Nat → Nat
  | 0 => 0xA1B00001E0
  | 1 => Config.serial.toNat
  | 2 => 0x01020100 + (if rdy s rdyHearth then 0x10 * 2 ^ 32 else 0)
  | 3 => 0x0101 + 0x33F3E * 2 ^ 16
  | 4 => featModule s
  | 8 => sizeKiln s f
  | 9 => 0x1800 + 0x200 * 2 ^ 16 + 8 * 2 ^ 32 + 4 * 2 ^ 36 + 0x20 * 2 ^ 40 + 0x180 * 2 ^ 48
  | 10 => sizeStacks s f
  | 11 => sizeChansAll s f * 1610612736 - 4096 * sizeRetired s f
  | 12 => sizeBog s f
  | 13 => 0x400 + 8 * 2 ^ 12 + 0x40 * 2 ^ 16 + 0x10 * 2 ^ 24 + 0x100 * 2 ^ 32
  | 14 => sizeServing s
  | 15 => sizePorts s
  | 16 => sizeBogUnits s
  | _ => 0

/-! ## The clamp block (R489) -/

/-- CLM_STATE. -/
def clmState (s : State) (k : Nat) : Nat :=
  let c := clampOf s k
  c.state.code + 4 * c.role + 16 * b2n c.preempt + 32 * b2n (c.changing || c.resetting) + clampContexts s k * 2 ^ 16 + c.maxCtx * 2 ^ 32

/-- CLM_SHARES. -/
def clmShares (c : Clamp) : Nat :=
  c.bogShare + c.hostShare * 2 ^ 10 + c.flueShare * 2 ^ 17 + c.landingShare * 2 ^ 24 + c.slice * 2 ^ 32

/-- CLM_CHANNELSs: the mask, and the channels in a mode other than memory or offline. -/
def clmChans (s : State) (c : Clamp) (st : Nat) : Nat :=
  let busy := fun i : Nat =>
    let m := (tgetD s.exrad.chans (st * 32 + i) {}).mode
    ownsChan c st i && m != .memory && m != .offline
  (at? c.chans st 0).toNat + maskOf 32 busy * 2 ^ 32

/-- Sods of a clamp whose place is known to lie in the bog, and those whose place is known. -/
def placedSods (s : State) (k : Nat) : Nat × Nat :=
  let locs := (s.store.tensors.filter fun t => t.clamp == k).flatMap fun t => t.sods.filterMap fun e => e.2.loc
  ((locs.filter fun l => match l with | .bog .. => true | _ => false).length + 262144 * turvesIn s k true, locs.length + 262144 * turvesIn s k true)

/-- CLM_USAGE: the storage held; where sods lie whose place is the Collier's alone is free (R46). -/
def clmUsage (s : State) (k : Nat) : Nat :=
  let used := clampUsed s k
  let (bog, placed) := placedSods s k
  let bog := bog + leNat (freeBytes s.freeCount 4) % (used - placed + 1)
  (used - bog) % 2 ^ 32 + bog % 2 ^ 32 * 2 ^ 32

/-- CLM_SERVING. -/
def clmServing (c : Clamp) : Nat :=
  match c.serving with
  | some v => v.ctx + 2 ^ 10 + v.maxRequests * 2 ^ 11
  | none => 0

/-- A register of a clamp's block. -/
def clmValue (s : State) (k o : Nat) : Nat :=
  let c := clampOf s k
  if o = 0 then clmState s k
  else if o = 8 then c.assign.toNat
  else if o = 0x10 then clmShares c
  else if 0x20 ≤ o ∧ o < 0x40 then (at? c.cores ((o - 0x20) / 8) 0).toNat
  else if 0x40 ≤ o ∧ o < 0xA0 then clmChans s c ((o - 0x40) / 8)
  else if o = 0xA0 then clmUsage s k
  else if o = 0xA8 then clmServing c
  else 0

/-! ## Power, security, debug, Flue (R387, R435, R461, R481) -/

/-- Pulses removed on KILNn_CORE (R427). -/
def removed (s : State) (d : Nat) : Nat :=
  min 75 (max (at? s.pwr.sensors d {}).throttle (max (at? s.pwr.rh d 0) (max s.pwr.rp (if s.pwr.sag then 25 else 0))))

/-- P_avg, the mean of the last ten P_1 (R416). -/
def pAvg (p : Power) : Nat := sumN p.lastP1 / max 1 p.lastP1.length

/-- THM_TEMPn. -/
def tempValue (x : Sensor) : Nat := tempField x + 2 ^ 12 * b2n x.valid + 2 ^ 13 * b2n x.out + 2 ^ 14 * b2n (decide (0 < x.throttle))

/-- PWR_STATUS. -/
def pwrValue (p : Power) : Nat :=
  pAvg p % 4096 + p.p1 % 4096 * 2 ^ 12 + p.cap * 2 ^ 24 + 2 ^ 36 * b2n p.advisory.isSome + 2 ^ 37 * b2n p.enforcing + 2 ^ 38 * b2n p.sag
    + 2 ^ 39 * b2n p.nvHold + 2 ^ 40 * b2n p.avsFault + 2 ^ 41 * b2n (p.rh.any fun n => decide (0 < n)) + p.setpoint % 1024 * 2 ^ 42

/-- PWR_CLOCK. -/
def clockValue (s : State) : Nat :=
  sumN ((List.range 4).map fun d => removed s d * 2 ^ (8 * d)) + (if s.pwr.sag then 25 else 0) * 2 ^ 32

/-- The code of the debug state; debug fuse mode 1 keeps it unlocked (R454, R461). -/
def debugCode (s : State) : Nat :=
  if Config.debugFuseMode = 1 then 2
  else match s.sec.debug with
  | .locked => 0
  | .unlocking => 1
  | .unlocked => 2
  | .locking => 3

/-- SEC_STATUS. -/
def secValue (s : State) : Nat :=
  s.sec.running.slot + 2 * s.sec.running.key + 8 * maskOf 4 (fun k => at? s.sec.revoked k false) + s.sec.svnMin * 2 ^ 7
    + s.sec.running.svn * 2 ^ 13 + Config.debugFuseMode % 4 * 2 ^ 19 + debugCode s * 2 ^ 21 + s.sec.unlockCount * 2 ^ 23
    + activeSlot s.sec.bootPtr * 2 ^ 31 + (s.sec.ide.filter fun x => x.state == .secure).length * 2 ^ 32

/-- Breakpoints armed in the module. -/
def breakCount (s : State) : Nat := sumN (s.ctxs.map fun e => (e.2.breaks.filter (·.isSome)).length)

/-- DBG_STATUS; a count that its field cannot hold is a free value. -/
def dbgValue (s : State) : Nat :=
  let n := breakCount s
  b2n s.evt.jtagOwner + 2 * debugCode s + 8 * (if n < 32 then n else (Config.freeByte s.freeCount).toNat % 32)

/-- FLU_PORT_STATUS. -/
def portValue (x : Port) : Nat :=
  x.state.code + 4 * b2n (decide (x.excluded < 4)) + 8 * x.excluded + x.partner * 2 ^ 8 + x.retrains * 2 ^ 32

/-- FLU_PORT_COUNT. -/
def portCountValue (x : Port) : Nat := x.replays % 2 ^ 32 + x.crcFails * 2 ^ 32 + x.epochDiscards * 2 ^ 48

/-- EVT_SRCn; a mask reads as written. -/
def srcValue (x : Source) : Nat :=
  x.level + x.target * 2 ^ 4 + 2 ^ 11 * b2n (x.maskNext.getD x.mask) + 2 ^ 12 * b2n x.pending + 2 ^ 13 * b2n x.inService + x.raises * 2 ^ 16

/-- EVT_TGT_STATUS. -/
def tgtValue (x : Target) : Nat := x.running + x.stack.length * 2 ^ 4 + 2 ^ 8 * b2n x.line + 2 ^ 9 * b2n x.badComplete

/-- NIR_CTX_OWNEDn (R488). -/
def ownedValue (s : State) (f n : Nat) : Nat :=
  maskOf 64 fun b => match ctxOf s (64 * n + b) with | some c => c.fn == f && !c.serving | none => false

/-- The source that a claim on a target returns (R466, R469): the highest level, among equals the highest number. `grace` admits a
source masked after it had become a candidate. -/
def claimSource (s : State) (t : Nat) (grace : Bool) : Nat :=
  let x := tgtOf s t
  let can := fun y : Source => eligible x t y || (grace && y.grace && eligible x t { y with mask := false })
  let better := fun (b : Nat × Nat) (e : Source × Nat) => if can e.1 && decide (b.2 ≤ e.1.level) then (e.2, e.1.level) else b
  (s.evt.sources.zipIdx.foldl better (0, 0)).1

/-- What a register reads; the claim that a read of EVT_CLAIM makes is a command of its own. -/
def regValue (s : State) (f : Nat) : Reg → Nat
  | .ident n => identValue s f n
  | .ready => s.rst.ready.toNat
  | .failed => s.rst.failed.toNat
  | .reset => 2 ^ 8 * maskOf 8 fun k => (clampOf s k).resetting || (clampOf s k).resetWaits
  | .cause => b2n s.rst.causeRequested + 2 * b2n s.rst.causeWatchdog + s.rst.warmCount * 2 ^ 8
  | .time => s.now % 2 ^ 64
  | .bootReply n => u64 (fnOf s f).bootReply (8 * n)
  | .sealMiss g => (fnOf s g).sealMiss
  | .dropCount g => (fnOf s g).dropCount
  | .ctxOwned g n => ownedValue s g n
  | .src n => srcValue (srcOf s n)
  | .threshold t => (tgtOf s t).threshold
  | .claim t => claimSource s t false
  | .tgtStatus t => tgtValue (tgtOf s t)
  | .lost g => (fnOf s g).lost
  | .clm k o => if f = 0 ∨ (clampOf s k).assign.getLsbD f then clmValue s k o else 0
  | .layout => s.layoutGen
  | .temp n => tempValue (at? s.pwr.sensors n {})
  | .tripLog => s.pwr.tripSensor + 32 * b2n s.pwr.tripped + 64 * s.pwr.trips
  | .pwrStatus => pwrValue s.pwr
  | .pwrClock => clockValue s
  | .smoulder => s.pwr.smoulderEn.toNat + s.pwr.smoulderIn.toNat * 2 ^ 32
  | .secStatus => secValue s
  | .nonce n => u64 s.sec.nonce (8 * n)
  | .dbgStatus => dbgValue s
  | .moduleId => s.flue.moduleId + 2 ^ 16 * b2n s.flue.lock
  | .portStatus p => portValue (portOf s p)
  | .portCount p => portCountValue (portOf s p)
  | .overrun => s.rst.cdcOverrun.toNat
  | .cdcLost n => if 54 < n then 0 else at? s.rst.cdcLost n 0

/-- Whether BAR0 takes an access of a size at an offset (R482). -/
def aligned (off size : Nat) : Bool := (size == 4 || size == 8) && off % size == 0

/-- The value of a read of BAR0 (R289, R482); the high half of RDY_TIME read alone returns what the low half latched (R399). -/
def mmioRead (s : State) (f off size : Nat) : Nat :=
  if !aligned off size then 0
  else match regAt f (off / 8 * 8) with
    | none => 0
    | some r =>
      let v := regValue s f r
      if size = 8 then v
      else if off % 8 = 0 then v % 2 ^ 32
      else match r, (fnOf s f).timeLatch with
        | .time, some h => h.toNat
        | _, _ => v / 2 ^ 32

end Sys2Proof.Machine
end

