-- ==== Sys2Proof/Machine/FlueLink.lean ====
section
/-!
DEFINITION. Flue ports and pairs (12_flue_links): link retry (R366-R368), training and retrains (R363, R364, R369), identities and pairs (R370-R372),
link loss (R385).
-/
namespace Sys2Proof.Machine

open Sys2Proof

/-! ## Messages of pair management (R371, R372). The manual gives them one kind; byte 9 tells them apart (log entry 58). -/

abbrev pmHello : Nat := 0
abbrev pmProbe : Nat := 1
abbrev pmRoute : Nat := 2
abbrev pmUnreachable : Nat := 3

/-- ROUTE, listing this module's own identity. -/
def sendRoute (s : State) (p : Nat) : State :=
  sendOn s p mkPair { dst := (portOf s p).partner, src := s.flue.moduleId, status := pmRoute, body := natLE 2 s.flue.moduleId }

/-- The lowest-numbered port that is up and reaches a partner (R371). -/
def bestPort (s : State) (m : Nat) : Option Nat :=
  (List.range 8).find? fun p => (portOf s p).state == .up && (portOf s p).reach.contains m

/-- A pair set. -/
def putPair (s : State) (m : Nat) (p : Pair) : State := { s with flue := { s.flue with pairs := Machine.tset s.flue.pairs m p } }

/-- HELLO sent to a module that a port reaches, when no pair with it stands. -/
def meet (s : State) (m : Nat) : State :=
  let old := (pairOf s m).getD { port := 0, up := false }
  match bestPort s m with
  | none => s
  | some p =>
    if !s.flue.lock || m == s.flue.moduleId || old.up then s
    else
      let s := putPair s m { old with port := p, hello := true }
      sendOn s p mkPair { dst := m, src := s.flue.moduleId, status := pmHello, epoch := old.epoch }

/-! ## Live state and loss (R372, R385) -/

/-- A command in run, or between a kill and its re-run. -/
def Cmd.going (c : Cmd) : Bool := c.phase == .run || c.killed

/-- The partner that an awaited flag answer or forwarded cancel is to come from. -/
def awaitedFrom (s : State) (c : Cmd) : Option Nat :=
  if !c.awaiting then none
  else match c.work with
    | .flueFlagSet m .. => some m
    | .requestCancel r => (reqOf s r).map (·.targetModule)
    | _ => none

/-- Whether a command of the Flue group, or a tile's receive, waits on a partner. -/
def waitsOn (s : State) (m : Nat) (c : Cmd) : Bool :=
  let send := (outgoing s c).any fun o => o.partner == m && !c.transfer.confirmed.contains (o.partner, o.tag)
  let recv := (receiveTags s c).any fun x => x.1 == m &&
    match c.work with
    | .program _ =>
      s.flue.tokens.any (fun t => t.ctx == c.handle.ctx && t.src == m && t.tag == x.2)
        || s.flue.landed.any (fun d => d.ctx == c.handle.ctx && d.src == m && d.tag == x.2)
        || s.kiln.parked.any (fun p => p.cmd == c.handle && p.src == m)
    | .handover _ => false
    | _ => true
  c.going && !c.done && (send || recv)

/-- Requests whose handover to a partner is under way. -/
def shippingTo (s : State) (m : Nat) : List Req :=
  s.serve.reqs.filter fun q => q.state == .shipping && q.targetKind != 0 && q.targetModule == m && m != s.flue.moduleId
    && (handoverCmd s q.id).isSome

/-- Requests that a partner's handover reserved here. -/
def offeredBy (s : State) (m : Nat) : List Req :=
  s.serve.reqs.filter fun q => q.state == .admitting && (match q.remote with | some (src, _) => src == m | none => false)

/-- Whether a pair has live state: a transfer, token, flag answer, handover or forwarded cancel of either side (R372). -/
def liveState (s : State) (m : Nat) : Bool :=
  s.cmds.any (fun c => waitsOn s m c || awaitedFrom s c == some m)
    || s.flue.tokens.any (fun t => t.src == m) || s.flue.offered.any (fun t => t.src == m)
    || !(shippingTo s m).isEmpty || !(offeredBy s m).isEmpty

/-- What a partner's messages left here is gone: landed data, tokens of either side (R385). -/
def dropPartner (s : State) (m : Nat) : State :=
  { s with flue := { s.flue with
      landed := s.flue.landed.filter fun d => d.src != m
      tokens := s.flue.tokens.filter fun t => t.src != m
      offered := s.flue.offered.filter fun t => t.src != m } }

/-- The live state of a pair ends (R385): the commands that waited on the partner, handovers, answers. -/
def endLive (s : State) (m : Nat) : State :=
  let waiting := s.cmds.filter (waitsOn s m)
  let awaiting := s.cmds.filter fun c => awaitedFrom s c == some m
  let ships := shippingTo s m
  let offers := offeredBy s m
  let s := dropPartner s m
  let s := waiting.foldl (fun s c => endCmd s c.handle stLinkLost) s
  let s := awaiting.foldl (fun s c => reapContext (endCmd s c.handle stLinkLost) c.handle.ctx) s
  let s := ships.foldl (fun s q => failHandover s q.id stLinkLost) s
  settled (offers.foldl (fun s q => dropOffered (dropReqCommands s q.id)) s)

/-- A pair lost, for a cause of R474: 0 port down, 1 UNREACHABLE, 2 silence. -/
def losePair (s : State) (m cause : Nat) : State :=
  match pairOf s m with
  | none => s
  | some p =>
    if !p.up then s
    else
      let s := endLive (putPair s m { p with up := false, hello := false }) m
      raise s (72 + p.port) 0x09 (natLE 2 m ++ natLE 1 p.port ++ natLE 2 p.epoch ++ natLE 1 cause)

/-- A pair lost, and sought again where a port still reaches the partner. -/
def loseAndMeet (s : State) (m cause : Nat) : State := meet (losePair s m cause) m

/-! ## Ports going up and down -/

/-- The pairs of a port. -/
def pairsOn (s : State) (p : Nat) : List Nat := (s.flue.pairs.filter fun e => e.2.port == p && e.2.up).map (·.1)

/-- A port no longer up takes its pairs with it, and its link starts anew when it next trains (R369, R372). -/
def portGone (s : State) (p : Nat) (st : PortState) (excluded : Nat) : State :=
  let mine := pairsOn s p
  let s := modPort s p fun x => { x with
    state := st, excluded := excluded, reach := [], replayBuf := [], txWait := [], txSeq := 0, rxSeq := 4095, requested := false
    sameAck := 0, lastAck := 4095, attempts := 0, failedLanes := [] }
  let s := { s with flue := { s.flue with
    pairs := s.flue.pairs.map fun e => (e.1, if e.2.port = p then { e.2 with hello := false } else e.2) } }
  mine.foldl (fun s m => loseAndMeet s m 0) s

/-- A port goes down. -/
def portDown (s : State) (p : Nat) : State := portGone (readyOff s (rdyFlue p)) p .down (portOf s p).excluded

/-- A port retires: fewer than 4 of its 5 lanes complete training (R364). -/
def portRetire (s : State) (p : Nat) : State :=
  let bit := BitVec.ofNat 64 (2 ^ rdyFlue p)
  portGone (setReady s (s.rst.ready &&& ~~~bit) (s.rst.failed ||| bit)) p .retired 7

/-- A port that is up and locked is ready, and tells what it reaches (R364, R370, R371). -/
def announce (s : State) (p : Nat) : State := if s.flue.lock then sendRoute (readyOn s (rdyFlue p)) p else s

/-- Kept frames sent again after the acknowledged one (R368). -/
def resend (s : State) (p : Nat) : State :=
  (portOf s p).replayBuf.foldl (fun s f => emit s (.frame p (frameBytes 1 f.1 (portOf s p).rxSeq f.2.1 f.2.2))) s

/-- Waiting flits sent. -/
def pump (s : State) (p : Nat) : State := pumpPort (portOf s p).txWait.length s p

/-- A retrain starts (R363, R369): both ends send nothing more. `tell` sends the partner a retrain request first. -/
def startRetrain (s : State) (p : Nat) (failed : List Nat) (tell : Bool) : State :=
  let x := portOf s p
  if x.state ≠ .up then modPort s p fun x => { x with failedLanes := (x.failedLanes ++ failed).eraseDups }
  else
    let s := if tell then sendFrame s p 3 else s
    let s := modPort s p fun x => { x with
      state := .training, retrains := satAdd 65535 x.retrains 1, attempts := 1, attemptStart := s.now, failedLanes := failed, sameAck := 0 }
    readyOff s (rdyFlue p)

/-! ## Frames (R366-R368) -/

/-- Frames up to an acknowledged one leave the replay buffer. -/
def dropAcked (ack : Nat) (x : Port) : Port :=
  match x.replayBuf.findIdx? fun f => f.1 == ack with
  | some i => { x with replayBuf := x.replayBuf.drop (i + 1) }
  | none => x

/-- A bad frame: counted, and answered with one replay request until the expected frame arrives (R367). -/
def badFrame (s : State) (p : Nat) : State :=
  let x := portOf s p
  let s := modPort s p fun x => { x with crcFails := satAdd 65535 x.crcFails 1, requested := true }
  if x.requested then s else sendFrame s p 2

/-- A frame at a port that is up: what `act` does with a good one, after its acknowledgement has been taken. -/
def frameAt (s : State) (p : Nat) (f : Frame) (act : State → State) : State :=
  if (portOf s p).state ≠ .up then s
  else if f.bad then badFrame s p
  else act (pump (modPort s p (dropAcked f.ack)) p)

/-- IDLE (R366): a good one only acknowledges. -/
def execFlueIdle (port : Nat) (f : Frame) (s : State) : Host.Outcome State Fault Refusal := .next (frameAt s port f id)

/-- A good flit frame is accepted when its seq follows the last accepted one. -/
def acceptFlit (p seq : Nat) (s : State) : State :=
  if seq = ((portOf s p).rxSeq + 1) % 4096 then modPort s p fun x => { x with rxSeq := seq, requested := false } else s

/-- FLIT (R367). What an accepted flit carries reaches the message layer as the message rows. -/
def execFlueFlit (port : Nat) (f : Frame) (s : State) : Host.Outcome State Fault Refusal := .next (frameAt s port f (acceptFlit port f.seq))

/-- A replay request: counted, and every kept frame sent again; the eighth that names one ack starts a retrain (R368, R369). -/
def takeReplay (p ack : Nat) (s : State) : State :=
  let x := portOf s p
  let n := if x.lastAck = ack then x.sameAck + 1 else 1
  let s := modPort (gather s 0x4001 1) p fun x => { x with replays := (x.replays + 1) % 2 ^ 32, lastAck := ack, sameAck := n }
  if 8 ≤ n then startRetrain s p [] true else resend s p

/-- REPLAY_REQUEST. -/
def execReplayRequest (port : Nat) (f : Frame) (s : State) : Host.Outcome State Fault Refusal :=
  .next (frameAt s port f (takeReplay port f.ack))

/-- RETRAIN_REQUEST (R369). -/
def execRetrainRequest (port : Nat) (f : Frame) (s : State) : Host.Outcome State Fault Refusal :=
  .next (frameAt s port f fun s => startRetrain s port [] false)

/-! ## Lanes and training (R363, R364, R369) -/

/-- LANE_LOCK_LOSS: an active lane fails. -/
def execLaneLockLoss (port lane : Nat) (s : State) : Host.Outcome State Fault Refusal :=
  let x := portOf s port
  .next (if lane ≤ 4 ∧ lane ≠ x.excluded ∧ x.state = .up then startRetrain s port [lane] true else s)

/-- FEC_WINDOW_END: active lanes to which more than 4,096 corrected bytes of the window are attributed fail. A window of 1 ms is judged once, from
its end on (R9, R363). -/
def execFecWindowEnd (port : Nat) (corrected : List Nat) (s : State) : Host.Outcome State Fault Refusal :=
  let x := portOf s port
  let bad := (List.range 5).filter fun l => l != x.excluded && decide (4096 < at? corrected l 0)
  .next (if s.now / 100000 ≤ x.fecDone then s
    else
      let s := modPort s port fun x => { x with fecDone := s.now / 100000 }
      if x.state = .up ∧ bad ≠ [] then startRetrain s port bad true else s)

/-- The lanes that have failed in a training, those that start it and those of its attempts. -/
def lanesFailed (x : Port) (failed : List Nat) : List Nat := ((x.failedLanes ++ failed).filter fun l => decide (l ≤ 4)).eraseDups

/-- RETRAIN_DONE: training ends inside its attempt's window with the port up, or retires it. A retrain resumes at the first unacknowledged frame; a port that was
down starts anew. -/
def execRetrainDone (port : Nat) (failed : List Nat) (partner : Nat) (s : State) : Host.Outcome State Fault Refusal :=
  let x := portOf s port
  .next (if x.state ≠ .training ∨ x.attemptStart + 200000 ≤ s.now then s
    else
      match lanesFailed x failed with
      | _ :: _ :: _ => portRetire s port
      | l =>
        let again := decide (1 ≤ x.attempts)
        let up := modPort s port fun x => { x with
          state := .up, excluded := l.headD x.excluded, partner := if again then x.partner else partner % 65536, attempts := 0, failedLanes := [] }
        if again then
          let s := resend (if up.flue.lock then readyOn up (rdyFlue port) else up) port
          pump s port
        else announce up port)

/-- RETRAIN_ATTEMPT_END: an attempt's window ends without the port up; after the third it goes down. -/
def execRetrainAttemptEnd (port : Nat) (failed : List Nat) (s : State) : Host.Outcome State Fault Refusal :=
  let x := portOf s port
  .next (if x.state ≠ .training ∨ s.now < x.attemptStart + 200000 then s
    else if 2 ≤ (lanesFailed x failed).length then portRetire s port
    else if x.attempts = 0 ∨ 3 ≤ x.attempts then portDown s port
    else modPort s port fun x => { x with attempts := x.attempts + 1, attemptStart := s.now, failedLanes := lanesFailed x failed })

/-- TRAINING_ATTEMPT (R364, R406): a down port of a Kiln die that has passed its test, 100 ms after its last attempt. -/
def execTrainingAttempt (port : Nat) (s : State) : Host.Outcome State Fault Refusal :=
  let x := portOf s port
  .next (if x.state = .down ∧ at? s.rst.kiln (portDie port) .idle = .ok ∧ (x.attemptStart = 0 ∨ x.attemptStart + 10000000 ≤ s.now) then
      modPort s port fun x => { x with state := .training, attempts := 0, attemptStart := s.now, failedLanes := [] }
    else s)

/-! ## Pairs (R370-R372) -/

/-- A pair stands: both ends take one more than the higher of their epochs. -/
def standPair (s : State) (m port theirs : Nat) : State :=
  let old := (pairOf s m).getD { port := port, up := false }
  putPair s m { port := (bestPort s m).getD port, epoch := (max old.epoch theirs + 1) % 65536, up := true, hello := false
                lastArrival := s.now, lastSent := s.now }

/-- A port that brings a partner's message reaches it. -/
def noteReach (s : State) (p m : Nat) : State := modPort s p fun x => if x.reach.contains m then x else { x with reach := x.reach ++ [m] }

/-- HELLO (R371). One that meets a pair still standing tells that the partner has lost it. -/
def execFlueHello (m : Msg) (s : State) : Host.Outcome State Fault Refusal :=
  .next (if !s.flue.lock ∨ m.dst ≠ s.flue.moduleId ∨ (portOf s m.port).state ≠ .up then s
    else
      let s := losePair (noteReach s m.port m.src) m.src 0
      let s := if (pairOf s m.src).any (·.hello) then s else meet s m.src
      standPair s m.src m.port m.epoch)

/-- PROBE (R372): only its arrival counts. -/
def execFlueProbe (m : Msg) (s : State) : Host.Outcome State Fault Refusal := .next (taking s m id)

/-- The identities that a ROUTE lists, two bytes each, ended by zero. -/
def routeIds : Nat → List Byte → List Nat
  | 0, _ => []
  | fuel + 1, b => if u16 b 0 = 0 then [] else u16 b 0 :: routeIds fuel (b.drop 2)

/-- A partner newly listed, or listed while no HELLO is on its way, is met. -/
def meetListed (old : List Nat) (s : State) (m : Nat) : State :=
  match pairOf s m with
  | some p => if p.hello && old.contains m then s else meet s m
  | none => meet s m

/-- ROUTE (R371): what a port reaches. -/
def execFlueRoute (m : Msg) (s : State) : Host.Outcome State Fault Refusal :=
  .next (if (portOf s m.port).state ≠ .up then s
    else
      let ids := routeIds 64 m.body
      let old := (portOf s m.port).reach
      ids.foldl (meetListed old) (modPort s m.port fun x => { x with reach := ids }))

/-- UNREACHABLE (R372): the source field names the partner that a switch reports. -/
def execFlueUnreachable (m : Msg) (s : State) : Host.Outcome State Fault Refusal := .next (taking s m fun s => losePair s m.src 1)

/-- PROBE_DUE (R372). -/
def execProbeDue (partner : Nat) (s : State) : Host.Outcome State Fault Refusal :=
  .next (match pairOf s partner with
    | some p =>
      if p.up ∧ liveState s partner ∧ p.lastSent + 100000 ≤ s.now then
        sendMsg s partner mkPair { dst := partner, src := 0, status := pmProbe }
      else s
    | none => s)

/-- PAIR_SILENCE_TIMEOUT (R372). -/
def execPairSilenceTimeout (partner : Nat) (s : State) : Host.Outcome State Fault Refusal :=
  .next (match pairOf s partner with
    | some p => if p.up ∧ liveState s partner ∧ p.lastArrival + 1000000 ≤ s.now then loseAndMeet s partner 2 else s
    | none => s)

/-- The identity written and locked (R370, R387): ports that are up become ready and tell what they reach. -/
def writeModuleId (s : State) (v : Nat) : State :=
  if s.flue.lock then s
  else
    let s := { s with flue := { s.flue with moduleId := v % 65536, lock := bit v 16 } }
    if s.flue.lock then
      let up := (List.range 8).filter fun p => (portOf s p).state == .up
      let s := up.foldl announce s
      up.foldl (fun s p => (portOf s p).reach.foldl meet s) s
    else s

end Sys2Proof.Machine
end

