-- ==== Sys2Proof/Machine/HostPort.lean ====
section
/-!
DEFINITION. Completions of reads of host memory (R285, R516), and streams that lose their integrity (R453).
-/
namespace Sys2Proof.Machine

open Sys2Proof

/-- A range taken out of outstanding ranges (offset, length). -/
def dropRange (off n : Nat) (l : List (Nat × Nat)) : List (Nat × Nat) :=
  l.flatMap fun r =>
    let e := r.1 + r.2
    if e ≤ off ∨ off + n ≤ r.1 then [r]
    else (if r.1 < off then [(r.1, off - r.1)] else []) ++ (if off + n < e then [(off + n, e - (off + n))] else [])

/-- Whether a byte of a read is still outstanding: it has not arrived, and a request for it has been sent. -/
def awaited (c : Cmd) (off : Nat) : Bool :=
  c.hostOut.any (fun r => decide (r.1 ≤ off ∧ off < r.1 + r.2)) && c.hostReqs.any fun r => decide (r.2.1 ≤ off ∧ off < r.2.1 + r.2.2)

/-- Requests of which some byte has not arrived; the tags of the others are free again (R21). -/
def openReqs (left : List (Nat × Nat)) (reqs : List (Nat × Nat × Nat)) : List (Nat × Nat × Nat) :=
  reqs.filter fun r => left.any fun x => decide (x.1 < r.2.1 + r.2.2 ∧ r.2.1 < x.1 + x.2)

/-- Data that arrives: requests held back for want of tags go out, and the last of it ends the command's work in run. -/
def takeHostData (s : State) (c : Cmd) (off : Nat) (bs : List Byte) : State :=
  let left := dropRange off bs.length c.hostOut
  let s := pumpHost 4096 (modCmd (gather s 0x5002 bs.length) c.handle fun c =>
    { c with hostData := wrBytes c.hostData off bs, hostOut := left, hostReqs := openReqs left c.hostReqs })
  if left.isEmpty then
    match cmdOf s c.handle with
    | some c => doneNow (endWrite s c) c.handle
    | none => s
  else s

/-- HOST_READ_COMPLETION (R285): a read that does not end with data ends its command FAULTED. What an insecure stream brings is discarded. -/
def execHostReadCompletion (h : Handle) (offset : Nat) (r : HostRead) (s : State) : Host.Outcome State Fault Refusal :=
  .next (match cmdOf s h with
    | none => s
    | some c =>
      let addr := readBase c + offset
      if c.phase ≠ .run ∨ !awaited c offset ∨ ideBlocks s (ctxFn s h.ctx) addr then s
      else match r with
        | .data bs => takeHostData s c offset bs
        | .poisoned => hostFault s h 13 addr 8
        | .refused st => hostFault s h 13 addr (st % 8))

/-- COMPLETION_TIMEOUT. -/
def execCompletionTimeout (h : Handle) (s : State) : Host.Outcome State Fault Refusal :=
  .next (match cmdOf s h with
    | none => s
    | some c =>
      match c.phase, c.hostOut with
      | .run, r :: _ => hostFault s h 13 (readBase c + r.1) 0x10
      | _, _ => s)

/-- TLP_INTEGRITY_FAILURE (R453): a secure stream becomes insecure. -/
def execTlpIntegrityFailure (stream : Nat) (s : State) : Host.Outcome State Fault Refusal :=
  .next (if stream < 8 ∧ (at? s.sec.ide stream {}).state = .secure then
      raise { s with sec := { s.sec with ide := s.sec.ide.modify stream fun x => { x with state := .insecure, programmed := [] } } } (64 + stream) 0x08 (natLE 1 stream)
    else s)

end Sys2Proof.Machine
end

