-- ==== Sys2Proof/Machine/Integrity.lean ====
section
/-!
DEFINITION. Rows of memory integrity: migration (R54-R57), rebuild (R349, R351-R355), patrol scrubbing (R356-R358); and the ends of the windows of ASH
(R463) and of the performance counters (R478).
-/
namespace Sys2Proof.Machine

open Sys2Proof

/-! ## Migration -/

/-- Whether a place is in service (R420). -/
def inService (s : State) : Option Loc → Bool
  | some (.interleaved st _) => rdy s (rdyExrad st)
  | some (.bank st ..) => rdy s (rdyExrad st)
  | some (.bog ..) => rdy s rdyBog
  | none => true

/-- A page emptied by a move: when it is retired, its remap entries are released (R343). -/
def pageLeft (s : State) (l : Loc) : State :=
  if !s.store.retired.any (fun e => e.1 == l) || pageHeld s l then s
  else match l with
  | .bank st ch b r => modErr s { bog := false, dev := st, chan := ch, bank := b, row := r } fun e =>
      { e with remap := e.remap.filter fun x => !(x.bank == b && x.row == r) }
  | .bog p pg => (List.range 4).foldl (fun s c => modErr s { bog := true, dev := p, chan := c, bank := 0, row := pg } fun e =>
      { e with remap := e.remap.filter fun x => x.row != pg }) s
  | .interleaved .. => s

/-- Whether every controller channel of a place serves a class next (R359, R360). -/
def classServed (s : State) (k : Traffic) (l : Option Loc) : Bool := (locChans l).all (servesClass s k)

/-- Whether the Collier may move a sod to a place now (R41, R45, R54, R56, R57, R355, R420), both places serving bulk requests (R360). -/
def mayMove (s : State) (t : Tensor) (k : Nat) (old : Sod) (l : Loc) : Bool :=
  !old.ash && placeOk s t k l && inService s old.loc && !shadowed s t.handle k && quiet s old.loc && quiet s (some l)
    && movesStand s t && !(t.shared && (dataAsh t (k / 11) || stripeHasAsh t (k / 11) k))
    && classServed s .bulk old.loc && classServed s .bulk (some l)

/-- The bursts of a whole sod at a place, read or written in a class (R359, R360). -/
def serveSod (k : Traffic) (h : Handle) (sod : Nat) (s : State) (l : Option Loc) : State :=
  (List.range 16).foldl (fun s g => match locChan h sod (256 * g) l with
    | some ch => serveBursts s k 8 ch
    | none => s) s

/-- A sod copied from one place to another in the bulk class (R359). -/
def copySod (s : State) (t : Tensor) (k : Nat) (old new : Option Loc) : State :=
  countTraffic (serveSod .bulk t.handle k (serveSod .bulk t.handle k s old) new) t.clamp .bulk 8192

/-- MIGRATION (R55): the copy is read and its tag checked, and the entry flips; a failed check makes the sod ash instead. -/
def execSodMigration (t : Handle) (sod : Nat) (dest : Loc) (err : MemErr) (s : State) : Host.Outcome State Fault Refusal :=
  .next (match tensorAny s t with
    | none => s
    | some x =>
      match tget? x.sods sod with
      | none => s
      | some old =>
        if !mayMove s x sod old dest then s
        else
          let r := storedRead s old.loc err
          if !r.2 || tagFails old then settled (makeAsh r.1 t sod)
          else
            let s := modTensor (copySod r.1 x sod old.loc (some dest)) t fun x =>
              { x with sods := tset x.sods sod { old with loc := some dest } }
            let s := openAt (gather { s with store := { s.store with migrations := s.store.migrations + 1 } } 0x3002 1) (some dest)
            match old.loc with
            | some l => pageLeft s l
            | none => s)

/-! ## Rebuild (R351): members 0 to 10 of a stripe are its data sods, member 11 its parity sod -/

/-- Whether any ready stack of a clamp holds none of the stripe's data sods. -/
def freeStack (s : State) (t : Tensor) (k : Nat) : Bool :=
  (List.range 12).any fun st =>
    rdy s (rdyExrad st) && !(clampChans s t.clamp st).isEmpty && !stripeCrowds t k (.interleaved st (chanMask s t.clamp st))

/-- Whether a place lies in the package that holds the parity sod of a sod's stripe. -/
def parityPackage (t : Tensor) (k : Nat) : Loc → Bool
  | .bog p _ => match (tget? t.stripes (k / 11)).bind (·.parity.loc) with
    | some (.bog q _) => p == q
    | _ => false
  | _ => false

/-- Whether a rebuilt data sod may go to a place: a ready stack that holds no other data sod of the stripe; when there is none, a bog
package other than the parity sod's. -/
def rebuildPlace (s : State) (t : Tensor) (k : Nat) (l : Loc) : Bool :=
  placeOk s t k l && quiet s (some l) && ((stackOf l).isSome || (!freeStack s t k && !parityPackage t k l))

/-- The parity sod of a stripe becomes ash. -/
def parityAsh (s : State) (t : Handle) (j : Nat) : State :=
  modTensor s t fun x => { x with stripes := tmod x.stripes j fun r => { r with parity := { r.parity with ash := true } } }

/-- The members, apart from one, whose read fails: those named by the command and those whose state is bad. -/
def badMembers (t : Tensor) (j skip : Nat) (bad : List Nat) : List Nat :=
  (List.range 12).filter fun i => i != skip &&
    (bad.contains i || (if i = 11 then (tget? t.stripes j).any (fun r => r.parity.ash || tagFails r.parity)
      else (firstBad t.sods [11 * j + i]).isSome))

/-- A member of a stripe found bad. -/
def spoilMember (t : Handle) (j : Nat) (s : State) (i : Nat) : State := if i = 11 then parityAsh s t j else makeAsh s t (11 * j + i)

/-- The bytes of a data sod from the others of its stripe and the parity sod. -/
def rebuilt (t : Tensor) (r : Stripe) (k : Nat) : Memory :=
  (stripeSods (k / 11)).foldl (fun m j => if j = k then m else xorSod m (sodData t j)) r.parity.data

/-- A rebuilt sod in its entry and in every snapshot that named it (R349). -/
def placeRebuilt (s : State) (t : Handle) (k : Nat) (x : Sod) : State :=
  let same := fun y : Sod => y.ash && y.tag == x.tag
  let fix := fun e : Handle × Table Sod =>
    if e.1 = t ∧ (tget? e.2 k).any same then (e.1, Machine.tset e.2 k x) else e
  let s := modTensor s t fun y => { y with sods := Machine.tset y.sods k x }
  { s with cmds := s.cmds.map fun c => { c with snap := c.snap.map fun l => l.map fix } }

/-- A data sod rebuilt from its stripe. -/
def rebuildData (s : State) (t : Tensor) (k : Nat) (dest : Loc) (bad : List Nat) : State :=
  let j := k / 11
  match tget? t.stripes j with
  | none => settled (loseStripe s t.handle j)
  | some r =>
    if !rebuildPlace s t k dest then s
    else match badMembers t j (k % 11) bad with
    | i :: _ => settled (loseStripe (spoilMember t.handle j s i) t.handle j)
    | [] =>
      let m := rebuilt t r k
      if sodTag m ≠ at? r.tags (k % 11) 0 then settled (loseStripe s t.handle j)
      else settled (openAt (placeRebuilt s t.handle k (mkSod m (some dest))) (some dest))

/-- A parity sod rebuilt from the data sods of its stripe, in fresh bog storage. -/
def rebuildParity (s : State) (t : Tensor) (j : Nat) (dest : Loc) (bad : List Nat) : State :=
  match badMembers t j 11 bad with
  | i :: _ => settled (loseStripe (spoilMember t.handle j s i) t.handle j)
  | [] => modTensor s t.handle fun x => { x with stripes := Machine.tset x.stripes j (freshStripe x j (parityPlace s (some dest))) }

/-- REBUILD: of an ash data sod, or, at a number past the tensor's sods, of a stripe's ash parity sod. A lost stripe is not rebuilt. -/
def execSodRebuild (t : Handle) (sod : Nat) (dest : Loc) (bad : List Nat) (s : State) : Host.Outcome State Fault Refusal :=
  .next (match tensorAny s t with
    | none => s
    | some x =>
      let n := tensorSods x
      if !x.shared then s
      else if sod < n then
        if (sodIn x.sods sod).ash ∧ !x.lost.contains (sod / 11) then rebuildData s x sod dest bad else s
      else if (tget? x.stripes (sod - n)).any (fun r => r.parity.ash) ∧ !x.lost.contains (sod - n) then rebuildParity s x (sod - n) dest bad
      else s)

/-! ## Patrol scrubbing -/

/-- Units of the scrub period in force. -/
def scrubUnits (s : State) : Nat := s.store.scrubHours * 360000000000

/-- SCRUB_PASS_START (R356): a period set before applies from here on. -/
def execScrubPassStart (s : State) : Host.Outcome State Fault Refusal :=
  .next (if s.store.scrubStart.isSome ∨ !rdy s rdyBog then s
    else { s with store := { s.store with scrubStart := some s.now, scrubHours := s.store.scrubNext, scrubBulk := [], scrubDone := [] } })

/-- The page of a patrol read, and the spot of its bursts; for a burst of a tag array, those of the first row it serves. -/
def patrolSpot (s : State) : PatrolTarget → Loc × Spot
  | .exrad st ch b r => (.bank st ch b r, { bog := false, dev := st, chan := ch, bank := b, row := r })
  | .tags st ch b g => (.bank st ch b (4 * g), { bog := false, dev := st, chan := ch, bank := b, row := 4 * g })
  | .bog p pg => (.bog p pg, { bog := true, dev := p, chan := freeBelow s.freeCount 4, bank := 0, row := pg })

/-- Rows of an Exrad channel, or pages of a bog package, each of which lies on its 4 channels (R356). -/
def chanPages (n : Nat) : Nat := if n < 384 then 393216 else 16777216

/-- The class of a controller channel's patrol reads (R358, R359): bulk while the channel finishes a late pass, or while its progress is
more than 5 percentage points behind the part of the pass window that has elapsed. -/
def scrubClass (s : State) (n : Nat) : Traffic :=
  let behind := match s.store.scrubStart with
    | some t => decide (tgetD s.store.scrubDone n 0 * 100 * scrubUnits s + 5 * chanPages n * scrubUnits s < (s.now - t) * 100 * chanPages n)
    | none => false
  if s.store.scrubBulk.contains n || behind then .bulk else .scrub

/-- Whether the controller channels of a place can serve a patrol read now: in service, an Exrad channel in memory mode (R358) and outside a
refresh, no other request first (R360). -/
def patrolServed (s : State) (l : Loc) : Bool :=
  inService s (some l) && (locChans (some l)).all fun n => chanReady s n && servesClass s (scrubClass s n) n

/-- Whether a page is read in this pass: not retired, not a shadow's (R357). -/
def patrolReads (s : State) (l : Loc) : Bool :=
  patrolServed s l && !s.store.retired.any (fun e => e.1 == l)
    && !s.cmds.any (fun c => c.shadows.any fun x => x.loc == some l)

/-- The bursts of a patrol read served (R359, R360): 32 of each of the 4 channels of a bog page, otherwise `n` of the row's channel. -/
def patrolTraffic (s : State) (l : Loc) (n : Nat) : State :=
  (locChans (some l)).foldl (fun s c => serveBursts s (scrubClass s c) (if c < 384 then n else 32) c) s

/-- The progress of the pass on the channels of a page (R358). -/
def patrolDone (s : State) (l : Loc) : State :=
  { s with store := { s.store with
    scrubDone := (locChans (some l)).foldl (fun m c => tset m c (tgetD m c 0 + 1)) s.store.scrubDone } }

/-- The sod that a page holds becomes ash. -/
def patrolAsh (s : State) (l : Loc) : State :=
  match sodAt s l with
  | some (t, k) => settled (makeAsh s t k)
  | none => s

/-- A patrol read of a row or a bog page: an open row shows tag mismatches alone; other pages show what the codes correct or find. -/
def patrolPage (s : State) (l : Loc) (x : Spot) (err : MemErr) : State :=
  let torn : Bool := match sodAt s l with
    | some (t, k) => (tensorAny s t).any fun y => tagFails (sodIn y.sods k)
    | none => false
  if !patrolServed s l then s
  else if !patrolReads s l then patrolDone s l
  else
    let u := patrolDone (patrolTraffic s l 128) l
    if !checkedAt s l then (if anyFlip err || torn then patrolAsh u l else u)
    else match seenOf (checkBytes l) err with
      | .corrected => correctedBurst u x (flipBurst err) (flipHard err)
      | .uncorrectable => patrolAsh (uncorrectableBurst u x (flipBurst err)) l
      | _ => u

/-- A patrol read of a tag array's burst, which its code guards whether the rows are sealed or open (R336): one that cannot be corrected
makes the sods of its four tags ash (R337). -/
def patrolTags (s : State) (st ch b g : Nat) (err : MemErr) : State :=
  if !patrolServed s (.bank st ch b (4 * g)) then s
  else
    let u := patrolTraffic s (.bank st ch b (4 * g)) 1
    match seenOf 4 err with
    | .corrected =>
      modErr u { bog := false, dev := st, chan := ch, bank := b, row := 4 * g } fun e =>
        { e with corrected := e.corrected + 1, hard := e.hard + b2n (flipHard err) }
    | .uncorrectable => (List.range' (4 * g) 4).foldl (fun s r => patrolAsh s (.bank st ch b r)) u
    | _ => u

/-- PATROL_READ (R337, R357). -/
def execPatrolRead (target : PatrolTarget) (err : MemErr) (s : State) : Host.Outcome State Fault Refusal :=
  .next (match target with
    | .tags st ch b g => patrolTags s st ch b g err
    | _ => patrolPage s (patrolSpot s target).1 (patrolSpot s target).2 err)

/-- SCRUB_LATE for a channel: 0 to 383 in the stacks, 384 to 447 in the bog. -/
def scrubLate (s : State) (n : Nat) : State :=
  let x : Spot := if n < 384 then { bog := false, dev := n / 32, chan := n % 32, bank := 0, row := 0 }
    else { bog := true, dev := (n - 384) / 4, chan := n % 4, bank := 0, row := 0 }
  raise s (spotSource x 144) 0x0E (natLE 1 (b2n x.bog) ++ natLE 1 x.dev ++ natLE 1 x.chan)

/-- What the LPDDR6 devices report of their own correction is read once a pass (R338); its values are free. -/
def readOnDie (s : State) : State :=
  let s' := (List.range 64).foldl (fun s n =>
    modErr s { bog := true, dev := n / 4, chan := n % 4, bank := 0, row := 0 } fun e => { e with onDie := leNat (freeBytes (s.freeCount + 3 * n) 3) }) s
  { s' with freeCount := s.freeCount + 192 }

/-- SCRUB_PASS_END (R358). -/
def execScrubPassEnd (late : List Nat) (s : State) : Host.Outcome State Fault Refusal :=
  .next (match s.store.scrubStart with
    | none => s
    | some t =>
      if s.now < t + scrubUnits s then s
      else
        let late := late.filter fun n => decide (n < 448)
        let s := late.foldl scrubLate (readOnDie s)
        { s with store := { s.store with scrubStart := none, scrubPass := s.store.scrubPass + 1, scrubBulk := late } })

/-! ## Window ends -/

/-- Whether a window of ASH has ended (R9, R463). -/
def ashEnded (s : State) (w : AshWindow) : Bool := decide (w.stamp / 100000 < s.now / 100000)

/-- The ASH record of one tensor's window (R463, R472). -/
def ashRecord (s : State) (w : AshWindow) : State :=
  eventRecord s (160 + w.clamp) 0x0F w.stamp (natLE 8 (Handle.encode w.t) ++ natLE 4 w.count) (some w.t.ctx)

/-- ASH_WINDOW_END: one record for every tensor with ash in a window that has ended. -/
def execAshWindowEnd (s : State) : Host.Outcome State Fault Refusal :=
  let s' := (s.store.ashWindows.filter (ashEnded s)).foldl ashRecord s
  .next { s' with store := { s'.store with ashWindows := s'.store.ashWindows.filter fun w => !ashEnded s w } }

/-- Events that the model does not count: waits of execute streams, Ember cycles, bursts by class, bytes across the Draught. -/
def uncounted : List Nat := [0x1002, 0x2003, 0x2004, 0x3001]

/-- The total of an event in the windows that have ended since the last row; of events the model does not count, a free value. -/
def windowTotal (s : State) (sel i : Nat) : Nat :=
  if uncounted.contains sel then leNat (freeBytes (s.freeCount + 8 * i) 8)
  else sumN (s.evt.gathered.map fun e => if e.1 % 65536 = sel ∧ e.1 / 65536 < s.now / 10000 then e.2 else 0)

/-- COUNTER_WINDOW_END (R478): the totals of every window that has ended are added into the banks; nothing before a window has ended. -/
def execCounterWindowEnd (s : State) : Host.Outcome State Fault Refusal :=
  let w := s.now / 10000
  let bank := (List.range 16).map fun i =>
    let sel := at? s.evt.bankSel i 0
    if sel = 0 then at? s.evt.bank i 0 else (at? s.evt.bank i 0 + windowTotal s sel i) % 2 ^ 64
  .next (if w ≤ s.evt.windowsDone then s
    else { s with
      evt := { s.evt with bank := bank, windowsDone := w, gathered := s.evt.gathered.filter fun e => decide (w ≤ e.1 / 65536) }
      freeCount := s.freeCount + 128 })

end Sys2Proof.Machine
end

