-- ==== Sys2Proof/Machine/KilnAccess.lean ====
section
/-!
DEFINITION. The access stream (R137-R143, R154): LOAD and STORE entries and their requests, count registers, the end of the stream, data
returned to load queues, and the accesses of a trigger window (R199-R202) as they reach the stack controller.
-/
namespace Sys2Proof.Machine

open Sys2Proof

/-- A value of an entry outside its range (R519). -/
def badEntry (e : Entry) : Bool :=
  match e.opcode with
  | 0x01 => decide (e.levels = 7 ∨ e.run = 0 ∨ 4096 < e.run ∨ 7 < e.queue)
  | 0x02 => decide (e.levels = 7 ∨ e.run = 0 ∨ 4096 < e.run ∨ 3 < e.queue) || e.eos
  | op => !([0x10, 0x11, 0x1F].contains op)

/-- The body of an entry. -/
abbrev AccBody := State → Tile → Cmd → Launch → Entry → State

/-- The next entry issues on a core, when it has the opcode of the row. -/
def issueAcc (op : Nat) (body : AccBody) (s : State) (die core : Nat) : State :=
  match issuing s die core with
  | none => s
  | some (t, c, l) =>
    if t.acc.ended then s
    else match fetchEntry s c l t.acc.pos with
      | .past => accFault s t 18 0xFF 0
      | .outside => accFault s t 1 0xFF (entryOffset t.acc.pos)
      | .bad => fetchError s t c l 1 (entryOffset t.acc.pos) 64
      | .foreign => fetchForeign s t 1 (entryOffset t.acc.pos)
      | .got e =>
        if badEntry e then accFault s t 4 e.slot e.base
        else if e.opcode ≠ op then s else body s t c l e

/-- A tile past an entry that retires as it issues. -/
def accNext (t : Tile) : Tile :=
  { t with acc := { t.acc with pos := t.acc.pos + 1, retired := t.acc.retired + 1 } }

/-! ## Count registers and END (R140, R160) -/

/-- SETCNT. -/
def accSetcnt : AccBody := fun s t _ _ e =>
  retired s (accNext { t with acc := { t.acc with cnt := t.acc.cnt.set e.queue e.value } }) false none

/-- CNTADD: signed, saturating at 0 and 0xFFFF_FFFF. -/
def accCntadd : AccBody := fun s t _ _ e =>
  let v : Int := (at? t.acc.cnt e.queue 0 : Nat) + signed 32 e.value
  retired s (accNext { t with acc := { t.acc with cnt := t.acc.cnt.set e.queue (max 0 (min 0xFFFFFFFF v)).toNat } }) false none

/-- END, once every entry before it has retired. What a store queue still holds then can never be drained (R152). -/
def accEnd : AccBody := fun s t _ _ _ =>
  if t.acc.loads.isEmpty ∧ t.acc.stores.isEmpty then
    if t.storeQ.any fun q => !q.isEmpty then exeFault s t 8
    else retired s (let t := accNext t; { t with acc := { t.acc with ended := true } }) false none
  else s

/-! ## LOAD and STORE entries (R138-R142) -/

/-- The latched levels of an entry: counts from the entry or from count registers, strides shifted. -/
def latchLevels (t : Tile) (e : Entry) : List (Nat × Int) :=
  ((e.nest.take e.levels).zipIdx).map fun ((c, st), i) =>
    (if bit e.countSrc i then at? t.acc.cnt (c % 16) 0 else c, st * 2 ^ e.shift)

/-- The nest that an entry latches. -/
def nestOf (t : Tile) (e : Entry) : Nest :=
  { queue := e.queue, slot := e.slot, plane := e.plane, base := e.base, levels := latchLevels t e, run := e.run, eos := e.eos, tag := e.tag
    viaSlane := e.viaSlane }

/-- The offset that the levels give a point, level 1 varying fastest. -/
def levelsAt : List (Nat × Int) → Nat → Int
  | [], _ => 0
  | (c, st) :: r, p => (p % c : Nat) * st + levelsAt r (p / c)

/-- The byte address of a point, exact (R139). -/
def Nest.addr (n : Nest) : Int := (n.base : Int) + levelsAt n.levels n.point

/-- Whether a slot has nothing that an access could reach. -/
def emptySlot (l : Launch) (slot : Nat) : Bool := decide (l.bindings.length ≤ slot) || (slotAt l slot).kind == 0

/-- The tensor that a LOAD or STORE of a slot reaches: a patch binding stands for the weight slot that it serves (R274, R330). -/
def slotHandle (l : Launch) (slot : Nat) : Handle :=
  let b := slotAt l slot
  if b.kind = 8 then (slotAt l (b.tag % 256)).handle else b.handle

/-- The fault of an access of `n` bytes at an address of a slot, if any: bounds (R48), a right to write, alignment in a window (R199),
ownership. -/
def accessCause (s : State) (c : Cmd) (l : Launch) (slot : Nat) (plane write : Bool) (a : Int) (n : Nat) : Option Nat :=
  let b := slotAt l slot
  let h := slotHandle l slot
  if b.kind = 3 then (if a < 0 ∨ a % 32 ≠ 0 ∨ n % 32 ≠ 0 ∨ 2 ^ 25 < a + n then some 15 else none)
  else if b.kind = 2 then (if write ∨ a < 0 then some 1 else none)
  else match tensorAny s h with
    | none => some 1
    | some t =>
      if a < 0 ∨ (runBytes t plane : Int) < a + n ∨ (write ∧ !b.rw) then some 1
      else if (firstForeign s h (viewOf s c h) (sodsOf (sodBase t plane) a.toNat n)).isNone then none
      else some 3

/-- A failed check: the command ends FAULTED; a resource that is not the clamp's also raises INTERNAL (R48). -/
def accessFault (s : State) (t : Tile) (cause slot : Nat) (a : Int) : State :=
  let s := if cause = 3 then internalEvent s (some (clampNum s t.cmd.ctx)) 5 else s
  accFault s t cause slot (unsigned 64 a)

/-! ## Generating LOAD requests (R142, R143) -/

/-- Bytes of room that a load queue has left beyond what it holds and what is on its way. -/
def loadRoom (l : Launch) (t : Tile) (q : Nat) : Nat :=
  let held := sumN ((at? t.loadQ q []).map fun i => match i with | .bytes b => b.length | .eos => 0)
  let coming := sumN ((t.acc.reqs.filter fun r => r.queue == q).map (·.len))
  loadQBytes l q - held - coming

/-- Whether the die's Slane engines make the requests of a LOAD: those with via_slane set (R142), and those of patched weights (R274). -/
def slaneMade (l : Launch) (n : Nest) : Bool := n.viaSlane || (slotAt l n.slot).kind == 8

/-- Requests outstanding that satisfy a test, over all tiles. -/
def outstanding (s : State) (p : Tile → LoadReq → Bool) : Nat :=
  sumN (s.kiln.tiles.map fun t => (t.acc.reqs.filter fun r => r.got.isNone && p t r).length)

/-- The controller channel at which a LOAD's next request arrives, if it goes to memory (R172). -/
def nestChan (s : State) (c : Cmd) (l : Launch) (n : Nest) : Option Nat :=
  let h := slotHandle l n.slot
  let a := (n.addr + (n.sub : Int)).toNat
  if (slotAt l n.slot).kind = 2 ∨ (slotAt l n.slot).kind = 3 then none
  else (tensorAny s h).bind fun t =>
    let k := sodBase t n.plane + a / 4096
    locChan h k a (sodIn (viewOf s c h) k).loc

/-- Whether a limit of R20 holds a LOAD's next request back: 256 of a core, 768 of each of the eight Slane engines of a die, 256 in a
channel's queue (so 8,192 of a stack, R169), 2,048 of a bog package. -/
def heldBack (s : State) (t : Tile) (c : Cmd) (l : Launch) (n : Nest) : Bool :=
  (if slaneMade l n then decide (6144 ≤ outstanding s fun x r => x.die == t.die && r.viaSlane)
    else decide (256 ≤ (t.acc.reqs.filter fun r => r.got.isNone && !r.viaSlane).length))
  || match nestChan s c l n with
     | none => false
     | some ch =>
       decide (256 ≤ outstanding s fun _ r => r.chan == some ch && decide (ch < 384))
       || decide (384 ≤ ch ∧ 2048 ≤ outstanding s fun _ r => r.chan.any fun x => decide (384 ≤ x) && x / 4 == ch / 4)

/-- The first LOAD that can generate a request: the oldest of its queue, with room, and held back by no limit (R20). -/
def readyLoad (s : State) (c : Cmd) (l : Launch) (t : Tile) : Option Nest :=
  (t.acc.loads.zipIdx.find? fun (n, i) =>
    !((t.acc.loads.take i).any fun m => m.queue == n.queue)
      && decide (n.points = 0 ∨ (if (slotAt l n.slot).kind = 3 then 32 else 1) ≤ loadRoom l t n.queue)
      && (n.points == 0 || !heldBack s t c l n)).map (·.1)

/-- The nest moved past `n` bytes: none when that was its last byte. -/
def Nest.past (x : Nest) (n : Nat) : Option Nest :=
  if x.sub + n < x.run then some { x with sub := x.sub + n }
  else if x.point + 1 < x.points then some { x with point := x.point + 1, sub := 0 }
  else none

/-- A nest replaced in a list, or taken out of it. -/
def putNest (l : List Nest) (old : Nest) (new : Option Nest) : List Nest :=
  match l with
  | [] => []
  | x :: r => if x = old then (match new with | some y => y :: r | none => r) else x :: putNest r old new

/-- The requests of a queue that have their data, in nest order, pushed into the queue. -/
def drainQueue : List LoadReq → Nat → List QItem → List LoadReq × List QItem
  | [], _, q => ([], q)
  | r :: rest, n, q =>
    if r.queue = n then
      match r.got with
      | some b =>
        let q := if b.isEmpty then q else q ++ [QItem.bytes b]
        drainQueue rest n (if r.eos then q ++ [QItem.eos] else q)
      | none => (r :: rest, q)
    else
      let (l, q) := drainQueue rest n q
      (r :: l, q)

/-- Every queue of a tile filled from the requests that have returned. -/
def drainAll (t : Tile) : Tile :=
  (List.range 8).foldl (fun t q =>
    let (reqs, items) := drainQueue t.acc.reqs q (at? t.loadQ q [])
    { t with acc := { t.acc with reqs := reqs }, loadQ := t.loadQ.set q items }) t

/-- The marker of a LOAD with a zero count, which makes no access (R141). -/
def genMarker (s : State) (t : Tile) (x : Nest) : State :=
  let req : LoadReq := { queue := x.queue, slot := x.slot, plane := x.plane, off := 0, len := 0, eos := true, got := some [] }
  retired s (drainAll { t with acc := { t.acc with
    reqs := t.acc.reqs ++ [req], loads := putNest t.acc.loads x none, retired := t.acc.retired + 1 } }) false (some x.tag)

/-- One request of a LOAD generated. -/
def genLoad (s : State) (t : Tile) (c : Cmd) (l : Launch) (x : Nest) : State :=
  if x.points = 0 then genMarker s t x else
  let a := x.addr + (x.sub : Int)
  let n := min (min (x.run - x.sub) (256 - a.toNat % 256)) (loadRoom l t x.queue)
  let n := if (slotAt l x.slot).kind = 3 then min (x.run - x.sub) 32 else n
  match accessCause s c l x.slot x.plane false a n with
  | some cause => accessFault s t cause x.slot a
  | none =>
    let next := x.past n
    let req : LoadReq := { queue := x.queue, slot := x.slot, plane := x.plane, off := a.toNat, len := n, eos := next.isNone && x.eos
                           chan := nestChan s c l x, since := s.now, arrival := s.kiln.arrivals, viaSlane := slaneMade l x }
    let s := { s with kiln := { s.kiln with arrivals := s.kiln.arrivals + 1 } }
    let t := { t with acc := { t.acc with reqs := t.acc.reqs ++ [req], loads := putNest t.acc.loads x next } }
    match next with
    | some _ => modTile s t.die t.core fun _ => t
    | none => retired s { t with acc := { t.acc with retired := t.acc.retired + 1 } } false (some x.tag)

/-- Requests generated as far as queues and limits allow. -/
def pumpLoads : Nat → State → Nat → Nat → State
  | 0, s, _, _ => s
  | fuel + 1, s, die, core =>
    match issuing s die core with
    | none => s
    | some (t, c, l) =>
      match readyLoad s c l t with
      | some x => pumpLoads fuel (genLoad s t c l x) die core
      | none =>
        if t.exe.ended then
          match t.acc.loads.find? (loadBlocked l t) with
          | some x => accFault s t 8 x.slot (unsigned 64 x.addr)
          | none => s
        else s

/-- Tokens asked for the requests that read data of a partner and have none (R377). -/
def tokensFor (s : State) (die core : Nat) : State :=
  match issuing s die core with
  | none => s
  | some (t, c, l) =>
    t.acc.reqs.foldl (fun s r =>
      let b := slotAt l r.slot
      if b.kind = 2 ∧ r.got.isNone then issueTokens s c.handle.ctx b.src b.tag r.off r.len else s) s

/-- LOAD: the entry issues with its counts latched. -/
def accLoad : AccBody := fun s t _ l e =>
  if emptySlot l e.slot then accFault s t 1 e.slot e.base
  else if loadQBytes l e.queue = 0 then accFault s t 8 e.slot e.base
  else if 512 ≤ t.acc.loads.length + t.acc.stores.length then s
  else
    modTile s t.die t.core fun _ => { t with acc := { t.acc with
      pos := t.acc.pos + 1, loads := t.acc.loads ++ [nestOf t e] } }

/-! ## Data returned (R139, R164) -/

/-- A request answered with bytes. -/
def answerReq (s : State) (t : Tile) (i : Nat) (bs : List Byte) : State :=
  modTile s t.die t.core fun t => drainAll { t with acc := { t.acc with reqs := t.acc.reqs.modify i fun r => { r with got := some bs } } }

/-- Whether a request is the next that its controller channel serves: the channel serves requests now, and none arrived there before it
(R172, R360). A request for storage that nothing backs goes to no channel. -/
def servedNext (s : State) (r : LoadReq) : Bool :=
  match r.chan with
  | none => true
  | some n => chanReady s n
    && !(s.kiln.tiles.any fun t => t.acc.reqs.any fun x => x.got.isNone && x.chan == some n && decide (x.arrival < r.arrival))

/-- What EMB_STATUS shows of a unit that has passed to another context: the part asked about was killed (R177, R201). -/
def goneStatus : List Byte := natLE 8 (UnitState.stopped.code + 8) ++ zeros 24

/-- A read request of a window as the stack controller takes it. A WAIT that finds its unit at work has arrived: it stays outstanding at that
unit, whatever the channel's mode becomes (R201). -/
def windowReturn (s : State) (t : Tile) (c : Cmd) (b : InbankBlock) (i : Nat) (r : LoadReq) : State :=
  match r.unit with
  | some (st, ch, un) =>
    let u := unitOf s st ch un
    if u.lastCtx ≠ some c.handle.ctx then answerReq s t i goneStatus
    else if u.state.busy then s
    else answerReq s t i (statusBytes u)
  | none =>
    match windowBurst s c b r.off none with
    | .fault => accFault s t 15 r.slot r.off
    | .ok s bs => answerReq s t i bs
    | .wait =>
      match waitUnit s c b r.off with
      | some (st, ch, un) =>
        if chanServes s st ch c.handle.ctx then
          modTile s t.die t.core fun t => { t with acc := { t.acc with reqs := t.acc.reqs.modify i fun r => { r with unit := some (st, ch, un) } } }
        else s
      | none => s

/-- A patch tensor's block for the `j`-th weight sod (R274): blocks have the capacity that the first row_end shows, and stand in the order
of the sods they change (DESIGN CHOICE, log entry 155). -/
def patchBlock (bs : List Byte) (j : Nat) : List (BitVec 32) :=
  let ws := words32 bs
  match ws.findIdx? peEnd with
  | none => []
  | some e => (ws.drop ((e + 1) * j)).take (e + 1)

/-- A weight sod's bytes with a block of patches applied (R225, R274). -/
def patchedSod (fmt : Nat) (bs : List Byte) (block : List (BitVec 32)) : List Byte :=
  let w := fmtBits fmt
  let elems := (List.range (32768 / w)).map fun i => (i, elemBits fmt bs i, 0)
  let out := packElems fmt ((patchSpan w block elems).2.map fun x => x.2.1)
  out ++ bs.drop out.length

/-- The bytes that a LOAD of a slot returns, read through the command's views: of a patch binding, the weights with the bound version's
blocks applied. -/
def loadBytes (s : State) (c : Cmd) (l : Launch) (x : Tensor) (r : LoadReq) : List Byte :=
  let b := slotAt l r.slot
  let view := viewOf s c (slotHandle l r.slot)
  let base := sodBase x r.plane
  match b.kind == 8, tensorAny s b.handle with
  | true, some p =>
    let sod := readView view base (4096 * (r.off / 4096)) 4096
    slice (patchedSod x.fmt sod (patchBlock (readView (viewOf s c b.handle) 0 0 p.bytes) (r.off / 4096))) (r.off % 4096) r.len
  | _, _ => readView view base r.off r.len

/-- The first sod of the patch tensor that a patched LOAD cannot use (R35). -/
def patchBad (s : State) (c : Cmd) (b : Binding) : Option Nat :=
  if b.kind = 8 then (tensorAny s b.handle).bind fun p => firstUnread c b.handle (viewOf s c b.handle) (sodsOf 0 0 p.bytes) else none

/-- A LOAD request's data comes back. -/
def loadReturn (s : State) (t : Tile) (c : Cmd) (l : Launch) (i : Nat) (err : MemErr) : State :=
  match t.acc.reqs[i]? with
  | none => s
  | some r =>
    if r.got.isSome then s
    else
      let b := slotAt l r.slot
      match b.kind with
      | 2 =>
        match landedBytes s c.handle.ctx b.src b.tag r.off r.len with
        | some bs => answerReq s t i bs
        | none => s
      | 3 =>
        match inbandOf c with
        | none => accFault s t 15 r.slot r.off
        | some ib => windowReturn s t c ib i r
      | _ =>
        let h := slotHandle l r.slot
        match tensorAny s h with
        | none => s
        | some x =>
          let view := viewOf s c h
          let base := sodBase x r.plane
          let k := base + r.off / 4096
          if !servedNext s r then s
          else
            let (s, ok) := storedRead s (sodIn view k).loc (if (tget? view k).isSome then err else .none)
            if !ok || (firstUnread c h view (sodsOf base r.off r.len)).isSome then dataError s t.cmd h k
            else match patchBad s c b with
              | some k => dataError s t.cmd b.handle k
              | none => answerReq (servedRun s c.handle.ctx h view base r.off r.len .normal) t i (loadBytes s c l x r)

/-! ## STORE (R143, R154) -/

/-- A run put into the hold area: merged into the previous record when it continues it. -/
def holdRun (l : List HoldRec) (slot : Nat) (plane : Bool) (off : Nat) (bs : List Byte) : List HoldRec :=
  match l.getLast? with
  | some r =>
    if r.slot = slot ∧ r.plane = plane ∧ r.off + r.bytes.length = off then l.dropLast ++ [{ r with bytes := r.bytes ++ bs }]
    else l ++ [{ slot := slot, plane := plane, off := off, bytes := bs }]
  | none => [{ slot := slot, plane := plane, off := off, bytes := bs }]

/-- Bytes that the hold area holds. -/
def holdBytes (l : List HoldRec) : Nat := sumN (l.map fun r => r.bytes.length)

/-- The first STORE that finds a whole run in its queue, the oldest of its queue. -/
def readyStore (t : Tile) : Option Nest :=
  (t.acc.stores.zipIdx.find? fun (n, i) => !((t.acc.stores.take i).any fun m => m.queue == n.queue) && !storeBlocked t n).map (·.1)

/-- One run of a STORE popped into the hold area, or one burst of it put through the trigger window; `none` when the window makes it wait. -/
def genStore (s : State) (t : Tile) (c : Cmd) (l : Launch) (x : Nest) : Option State :=
  let a := x.addr + (x.sub : Int)
  let n := if (slotAt l x.slot).kind = 3 then min 32 (x.run - x.sub) else x.run
  let q := at? t.storeQ x.queue []
  let bs := q.take n
  let next := x.past n
  let moved : Tile := { t with
    storeQ := t.storeQ.set x.queue (q.drop n), acc := { t.acc with stores := putNest t.acc.stores x next } }
  let finishRun := fun (s : State) (t : Tile) =>
    match next with
    | some _ => modTile s t.die t.core fun _ => t
    | none => retired s { t with acc := { t.acc with retired := t.acc.retired + 1 } } false (some x.tag)
  match accessCause s c l x.slot x.plane true a n with
  | some cause => some (accessFault s t cause x.slot a)
  | none =>
    if (slotAt l x.slot).kind = 3 then
      match inbandOf c with
      | none => some (accFault s t 15 x.slot a.toNat)
      | some ib =>
        match windowBurst s c ib a.toNat (some bs) with
        | .ok s _ => some (finishRun s moved)
        | .wait => none
        | .fault => some (accFault s t 15 x.slot a.toNat)
    else
      let hold := holdRun t.hold x.slot x.plane a.toNat bs
      if 8192 < hold.length ∨ l.holdKib * 1024 < holdBytes hold then some (accFault s t 9 x.slot a.toNat)
      else some (finishRun s { moved with hold := hold })

/-- Runs popped as far as the store queues hold them. -/
def pumpStores : Nat → State → Nat → Nat → State
  | 0, s, _, _ => s
  | fuel + 1, s, die, core =>
    match issuing s die core with
    | none => s
    | some (t, c, l) =>
      match readyStore t with
      | some x => match genStore s t c l x with | some s => pumpStores fuel s die core | none => s
      | none =>
        if t.exe.ended then
          match t.acc.stores.find? (storeBlocked t) with
          | some x => accFault s t 8 x.slot (unsigned 64 x.addr)
          | none => s
        else s

/-- STORE: the entry issues with its counts latched; with a zero count it pops nothing (R141). -/
def accStore : AccBody := fun s t _ l e =>
  let b := slotAt l e.slot
  if emptySlot l e.slot ∨ b.kind = 2 ∨ b.kind = 8 then accFault s t 1 e.slot e.base
  else if storeQBytes l e.queue = 0 ∨ storeQBytes l e.queue < e.run then accFault s t 8 e.slot e.base
  else if 512 ≤ t.acc.loads.length + t.acc.stores.length then s
  else
    let n := nestOf t e
    let t := { t with acc := { t.acc with pos := t.acc.pos + 1 } }
    if n.points = 0 then retired s { t with acc := { t.acc with retired := t.acc.retired + 1 } } false (some e.tag)
    else modTile s t.die t.core fun _ => { t with acc := { t.acc with stores := t.acc.stores ++ [n] } }

/-- Bytes in a tile's store queues. -/
def storedBytes (s : State) (die core : Nat) : Nat := ((tileOn s die core).map fun t => sumN (t.storeQ.map (·.length))).getD 0

/-- The accesses that a core's issued entries can make now (R143): runs popped from the store queues, then requests of LOADs; a wait of the
execute stream that can then never end is found at once (R152). -/
def pumped (s : State) (die core : Nat) : State :=
  let s := pumpStores (storedBytes s die core + 1) s die core
  hopelessNow (tokensFor (pumpLoads 1024 s die core) die core) die core

/-! ## The rows -/

/-- LOAD_DATA_RETURN: on a halted tile too, since requests in flight complete (R163). -/
def execLoadDataReturn (die core request : Nat) (err : MemErr) (s : State) : Host.Outcome State Fault Refusal :=
  .next (let s := match tileOn s die core with
    | none => s
    | some t =>
      match cmdOf s t.cmd with
      | none => s
      | some c =>
        match launchOf c with
        | some l => if c.phase = .run ∧ !t.committing then loadReturn s t c l request err else s
        | none => s
    pumped s die core)

def execAccessLoad (die core : Nat) (s : State) : Host.Outcome State Fault Refusal :=
  .next (pumped (issueAcc 0x01 accLoad s die core) die core)
def execAccessStore (die core : Nat) (s : State) : Host.Outcome State Fault Refusal :=
  .next (pumped (issueAcc 0x02 accStore s die core) die core)
def execSetcnt (die core : Nat) (s : State) : Host.Outcome State Fault Refusal := .next (issueAcc 0x10 accSetcnt s die core)
def execCntadd (die core : Nat) (s : State) : Host.Outcome State Fault Refusal := .next (issueAcc 0x11 accCntadd s die core)
def execAccessEnd (die core : Nat) (s : State) : Host.Outcome State Fault Refusal :=
  .next (hopelessNow (issueAcc 0x1F accEnd s die core) die core)

/-! ## Trigger-window rows (R199-R202) -/

/-- The tile and request of a command that wait for a window offset. -/
def windowReq (s : State) (h : Handle) (off : Nat) : Option (Tile × Nat) :=
  s.kiln.tiles.findSome? fun t =>
    if t.cmd = h then
      match launchOf ((cmdOf s h).getD (default : Cmd)) with
      | some l => (t.acc.reqs.findIdx? fun r => (slotAt l r.slot).kind == 3 && r.off == off && r.len == 32 && r.got.isNone).map fun i => (t, i)
      | none => none
    else none

/-- One access of a command through its window: a write takes effect, a read answers the request that waits for it. -/
def triggerRow (s : State) (h : Handle) (part op index : Nat) (write : Option (List Byte)) : State :=
  match cmdOf s h with
  | none => s
  | some c =>
    match inbandOf c with
    | none => s
    | some b =>
      let off := windowOffset part op index
      if c.phase = .run ∧ windowed c then
        match write, windowReq s h off with
        | none, some (t, i) => windowReturn s t c b i (at? t.acc.reqs i default)
        | _, _ =>
          match windowAccess s c b part op index write with
          | .fault => finish s h stFaulted (some { engine := 1, cause := 15, detail := zeros 9 ++ natLE 5 off })
          | .wait => s
          | .ok s' _ => s'
      else s

def execTrigVreg (h : Handle) (part index : Nat) (write : Option (List Byte)) (s : State) : Host.Outcome State Fault Refusal :=
  .next (triggerRow s h part winVreg index write)
def execTrigBbuf (h : Handle) (part index : Nat) (write : Option (List Byte)) (s : State) : Host.Outcome State Fault Refusal :=
  .next (triggerRow s h part winBbuf index write)
def execTrigUstore (h : Handle) (part index : Nat) (write : Option (List Byte)) (s : State) : Host.Outcome State Fault Refusal :=
  .next (triggerRow s h part winUstore index write)
def execTrigArg (h : Handle) (part index : Nat) (write : Option (List Byte)) (s : State) : Host.Outcome State Fault Refusal :=
  .next (triggerRow s h part winArg index write)
def execTrigCmd (h : Handle) (part index : Nat) (write : Option (List Byte)) (s : State) : Host.Outcome State Fault Refusal :=
  .next (triggerRow s h part winCmd index write)
def execTrigWait (h : Handle) (part index : Nat) (write : Option (List Byte)) (s : State) : Host.Outcome State Fault Refusal :=
  .next (triggerRow s h part winWait index write)

end Sys2Proof.Machine
end

