-- ==== Sys2Proof/Machine/KilnRows.lean ====
section
/-!
DEFINITION. The rows of the execute stream (R144-R153), one definition each: the next instruction of a core issues when it has the row's
opcode, and the access stream then makes the accesses that the queues now allow (R143).
-/
namespace Sys2Proof.Machine

open Sys2Proof

/-! ## The rows -/

/-- The rows of an MMA that issued, counted (R478). -/
def countRows (old : State) (die core : Nat) (s : State) : State :=
  match tileOn old die core, tileOn s die core with
  | some a, some b => if a.exe.retired < b.exe.retired then gather s 0x1001 (rMROWS a) else s
  | _, _ => s

def execDelay (die core : Nat) (s : State) : Host.Outcome State Fault Refusal := .next (pumped (issueExec 0x01 bodyDelay s die core) die core)
def execSetReg (die core : Nat) (s : State) : Host.Outcome State Fault Refusal := .next (pumped (issueExec 0x02 bodySet s die core) die core)
def execExecLoop (die core : Nat) (s : State) : Host.Outcome State Fault Refusal := .next (pumped (issueExec 0x03 bodyLoop s die core) die core)
def execBeos (die core : Nat) (s : State) : Host.Outcome State Fault Refusal := .next (pumped (issueExec 0x04 bodyBeos s die core) die core)
def execExecTag (die core : Nat) (s : State) : Host.Outcome State Fault Refusal := .next (pumped (issueExec 0x05 bodyTag s die core) die core)
def execExecEnd (die core : Nat) (s : State) : Host.Outcome State Fault Refusal := .next (pumped (issueExec 0x06 bodyEnd s die core) die core)
def execTld (die core : Nat) (s : State) : Host.Outcome State Fault Refusal := .next (pumped (issueExec 0x10 bodyTld s die core) die core)
def execMma (die core : Nat) (s : State) : Host.Outcome State Fault Refusal :=
  .next (pumped (countRows s die core (issueExec 0x11 bodyMma s die core)) die core)
def execTfl (die core : Nat) (s : State) : Host.Outcome State Fault Refusal := .next (pumped (issueExec 0x12 bodyTfl s die core) die core)
def execVadd (die core : Nat) (s : State) : Host.Outcome State Fault Refusal := .next (pumped (issueExec 0x20 bodyVadd s die core) die core)
def execVsub (die core : Nat) (s : State) : Host.Outcome State Fault Refusal := .next (pumped (issueExec 0x21 bodyVsub s die core) die core)
def execVmul (die core : Nat) (s : State) : Host.Outcome State Fault Refusal := .next (pumped (issueExec 0x22 bodyVmul s die core) die core)
def execVfma (die core : Nat) (s : State) : Host.Outcome State Fault Refusal := .next (pumped (issueExec 0x23 bodyVfma s die core) die core)
def execVmin (die core : Nat) (s : State) : Host.Outcome State Fault Refusal := .next (pumped (issueExec 0x24 bodyVmin s die core) die core)
def execVmax (die core : Nat) (s : State) : Host.Outcome State Fault Refusal := .next (pumped (issueExec 0x25 bodyVmax s die core) die core)
def execVcmp (die core : Nat) (s : State) : Host.Outcome State Fault Refusal := .next (pumped (issueExec 0x26 bodyVcmp s die core) die core)
def execVsel (die core : Nat) (s : State) : Host.Outcome State Fault Refusal := .next (pumped (issueExec 0x27 bodyVsel s die core) die core)
def execVfn (die core : Nat) (s : State) : Host.Outcome State Fault Refusal := .next (pumped (issueExec 0x28 bodyVfn s die core) die core)
def execVchs (die core : Nat) (s : State) : Host.Outcome State Fault Refusal := .next (pumped (issueExec 0x29 bodyVchs s die core) die core)
def execVsmx (die core : Nat) (s : State) : Host.Outcome State Fault Refusal := .next (pumped (issueExec 0x2B bodyVsmx s die core) die core)
def execVmrg (die core : Nat) (s : State) : Host.Outcome State Fault Refusal := .next (pumped (issueExec 0x2C bodyVmrg s die core) die core)
def execVcvt (die core : Nat) (s : State) : Host.Outcome State Fault Refusal := .next (pumped (issueExec 0x2D bodyVcvt s die core) die core)
def execVmov (die core : Nat) (s : State) : Host.Outcome State Fault Refusal := .next (pumped (issueExec 0x2E bodyVmov s die core) die core)
def execVbc (die core : Nat) (s : State) : Host.Outcome State Fault Refusal := .next (pumped (issueExec 0x2F bodyVbc s die core) die core)
def execQpop (die core : Nat) (s : State) : Host.Outcome State Fault Refusal := .next (pumped (issueExec 0x30 bodyQpop s die core) die core)
def execQpush (die core : Nat) (s : State) : Host.Outcome State Fault Refusal := .next (pumped (issueExec 0x31 bodyQpush s die core) die core)


end Sys2Proof.Machine
end

