-- ==== Sys2Proof/Machine/TensorCmd.lean ====
section
/-!
DEFINITION. The decisions on the packets of group 0x01xx (10_nirra_commands, 02_tensors_and_placement): tensors, grants, shard sets, and
the queued commands that move tensor data.
-/
namespace Sys2Proof.Machine

open Sys2Proof

/-- The sharding entry of a dimension in the parameter block: block size, axis, split. -/
def shardEntry (b : List Byte) (d : Nat) : ShardDim :=
  let e := u64 b (48 + 8 * d)
  { split := bit e 34, axis := bits e 33 32, block := bits e 31 0 }

/-- The local shape of a tensor (R30). -/
def localShape (shape : List Nat) (dims : List ShardDim) (sizes : List Nat) (pos : Nat) : List Nat :=
  (shape.zip dims).map fun (n, d) =>
    if d.split then shardLen n d.block (at? sizes d.axis 1) (gridCoord sizes pos d.axis) else n

/-- The tensor that a TENSOR_CREATE describes, under a handle. -/
def tensorFrom (s : State) (n : Nat) (b : List Byte) (h : Handle) : Tensor :=
  let rank := u8 b 1
  let fmt := u8 b 0
  let shape := (List.range rank).map fun d => u32 b (16 + 4 * d)
  let dims := (List.range rank).map (shardEntry b)
  let set := shardSetOf s (handleAt b 8)
  let loc := match set with
    | some x => localShape shape dims x.sizes ((ownPosition s n x).getD 0)
    | none => shape
  let count := prodN loc
  { handle := h, clamp := clampNum s n, fmt := fmt, shape := shape, localShape := loc, useHint := u8 b 2
    shared := bit (u8 b 3) 0, shardSet := handleAt b 8, shards := dims
    grants := ((List.range (u8 b 4)).map fun i => let g := u32 b (112 + 4 * i); (bits g 9 0, bit g 10))
    bytes := packedBytes fmt count, planeBytes := if fmtMx fmt then count / 32 else 0 }

/-- The sharding of a TENSOR_CREATE breaks a rule of R29. -/
def badSharding (s : State) (n : Nat) (b : List Byte) : Bool :=
  let dims := ((List.range (u8 b 1)).map (shardEntry b)).filter (·.split)
  let h := handleAt b 8
  if dims.isEmpty then h != Handle.null
  else
    match shardSetOf s h with
    | none => true
    | some x =>
      dims.any (fun d => d.block == 0 || decide (x.sizes.length ≤ d.axis)) || hasDup (dims.map (·.axis))
        || (h.ctx == n && (ownPosition s n x).isNone)

/-- A microscaling format asks for multiples of 32 along the last dimension (R32). -/
def badMx (b : List Byte) : Bool :=
  let rank := u8 b 1
  let last := shardEntry b (rank - 1)
  fmtMx (u8 b 0) && decide (u32 b (16 + 4 * (rank - 1)) % 32 ≠ 0 ∨ (last.split ∧ last.block % 32 ≠ 0))

/-- The values of a TENSOR_CREATE that break a rule of R25. -/
def badTensorParams (s : State) (n : Nat) (b : List Byte) : Bool :=
  let rank := u8 b 1
  !fmtValid (u8 b 0) || decide (rank = 0 ∨ 8 < rank ∨ 2 < u8 b 2 ∨ 16 < u8 b 4)
    || (List.range rank).any (fun d => u32 b (16 + 4 * d) == 0) || badMx b || badSharding s n b

/-- Ready stacks that a clamp can place on. -/
def placeableStacks (s : State) (k : Nat) : Nat :=
  ((List.range 12).filter fun st => rdy s (rdyExrad st) && at? (clampOf s k).chans st 0 != 0).length

/-- The DONE record of a TENSOR_CREATE, which takes no slot of its own (R24). -/
def createdRec (s : State) (p : Packet) (n : Nat) (h : Handle) : Rec :=
  { kind := 0x02, status := stOk, flags := 1
    body := natLE 4 p.cookie ++ natLE 8 (Handle.encode h) ++ natLE 8 0 ++ natLE 8 (if 2 ≤ minorOf s n then s.now else 0)
    notify := p.notify }

/-- TENSOR_CREATE (R24, R25, R45). DESIGN CHOICE (log entry 161): a destroyed tensor whose storage R27 still holds counts towards the module's
1,048,576 tensors and no longer towards its context's 65,536. -/
def decideTensorCreate (s : State) (w : Sender) (p : Packet) : Verdict :=
  let n := w.ctx
  let b := ownParams p
  let h := newHandle s n p.choice.pick
  let t := tensorFrom s n b h
  let foreign := match shardSetOf s t.shardSet with | some x => x.handle.ctx != n | none => false
  let owned := (s.store.tensors.filter fun x => x.handle.ctx == n && !x.destroyed).length
  .unless
    [(badTensorParams s n b, stBadParam),
     (foreign || (t.shared && w.fn != 0), stDenied),
     (decide (65536 ≤ owned ∨ 1048576 ≤ s.store.tensors.length ∨ clampFree s t.clamp < tensorSods t ∨
        (t.shared ∧ placeableStacks s t.clamp < 11)), stNoSpace)]
    { status := stAccepted, handle := h, effect := fun s =>
        let s := takeSlot s h
        let s := { s with store := { s.store with tensors := s.store.tensors ++ [t] } }
        let s := modCtx s n fun c => { c with endedOk := c.endedOk + 1 }
        putRec s n (createdRec s p n h) }

/-- TENSOR_DESTROY (R26): queued, from the owner. -/
def decideTensorDestroy (s : State) (w : Sender) (p : Packet) : Verdict :=
  let h := handleAt (ownParams p) 0
  queueCmd s w.ctx p [(badTensor s h, stBadParam), (h.ctx != w.ctx, stDenied)] (.tensorDestroy h)

/-- TENSOR_GRANT (R60, R61): a new grant for the same context replaces the old. -/
def decideTensorGrant (s : State) (w : Sender) (p : Packet) : Verdict :=
  let b := ownParams p
  let h := handleAt b 0
  let g := u16 b 8
  .unless [(badTensor s h || decide (1023 < g ∨ 1 < u8 b 10), stBadParam), (h.ctx != w.ctx, stDenied)]
    (.ok 0 fun s => modTensor s h fun t => { t with grants := t.grants.filter (fun x => x.1 != g) ++ [(g, u8 b 10 == 1)] })

/-- TENSOR_REVOKE (R60). -/
def decideTensorRevoke (s : State) (w : Sender) (p : Packet) : Verdict :=
  let b := ownParams p
  let h := handleAt b 0
  let g := u16 b 8
  .unless [(badTensor s h || decide (1023 < g), stBadParam), (h.ctx != w.ctx, stDenied)]
    (.ok 0 fun s => modTensor s h fun t => { t with grants := t.grants.filter (fun x => x.1 != g) })

/-- The format of a tensor. -/
def fmtOf (s : State) (h : Handle) : Nat := ((tensorOf s h).map (·.fmt)).getD 0

/-- The values of a TENSOR_READ or TENSOR_WRITE block that break R328. -/
def badTransfer (s : State) (b : List Byte) : Bool :=
  let len := u64 b 24
  let plane := u8 b 32
  let hf := u8 b 33
  decide (len = 0 ∨ 17179869184 < len ∨ 1 < plane ∨ 1 < hf ∨ (hf = 1 ∧ plane = 1)) ||
    (hf == 1 && fmtMx (fmtOf s (handleAt b 0)) && decide (u64 b 8 % 32 ≠ 0 ∨ len % 32 ≠ 0))

/-- TENSOR_READ (R328). -/
def decideTensorRead (s : State) (w : Sender) (p : Packet) : Verdict :=
  let b := ownParams p
  let h := handleAt b 0
  queueCmd s w.ctx p [(badTensor s h || badTransfer s b, stBadParam), (deniedTensor s w.ctx h false, stDenied)]
    (.tensorRead h (u64 b 8) (u64 b 16) (u64 b 24) (u8 b 32) (u8 b 33))

/-- TENSOR_WRITE (R328). -/
def decideTensorWrite (s : State) (w : Sender) (p : Packet) : Verdict :=
  let b := ownParams p
  let h := handleAt b 0
  queueCmd s w.ctx p [(badTensor s h || badTransfer s b, stBadParam), (deniedTensor s w.ctx h true, stDenied)]
    (.tensorWrite h (u64 b 8) (u64 b 16) (u64 b 24) (u8 b 32) (u8 b 33))

/-- TENSOR_COPY (R165). -/
def decideTensorCopy (s : State) (w : Sender) (p : Packet) : Verdict :=
  let b := ownParams p
  let src := handleAt b 0
  let dst := handleAt b 8
  let n := u64 b 32
  queueCmd s w.ctx p
    [(badTensor s src || badTensor s dst || decide (n = 0 ∨ 2 ^ 34 < n) ||
        (fmtMx (fmtOf s dst) && decide (u64 b 24 % 32 ≠ 0 ∨ n % 32 ≠ 0)), stBadParam),
     (deniedTensor s w.ctx src false || deniedTensor s w.ctx dst true, stDenied)]
    (.tensorCopy src dst (u64 b 16) (u64 b 24) n)

/-- TENSOR_FILL (R165). -/
def decideTensorFill (s : State) (w : Sender) (p : Packet) : Verdict :=
  let b := ownParams p
  let h := handleAt b 0
  queueCmd s w.ctx p [(badTensor s h, stBadParam), (deniedTensor s w.ctx h true, stDenied)]
    (.tensorFill h (u64 b 8) (u64 b 16) (slice b 24 8))

/-- TENSOR_GATHER (R48, 10_nirra_commands). -/
def decideTensorGather (s : State) (w : Sender) (p : Packet) : Verdict :=
  let b := ownParams p
  let src := handleAt b 0
  let idx := handleAt b 8
  let dst := handleAt b 16
  let rows := u32 b 24
  let rb := u32 b 28
  queueCmd s w.ctx p
    [(badTensor s src || badTensor s idx || badTensor s dst || fmtOf s idx != 0x10 ||
        decide (rows = 0 ∨ 16777216 < rows ∨ rb = 0 ∨ 65536 < rb), stBadParam),
     (deniedTensor s w.ctx src false || deniedTensor s w.ctx idx false || deniedTensor s w.ctx dst true, stDenied)]
    (.tensorGather src idx dst rows rb)

/-- TENSOR_INFO (R40): local size in sods and ash sods. -/
def decideTensorInfo (s : State) (w : Sender) (p : Packet) : Verdict :=
  let h := handleAt (ownParams p) 0
  match tensorOf s h with
  | none => .refuse stBadParam
  | some t => .unless [(!mayRead t w.ctx, stDenied)] (.ok (tensorSods t % 2 ^ 32 + ashCount t * 2 ^ 32))

/-- The shard set that a SHARD_SET_CREATE describes. -/
def shardSetFrom (b : List Byte) (h : Handle) : ShardSet :=
  { handle := h, clamps := u8 b 6 == 1
    members := (List.range (u8 b 0)).map fun i => u16 b (8 + 2 * i)
    sizes := (List.range (u8 b 1)).map fun i => u8 b (2 + i)
    position := u8 b 5 }

/-- The values of a SHARD_SET_CREATE that break R514, and identities outside 1 to 65,534 (R370). -/
def badShardSet (s : State) (n : Nat) (b : List Byte) : Bool :=
  let x := shardSetFrom b Handle.null
  decide (u8 b 0 = 0 ∨ 64 < u8 b 0 ∨ u8 b 1 = 0 ∨ 3 < u8 b 1 ∨ 1 < u8 b 6 ∨ u8 b 0 ≤ u8 b 5)
    || x.sizes.any (· == 0) || prodN x.sizes != u8 b 0 || hasDup x.members
    || (if x.clamps then x.members.any (fun m => decide (7 < m)) || at? x.members x.position 0 != clampNum s n
        else x.members.any (fun m => decide (m = 0 ∨ 65534 < m)) || (s.flue.lock && at? x.members x.position 0 != s.flue.moduleId))

/-- SHARD_SET_CREATE (R514). -/
def decideShardSetCreate (s : State) (w : Sender) (p : Packet) : Verdict :=
  let b := ownParams p
  let h := newHandle s w.ctx p.choice.pick
  .unless [(badShardSet s w.ctx b, stBadParam)]
    { status := stOk, handle := h, effect := fun s =>
        let s := takeSlot s h
        { s with store := { s.store with shardSets := s.store.shardSets ++ [shardSetFrom b h] } } }

/-- SHARD_SET_DESTROY (R514): denied while a tensor names the set. -/
def decideShardSetDestroy (s : State) (w : Sender) (p : Packet) : Verdict :=
  let h := handleAt (ownParams p) 0
  let named := s.store.tensors.any fun t => t.shardSet == h && !t.destroyed
  .unless [((shardSetOf s h).isNone, stBadParam), (h.ctx != w.ctx || named, stDenied)]
    (.ok 0 fun s => dropSlot { s with store := { s.store with
      shardSets := s.store.shardSets.filter fun x => x.handle != h } } h)

end Sys2Proof.Machine
end

