-- ==== Sys2Proof/Machine/Packets.lean ====
section
/-!
DEFINITION. Packets (09_nirra_host_link): the opcodes of 10_nirra_commands, the tests of R515 in their order, replies (R297-R299), sequence
numbers (R302), packets held by firmware (R296, R298), the message at the end of a coalescing window (R316), and one meaning for each opcode.
-/
namespace Sys2Proof.Machine

open Sys2Proof

/-! ## The opcodes (R290, R317, R318, R320, R321) -/

/-- What the group tables say of an opcode: kind Q, FW path, PF only, taken in the boot window, bytes of its own parameters. -/
structure OpInfo where
  code : Nat
  queued : Bool
  firmware : Bool
  pfOnly : Bool
  boot : Bool
  len : Nat
deriving DecidableEq, Repr, Inhabited

/-- Opcodes of group 0x00xx. -/
def ops00 : List OpInfo :=
  [
   { code := 0x0000, queued := false, firmware := false, pfOnly := false, boot := false, len := 0 },
   { code := 0x0001, queued := false, firmware := true, pfOnly := false, boot := true, len := 48 },
   { code := 0x0002, queued := false, firmware := true, pfOnly := false, boot := true, len := 2 },
   { code := 0x0003, queued := false, firmware := true, pfOnly := false, boot := false, len := 32 },
   { code := 0x0010, queued := false, firmware := false, pfOnly := false, boot := false, len := 8 },
   { code := 0x0011, queued := false, firmware := false, pfOnly := false, boot := false, len := 8 },
   { code := 0x0012, queued := false, firmware := false, pfOnly := false, boot := false, len := 1 },
   { code := 0x0013, queued := false, firmware := false, pfOnly := false, boot := false, len := 1 },
   { code := 0x0014, queued := true, firmware := false, pfOnly := false, boot := false, len := 8 },
   { code := 0x0015, queued := false, firmware := false, pfOnly := false, boot := false, len := 1 } ]

/-- Opcodes of group 0x01xx. -/
def ops01 : List OpInfo :=
  [
   { code := 0x0100, queued := false, firmware := true, pfOnly := false, boot := false, len := 176 },
   { code := 0x0101, queued := true, firmware := true, pfOnly := false, boot := false, len := 8 },
   { code := 0x0102, queued := false, firmware := true, pfOnly := false, boot := false, len := 11 },
   { code := 0x0103, queued := false, firmware := true, pfOnly := false, boot := false, len := 10 },
   { code := 0x0104, queued := true, firmware := false, pfOnly := false, boot := false, len := 40 },
   { code := 0x0105, queued := true, firmware := false, pfOnly := false, boot := false, len := 40 },
   { code := 0x0106, queued := true, firmware := false, pfOnly := false, boot := false, len := 40 },
   { code := 0x0107, queued := true, firmware := false, pfOnly := false, boot := false, len := 32 },
   { code := 0x0108, queued := true, firmware := false, pfOnly := false, boot := false, len := 32 },
   { code := 0x0109, queued := false, firmware := false, pfOnly := false, boot := false, len := 8 },
   { code := 0x0110, queued := false, firmware := true, pfOnly := false, boot := false, len := 136 },
   { code := 0x0111, queued := false, firmware := true, pfOnly := false, boot := false, len := 8 } ]

/-- Opcodes of group 0x02xx. -/
def ops02 : List OpInfo :=
  [
   { code := 0x0200, queued := true, firmware := false, pfOnly := false, boot := false, len := 20 },
   { code := 0x0201, queued := true, firmware := false, pfOnly := false, boot := false, len := 20 },
   { code := 0x0202, queued := false, firmware := false, pfOnly := false, boot := false, len := 9 } ]

/-- Opcodes of group 0x03xx. -/
def ops03 : List OpInfo :=
  [
   { code := 0x0300, queued := false, firmware := true, pfOnly := false, boot := false, len := 38 },
   { code := 0x0301, queued := false, firmware := true, pfOnly := false, boot := false, len := 8 },
   { code := 0x0302, queued := false, firmware := true, pfOnly := false, boot := false, len := 40 },
   { code := 0x0303, queued := false, firmware := true, pfOnly := false, boot := false, len := 8 },
   { code := 0x0304, queued := false, firmware := true, pfOnly := false, boot := false, len := 32 },
   { code := 0x0305, queued := false, firmware := true, pfOnly := false, boot := false, len := 33 },
   { code := 0x0306, queued := false, firmware := true, pfOnly := false, boot := false, len := 10 },
   { code := 0x0307, queued := false, firmware := true, pfOnly := true, boot := false, len := 20 },
   { code := 0x0308, queued := false, firmware := true, pfOnly := true, boot := false, len := 72 },
   { code := 0x0309, queued := false, firmware := true, pfOnly := false, boot := false, len := 1 },
   { code := 0x030A, queued := false, firmware := true, pfOnly := false, boot := false, len := 8 } ]

/-- Opcodes of group 0x04xx. -/
def ops04 : List OpInfo :=
  [
   { code := 0x0400, queued := true, firmware := false, pfOnly := false, boot := false, len := 40 },
   { code := 0x0401, queued := true, firmware := false, pfOnly := false, boot := false, len := 40 },
   { code := 0x0402, queued := true, firmware := false, pfOnly := false, boot := false, len := 12 },
   { code := 0x0403, queued := true, firmware := false, pfOnly := false, boot := false, len := 18 },
   { code := 0x0404, queued := false, firmware := false, pfOnly := false, boot := false, len := 0 } ]

/-- Opcodes of group 0x05xx. -/
def ops05 : List OpInfo :=
  [
   { code := 0x0500, queued := false, firmware := true, pfOnly := true, boot := false, len := 104 },
   { code := 0x0501, queued := false, firmware := true, pfOnly := true, boot := false, len := 1 },
   { code := 0x0502, queued := false, firmware := true, pfOnly := true, boot := false, len := 16 },
   { code := 0x0503, queued := false, firmware := true, pfOnly := true, boot := false, len := 1 },
   { code := 0x0504, queued := false, firmware := true, pfOnly := true, boot := false, len := 16 },
   { code := 0x0505, queued := false, firmware := true, pfOnly := false, boot := false, len := 1 } ]

/-- Opcodes of group 0x06xx. -/
def ops06 : List OpInfo :=
  [
   { code := 0x0600, queued := false, firmware := false, pfOnly := false, boot := false, len := 10 },
   { code := 0x0601, queued := false, firmware := true, pfOnly := true, boot := false, len := 4 },
   { code := 0x0602, queued := false, firmware := true, pfOnly := true, boot := false, len := 4 },
   { code := 0x0603, queued := false, firmware := true, pfOnly := true, boot := false, len := 2 },
   { code := 0x0604, queued := false, firmware := true, pfOnly := true, boot := false, len := 1 } ]

/-- Opcodes of group 0x07xx. -/
def ops07 : List OpInfo :=
  [
   { code := 0x0700, queued := false, firmware := true, pfOnly := true, boot := false, len := 13 },
   { code := 0x0701, queued := false, firmware := true, pfOnly := true, boot := false, len := 1 },
   { code := 0x0702, queued := false, firmware := true, pfOnly := true, boot := false, len := 1 },
   { code := 0x0703, queued := false, firmware := true, pfOnly := true, boot := false, len := 12 },
   { code := 0x0704, queued := false, firmware := true, pfOnly := true, boot := false, len := 0 },
   { code := 0x0705, queued := false, firmware := true, pfOnly := true, boot := false, len := 18 } ]

/-- Opcodes of group 0x7Fxx. -/
def ops7F : List OpInfo :=
  [
   { code := 0x7F00, queued := false, firmware := true, pfOnly := true, boot := false, len := 20 },
   { code := 0x7F01, queued := false, firmware := true, pfOnly := true, boot := false, len := 3 },
   { code := 0x7F02, queued := false, firmware := false, pfOnly := true, boot := false, len := 24 },
   { code := 0x7F03, queued := false, firmware := false, pfOnly := true, boot := false, len := 44 },
   { code := 0x7F04, queued := false, firmware := true, pfOnly := true, boot := false, len := 3 },
   { code := 0x7F05, queued := false, firmware := false, pfOnly := true, boot := false, len := 16 } ]

/-- Every opcode of 10_nirra_commands. -/
def opTable : List OpInfo := ops00 ++ ops01 ++ ops02 ++ ops03 ++ ops04 ++ ops05 ++ ops06 ++ ops07 ++ ops7F

/-- What the tables say of an opcode. -/
def opInfo (op : Nat) : Option OpInfo := opTable.find? fun x => x.code == op

/-- The opcode's own decision (R515, test 13). -/
def decideOp (op : Nat) (s : State) (w : Sender) (p : Packet) : Verdict :=
  match op with
  | 0x0000 => decideContextNop s w p
  | 0x0001 => decideContextCreate s w p
  | 0x0002 => decideContextDestroy s w p
  | 0x0003 => decideContextSet s w p
  | 0x0010 => decideCommandQuery s w p
  | 0x0011 => decideCommandCancel s w p
  | 0x0012 => decideQueueResume s w p
  | 0x0013 => decideQueueFlush s w p
  | 0x0014 => decideFlagWrite s w p
  | 0x0015 => decideFlagRead s w p
  | 0x0100 => decideTensorCreate s w p
  | 0x0101 => decideTensorDestroy s w p
  | 0x0102 => decideTensorGrant s w p
  | 0x0103 => decideTensorRevoke s w p
  | 0x0104 => decideTensorRead s w p
  | 0x0105 => decideTensorWrite s w p
  | 0x0106 => decideTensorCopy s w p
  | 0x0107 => decideTensorFill s w p
  | 0x0108 => decideTensorGather s w p
  | 0x0109 => decideTensorInfo s w p
  | 0x0110 => decideShardSetCreate s w p
  | 0x0111 => decideShardSetDestroy s w p
  | 0x0200 => decideProgramLaunch s w p
  | 0x0201 => decideInbankLaunch s w p
  | 0x0202 => decideSlaneResume s w p
  | 0x0300 => decideGenerate s w p
  | 0x0301 => decideRequestCancel s w p
  | 0x0302 => decideModelRegister s w p
  | 0x0303 => decideModelRetire s w p
  | 0x0304 => decideShavingLoad s w p
  | 0x0305 => decideShavingReplace s w p
  | 0x0306 => decideShavingRetire s w p
  | 0x0307 => decideServingConfigure s w p
  | 0x0308 => decideSharingGroupSet s w p
  | 0x0309 => decideServingReplyEnable s w p
  | 0x030A => decideRequestQuery s w p
  | 0x0400 => decideFlueSend s w p
  | 0x0401 => decideFlueReceive s w p
  | 0x0402 => decideFlueFlagSet s w p
  | 0x0403 => decideFlueReduce s w p
  | 0x0404 => decideFluePortStatus s w p
  | 0x0500 => decideClampConfigure s w p
  | 0x0501 => decideClampStart s w p
  | 0x0502 => decideClampStop s w p
  | 0x0503 => decideClampDelete s w p
  | 0x0504 => decideClampAssign s w p
  | 0x0505 => decideClampQuery s w p
  | 0x0600 => decideTelemetryRead s w p
  | 0x0601 => decideCounterSelect s w p
  | 0x0602 => decideEventRoute s w p
  | 0x0603 => decidePowerCapSet s w p
  | 0x0604 => decideScrubSet s w p
  | 0x0700 => decideFwStage s w p
  | 0x0701 => decideFwActivate s w p
  | 0x0702 => decideKeyRevoke s w p
  | 0x0703 => decideDebugUnlock s w p
  | 0x0704 => decideDebugLock s w p
  | 0x0705 => decideRepairCommit s w p
  | 0x7F00 => decideDbgBreakSet s w p
  | 0x7F01 => decideDbgBreakClear s w p
  | 0x7F02 => decideDbgTileControl s w p
  | 0x7F03 => decideDbgRead s w p
  | 0x7F04 => decideDbgBankView s w p
  | 0x7F05 => decideDbgBankWrite s w p
  | _ => .refuse stBadOpcode

/-! ## The tests of R515 -/

/-- Test 1, the sequence rules of R302. -/
def seqTest (seen : List Seen) (retry : Option Nat) (q : Nat) : Option Verdict :=
  match seen.find? fun x => x.seq == q with
  | some x => some { status := stDuplicate, handle := x.handle, value := x.status }
  | none =>
    if seen.any fun x => decide (q ≤ x.seq) then some (.refuse stSequenceStale)
    else match retry with
      | some b => if q = b then none else some { status := stBusyRetry, value := 3 }
      | none => none

/-- Tests 2 and 3. -/
def formTest (p : Packet) : Option Nat :=
  firstFail [(p.major != 1 || p.headerLen != 8, stBadVersion), (decide (184 < p.paramLen) || p.paramLen % 8 != 0, stBadParam)]

/-- The module that a Flue opcode names, when its parameters are there (R319). -/
def namedModule (op : Nat) (p : Packet) : Option Nat :=
  let b := ownParams p
  if op = 0x0400 ∨ op = 0x0401 then (if ownLen p < 40 then none else some (u16 b 24))
  else if op = 0x0402 then (if ownLen p < 12 then none else some (u16 b 0))
  else none

/-- Test 9: a function that the opcode needs is not ready (R319, R370, R410). -/
def opNotReady (s : State) (x : OpInfo) (p : Packet) : Bool :=
  let g := x.code / 256
  (x.firmware && !rdy s rdyHearth) || (decide (1 ≤ g ∧ g ≤ 4) && !rdy s rdyBog) || (g == 3 && !rdy s rdyServing)
    || (g == 7 && !rdy s rdySecurity) || (g == 4 && !s.flue.lock)
    || match namedModule x.code p with | some m => !reaches s m | none => false

/-- Whether the packet's queue holds 256 commands not yet ended (R66). -/
def queueFull (s : State) (n q : Nat) : Bool :=
  match ctxOf s n with
  | some c => decide (256 ≤ (at? c.queues q {}).cmds.length)
  | none => false

/-- Tests 7 to 11. -/
def opTests (s : State) (w : Sender) (x : OpInfo) (p : Packet) : Option Nat :=
  firstFail
    [(!w.boot && x.code / 256 == 3 && minorOf s w.ctx == 0, stBadVersion),
     ((x.pfOnly && w.fn != 0) || (x.code / 256 == 0x7F && !debugOpen s), stDenied),
     (opNotReady s x p, stNotReady),
     (p.sync && (!x.queued || decide (p.paramLen < 64)), stBadParam),
     (decide (ownLen p < x.len), stBadParam)]

/-- Tests 6 to 13. -/
def judge (s : State) (w : Sender) (op : Nat) (p : Packet) : Verdict :=
  match opInfo op with
  | none => .refuse stBadOpcode
  | some x =>
    if w.boot && !x.boot then .refuse stBadOpcode
    else match opTests s w x p with
      | some st => .refuse st
      | none => if x.queued && queueFull s w.ctx p.queue then { status := stBusyRetry, value := 0 } else decideOp op s w p

/-! ## Sequence memory and replies -/

/-- What a context, or a function's boot window, remembers of packets (R302). -/
structure SeqState where
  seen : List Seen
  retry : Option Nat
deriving DecidableEq, Repr, Inhabited

/-- The memory after an answer; `room` numbers are remembered. -/
def SeqState.after (x : SeqState) (room q : Nat) (v : Verdict) : SeqState :=
  if v.status = stBusyRetry then (if v.value ≠ 3 ∧ x.retry.isNone then { x with retry := some q } else x)
  else
    let retry := if x.retry = some q then none else x.retry
    if v.status = stDuplicate ∨ v.status = stSequenceStale then { x with retry := retry }
    else
      let l := x.seen ++ [{ seq := q, handle := v.handle, status := v.status }]
      { seen := l.drop (l.length - room), retry := retry }

/-- Bytes [31:4] of a reply (R299). -/
def replyBody (p : Packet) (v : Verdict) : List Byte :=
  natLE 4 p.cookie ++ natLE 8 p.seq ++ natLE 8 (Handle.encode v.handle) ++ natLE 8 v.value

/-- A reply into the function's boot reply, whose phase bit toggles (R290). -/
def bootAnswer (s : State) (f : Nat) (p : Packet) (v : Verdict) : State :=
  modFn s f fun x =>
    { x with
      bootPhase := !x.bootPhase
      bootReply := [BitVec.ofNat 8 (1 + 128 * b2n (!x.bootPhase)), BitVec.ofNat 8 v.status, 0, 0] ++ replyBody p v }

/-- A reply into a context's ring. -/
def ringAnswer (s : State) (n : Nat) (p : Packet) (v : Verdict) : State :=
  putRec s n { kind := 0x01, status := v.status, body := replyBody p v }

/-- Whether a packet through a context's own window ends that context (R324). -/
def endsOwn (w : Sender) (op : Nat) (p : Packet) (v : Verdict) : Bool :=
  op == 0x0002 && v.status == stOk && u16 (ownParams p) 0 == w.ctx

/-- A boot packet decided: its reply, the boot memory of 16 numbers, and its effect. -/
def decideBoot (s : State) (t : Taken) (late : Bool) : State :=
  let p := t.pkt
  let f := fnOf s p.fn
  let q : SeqState := { seen := f.bootSeen, retry := f.bootRetry }
  let v : Verdict :=
    if late then { status := stBusyRetry, value := 2 }
    else match seqTest q.seen q.retry p.seq with
      | some v => v
      | none => match formTest p with
        | some st => .refuse st
        | none => judge s { fn := p.fn, boot := true } t.op p
  let q := q.after 16 p.seq v
  v.effect (modFn (bootAnswer s p.fn p v) p.fn fun x => { x with bootSeen := q.seen, bootRetry := q.retry })

/-- The credit that a packet returns when it passes the first three tests (R309). -/
def packetCredit (s : State) (n : Nat) (q : SeqState) (p : Packet) : State :=
  match ctxOf s n with
  | none => s
  | some c =>
    if (seqTest q.seen q.retry p.seq).isNone && (formTest p).isNone && creditOk c p.consumed then rejoin (takeCredit s n p.consumed) n
    else s

/-- Tests 1 to 5, and then the rest, on a state whose credit has been taken; `ok` says that the consumed value was accepted. -/
def judgeRing (s : State) (w : Sender) (op : Nat) (p : Packet) (q : SeqState) (ok : Bool) : Verdict :=
  match seqTest q.seen q.retry p.seq with
  | some v => v
  | none => match formTest p with
    | some st => .refuse st
    | none =>
      let held := ((ctxOf s w.ctx).map fun c => c.held.length).getD 0
      if !ok then .refuse stBadParam
      else if 64 ≤ held then { status := stBusyRetry, value := 1 }
      else judge s w op p

/-- A packet of a context decided. -/
def decideRing (s : State) (n : Nat) (c : Ctx) (t : Taken) (late : Bool) : State :=
  let p := t.pkt
  let w : Sender := { fn := p.fn, ctx := n }
  let q : SeqState := { seen := c.seen, retry := c.retry }
  let s := packetCredit s n q p
  let v : Verdict := if late then { status := stBusyRetry, value := 2 } else judgeRing s w t.op p q (creditOk c p.consumed)
  let q := q.after 4096 p.seq v
  let s := if endsOwn w t.op p v then bootAnswer s p.fn p v else ringAnswer s n p v
  v.effect (modCtx s n fun x => { x with seen := q.seen, retry := q.retry })

/-! ## Taking packets (R294, R296, R298) -/

/-- Whether Hearth firmware decides a packet. -/
def byFirmware (s : State) (boot : Bool) (op : Nat) : Bool :=
  match opInfo op with
  | some x => x.firmware && (!boot || x.boot) && rdy s rdyHearth
  | none => false

/-- Whether a packet's firmware deadline has passed (R298). -/
def isLate (s : State) (boot : Bool) (t : Taken) : Bool := byFirmware s boot t.op && decide (t.sealAt + 600 ≤ s.now)

/-- Packets of a boot window decided in order, up to one that firmware holds. -/
def drainBoot : Nat → State → Nat → State
  | 0, s, _ => s
  | fuel + 1, s, f =>
    match (fnOf s f).bootTaken with
    | [] => s
    | t :: rest =>
      if t.held then s
      else drainBoot fuel (decideBoot (modFn s f fun x => { x with bootTaken := rest }) t (isLate s true t)) f

/-- Packets of a context decided in order, up to one that firmware holds. -/
def drainRing : Nat → State → Nat → State
  | 0, s, _ => s
  | fuel + 1, s, n =>
    match ctxOf s n with
    | none => s
    | some c =>
      match c.taken with
      | [] => s
      | t :: rest =>
        if t.held || c.ending then s
        else drainRing fuel (decideRing (modCtx s n fun x => { x with taken := rest }) n c t (isLate s false t)) n

/-- Whether a function takes packets now (R290, R410). -/
def takesPackets (s : State) (f : Nat) : Bool := rdy s rdyHostLink && decide (f ≤ s.rst.vfEnabled)

/-- A function's count of discarded writes (R288). -/
def countDrop (s : State) (f : Nat) : State := modFn s f fun x => { x with dropCount := satAdd 0x7FFFFFFF x.dropCount 1 }

/-- A sealed packet as the module takes it. -/
def takenFrom (s : State) (op : Nat) (p : Packet) : Taken :=
  { op := op, pkt := p, sealAt := s.now, held := p.choice.fwHeld && byFirmware s p.boot op }

/-- A sealed packet lands in the expected slot: it is taken, and decided when no earlier one of its window waits (R288, R290, R294, R296). -/
def takePacket (op : Nat) (p : Packet) (s : State) : State :=
  if !takesPackets s p.fn then s
  else if p.boot then
    let s := modFn s p.fn fun x => { x with bootTaken := x.bootTaken ++ [takenFrom s op p] }
    drainBoot (fnOf s p.fn).bootTaken.length s p.fn
  else match ctxOf s p.ctx with
    | none => countDrop s p.fn
    | some c =>
      if c.fn ≠ p.fn ∨ c.ending ∨ c.serving then countDrop s p.fn
      else
        let t := takenFrom s op p
        let s := modCtx s p.ctx fun x => { x with slot := (x.slot + 1) % 16, taken := x.taken ++ [t] }
        drainRing (c.taken.length + 1) s p.ctx

/-- Firmware lets go of the first packet that it holds in a boot window, when `go` admits its seal stamp. -/
def releaseBoot (s : State) (f : Nat) (go : Nat → Bool) : State :=
  match (fnOf s f).bootTaken with
  | t :: rest =>
    if t.held && go t.sealAt then
      drainBoot (rest.length + 1) (modFn s f fun x => { x with bootTaken := { t with held := false } :: rest }) f
    else s
  | [] => s

/-- The same for a context's window. -/
def releaseRing (s : State) (n : Nat) (go : Nat → Bool) : State :=
  match ctxOf s n with
  | none => s
  | some c =>
    match c.taken with
    | t :: rest =>
      if t.held && go t.sealAt then
        drainRing (rest.length + 1) (modCtx s n fun x => { x with taken := { t with held := false } :: rest }) n
      else s
    | [] => s

/-- FIRMWARE_DEADLINE (R298): the state machine answers in firmware's place. -/
def execFirmwareDeadline (fn : Nat) (boot : Bool) (ctx : Nat) (s : State) : Host.Outcome State Fault Refusal :=
  let go := fun t => decide (t + 600 ≤ s.now)
  .next (if boot then releaseBoot s fn go else releaseRing s ctx go)

/-- FIRMWARE_DECISION (R298): carried out before the deadline, and discarded from it on. -/
def execFirmwareDecision (fn : Nat) (boot : Bool) (ctx : Nat) (s : State) : Host.Outcome State Fault Refusal :=
  let go := fun t => decide (s.now < t + 600)
  .next (if boot then releaseBoot s fn go else releaseRing s ctx go)

/-- COALESCE_TIMEOUT (R316): the message at the end of a window. -/
def execCoalesceTimeout (ctx : Nat) (s : State) : Host.Outcome State Fault Refusal :=
  .next (match ctxOf s ctx with
    | none => s
    | some c =>
      match c.winStart with
      | some t =>
        if t + c.winTime ≤ s.now ∧ 1 ≤ c.unreported then
          emit (modCtx s ctx fun x => { x with unreported := 0, winStart := none }) (.msix c.fn c.vector)
        else s
      | none => s)

/-! ## The opcodes' meanings -/

/-- A ContextNop packet (R294, R515). -/
def execContextNop (p : Packet) (s : State) : Host.Outcome State Fault Refusal := .next (takePacket 0x0000 p s)
/-- A ContextCreate packet (R294, R515). -/
def execContextCreate (p : Packet) (s : State) : Host.Outcome State Fault Refusal := .next (takePacket 0x0001 p s)
/-- A ContextDestroy packet (R294, R515). -/
def execContextDestroy (p : Packet) (s : State) : Host.Outcome State Fault Refusal := .next (takePacket 0x0002 p s)
/-- A ContextSet packet (R294, R515). -/
def execContextSet (p : Packet) (s : State) : Host.Outcome State Fault Refusal := .next (takePacket 0x0003 p s)
/-- A CommandQuery packet (R294, R515). -/
def execCommandQuery (p : Packet) (s : State) : Host.Outcome State Fault Refusal := .next (takePacket 0x0010 p s)
/-- A CommandCancel packet (R294, R515). -/
def execCommandCancel (p : Packet) (s : State) : Host.Outcome State Fault Refusal := .next (takePacket 0x0011 p s)
/-- A QueueResume packet (R294, R515). -/
def execQueueResume (p : Packet) (s : State) : Host.Outcome State Fault Refusal := .next (takePacket 0x0012 p s)
/-- A QueueFlush packet (R294, R515). -/
def execQueueFlush (p : Packet) (s : State) : Host.Outcome State Fault Refusal := .next (takePacket 0x0013 p s)
/-- A FlagWrite packet (R294, R515). -/
def execFlagWrite (p : Packet) (s : State) : Host.Outcome State Fault Refusal := .next (takePacket 0x0014 p s)
/-- A FlagRead packet (R294, R515). -/
def execFlagRead (p : Packet) (s : State) : Host.Outcome State Fault Refusal := .next (takePacket 0x0015 p s)
/-- A TensorCreate packet (R294, R515). -/
def execTensorCreate (p : Packet) (s : State) : Host.Outcome State Fault Refusal := .next (takePacket 0x0100 p s)
/-- A TensorDestroy packet (R294, R515). -/
def execTensorDestroy (p : Packet) (s : State) : Host.Outcome State Fault Refusal := .next (takePacket 0x0101 p s)
/-- A TensorGrant packet (R294, R515). -/
def execTensorGrant (p : Packet) (s : State) : Host.Outcome State Fault Refusal := .next (takePacket 0x0102 p s)
/-- A TensorRevoke packet (R294, R515). -/
def execTensorRevoke (p : Packet) (s : State) : Host.Outcome State Fault Refusal := .next (takePacket 0x0103 p s)
/-- A TensorRead packet (R294, R515). -/
def execTensorRead (p : Packet) (s : State) : Host.Outcome State Fault Refusal := .next (takePacket 0x0104 p s)
/-- A TensorWrite packet (R294, R515). -/
def execTensorWrite (p : Packet) (s : State) : Host.Outcome State Fault Refusal := .next (takePacket 0x0105 p s)
/-- A TensorCopy packet (R294, R515). -/
def execTensorCopy (p : Packet) (s : State) : Host.Outcome State Fault Refusal := .next (takePacket 0x0106 p s)
/-- A TensorFill packet (R294, R515). -/
def execTensorFill (p : Packet) (s : State) : Host.Outcome State Fault Refusal := .next (takePacket 0x0107 p s)
/-- A TensorGather packet (R294, R515). -/
def execTensorGather (p : Packet) (s : State) : Host.Outcome State Fault Refusal := .next (takePacket 0x0108 p s)
/-- A TensorInfo packet (R294, R515). -/
def execTensorInfo (p : Packet) (s : State) : Host.Outcome State Fault Refusal := .next (takePacket 0x0109 p s)
/-- A ShardSetCreate packet (R294, R515). -/
def execShardSetCreate (p : Packet) (s : State) : Host.Outcome State Fault Refusal := .next (takePacket 0x0110 p s)
/-- A ShardSetDestroy packet (R294, R515). -/
def execShardSetDestroy (p : Packet) (s : State) : Host.Outcome State Fault Refusal := .next (takePacket 0x0111 p s)
/-- A ProgramLaunch packet (R294, R515). -/
def execProgramLaunch (p : Packet) (s : State) : Host.Outcome State Fault Refusal := .next (takePacket 0x0200 p s)
/-- A InbankLaunch packet (R294, R515). -/
def execInbankLaunch (p : Packet) (s : State) : Host.Outcome State Fault Refusal := .next (takePacket 0x0201 p s)
/-- A SlaneResume packet (R294, R515). -/
def execSlaneResume (p : Packet) (s : State) : Host.Outcome State Fault Refusal := .next (takePacket 0x0202 p s)
/-- A Generate packet (R294, R515). -/
def execGenerate (p : Packet) (s : State) : Host.Outcome State Fault Refusal := .next (takePacket 0x0300 p s)
/-- A RequestCancel packet (R294, R515). -/
def execRequestCancel (p : Packet) (s : State) : Host.Outcome State Fault Refusal := .next (takePacket 0x0301 p s)
/-- A ModelRegister packet (R294, R515). -/
def execModelRegister (p : Packet) (s : State) : Host.Outcome State Fault Refusal := .next (takePacket 0x0302 p s)
/-- A ModelRetire packet (R294, R515). -/
def execModelRetire (p : Packet) (s : State) : Host.Outcome State Fault Refusal := .next (takePacket 0x0303 p s)
/-- A ShavingLoad packet (R294, R515). -/
def execShavingLoad (p : Packet) (s : State) : Host.Outcome State Fault Refusal := .next (takePacket 0x0304 p s)
/-- A ShavingReplace packet (R294, R515). -/
def execShavingReplace (p : Packet) (s : State) : Host.Outcome State Fault Refusal := .next (takePacket 0x0305 p s)
/-- A ShavingRetire packet (R294, R515). -/
def execShavingRetire (p : Packet) (s : State) : Host.Outcome State Fault Refusal := .next (takePacket 0x0306 p s)
/-- A ServingConfigure packet (R294, R515). -/
def execServingConfigure (p : Packet) (s : State) : Host.Outcome State Fault Refusal := .next (takePacket 0x0307 p s)
/-- A SharingGroupSet packet (R294, R515). -/
def execSharingGroupSet (p : Packet) (s : State) : Host.Outcome State Fault Refusal := .next (takePacket 0x0308 p s)
/-- A ServingReplyEnable packet (R294, R515). -/
def execServingReplyEnable (p : Packet) (s : State) : Host.Outcome State Fault Refusal := .next (takePacket 0x0309 p s)
/-- A RequestQuery packet (R294, R515). -/
def execRequestQuery (p : Packet) (s : State) : Host.Outcome State Fault Refusal := .next (takePacket 0x030A p s)
/-- A FlueSend packet (R294, R515). -/
def execFlueSend (p : Packet) (s : State) : Host.Outcome State Fault Refusal := .next (takePacket 0x0400 p s)
/-- A FlueReceive packet (R294, R515). -/
def execFlueReceive (p : Packet) (s : State) : Host.Outcome State Fault Refusal := .next (takePacket 0x0401 p s)
/-- A FlueFlagSet packet (R294, R515). -/
def execFlueFlagSet (p : Packet) (s : State) : Host.Outcome State Fault Refusal := .next (takePacket 0x0402 p s)
/-- A FlueReduce packet (R294, R515). -/
def execFlueReduce (p : Packet) (s : State) : Host.Outcome State Fault Refusal := .next (takePacket 0x0403 p s)
/-- A FluePortStatus packet (R294, R515). -/
def execFluePortStatus (p : Packet) (s : State) : Host.Outcome State Fault Refusal := .next (takePacket 0x0404 p s)
/-- A ClampConfigure packet (R294, R515). -/
def execClampConfigure (p : Packet) (s : State) : Host.Outcome State Fault Refusal := .next (takePacket 0x0500 p s)
/-- A ClampStart packet (R294, R515). -/
def execClampStart (p : Packet) (s : State) : Host.Outcome State Fault Refusal := .next (takePacket 0x0501 p s)
/-- A ClampStop packet (R294, R515). -/
def execClampStop (p : Packet) (s : State) : Host.Outcome State Fault Refusal := .next (takePacket 0x0502 p s)
/-- A ClampDelete packet (R294, R515). -/
def execClampDelete (p : Packet) (s : State) : Host.Outcome State Fault Refusal := .next (takePacket 0x0503 p s)
/-- A ClampAssign packet (R294, R515). -/
def execClampAssign (p : Packet) (s : State) : Host.Outcome State Fault Refusal := .next (takePacket 0x0504 p s)
/-- A ClampQuery packet (R294, R515). -/
def execClampQuery (p : Packet) (s : State) : Host.Outcome State Fault Refusal := .next (takePacket 0x0505 p s)
/-- A TelemetryRead packet (R294, R515). -/
def execTelemetryRead (p : Packet) (s : State) : Host.Outcome State Fault Refusal := .next (takePacket 0x0600 p s)
/-- A CounterSelect packet (R294, R515). -/
def execCounterSelect (p : Packet) (s : State) : Host.Outcome State Fault Refusal := .next (takePacket 0x0601 p s)
/-- A EventRoute packet (R294, R515). -/
def execEventRoute (p : Packet) (s : State) : Host.Outcome State Fault Refusal := .next (takePacket 0x0602 p s)
/-- A PowerCapSet packet (R294, R515). -/
def execPowerCapSet (p : Packet) (s : State) : Host.Outcome State Fault Refusal := .next (takePacket 0x0603 p s)
/-- A ScrubSet packet (R294, R515). -/
def execScrubSet (p : Packet) (s : State) : Host.Outcome State Fault Refusal := .next (takePacket 0x0604 p s)
/-- A FwStage packet (R294, R515). -/
def execFwStage (p : Packet) (s : State) : Host.Outcome State Fault Refusal := .next (takePacket 0x0700 p s)
/-- A FwActivate packet (R294, R515). -/
def execFwActivate (p : Packet) (s : State) : Host.Outcome State Fault Refusal := .next (takePacket 0x0701 p s)
/-- A KeyRevoke packet (R294, R515). -/
def execKeyRevoke (p : Packet) (s : State) : Host.Outcome State Fault Refusal := .next (takePacket 0x0702 p s)
/-- A DebugUnlock packet (R294, R515). -/
def execDebugUnlock (p : Packet) (s : State) : Host.Outcome State Fault Refusal := .next (takePacket 0x0703 p s)
/-- A DebugLock packet (R294, R515). -/
def execDebugLock (p : Packet) (s : State) : Host.Outcome State Fault Refusal := .next (takePacket 0x0704 p s)
/-- A RepairCommit packet (R294, R515). -/
def execRepairCommit (p : Packet) (s : State) : Host.Outcome State Fault Refusal := .next (takePacket 0x0705 p s)
/-- A DbgBreakSet packet (R294, R515). -/
def execDbgBreakSet (p : Packet) (s : State) : Host.Outcome State Fault Refusal := .next (takePacket 0x7F00 p s)
/-- A DbgBreakClear packet (R294, R515). -/
def execDbgBreakClear (p : Packet) (s : State) : Host.Outcome State Fault Refusal := .next (takePacket 0x7F01 p s)
/-- A DbgTileControl packet (R294, R515). -/
def execDbgTileControl (p : Packet) (s : State) : Host.Outcome State Fault Refusal := .next (takePacket 0x7F02 p s)
/-- A DbgRead packet (R294, R515). -/
def execDbgRead (p : Packet) (s : State) : Host.Outcome State Fault Refusal := .next (takePacket 0x7F03 p s)
/-- A DbgBankView packet (R294, R515). -/
def execDbgBankView (p : Packet) (s : State) : Host.Outcome State Fault Refusal := .next (takePacket 0x7F04 p s)
/-- A DbgBankWrite packet (R294, R515). -/
def execDbgBankWrite (p : Packet) (s : State) : Host.Outcome State Fault Refusal := .next (takePacket 0x7F05 p s)

end Sys2Proof.Machine
end

