-- ==== Sys2Proof/Machine/Mmio.lean ====
section
/-!
DEFINITION. What the host's writes do (R288-R294, R482-R484, R490): registers of BAR0, the boot window, the submission windows of BAR2; and the
rows of single registers.
-/
namespace Sys2Proof.Machine

open Sys2Proof

/-- Whether a function's accesses reach the module: its clocks run, and the function exists (R283, R391, R410). -/
def reachable (s : State) (f : Nat) : Bool := !s.rst.perst && s.rst.rootLocked && decide (f ≤ s.rst.vfEnabled)

/-! ## The event controller's registers (R466-R469) -/

/-- A claim (R466): the source is in service, and its level on the stack. Nothing eligible claims nothing. -/
def claimRead (s : State) (t : Nat) (grace : Bool) : State × Nat :=
  let n := claimSource s t grace
  if n = 0 then (s, 0)
  else
    let level := (srcOf s n).level
    let s := modSrc s n fun x => { x with pending := false, inService := true, grace := false }
    let s := modTgt s t fun x => { x with stack := (n, level) :: x.stack }
    (reassess s t, n)

/-- Whether a function reaches a target's registers: its own, or any host target from the physical function (R490). -/
def reachesTarget (f t : Nat) : Bool := decide (4 ≤ t ∧ t ≤ 67) && (f == 0 || t == 4 + f)

/-- EVT_CLAIM_READ: what the read returns is sent back. -/
def execEvtClaimRead (fn target : Nat) (grace : Bool) (s : State) : Host.Outcome State Fault Refusal :=
  .next (if reachable s fn && reachesTarget fn target then
      let r := claimRead s target grace
      emit r.1 (.mmio fn r.2)
    else s)

/-- A complete (R467): the top of the stack leaves service; one message goes out when the line is asserted afterwards (R465). -/
def complete (s : State) (t n : Nat) : State :=
  match (tgtOf s t).stack with
  | (top, _) :: rest =>
    if top = n then
      let s := modSrc (modTgt s t fun x => { x with stack := rest }) n fun x => { x with inService := false }
      let other := (srcOf s n).target
      let s := if other = t then s else reassess s other
      let line := hasEligible s t
      let s := modTgt s t fun x => { x with line := line }
      if line ∧ 4 ≤ t then emit s (.msix (t - 4) 0) else s
    else modTgt s t fun x => { x with badComplete := true }
  | [] => modTgt s t fun x => { x with badComplete := true }

/-- EVT_CLAIM_WRITE. -/
def execEvtClaimWrite (fn target source : Nat) (s : State) : Host.Outcome State Fault Refusal :=
  .next (if reachable s fn && reachesTarget fn target then complete s target (source % 1024) else s)

/-- A threshold written: at once (R468). -/
def setThreshold (s : State) (t v : Nat) : State := reassess (modTgt s t fun x => { x with threshold := v % 16 }) t

/-- EVT_THRESHOLD_WRITE. -/
def execEvtThresholdWrite (fn target value : Nat) (s : State) : Host.Outcome State Fault Refusal :=
  .next (if reachable s fn && reachesTarget fn target then setThreshold s target value else s)

/-- A mask written: it takes effect later (R469). -/
def writeMask (s : State) (n : Nat) (m : Bool) : State := modSrc s n fun x => { x with maskNext := some m }

/-- EVT_MASK_WRITE: from the physical function alone. -/
def execEvtMaskWrite (fn source : Nat) (mask : Bool) (s : State) : Host.Outcome State Fault Refusal :=
  .next (if reachable s fn ∧ fn = 0 then writeMask s source mask else s)

/-- MASK_EFFECT (R469): a source that was a candidate keeps one delivery. -/
def execMaskEffect (source : Nat) (s : State) : Host.Outcome State Fault Refusal :=
  let x := srcOf s source
  .next (match x.maskNext with
    | none => s
    | some m =>
      let was := eligible (tgtOf s x.target) x.target x
      reassess (modSrc s source fun x => { x with mask := m, maskNext := none, grace := m && (was || x.grace) }) x.target)

/-! ## Writes to registers (R482, R483) -/

/-- RDY_RESET written whole (R401, R404): a warm module reset is the wider one. -/
def writeReset (s : State) (v : Nat) : State :=
  if bits v 31 16 ≠ resetKey then s
  else if bit v 0 then warm s false
  else ((List.range 8).filter fun k => bit v (8 + k)).foldl askClampReset s

/-- Smoulder enabled unit by unit; a unit whose bit is cleared wakes (R434). -/
def writeSmoulder (s : State) (v : Nat) : State :=
  let en := BitVec.ofNat 32 v
  let s := wakeUnits s (~~~en)
  { s with pwr := { s.pwr with smoulderEn := en } }

/-- A write to a register. `lo` and `hi` say which halves it covers; a virtual function's write to what the physical function alone writes is
discarded (R490). -/
def writeReg (s : State) (f : Nat) (r : Reg) (v : Nat) (lo hi : Bool) : State :=
  match r with
  | .reset => if lo then writeReset s v else s
  | .cause =>
    if lo then { s with rst := { s.rst with causeRequested := bit v 0, causeWatchdog := bit v 1, warmCount := bits v 15 8 } } else s
  | .sealMiss g => if lo ∧ bit v 31 then modFn s g fun x => { x with sealMiss := 0 } else s
  | .dropCount g => if lo ∧ bit v 31 then modFn s g fun x => { x with dropCount := 0 } else s
  | .src n => if lo ∧ f = 0 then writeMask s n (bit v 11) else s
  | .threshold t => if lo then setThreshold s t v else s
  | .claim t => if lo then complete s t (v % 1024) else s
  | .tgtStatus t => if lo ∧ bit v 9 then modTgt s t fun x => { x with badComplete := false } else s
  | .tripLog => if lo ∧ bit v 5 then { s with pwr := { s.pwr with tripped := false } } else s
  | .smoulder => if lo then writeSmoulder s (v % 2 ^ 32) else s
  | .moduleId => if lo then writeModuleId s v else s
  | .portStatus p => if hi then modPort s p fun x => { x with retrains := bits v 47 32 } else s
  | .overrun =>
    let m := BitVec.ofNat 64 ((if lo then v % 2 ^ 32 else 0) + (if hi then v / 2 ^ 32 * 2 ^ 32 else 0))
    { s with rst := { s.rst with cdcOverrun := s.rst.cdcOverrun &&& ~~~m } }
  | _ => s

/-- Where a function's boot window begins (R290). -/
def bootBase (f : Nat) : Nat := if f = 0 then 0x20000 else 0x2000

/-- The seal of a slot (R293). -/
def sealOf (slot : List Byte) : Byte :=
  (slice slot 0 64 ++ slice slot 64 (min (u16 slot 6) 184)).foldl (· ^^^ ·) 0x5A

/-- Whether a slot's trailer agrees with its header (R293). -/
def trailerAgrees (slot : List Byte) : Bool := slice slot 248 7 == slice slot 8 7 && at? slot 255 0 == sealOf slot

/-- The packet that a slot holds (R291, R292). -/
def packetOf (f : Nat) (boot : Bool) (ctx : Nat) (slot : List Byte) (choice : Choice) : Packet :=
  { fn := f, boot := boot, ctx := ctx, major := u8 slot 2, headerLen := u8 slot 3, sync := bit (u16 slot 4) 0, notify := bit (u16 slot 4) 1
    paramLen := u16 slot 6, seq := u64 slot 8, cookie := u32 slot 16, consumed := u32 slot 20, queue := u8 slot 24 % 16, dep := u64 slot 32
    params := slice slot 64 (min (u16 slot 6) 184), choice := choice }

/-- One more trailer that did not agree (R294, R487). -/
def countMiss (s : State) (f : Nat) : State := modFn s f fun x => { x with sealMiss := satAdd 0x7FFFFFFF x.sealMiss 1 }

/-- A slot whose trailer byte has been written: taken when sealed, a miss otherwise (R294). -/
def judgeSlot (s : State) (f : Nat) (boot : Bool) (ctx : Nat) (slot : List Byte) (choice : Choice) : State :=
  if trailerAgrees slot then takePacket (u16 slot 0) (packetOf f boot ctx slot choice) s else countMiss s f

/-- A write into a boot window (R290, R483): its slot is evaluated by an access that covers the whole trailer. -/
def writeBoot (s : State) (f o : Nat) (data : List Byte) (choice : Choice) : State :=
  if !takesPackets s f then s
  else
    let m := wrBytes (fnOf s f).bootWindow o data
    let s := modFn s f fun x => { x with bootWindow := m }
    if o = 0xF8 ∧ data.length = 8 then judgeSlot s f true 0 (rdBytes m 0 256) choice else s

/-- A write to BAR0 (R289, R482). -/
def bar0Write (s : State) (f off : Nat) (data : List Byte) (choice : Choice) : State :=
  if !reachable s f ∨ !aligned off data.length then s
  else if bootBase f ≤ off ∧ off < bootBase f + 256 then writeBoot s f (off - bootBase f) data choice
  else match regAt f (off / 8 * 8) with
    | none => s
    | some r =>
      let hi := decide (off % 8 = 4)
      writeReg s f r (leNat data * (if hi then 2 ^ 32 else 1)) (!hi) (hi || data.length == 8)

/-! ## Submission windows (R288, R294) -/

/-- The pieces of a write within its window, one for each slot that it touches: slot, offset in it, bytes. -/
def slotPieces : Nat → Nat → List Byte → List (Nat × Nat × List Byte)
  | 0, _, _ => []
  | fuel + 1, o, d =>
    if d.isEmpty ∨ 4096 ≤ o then []
    else
      let n := 256 - o % 256
      (o / 256, o % 256, d.take n) :: slotPieces fuel (o + n) (d.drop n)

/-- A context that takes writes into its window from a function. -/
def windowOpen (s : State) (f n : Nat) : Option Ctx :=
  match ctxOf s n with
  | some c => if c.fn ≠ f ∨ c.ending ∨ c.serving then none else some c
  | none => none

/-- One piece stored, and its slot evaluated when it is the expected one and the piece reaches its last byte. -/
def writePiece (f n : Nat) (choice : Choice) (s : State) (x : Nat × Nat × List Byte) : State :=
  match windowOpen s f n with
  | none => s
  | some c =>
    let m := wrBytes c.window (256 * x.1 + x.2.1) x.2.2
    let s := modCtx s n fun c => { c with window := m }
    if x.1 = c.slot ∧ x.2.1 + x.2.2.length = 256 then judgeSlot s f false n (rdBytes m (256 * x.1) 256) choice else s

/-- A write to BAR2. -/
def bar2Write (s : State) (f off : Nat) (data : List Byte) (choice : Choice) : State :=
  if !takesPackets s f ∨ 4194304 ≤ off ∨ data.isEmpty then s
  else if (windowOpen s f (off / 4096)).isNone then countDrop s f
  else (slotPieces 17 (off % 4096) data).foldl (writePiece f (off / 4096) choice) s

/-- REGISTER_WRITE (R482): a write to BAR0 or BAR2. -/
def execRegisterWrite (fn bar offset : Nat) (data : List Byte) (choice : Choice) (s : State) : Host.Outcome State Fault Refusal :=
  .next (if bar = 2 then bar2Write s fn offset data choice else bar0Write s fn offset data choice)

/-! ## Rows of single registers -/

/-- Whether a function reaches the Nirra registers of an owner: its own, or from the physical function, whose block holds its own alone (R490). -/
def ownsNir (f owner : Nat) : Bool := f == owner

/-- NIR_SEAL_MISS_CLEAR (R487). -/
def execNirSealMissClear (fn owner : Nat) (s : State) : Host.Outcome State Fault Refusal :=
  .next (if reachable s fn && ownsNir fn owner then modFn s owner fun x => { x with sealMiss := 0 } else s)

/-- NIR_DROP_COUNT_CLEAR (R487). -/
def execNirDropCountClear (fn owner : Nat) (s : State) : Host.Outcome State Fault Refusal :=
  .next (if reachable s fn && ownsNir fn owner then modFn s owner fun x => { x with dropCount := 0 } else s)

/-- RW1C_CLEAR (R483). -/
def execRw1cClear (fn offset : Nat) (data : List Byte) (s : State) : Host.Outcome State Fault Refusal :=
  let rw1c := match regAt fn (offset / 8 * 8) with
    | some (.tgtStatus _) => true
    | some .tripLog => true
    | some .overrun => true
    | _ => false
  .next (if rw1c then bar0Write s fn offset data {} else s)

/-- TIME_READ_LATCH (R399): the low half is returned, and the high half kept for the function's next read of it. -/
def execTimeReadLatch (fn : Nat) (s : State) : Host.Outcome State Fault Refusal :=
  .next (if reachable s fn ∧ fn = 0 then
      emit (modFn s fn fun x => { x with timeLatch := some (BitVec.ofNat 32 (s.now / 2 ^ 32)) }) (.mmio fn (s.now % 2 ^ 32))
    else s)

/-- MODULE_ID_LOCK (R370). -/
def execModuleIdLock (fn id : Nat) (s : State) : Host.Outcome State Fault Refusal :=
  .next (if reachable s fn ∧ fn = 0 then writeModuleId s (id % 65536 + 65536) else s)

/-- PWR_SMOULDER_WRITE (R434, R435). -/
def execPwrSmoulderWrite (fn value : Nat) (s : State) : Host.Outcome State Fault Refusal :=
  .next (if reachable s fn ∧ fn = 0 then writeSmoulder s value else s)

/-- A register whose storage failed (R350): what the host alone wrote there takes its reset value, the rest is written again from the
module's state. -/
def rewriteReg (s : State) : Option Reg → State
  | some (.threshold t) => setThreshold s t 0
  | some (.src n) =>
    let s := modSrc s n fun x => { x with mask := false, maskNext := none, grace := false }
    reassess s (srcOf s n).target
  | some .smoulder => { s with pwr := { s.pwr with smoulderEn := 0xFFFFFFFF } }
  | _ => s

/-- POISONED_COMPLETION (R285, R350). -/
def execPoisonedCompletion (fn offset size : Nat) (s : State) : Host.Outcome State Fault Refusal :=
  .next (if reachable s fn && aligned offset size then
      internalEvent (rewriteReg (emit s (.poisoned fn)) (regAt fn (offset / 8 * 8))) none 6
    else s)

end Sys2Proof.Machine
end

