-- ==== Sys2Proof/Machine/Thermal.lean ====
section
/-!
DEFINITION. Power and thermal (14_power_and_thermal): sensors, units out of service, Quench, the regulator, the two limiters, supply sag and
Smoulder.
-/
namespace Sys2Proof.Machine

open Sys2Proof

/-! ## Restarts -/

/-- Fundamental reset followed by start-up, when nothing holds the module (R391, R392, R400, R429). The nonce is free. -/
def restart (s : State) : State :=
  let f := fundamental s
  if f.rst.perst ∨ f.rst.refHeld ∨ !f.rst.refGood ∨ f.pwr.quench then f
  else release { f with freeCount := f.freeCount + 32 } (freeBytes f.freeCount 32)

/-- VCORE_COLLAPSE (R433). -/
def execVcoreCollapse (s : State) : Host.Outcome State Fault Refusal := .next (restart s)

/-- VSTBY_LOW (R496). -/
def execVstbyLow (s : State) : Host.Outcome State Fault Refusal := .next (restart s)

/-- POWER_CYCLE (R429, R435): Quench is released and the trip log is clear. -/
def execPowerCycle (s : State) : Host.Outcome State Fault Refusal :=
  .next (restart { s with pwr := { s.pwr with tripped := false, trips := 0, tripSensor := 0, quench := false } })

/-! ## Sensors (R417-R419) -/

/-- A reading that is invalid: the last valid one stays. -/
def badReading (x : Sensor) : Sensor :=
  let n := min (x.badRun + 1) 3
  { x with badRun := n, goodRun := 0, valid := x.valid && decide (n < 3), blind := x.blind || n == 3 }

/-- A sensor after one reading. Readings at or below 90 °C are counted for a unit that had no readings. -/
def takeReading (x : Sensor) : Reading → Sensor
  | .value v =>
    if -320 ≤ v ∧ v ≤ 1200 then
      { x with temp := v, valid := true, badRun := 0, goodRun := if v ≤ 720 then min (x.goodRun + 1) 3 else 0 }
    else badReading x
  | .failed => badReading x

/-- The reading at which a unit goes out of service: 110 °C for a die's cores, 105 °C for a stack. -/
def hotLimit (n : Nat) : Int := if n < 4 then 880 else 840

/-- Whether a unit goes out of service now. -/
def goesOut (n : Nat) (x : Sensor) : Bool := !x.out && (x.badRun == 3 || (x.badRun == 0 && x.valid && decide (hotLimit n ≤ x.temp)))

/-- Whether a unit returns now. -/
def comesBack (x : Sensor) : Bool := x.out && x.badRun == 0 && decide (x.temp ≤ 720) && (!x.blind || x.goodRun == 3)

/-- The throttle removal of a Kiln die (R418). -/
def throttleOf (n : Nat) (x : Sensor) : Nat := if n < 4 ∧ 760 < x.temp then min 75 (x.temp - 760).toNat else 0

/-- A sensor's part of a sample: its reading, and what hardware sets from it. -/
def sampled (n : Nat) (x : Sensor) (r : Reading) : Sensor :=
  let y := takeReading x r
  if y.badRun = 0 then { y with throttle := throttleOf n y } else y

/-- All sensors after a sample. Sensors beyond the readings given keep what they hold. -/
def sampleAll (l : List Sensor) (rs : List Reading) : List Sensor :=
  l.zipIdx.map fun (x, n) => match rs[n]? with | some r => sampled n x r | none => x

/-! ## Out of service (R419-R421) -/

/-- The readiness bit of a sensor's unit. -/
def unitBit (n : Nat) : Nat := if n < 4 then rdyKiln n else rdyExrad (n - 4)

/-- Whether the start-up of a sensor's unit succeeded. -/
def unitStarted (s : State) (n : Nat) : Bool :=
  if n < 4 then at? s.rst.kiln n .idle == .ok else at? s.rst.training (n - 4) .idle == .ok

/-- Tiles put at the front of the deques of the cores that serve a command on its clamp's ready dies (R158, R420). -/
def redeal (s : State) (h : Handle) (tiles : List Nat) : State :=
  let all := clampCores s (clampNum s h.ctx)
  let mine := heldCores s all h.ctx
  let cores := if mine.isEmpty then all else mine
  let share := (cores.zip (runsFrom 0 (spread tiles.length (cores.map fun _ => 1)))).flatMap fun (c, is) =>
    is.map fun i => (c, at? tiles i 0)
  { s with kiln := { s.kiln with deques := share.foldr (fun p l => pushFront l h (p.1 / 64) (p.1 % 64) p.2) s.kiln.deques } }

/-- The cores of a die stop: tiles are killed, and with those that wait on the die go to other dies. A tile in tile commit runs to its
end (R7). -/
def dropDie (s : State) (d : Nat) : State :=
  let s := (s.kiln.tiles.filter fun t => t.die == d && !t.committing).foldl (killTile true) s
  let moved := s.kiln.deques.filter fun q => q.die == d
  let s := { s with kiln := { s.kiln with
    deques := s.kiln.deques.filter fun q => q.die != d
    cores := s.kiln.cores.filter fun e => e.1 / 64 != d || (tileOn s d (e.1 % 64)).isSome } }
  ((moved.map (·.cmd)).eraseDups).foldl (fun s h => redeal s h ((moved.filter fun q => q.cmd == h).flatMap (·.tiles))) s

/-- The channels of a stack stop their parts and return to memory mode. -/
def dropStack (s : State) (st : Nat) : State :=
  (List.range 32).foldl (fun s ch =>
    let s := stopChan s (chanNum st ch)
    if (chanOf s st ch).mode = .bankView then leaveBankView s st ch else requestMemory s st ch) s

/-- Commands in run that have lost what they work on end THERMAL; those of a serving context are killed. -/
def endHot (s : State) : State :=
  settled ((s.cmds.filter fun c => c.phase == .run && (touchesHot s c || lacksDie s c)).foldl (fun s c =>
    if isServing s c then killCmd s c.handle else endCmd s c.handle stThermal) s)

/-- A unit out of service. -/
def takeOut (s : State) (n : Nat) : State :=
  let x := at? s.pwr.sensors n {}
  let s := { s with pwr := { s.pwr with sensors := s.pwr.sensors.modify n fun x => { x with out := true } } }
  let s := readyOff s (unitBit n)
  let s := if n < 4 then dropDie s n else dropStack s (n - 4)
  endHot (raise s (32 + n) 0x02 (natLE 1 n ++ natLE 2 (unsigned 12 x.temp) ++ [1]))

/-- A unit back in service; an event that waited for its clock is delivered (R396). -/
def giveBack (s : State) (n : Nat) : State :=
  let s := { s with
    pwr := { s.pwr with sensors := s.pwr.sensors.modify n fun x => { x with out := false, blind := false } }
    rst := { s.rst with wakePending := s.rst.wakePending.filter fun c => !(c == 24 + n || c == 47 + n) } }
  if unitStarted s n then readyOn s (unitBit n) else s

/-- The service state of one sensor's unit brought up to date. -/
def serveSensor (s : State) (n : Nat) : State :=
  let x := at? s.pwr.sensors n {}
  if goesOut n x then takeOut s n else if comesBack x then giveBack s n else s

/-! ## Quench (R428-R430) -/

/-- The first sensor with a valid reading of 115 °C or above. -/
def quenchSensor (rs : List Reading) : Option Nat :=
  ((rs.take 16).zipIdx.find? fun e => match e.1 with | .value v => decide (920 ≤ v ∧ v ≤ 1200) | .failed => false).map (·.2)

/-- Quench: everything is lost but the log, the pins and the monitor's own readings. -/
def quenchNow (s : State) (n : Nat) : State :=
  let f := fundamental s
  { f with pwr := { f.pwr with
      sensors := s.pwr.sensors, quench := true, tripped := true, tripSensor := n, trips := satAdd 255 s.pwr.trips 1 } }

/-- A sample while Quench is latched: it releases only with the strap set and every sensor cool. -/
def quenchedSample (s : State) : State :=
  if s.rst.thermCompat ∧ allCool s then restart { s with pwr := { s.pwr with quench := false } } else s

/-- THERMAL_SAMPLE. -/
def execThermalSample (readings : List Reading) (s : State) : Host.Outcome State Fault Refusal :=
  let s := { s with pwr := { s.pwr with sensors := sampleAll s.pwr.sensors readings } }
  .next (if s.pwr.quench then quenchedSample s
    else match quenchSensor readings with
      | some n => quenchNow s n
      | none => if s.rst.rootLocked then settled ((List.range 16).foldl serveSensor s) else s)

/-! ## Supply sag (R431, R432) -/

/-- A non-volatile write in progress is stopped: a command's ends NV_HELD, the firmware's own is deferred. -/
def stopNv (s : State) : State :=
  match s.sec.nv with
  | none => s
  | some w =>
    let t := { s with sec := { s.sec with nv := none, bootPtr := cutNv s } }
    match w with
    | .command h => finish t h stNvHeld
    | .svnBurn => { t with sec := { t.sec with svnDeferred := true } }
    | .retiredList l => { t with store := { t.store with flashDeferred := l ++ t.store.flashDeferred } }

/-- The hold begins: writes in progress and writes that wait. A warm reset that waited for the write goes on (R402). -/
def holdNv (s : State) : State :=
  let s := stopNv s
  let s := (s.cmds.filter fun c => c.phase == .run && isNv c.work).foldl (fun s c => finish s c.handle stNvHeld) s
  match s.rst.warmWait with
  | some (w, _) => warmNow s w
  | none => s

/-- The bits of the causes that stand. -/
def sagBits (l : List SagCause) : Nat := b2n (l.contains .vcore) + 2 * b2n (l.contains .vaux) + 4 * b2n (l.contains .avsFault)

/-- A sag condition: the first one begins the sag, and every one restarts the hold. -/
def beginSag (s : State) (cause : SagCause) (vcore vaux : List Byte) : State :=
  let causes := if s.pwr.sagCauses.contains cause then s.pwr.sagCauses else s.pwr.sagCauses ++ [cause]
  let first := !s.pwr.sag
  let s := { s with pwr := { s.pwr with sag := true, nvHold := true, recovery := none, sagCauses := causes, sagAt := s.now } }
  holdNv (if first then raise s 50 0x05 (natLE 1 (sagBits causes) ++ vcore ++ vaux) else s)

/-- The setpoint that the sag rule measures against (R412). -/
def sagSetpoint (s : State) : Nat :=
  match s.pwr.stepFrom with
  | some v => min v s.pwr.setpoint
  | none => s.pwr.setpoint

/-- Whether a condition of R431 holds. -/
def sagHolds (s : State) (vcore vaux : Nat) : SagCause → Bool
  | .vcore => decide (vcore * 100 < 92 * sagSetpoint s)
  | .vaux => decide (vaux < 1710)
  | .avsFault => s.pwr.avsFault

/-- SUPPLY_SAG (R431). -/
def execSupplySag (cause : SagCause) (vcore vaux : Nat) (s : State) : Host.Outcome State Fault Refusal :=
  .next (if s.rst.rootLocked ∧ sagHolds s vcore vaux cause then beginSag s cause (natLE 2 vcore) (natLE 2 vaux) else s)

/-- STRETCH_END (R431): no condition has held for 100 µs, and recovery counts from when the last one ended. The hardware alone knows how
long a voltage stayed low; no happening of a condition that the model saw may lie within the 100 µs. -/
def execStretchEnd (s : State) : Host.Outcome State Fault Refusal :=
  .next (if s.pwr.sag ∧ !s.pwr.avsFault ∧ s.pwr.sagAt + 10000 ≤ s.now then
      { s with pwr := { s.pwr with sag := false, sagCauses := [], recovery := some (s.now - 10000) } }
    else s)

/-- NV_HOLD_END (R431, R432): deferred writes of the firmware start. -/
def execNvHoldEnd (s : State) : Host.Outcome State Fault Refusal :=
  .next (match s.pwr.recovery with
    | some r =>
      if s.pwr.nvHold ∧ !s.pwr.sag ∧ r + 1000000 ≤ s.now then
        nextNv { s with pwr := { s.pwr with nvHold := false, recovery := none } }
      else s
    | none => s)

/-! ## The regulator and the auxiliary rails (R411-R415) -/

/-- One AVSBus transaction without a good response; the third in a row is a fault. -/
def avsBadOne (s : State) (zone : Nat) : State :=
  let n := min (s.pwr.avsBad + 1) 3
  let sets := n == 3 && !s.pwr.avsFault
  let s := { s with pwr := { s.pwr with
    avsBad := n, avsGood := 0, avsFault := s.pwr.avsFault || n == 3, zoneOver := s.pwr.zoneOver.set zone false } }
  if sets then
    let s := raise s 51 0x06 (natLE 1 zone ++ [1])
    beginSag { s with freeCount := s.freeCount + 4 } .avsFault (freeBytes s.freeCount 2) (freeBytes (s.freeCount + 2) 2)
  else s

/-- One good transaction; the third in a row clears the fault. -/
def avsGoodOne (s : State) (zone amps : Nat) : State :=
  let n := min (s.pwr.avsGood + 1) 3
  { s with pwr := { s.pwr with
      avsBad := 0, avsGood := n, avsFault := s.pwr.avsFault && n != 3, sagAt := if s.pwr.avsFault then s.now else s.pwr.sagAt
      zoneOver := s.pwr.zoneOver.set zone (decide (350 < amps)) } }

/-- One zone of a sample. -/
def avsZone (s : State) (e : Option Nat × Nat) : State :=
  match e.1 with
  | some a => avsGoodOne s e.2 a
  | none => avsBadOne s e.2

/-- AVS_CURRENT_SAMPLE (R413, R414). -/
def execAvsCurrentSample (zones : List (Option Nat)) (s : State) : Host.Outcome State Fault Refusal :=
  .next (if s.rst.rootLocked then (zones.take 8).zipIdx.foldl avsZone s else s)

/-- Nominal voltage and tolerance of the rails VEX, VPP, VLPQ, VLPD, VSER, VAUX and VSTBY, in mV; VAUX has the sag threshold alone (R415). -/
def railLimits : List (Nat × Nat) := [(1050, 31), (1800, 90), (500, 15), (1050, 31), (900, 27), (1800, 1800), (3300, 165)]

/-- Whether a rail's voltage is outside its tolerance. -/
def railBad (i mv : Nat) : Bool :=
  let (v, d) := at? railLimits i (0, 0)
  decide (mv + d < v ∨ v + d < mv)

/-- One rail of a sample: leaving its tolerance is an event. -/
def railOne (s : State) (e : (Nat × Nat) × Nat) : State :=
  let (mv, ma) := e.1
  let i := e.2
  let bad := i != 5 && railBad i mv
  let was := at? s.pwr.railOut i false
  let s := { s with pwr := { s.pwr with railOut := s.pwr.railOut.set i bad } }
  if bad && !was then raise s (52 + i) 0x07 (natLE 1 i ++ natLE 2 mv ++ natLE 4 ma)
  else if i = 5 ∧ mv < 1710 ∧ !s.pwr.sagCauses.contains .vaux then
    beginSag { s with freeCount := s.freeCount + 2 } .vaux (freeBytes s.freeCount 2) (natLE 2 mv)
  else s

/-- AUX_RAIL_SAMPLE (R415). -/
def execAuxRailSample (millivolts milliamps : List Nat) (s : State) : Host.Outcome State Fault Refusal :=
  let l := ((millivolts.zip milliamps).take 7)
  .next (if s.rst.rootLocked then l.zipIdx.foldl railOne { s with pwr := { s.pwr with rails := l } } else s)

/-- SETPOINT_STEP (R412): refused by the block when it is no step that the rule allows. -/
def execSetpointStep (millivolts : Nat) (s : State) : Host.Outcome State Fault Refusal :=
  let old := s.pwr.setpoint
  .next (if rdy s rdyHearth ∧ s.pwr.stepFrom.isNone ∧ s.pwr.stepWindow ≠ some (s.now / 10000) ∧ 600 ≤ millivolts ∧ millivolts ≤ 850
      ∧ millivolts ≤ old + 5 ∧ old ≤ millivolts + 5 then
      emit { s with pwr := { s.pwr with setpoint := millivolts, stepFrom := some old, stepWindow := some (s.now / 10000) } } (.avs millivolts)
    else s)

/-- SETPOINT_STEP_DONE (R412): every zone reads back within 1 %. -/
def execSetpointStepDone (s : State) : Host.Outcome State Fault Refusal := .next { s with pwr := { s.pwr with stepFrom := none } }

/-! ## The limiters (R416, R422-R426) -/

/-- The removal of the rating limiter on a die after a window (R422). -/
def ratingNext (watts long r : Nat) (zone : Bool) : Nat :=
  let up := (if 2650 < watts then 25 else 0) + (if 100 ≤ long then 8 else 0) + (if zone then 8 else 0)
  min 75 (if watts ≤ 2400 ∧ !zone then r - 1 else r + up)

/-- Whether a measure is evaluated now: at the stamp of a window's end, once (R9, R416). -/
def windowEnds (s : State) (len done : Nat) : Bool := s.rst.rootLocked && decide (s.now % len = 0 ∧ done < s.now / len)

/-- POWER_WINDOW_FAST (R416, R422). -/
def execPowerWindowFast (watts : Nat) (s : State) : Host.Outcome State Fault Refusal :=
  let long := if 2400 < watts then min (s.pwr.over2400 + 1) 100 else 0
  .next (if windowEnds s 10000 s.pwr.fastDone then
      { s with pwr := { s.pwr with
          fastDone := s.now / 10000, pFast := watts, over2400 := long, rh := (List.range 4).map fun d => ratingNext watts long (at? s.pwr.rh d 0) (dieOver s.pwr d) } }
    else s)

/-- Whether P_avg exceeds the cap. -/
def overCap (p : Power) : Bool := decide (p.cap * p.lastP1.length < sumN p.lastP1)

/-- P_avg and cap, the detail of POWER_ADVISORY and POWER_CLEAR. -/
def powerDetail (p : Power) : List Byte := natLE 2 (sumN p.lastP1 / max p.lastP1.length 1) ++ natLE 2 p.cap

/-- POWER_CAP_SET commands that end with a status. -/
def endCaps (s : State) (l : List Handle) (status : Nat) : State := l.foldl (fun s h => finish s h status) s

/-- An advisory cleared, and enforcement with it. -/
def clearAdvisory (s : State) : State :=
  let l := s.pwr.advisoryCmds
  let s := { s with pwr := { s.pwr with advisory := none, enforcing := false, advisoryCmds := [] } }
  endCaps (raise s 49 0x04 (powerDetail s.pwr)) l stOk

/-- The cap limiter at a window end of enforcement (R424). -/
def enforce (s : State) : State :=
  let p := s.pwr
  let r := if p.cap < p.p1 then min 75 (p.rp + 4) else if 20 * p.p1 ≤ 19 * p.cap then p.rp - 4 else p.rp
  let s := { s with pwr := { p with rp := r } }
  if r = 0 then clearAdvisory s else s

/-- The advisory at a window end (R423). -/
def adviseCap (s : State) : State :=
  match s.pwr.advisory with
  | some t => if s.now < t + 2000000 ∧ !overCap s.pwr then clearAdvisory s else s
  | none =>
    if overCap s.pwr then raise { s with pwr := { s.pwr with advisory := some s.now } } 48 0x03 (powerDetail s.pwr) else s

/-- POWER_CAP_SET commands at their first window end (R425). -/
def judgeCaps (s : State) : State :=
  let l := s.pwr.capCmds
  if !overCap s.pwr then endCaps { s with pwr := { s.pwr with capCmds := [] } } l stOk
  else if s.pwr.enforcing then endCaps { s with pwr := { s.pwr with capCmds := [] } } l stPowerLimit
  else if s.pwr.advisory.isSome then { s with pwr := { s.pwr with capCmds := [], advisoryCmds := s.pwr.advisoryCmds ++ l } }
  else s

/-- POWER_WINDOW_1MS (R416, R423-R425). -/
def execPowerWindow1ms (watts : Nat) (s : State) : Host.Outcome State Fault Refusal :=
  .next (if windowEnds s 100000 s.pwr.slowDone then
      let s := { s with pwr := { s.pwr with slowDone := s.now / 100000, p1 := watts, lastP1 := (watts :: s.pwr.lastP1).take 10 } }
      judgeCaps (if s.pwr.enforcing then enforce s else adviseCap s)
    else s)

/-- GRACE_END (R423-R425): enforcement begins when P_avg still exceeds the cap, the P_1 of the window that ends with the grace included. -/
def execGraceEnd (s : State) : Host.Outcome State Fault Refusal :=
  .next (match s.pwr.advisory with
    | some t =>
      if s.pwr.enforcing ∨ s.now < t + 2000000 ∨ 100000 * s.pwr.slowDone < t + 2000000 then s
      else if overCap s.pwr then
        endCaps { s with pwr := { s.pwr with enforcing := true, rp := min 75 (s.pwr.rp + 4), advisoryCmds := [] } } s.pwr.advisoryCmds stPowerLimit
      else clearAdvisory s
    | none => s)

/-! ## Smoulder (R396, R434) -/

/-- A unit's bit in PWR_SMOULDER. -/
def smoulderBit : SmoulderUnit → Nat
  | .kiln d => d
  | .exrad st => 4 + st
  | .bog p => 16 + p

/-- A unit that the module has. -/
def smoulderUnitOk : SmoulderUnit → Bool
  | .kiln d => decide (d < 4)
  | .exrad st => decide (st < 12)
  | .bog p => decide (p < 16)

/-- SMOULDER_ENTRY (R434): the conditions have held throughout 10,000 counts from the last activity. -/
def execSmoulderEntry (u : SmoulderUnit) (s : State) : Host.Outcome State Fault Refusal :=
  let i := smoulderBit u
  .next (if s.rst.rootLocked ∧ smoulderUnitOk u ∧ s.pwr.smoulderEn.getLsbD i ∧ smoulderReady s u
      ∧ at? s.pwr.activeAt i 0 + 10000 ≤ s.now then
      { s with pwr := { s.pwr with smoulderIn := s.pwr.smoulderIn ||| BitVec.ofNat 32 (2 ^ i) } }
    else s)

/-- The Smoulder bits of the domain that a crossing leads into. -/
def wokenBits (n : Nat) : Nat :=
  if 24 ≤ n ∧ n < 32 then 2 ^ ((n - 24) % 4)
  else if 32 ≤ n ∧ n < 44 then 2 ^ (4 + (n - 32))
  else if n = 44 then 0xFFFF0000
  else if 47 ≤ n ∧ n < 55 then 2 ^ ((n - 47) % 4)
  else 0

/-- The die whose core clock a crossing leads into. -/
def coreCrossing (n : Nat) : Option Nat :=
  if 24 ≤ n ∧ n < 28 then some (n - 24) else if 47 ≤ n ∧ n < 51 then some (n - 47) else none

/-- An event lost on a crossing (R395). -/
def loseEvent (s : State) (n : Nat) : State :=
  { s with rst := { s.rst with
      cdcOverrun := s.rst.cdcOverrun ||| BitVec.ofNat 64 (2 ^ n)
      cdcLost := s.rst.cdcLost.modify n fun x => satAdd 0xFFFFFFFF x 1 } }

/-- SMOULDER_WAKE (R396, R434): a core clock stopped for temperature stays so, and its crossing holds one event. -/
def execSmoulderWake (crossing : Nat) (s : State) : Host.Outcome State Fault Refusal :=
  let stopped := (coreCrossing crossing).any fun d => (at? s.pwr.sensors d {}).out
  .next (if stopped then
      if s.rst.wakePending.contains crossing then loseEvent s crossing
      else { s with rst := { s.rst with wakePending := s.rst.wakePending ++ [crossing] } }
    else wakeUnits s (BitVec.ofNat 32 (wokenBits crossing)))

end Sys2Proof.Machine
end

