-- ==== Sys2Proof/Machine/Trust.lean ====
section
/-!
DEFINITION. Trust (15_trust_and_isolation): non-volatile writes as they end, debug transitions, and the mailboxes with SPDM and IDE key
management. SPDM's own codes and layouts are DSP0274's, PRESUMED (log entry 16).
-/
namespace Sys2Proof.Machine

open Sys2Proof

/-! ## Non-volatile writes (R402, R432, R438-R444) -/

/-- What a command's completed write leaves in flash and fuses. -/
def writtenNv (s : State) : Work → State
  | .fwStage n b =>
    { s with sec := { s.sec with slots := s.sec.slots.modify n fun _ => { image := b, digest := some (Config.sha512 (signedPart b)) } } }
  | .fwActivate n =>
    let top := s.sec.bootPtr.foldl (fun m r => match r with | some (_, q) => max m (q + 1) | none => m) 0
    { s with sec := { s.sec with bootPtr := s.sec.bootPtr.set (otherRecord s.sec.bootPtr) (some (n, top)) } }
  | .keyRevoke n => { s with sec := { s.sec with revoked := s.sec.revoked.set n true } }
  | .repairCommit st rows =>
    { s with store := { s.store with softRepairs := Machine.tset s.store.softRepairs st (tgetD s.store.softRepairs st [] ++ rows) } }
  | _ => s

/-- The write in progress ends complete. -/
def endNv (s : State) (w : NvWrite) : State :=
  let s := { s with sec := { s.sec with nv := none } }
  match w with
  | .command h =>
    match cmdOf s h with
    | some c => finish (writtenNv s c.work) h stOk
    | none => s
  | .svnBurn => { s with sec := { s.sec with svnMin := max s.sec.svnMin s.sec.running.svn } }
  | .retiredList l => { s with store := { s.store with flashRetired := s.store.flashRetired ++ l } }

/-- NV_WRITE_DONE: a warm reset that waits goes on; one that has waited 50 ms cuts the write short (R402). -/
def execNvWriteDone (s : State) : Host.Outcome State Fault Refusal :=
  .next (match s.sec.nv, s.rst.warmWait with
    | none, _ => s
    | some w, none => nextNv (endNv s w)
    | some w, some (dog, t) => if t + 5000000 ≤ s.now then warmNow s dog else warmNow (endNv s w) dog)

/-- SVN_BURN (R444): the burn that the running image asks for starts, unless the hold or another write keeps it waiting. -/
def execSvnBurn (s : State) : Host.Outcome State Fault Refusal :=
  .next (if rdy s rdySecurity ∧ s.sec.svnDeferred ∧ !s.pwr.nvHold ∧ s.sec.nv.isNone ∧ s.rst.warmWait.isNone then
      { s with sec := { s.sec with nv := some .svnBurn, svnDeferred := false } }
    else s)

/-! ## Debug transitions (R456, R457) -/

/-- DEBUG_TRANSITION_DONE: memory is zero-filled, and a nonce is drawn. -/
def execDebugTransitionDone (nonce : List Byte) (s : State) : Host.Outcome State Fault Refusal :=
  .next (match s.sec.debug, s.sec.transition with
    | .unlocking, some h =>
      finish { s with sec := { s.sec with
        debug := .unlocked, transition := none, nonce := slice nonce 0 32, unlockCount := satAdd 255 s.sec.unlockCount 1 } } h stOk
    | .locking, some h =>
      finish { s with sec := { s.sec with debug := .locked, transition := none, nonce := slice nonce 0 32 } } h stOk
    | _, _ => s)

/-! ## Mailboxes (R283, R448, R449) -/

/-- Whether a function's mailbox can be reached. -/
def mailboxUp (s : State) (f : Nat) : Bool := rdy s rdyHostLink && decide (f ≤ s.rst.vfEnabled)

/-- Whether a mailbox answers SPDM. -/
def spdmUp (s : State) (f : Nat) : Bool := mailboxUp s f && rdy s rdySecurity

/-- SPDM state of a mailbox. -/
def spdmOf (s : State) (f : Nat) : Spdm := at? s.sec.spdm f {}

/-- SPDM state of a mailbox changed. -/
def modSpdm (s : State) (f : Nat) (g : Spdm → Spdm) : State := { s with sec := { s.sec with spdm := s.sec.spdm.modify f g } }

/-- SPDM error codes. -/
abbrev errInvalidRequest : Nat := 0x01
abbrev errInvalidSession : Nat := 0x02
abbrev errBusy : Nat := 0x03
abbrev errUnexpected : Nat := 0x04
abbrev errDecrypt : Nat := 0x06
abbrev errVersion : Nat := 0x41

/-- An error response. -/
def spdmError (s : State) (f code : Nat) : State := emit s (.doe f 0x7F (natLE 1 code))

/-- A response: the request and the response join the transcript. -/
def respond (s : State) (f : Nat) (req : List Byte) (code : Nat) (body : List Byte) : State :=
  emit (modSpdm s f fun x => { x with transcript := x.transcript ++ req ++ natLE 1 code ++ body }) (.doe f code body)

/-- A response that ends with a signature over the transcript so far, the request and the response (R449). -/
def respondSigned (s : State) (f : Nat) (req rand : List Byte) (code : Nat) (body : List Byte) : State :=
  respond s f req code (body ++ Config.identitySign ((spdmOf s f).transcript ++ req ++ natLE 1 code ++ body) rand)

/-- A request that needs the connection to have come as far as its algorithms. -/
def negotiated (s : State) (f : Nat) (k : State) : State :=
  if !spdmUp s f then s else if (spdmOf s f).algs then k else spdmError s f errUnexpected

/-- GET_VERSION: 1.2 and 1.3; the connection starts anew. -/
def execGetVersion (fn : Nat) (body _rand : List Byte) (s : State) : Host.Outcome State Fault Refusal :=
  .next (if spdmUp s fn then
      respond (modSpdm s fn fun x => { version := 1, sessions := x.sessions }) fn body 0x04 ([2] ++ natLE 2 0x1200 ++ natLE 2 0x1300)
    else s)

/-- Capability flags: CERT, CHAL, MEAS with signature, ENCRYPT, MAC, KEY_EX, KEY_UPD. -/
abbrev spdmCaps : Nat := 2 + 4 + 16 + 64 + 128 + 512 + 16384

/-- GET_CAPABILITIES: the version byte of the request chooses the version. -/
def execGetCapabilities (fn : Nat) (body _rand : List Byte) (s : State) : Host.Outcome State Fault Refusal :=
  let v := u8 body 0
  .next (if !spdmUp s fn then s
    else if (spdmOf s fn).version = 0 then spdmError s fn errUnexpected
    else if v ≠ 0x12 ∧ v ≠ 0x13 then spdmError s fn errVersion
    else respond (modSpdm s fn fun x => { x with version := v, caps := true }) fn body 0x61 (natLE 4 spdmCaps))

/-- NEGOTIATE_ALGORITHMS: RSASSA-PSS 4096 and SHA-512 must be on offer; key exchange FFDHE4096, AEAD AES-256-GCM. -/
def execNegotiateAlgorithms (fn : Nat) (body _rand : List Byte) (s : State) : Host.Outcome State Fault Refusal :=
  .next (if !spdmUp s fn then s
    else if !(spdmOf s fn).caps then spdmError s fn errUnexpected
    else if !(bit (u32 body 8) 6 && bit (u32 body 12) 2) then spdmError s fn errInvalidRequest
    else
      respond (modSpdm s fn fun x => { x with algs := true }) fn body 0x63
        (natLE 4 (2 ^ 3) ++ natLE 4 (2 ^ 6) ++ natLE 4 (2 ^ 2) ++ natLE 2 (2 ^ 2) ++ natLE 2 (2 ^ 1)))

/-- The bytes of a digest. -/
def digestBytes (d : BitVec 512) : List Byte := natLE 64 d.toNat

/-- The digest of the certificate chain. -/
def chainDigest : List Byte := digestBytes (Config.sha512 Config.certChain)

/-- GET_DIGESTS: slot 0 alone. -/
def execGetDigests (fn : Nat) (body _rand : List Byte) (s : State) : Host.Outcome State Fault Refusal :=
  .next (negotiated s fn (respond s fn body 0x01 ([1] ++ chainDigest)))

/-- GET_CERTIFICATE: a portion of the chain of slot 0. -/
def execGetCertificate (fn : Nat) (body _rand : List Byte) (s : State) : Host.Outcome State Fault Refusal :=
  let off := u16 body 4
  let n := min (u16 body 6) (Config.certChain.length - off)
  .next (negotiated s fn (
    if u8 body 2 % 16 ≠ 0 ∨ Config.certChain.length ≤ off then spdmError s fn errInvalidRequest
    else respond s fn body 0x02 (natLE 2 n ++ natLE 2 (Config.certChain.length - off - n) ++ slice Config.certChain off n)))

/-! ## Measurements (R451) -/

/-- A clamp's state, settings, functions and sharing groups as measurement 5 digests them; salts stay out. -/
def layoutBytes (s : State) (k : Nat) : List Byte :=
  let c := clampOf s k
  natLE 1 c.state.code ++ natLE 1 c.role ++ natLE 1 (b2n c.preempt) ++ natLE 1 c.hostShare ++ natLE 1 c.flueShare ++ natLE 1 c.landingShare
    ++ natLE 2 c.bogShare ++ natLE 2 c.maxCtx ++ natLE 8 c.slice ++ (c.cores.flatMap fun m => natLE 8 m.toNat)
    ++ (c.chans.flatMap fun m => natLE 4 m.toNat) ++ natLE 8 c.assign.toNat
    ++ (match c.serving with
       | some v => natLE 2 v.ctx ++ natLE 4 v.weight ++ natLE 4 v.maxRequests ++ natLE 4 v.maxBatch ++ natLE 4 v.turfExrad ++ natLE 4 v.turfBog
           ++ natLE 4 v.prefillChunk ++ natLE 4 v.prefixEntries
       | none => [])
    ++ (s.ctxs.filter fun e => e.2.clamp == k).flatMap fun e => natLE 2 e.1 ++ natLE 4 e.2.group

/-- The value of a measurement block. -/
def measurement (s : State) : Nat → List Byte
  | 1 => natLE 4 Config.kindlingVersion.toNat
  | 2 => digestBytes s.sec.running.digest
  | 3 =>
    natLE 1 s.sec.running.slot ++ natLE 1 s.sec.running.key ++ natLE 1 s.sec.running.svn ++ natLE 4 s.sec.running.version
      ++ natLE 1 (bits s.rst.ready.toNat 35 32)
  | 4 => natLE 1 (maskOf 4 fun k => at? s.sec.revoked k false) ++ natLE 1 s.sec.svnMin ++ natLE 1 Config.debugFuseMode ++ [0]
  | 5 => natLE 4 s.layoutGen ++ digestBytes (Config.sha512 ((List.range 8).flatMap (layoutBytes s)))
  | 6 => natLE 1 (debugCode s) ++ natLE 1 s.sec.unlockCount ++ digestBytes s.sec.lastToken
  | 7 => natLE 8 (identValue s 0 0)
  | _ => []

/-- A measurement block: index, whether it is a raw value, size, value. -/
def measureBlock (s : State) (i : Nat) : List Byte :=
  let v := measurement s i
  natLE 1 i ++ natLE 1 (if i = 2 then 0 else 1) ++ natLE 2 v.length ++ v

/-- The blocks that a request asks for: none, all, or one. -/
def measuresAsked (op : Nat) : Option (List Nat) :=
  if op = 0 then some [] else if op = 0xFF then some [1, 2, 3, 4, 5, 6, 7] else if op ≤ 7 then some [op] else none

/-- GET_MEASUREMENTS (R449, R451). -/
def execGetMeasurements (fn : Nat) (body rand : List Byte) (s : State) : Host.Outcome State Fault Refusal :=
  .next (negotiated s fn (match measuresAsked (u8 body 3) with
    | none => spdmError s fn errInvalidRequest
    | some l =>
      let r := natLE 1 7 ++ natLE 1 l.length ++ l.flatMap (measureBlock s) ++ slice rand 0 32
      if bit (u8 body 2) 0 then respondSigned s fn body rand 0x60 r else respond s fn body 0x60 r))

/-- CHALLENGE (R449). -/
def execSpdmChallenge (fn : Nat) (body rand : List Byte) (s : State) : Host.Outcome State Fault Refusal :=
  let all := if u8 body 3 = 0 then [] else digestBytes (Config.sha512 ((List.range' 1 7).flatMap (measureBlock s)))
  .next (negotiated s fn (
    if u8 body 2 % 16 ≠ 0 then spdmError s fn errInvalidRequest
    else respondSigned s fn body rand 0x03 (chainDigest ++ slice rand 0 32 ++ all)))

/-! ## Sessions (R448) -/

/-- Sessions open in the module. -/
def sessionsAll (s : State) : Nat := sumN (s.sec.spdm.map fun x => x.sessions.length)

/-- The lowest number that no session of a mailbox uses. -/
def freeSession (x : Spdm) : Nat := ((List.range 3).find? fun n => !x.sessions.any fun e => e.1 / 65536 == n).getD 0

/-- KEY_EXCHANGE: at most 2 sessions in a function and 16 in the module, else Busy. -/
def execKeyExchange (fn : Nat) (body rand : List Byte) (s : State) : Host.Outcome State Fault Refusal :=
  let x := spdmOf s fn
  .next (negotiated s fn (
    if 2 ≤ x.sessions.length ∨ 16 ≤ sessionsAll s then spdmError s fn errBusy
    else if u8 body 3 % 16 ≠ 0 then spdmError s fn errInvalidRequest
    else
      let n := freeSession x
      let secret := Config.keyExchange (x.transcript ++ body) rand
      respondSigned (modSpdm s fn fun x => { x with sessions := x.sessions ++ [(u16 body 4 + 65536 * n, false, secret)] }) fn body rand 0x64
        (natLE 2 n ++ slice rand 0 32)))

/-- A message in a session: bytes [3:0] of the row's body name the session, and the message follows. -/
def inSession (s : State) (fn : Nat) (body : List Byte) (k : Bool × List Byte → State) : State :=
  if !spdmUp s fn then s
  else match (spdmOf s fn).sessions.find? fun e => e.1 == u32 body 0 with
    | some e => k e.2
    | none => spdmError s fn errInvalidSession

/-- A session taken away. -/
def dropSession (s : State) (fn id : Nat) : State := modSpdm s fn fun x => { x with sessions := x.sessions.filter fun e => e.1 != id }

/-- A session changed. -/
def modSession (s : State) (fn id : Nat) (g : Bool × List Byte → Bool × List Byte) : State :=
  modSpdm s fn fun x => { x with sessions := x.sessions.map fun e => if e.1 = id then (e.1, g e.2) else e }

/-- FINISH: the session is established when its proof holds, and is over when it does not. -/
def execSpdmFinish (fn : Nat) (body _rand : List Byte) (s : State) : Host.Outcome State Fault Refusal :=
  .next (inSession s fn body fun e =>
    if e.1 then spdmError s fn errUnexpected
    else if Config.finishOk e.2 (body.drop 4) then emit (modSession s fn (u32 body 0) fun e => (true, e.2)) (.doe fn 0x65 [])
    else spdmError (dropSession s fn (u32 body 0)) fn errDecrypt)

/-- END_SESSION. -/
def execEndSession (fn : Nat) (body _rand : List Byte) (s : State) : Host.Outcome State Fault Refusal :=
  .next (inSession s fn body fun e =>
    if e.1 then emit (dropSession s fn (u32 body 0)) (.doe fn 0x6C []) else spdmError s fn errUnexpected)

/-- KEY_UPDATE: operations 1 and 2 change keys, 3 verifies the new ones. -/
def execKeyUpdate (fn : Nat) (body _rand : List Byte) (s : State) : Host.Outcome State Fault Refusal :=
  let op := u8 body 6
  .next (inSession s fn body fun e =>
    if !e.1 then spdmError s fn errUnexpected
    else if op = 1 ∨ op = 2 then
      emit (modSession s fn (u32 body 0) fun e => (e.1, Config.nextSecret e.2 op)) (.doe fn 0x69 (slice body 6 2))
    else if op = 3 then emit s (.doe fn 0x69 (slice body 6 2))
    else spdmError s fn errInvalidRequest)

/-! ## IDE key management (R453) -/

/-- A stream changed. -/
def modIde (s : State) (n : Nat) (g : Ide → Ide) : State := { s with sec := { s.sec with ide := s.sec.ide.modify n g } }

/-- The address ranges in a key-programming message. -/
def keyRanges (b : List Byte) (n : Nat) : List (Nat × Nat) := (List.range n).map fun i => (u64 b (10 + 16 * i), u64 b (18 + 16 * i))

/-- KEY_PROG: one key of a stream, with the requester IDs and address ranges that the stream covers. -/
def programKey (s : State) (b : List Byte) : State :=
  let n := u8 b 9
  modIde s (u8 b 5) fun x => { x with
    fnLow := u8 b 7, fnHigh := u8 b 8, ranges := keyRanges b n
    programmed := Machine.tset x.programmed (u8 b 6) (slice b (10 + 16 * n) 40) }

/-- Whether every key of a key set is programmed: three sub-streams, two directions. -/
def keySetReady (x : Ide) (set : Nat) : Bool := (List.range 6).all fun i => (tget? x.programmed (set + 2 * i)).isSome

/-- IDE_KM: QUERY 0, KEY_PROG 2, K_SET_GO 4; the answer's last byte is 1 when the message changed nothing for want of its conditions. -/
def execIdeKm (fn : Nat) (body _rand : List Byte) (s : State) : Host.Outcome State Fault Refusal :=
  let op := u8 body 4
  let n := u8 body 5
  let v := u8 body 6
  let say := fun (s : State) (code bad : Nat) => emit s (.doe fn 0x7E (natLE 1 code ++ natLE 1 n ++ natLE 1 bad))
  .next (inSession s fn body fun e =>
    if !e.1 ∨ fn ≠ 0 then spdmError s fn errUnexpected
    else if op = 0 then say s 1 0
    else if op = 2 then (if n < 8 ∧ v < 12 ∧ u8 body 9 ≤ 2 then say (programKey s body) 3 0 else say s 3 1)
    else if op = 4 then
      if n < 8 ∧ v < 2 ∧ keySetReady (at? s.sec.ide n {}) v then say (modIde s n fun x => { x with state := .secure, keySet := v }) 6 0
      else say s 6 1
    else spdmError s fn errInvalidRequest)

/-- DOE_DISCOVERY (R283): the protocols of PCI-SIG's vendor identity: discovery, CMA/SPDM, secured CMA/SPDM. -/
def execDoeDiscovery (fn index : Nat) (s : State) : Host.Outcome State Fault Refusal :=
  let r := if index < 3 then natLE 2 1 ++ natLE 1 index ++ natLE 1 ((index + 1) % 3) else natLE 2 0xFFFF ++ [0, 0]
  .next (if mailboxUp s fn then emit s (.doe fn 0 r) else s)

end Sys2Proof.Machine
end

