-- ==== Sys2Proof/Machine/Sideband.lean ====
section
/-!
DEFINITION. The sideband: the JTAG port (R479, R480), the I3C target (R505), and the lines ALERT# and THERMTRIP# (R504).
-/
namespace Sys2Proof.Machine

open Sys2Proof

/-- ALERT# (R392, R413, R504). -/
def alertLine (s : State) : Bool := !s.rst.perst && (s.pwr.avsFault || s.rst.refHeld)

/-- THERMTRIP# (R428-R430, R504). -/
def thermtripLine (s : State) : Bool := s.pwr.quench

/-! ## JTAG -/

/-- An instruction selected; the debug session lasts while DBGACC is. -/
def jtagSelect (s : State) (i : JtagInstr) : State := { s with evt := { s.evt with jtag := i, jtagOwner := i == .dbgacc } }

/-- BYPASS. -/
def execJtagBypass (s : State) : Host.Outcome State Fault Refusal := .next (jtagSelect s .bypass)

/-- IDCODE: 0x1, 0x4800, and the bits that the BSDL file gives. -/
def idcode : Nat := 0x1 * 2 ^ 28 + 0x4800 * 2 ^ 12 + Config.idcodeLow.toNat

/-- IDCODE. -/
def execJtagIdcode (s : State) : Host.Outcome State Fault Refusal := .next (emit (jtagSelect s .idcode) (.jtag idcode))

/-- SAMPLE/PRELOAD. -/
def execSamplePreload (s : State) : Host.Outcome State Fault Refusal := .next (jtagSelect s .samplePreload)

/-- EXTEST and HIGHZ act as BYPASS unless PERST# is asserted. -/
def jtagPins (s : State) (i : JtagInstr) : State := jtagSelect s (if s.rst.perst then i else .bypass)

/-- EXTEST. -/
def execJtagExtest (s : State) : Host.Outcome State Fault Refusal := .next (jtagPins s .extest)

/-- HIGHZ. -/
def execJtagHighz (s : State) : Host.Outcome State Fault Refusal := .next (jtagPins s .highz)

/-- DBGACC: JTAG holds the debug session while debug is open; otherwise the instruction acts as BYPASS. -/
def execDbgacc (s : State) : Host.Outcome State Fault Refusal := .next (jtagSelect s (if debugOpen s then .dbgacc else .bypass))

/-! ## I3C -/

/-- ENTDAA: a target without an address takes the one it is given. -/
def execEntdaa (address : Nat) (s : State) : Host.Outcome State Fault Refusal :=
  .next (if s.i3c.address.isNone then { s with i3c := { s.i3c with address := some address } } else s)

/-- SETDASA, at the static address 0x4C. -/
def execSetdasa (static address : Nat) (s : State) : Host.Outcome State Fault Refusal :=
  .next (if static = 0x4C ∧ s.i3c.address.isNone then { s with i3c := { s.i3c with address := some address } } else s)

/-- RSTDAA. -/
def execRstdaa (s : State) : Host.Outcome State Fault Refusal := .next { s with i3c := { s.i3c with address := none } }

/-- An answer of a target that has an address. -/
def i3cAnswer (s : State) (bs : List Byte) : State := if s.i3c.address.isSome then emit s (.i3c bs) else s

/-- GETPID: six bytes, most significant first. -/
def execGetpid (s : State) : Host.Outcome State Fault Refusal := .next (i3cAnswer s (natLE 6 Config.i3cPid.toNat).reverse)

/-- GETBCR. -/
def execGetbcr (s : State) : Host.Outcome State Fault Refusal := .next (i3cAnswer s [Config.i3cBcr])

/-- GETDCR. -/
def execGetdcr (s : State) : Host.Outcome State Fault Refusal := .next (i3cAnswer s [Config.i3cDcr])

/-- GETSTATUS: two bytes, most significant first. -/
def execGetstatus (s : State) : Host.Outcome State Fault Refusal :=
  .next (i3cAnswer { s with freeCount := s.freeCount + 1 } (natLE 2 (Config.i3cStatus s.freeCount).toNat).reverse)

/-- A private write: one byte selects an index; a longer one changes nothing. -/
def execI3cIndexWrite (data : List Byte) (s : State) : Host.Outcome State Fault Refusal :=
  .next (match s.i3c.address, data with
    | some _, [b] => { s with i3c := { s.i3c with index := b.toNat } }
    | _, _ => s)

/-- The register that an index names. -/
def i3cReg (n : Nat) : Option Reg :=
  if n = 0 then some .ready
  else if n = 1 then some .failed
  else if n = 2 then some .pwrStatus
  else if n = 3 then some .tripLog
  else if n < 20 then some (.temp (n - 4))
  else if n = 20 then some (.ident 0)
  else if n = 21 then some (.ident 1)
  else if n = 22 then some .secStatus
  else none

/-- A private read: eight bytes of the register; an index not listed reads zero. -/
def execI3cPrivateRead (s : State) : Host.Outcome State Fault Refusal :=
  .next (i3cAnswer s (match i3cReg s.i3c.index with | some r => natLE 8 (regValue s 0 r) | none => zeros 8))

end Sys2Proof.Machine
end

