-- ==== Sys2Proof/Machine/Dispatch.lean ====
section
/-!
DEFINITION. One arm per command of Syntax.lean, each a direct call of its meaning.
-/
namespace Sys2Proof.Machine

open Sys2Proof

def exec (i : Instr) (s : State) : Host.Outcome State Fault Refusal :=
  match i with
  | .contextNop p => Sys2Proof.Machine.execContextNop p s
  | .contextCreate p => Sys2Proof.Machine.execContextCreate p s
  | .contextDestroy p => Sys2Proof.Machine.execContextDestroy p s
  | .contextSet p => Sys2Proof.Machine.execContextSet p s
  | .commandQuery p => Sys2Proof.Machine.execCommandQuery p s
  | .commandCancel p => Sys2Proof.Machine.execCommandCancel p s
  | .queueResume p => Sys2Proof.Machine.execQueueResume p s
  | .queueFlush p => Sys2Proof.Machine.execQueueFlush p s
  | .flagWrite p => Sys2Proof.Machine.execFlagWrite p s
  | .flagRead p => Sys2Proof.Machine.execFlagRead p s
  | .tensorCreate p => Sys2Proof.Machine.execTensorCreate p s
  | .tensorDestroy p => Sys2Proof.Machine.execTensorDestroy p s
  | .tensorGrant p => Sys2Proof.Machine.execTensorGrant p s
  | .tensorRevoke p => Sys2Proof.Machine.execTensorRevoke p s
  | .tensorRead p => Sys2Proof.Machine.execTensorRead p s
  | .tensorWrite p => Sys2Proof.Machine.execTensorWrite p s
  | .tensorCopy p => Sys2Proof.Machine.execTensorCopy p s
  | .tensorFill p => Sys2Proof.Machine.execTensorFill p s
  | .tensorGather p => Sys2Proof.Machine.execTensorGather p s
  | .tensorInfo p => Sys2Proof.Machine.execTensorInfo p s
  | .shardSetCreate p => Sys2Proof.Machine.execShardSetCreate p s
  | .shardSetDestroy p => Sys2Proof.Machine.execShardSetDestroy p s
  | .programLaunch p => Sys2Proof.Machine.execProgramLaunch p s
  | .inbankLaunch p => Sys2Proof.Machine.execInbankLaunch p s
  | .slaneResume p => Sys2Proof.Machine.execSlaneResume p s
  | .generate p => Sys2Proof.Machine.execGenerate p s
  | .requestCancel p => Sys2Proof.Machine.execRequestCancel p s
  | .modelRegister p => Sys2Proof.Machine.execModelRegister p s
  | .modelRetire p => Sys2Proof.Machine.execModelRetire p s
  | .shavingLoad p => Sys2Proof.Machine.execShavingLoad p s
  | .shavingReplace p => Sys2Proof.Machine.execShavingReplace p s
  | .shavingRetire p => Sys2Proof.Machine.execShavingRetire p s
  | .servingConfigure p => Sys2Proof.Machine.execServingConfigure p s
  | .sharingGroupSet p => Sys2Proof.Machine.execSharingGroupSet p s
  | .servingReplyEnable p => Sys2Proof.Machine.execServingReplyEnable p s
  | .requestQuery p => Sys2Proof.Machine.execRequestQuery p s
  | .flueSend p => Sys2Proof.Machine.execFlueSend p s
  | .flueReceive p => Sys2Proof.Machine.execFlueReceive p s
  | .flueFlagSet p => Sys2Proof.Machine.execFlueFlagSet p s
  | .flueReduce p => Sys2Proof.Machine.execFlueReduce p s
  | .fluePortStatus p => Sys2Proof.Machine.execFluePortStatus p s
  | .clampConfigure p => Sys2Proof.Machine.execClampConfigure p s
  | .clampStart p => Sys2Proof.Machine.execClampStart p s
  | .clampStop p => Sys2Proof.Machine.execClampStop p s
  | .clampDelete p => Sys2Proof.Machine.execClampDelete p s
  | .clampAssign p => Sys2Proof.Machine.execClampAssign p s
  | .clampQuery p => Sys2Proof.Machine.execClampQuery p s
  | .telemetryRead p => Sys2Proof.Machine.execTelemetryRead p s
  | .counterSelect p => Sys2Proof.Machine.execCounterSelect p s
  | .eventRoute p => Sys2Proof.Machine.execEventRoute p s
  | .powerCapSet p => Sys2Proof.Machine.execPowerCapSet p s
  | .scrubSet p => Sys2Proof.Machine.execScrubSet p s
  | .fwStage p => Sys2Proof.Machine.execFwStage p s
  | .fwActivate p => Sys2Proof.Machine.execFwActivate p s
  | .keyRevoke p => Sys2Proof.Machine.execKeyRevoke p s
  | .debugUnlock p => Sys2Proof.Machine.execDebugUnlock p s
  | .debugLock p => Sys2Proof.Machine.execDebugLock p s
  | .debugTransitionDone nonce => Sys2Proof.Machine.execDebugTransitionDone nonce s
  | .repairCommit p => Sys2Proof.Machine.execRepairCommit p s
  | .dbgBreakSet p => Sys2Proof.Machine.execDbgBreakSet p s
  | .dbgBreakClear p => Sys2Proof.Machine.execDbgBreakClear p s
  | .dbgTileControl p => Sys2Proof.Machine.execDbgTileControl p s
  | .dbgRead p => Sys2Proof.Machine.execDbgRead p s
  | .dbgBankView p => Sys2Proof.Machine.execDbgBankView p s
  | .dbgBankWrite p => Sys2Proof.Machine.execDbgBankWrite p s
  | .registerWrite fn bar offset data choice => Sys2Proof.Machine.execRegisterWrite fn bar offset data choice s
  | .firmwareDeadline fn boot ctx => Sys2Proof.Machine.execFirmwareDeadline fn boot ctx s
  | .firmwareDecision fn boot ctx => Sys2Proof.Machine.execFirmwareDecision fn boot ctx s
  | .coalesceTimeout ctx => Sys2Proof.Machine.execCoalesceTimeout ctx s
  | .nirSealMissClear fn owner => Sys2Proof.Machine.execNirSealMissClear fn owner s
  | .nirDropCountClear fn owner => Sys2Proof.Machine.execNirDropCountClear fn owner s
  | .poisonedCompletion fn offset size => Sys2Proof.Machine.execPoisonedCompletion fn offset size s
  | .evtClaimRead fn target grace => Sys2Proof.Machine.execEvtClaimRead fn target grace s
  | .evtClaimWrite fn target source => Sys2Proof.Machine.execEvtClaimWrite fn target source s
  | .evtThresholdWrite fn target value => Sys2Proof.Machine.execEvtThresholdWrite fn target value s
  | .evtMaskWrite fn source mask => Sys2Proof.Machine.execEvtMaskWrite fn source mask s
  | .maskEffect source => Sys2Proof.Machine.execMaskEffect source s
  | .warmReset fn key => Sys2Proof.Machine.execWarmReset fn key s
  | .clampReset fn clamp key => Sys2Proof.Machine.execClampReset fn clamp key s
  | .clampResetDone clamp => Sys2Proof.Machine.execClampResetDone clamp s
  | .timeReadLatch fn => Sys2Proof.Machine.execTimeReadLatch fn s
  | .moduleIdLock fn id => Sys2Proof.Machine.execModuleIdLock fn id s
  | .pwrSmoulderWrite fn value => Sys2Proof.Machine.execPwrSmoulderWrite fn value s
  | .rw1cClear fn offset data => Sys2Proof.Machine.execRw1cClear fn offset data s
  | .runPhaseStart h choice => Sys2Proof.Machine.execRunPhaseStart h choice s
  | .sodPromotion h locs => Sys2Proof.Machine.execSodPromotion h locs s
  | .waitTimeout h => Sys2Proof.Machine.execWaitTimeout h s
  | .sliceBoundary clamp => Sys2Proof.Machine.execSliceBoundary clamp s
  | .coreSwitchDone die core => Sys2Proof.Machine.execCoreSwitchDone die core s
  | .accountingPeriodEnd => Sys2Proof.Machine.execAccountingPeriodEnd s
  | .deadlockCheck => Sys2Proof.Machine.execDeadlockCheck s
  | .drainLimitExpiry clamp => Sys2Proof.Machine.execDrainLimitExpiry clamp s
  | .clampStopped clamp => Sys2Proof.Machine.execClampStopped clamp s
  | .tileCommit die core => Sys2Proof.Machine.execTileCommit die core s
  | .tileCommitDone die core => Sys2Proof.Machine.execTileCommitDone die core s
  | .commandCommit h locs => Sys2Proof.Machine.execCommandCommit h locs s
  | .accessLoad die core => Sys2Proof.Machine.execAccessLoad die core s
  | .accessStore die core => Sys2Proof.Machine.execAccessStore die core s
  | .setcnt die core => Sys2Proof.Machine.execSetcnt die core s
  | .cntadd die core => Sys2Proof.Machine.execCntadd die core s
  | .accessEnd die core => Sys2Proof.Machine.execAccessEnd die core s
  | .loadDataReturn die core request err => Sys2Proof.Machine.execLoadDataReturn die core request err s
  | .delay die core => Sys2Proof.Machine.execDelay die core s
  | .setReg die core => Sys2Proof.Machine.execSetReg die core s
  | .execLoop die core => Sys2Proof.Machine.execExecLoop die core s
  | .beos die core => Sys2Proof.Machine.execBeos die core s
  | .execTag die core => Sys2Proof.Machine.execExecTag die core s
  | .execEnd die core => Sys2Proof.Machine.execExecEnd die core s
  | .tld die core => Sys2Proof.Machine.execTld die core s
  | .mma die core => Sys2Proof.Machine.execMma die core s
  | .tfl die core => Sys2Proof.Machine.execTfl die core s
  | .vadd die core => Sys2Proof.Machine.execVadd die core s
  | .vsub die core => Sys2Proof.Machine.execVsub die core s
  | .vmul die core => Sys2Proof.Machine.execVmul die core s
  | .vfma die core => Sys2Proof.Machine.execVfma die core s
  | .vmin die core => Sys2Proof.Machine.execVmin die core s
  | .vmax die core => Sys2Proof.Machine.execVmax die core s
  | .vcmp die core => Sys2Proof.Machine.execVcmp die core s
  | .vsel die core => Sys2Proof.Machine.execVsel die core s
  | .vfn die core => Sys2Proof.Machine.execVfn die core s
  | .vchs die core => Sys2Proof.Machine.execVchs die core s
  | .vsmx die core => Sys2Proof.Machine.execVsmx die core s
  | .vmrg die core => Sys2Proof.Machine.execVmrg die core s
  | .vcvt die core => Sys2Proof.Machine.execVcvt die core s
  | .vmov die core => Sys2Proof.Machine.execVmov die core s
  | .vbc die core => Sys2Proof.Machine.execVbc die core s
  | .qpop die core => Sys2Proof.Machine.execQpop die core s
  | .qpush die core => Sys2Proof.Machine.execQpush die core s
  | .slaneHaltTimeout h => Sys2Proof.Machine.execSlaneHaltTimeout h s
  | .processorModeRequest stack chan trigger => Sys2Proof.Machine.execProcessorModeRequest stack chan trigger s
  | .memoryModeRequest stack chan => Sys2Proof.Machine.execMemoryModeRequest stack chan s
  | .processorModeEntered stack chan => Sys2Proof.Machine.execProcessorModeEntered stack chan s
  | .memoryModeEntered stack chan => Sys2Proof.Machine.execMemoryModeEntered stack chan s
  | .holdLimitExpiry stack chan => Sys2Proof.Machine.execHoldLimitExpiry stack chan s
  | .embStart stack chan unit entry partTag => Sys2Proof.Machine.execEmbStart stack chan unit entry partTag s
  | .embStop stack chan unit => Sys2Proof.Machine.execEmbStop stack chan unit s
  | .embResume stack chan unit => Sys2Proof.Machine.execEmbResume stack chan unit s
  | .embStatusClear stack chan unit => Sys2Proof.Machine.execEmbStatusClear stack chan unit s
  | .refreshDue stack chan => Sys2Proof.Machine.execRefreshDue stack chan s
  | .refreshComplete stack chan => Sys2Proof.Machine.execRefreshComplete stack chan s
  | .rowReseal stack chan bank row err => Sys2Proof.Machine.execRowReseal stack chan bank row err s
  | .trigVreg h part index write => Sys2Proof.Machine.execTrigVreg h part index write s
  | .trigBbuf h part index write => Sys2Proof.Machine.execTrigBbuf h part index write s
  | .trigUstore h part index write => Sys2Proof.Machine.execTrigUstore h part index write s
  | .trigArg h part index write => Sys2Proof.Machine.execTrigArg h part index write s
  | .trigCmd h part index write => Sys2Proof.Machine.execTrigCmd h part index write s
  | .trigWait h part index write => Sys2Proof.Machine.execTrigWait h part index write s
  | .emberNop stack chan unit => Sys2Proof.Machine.execEmberNop stack chan unit s
  | .emberEnd stack chan unit err => Sys2Proof.Machine.execEmberEnd stack chan unit err s
  | .emberYield stack chan unit => Sys2Proof.Machine.execEmberYield stack chan unit s
  | .emberLoop stack chan unit => Sys2Proof.Machine.execEmberLoop stack chan unit s
  | .emberFence stack chan unit => Sys2Proof.Machine.execEmberFence stack chan unit s
  | .seta stack chan unit => Sys2Proof.Machine.execSeta stack chan unit s
  | .adda stack chan unit => Sys2Proof.Machine.execAdda stack chan unit s
  | .setb stack chan unit => Sys2Proof.Machine.execSetb stack chan unit s
  | .setf stack chan unit => Sys2Proof.Machine.execSetf stack chan unit s
  | .tset stack chan unit => Sys2Proof.Machine.execTset stack chan unit s
  | .ldv stack chan unit => Sys2Proof.Machine.execLdv stack chan unit s
  | .stv stack chan unit => Sys2Proof.Machine.execStv stack chan unit s
  | .shv stack chan unit => Sys2Proof.Machine.execShv stack chan unit s
  | .strm stack chan unit => Sys2Proof.Machine.execStrm stack chan unit s
  | .dq stack chan unit => Sys2Proof.Machine.execDq stack chan unit s
  | .mac stack chan unit => Sys2Proof.Machine.execMac stack chan unit s
  | .asc stack chan unit => Sys2Proof.Machine.execAsc stack chan unit s
  | .asm stack chan unit => Sys2Proof.Machine.execAsm stack chan unit s
  | .avg stack chan unit => Sys2Proof.Machine.execAvg stack chan unit s
  | .acl stack chan unit => Sys2Proof.Machine.execAcl stack chan unit s
  | .afl stack chan unit => Sys2Proof.Machine.execAfl stack chan unit s
  | .asl stack chan unit => Sys2Proof.Machine.execAsl stack chan unit s
  | .sodMigration t sod dest err => Sys2Proof.Machine.execSodMigration t sod dest err s
  | .sodRebuild t sod dest bad => Sys2Proof.Machine.execSodRebuild t sod dest bad s
  | .scrubPassStart => Sys2Proof.Machine.execScrubPassStart s
  | .patrolRead target err => Sys2Proof.Machine.execPatrolRead target err s
  | .scrubPassEnd late => Sys2Proof.Machine.execScrubPassEnd late s
  | .ashWindowEnd => Sys2Proof.Machine.execAshWindowEnd s
  | .counterWindowEnd => Sys2Proof.Machine.execCounterWindowEnd s
  | .servingAdmission req => Sys2Proof.Machine.execServingAdmission req s
  | .prefillCommand clamp req ash => Sys2Proof.Machine.execPrefillCommand clamp req ash s
  | .decodeStep clamp model ash => Sys2Proof.Machine.execDecodeStep clamp model ash s
  | .commitSlot clamp => Sys2Proof.Machine.execCommitSlot clamp s
  | .servingHandover work => Sys2Proof.Machine.execServingHandover work s
  | .flueIdle port f => Sys2Proof.Machine.execFlueIdle port f s
  | .flueFlit port f => Sys2Proof.Machine.execFlueFlit port f s
  | .replayRequest port f => Sys2Proof.Machine.execReplayRequest port f s
  | .retrainRequest port f => Sys2Proof.Machine.execRetrainRequest port f s
  | .laneLockLoss port lane => Sys2Proof.Machine.execLaneLockLoss port lane s
  | .fecWindowEnd port corrected => Sys2Proof.Machine.execFecWindowEnd port corrected s
  | .retrainDone port failed partner => Sys2Proof.Machine.execRetrainDone port failed partner s
  | .retrainAttemptEnd port failed => Sys2Proof.Machine.execRetrainAttemptEnd port failed s
  | .trainingAttempt port => Sys2Proof.Machine.execTrainingAttempt port s
  | .probeDue partner => Sys2Proof.Machine.execProbeDue partner s
  | .pairSilenceTimeout partner => Sys2Proof.Machine.execPairSilenceTimeout partner s
  | .flueReady m => Sys2Proof.Machine.execFlueReady m s
  | .flueWithdraw m => Sys2Proof.Machine.execFlueWithdraw m s
  | .flueData m => Sys2Proof.Machine.execFlueData m s
  | .flueRefuse m => Sys2Proof.Machine.execFlueRefuse m s
  | .flueReopen m => Sys2Proof.Machine.execFlueReopen m s
  | .flueConfirm m => Sys2Proof.Machine.execFlueConfirm m s
  | .flueAbort m => Sys2Proof.Machine.execFlueAbort m s
  | .flueDecline m => Sys2Proof.Machine.execFlueDecline m s
  | .flueFlag m => Sys2Proof.Machine.execFlueFlag m s
  | .flagAnswer m => Sys2Proof.Machine.execFlagAnswer m s
  | .flueOffer m => Sys2Proof.Machine.execFlueOffer m s
  | .flueCancel m => Sys2Proof.Machine.execFlueCancel m s
  | .flueHello m => Sys2Proof.Machine.execFlueHello m s
  | .flueProbe m => Sys2Proof.Machine.execFlueProbe m s
  | .flueRoute m => Sys2Proof.Machine.execFlueRoute m s
  | .flueUnreachable m => Sys2Proof.Machine.execFlueUnreachable m s
  | .transferTimeout h => Sys2Proof.Machine.execTransferTimeout h s
  | .hostReadCompletion h offset r => Sys2Proof.Machine.execHostReadCompletion h offset r s
  | .completionTimeout h => Sys2Proof.Machine.execCompletionTimeout h s
  | .tlpIntegrityFailure stream => Sys2Proof.Machine.execTlpIntegrityFailure stream s
  | .thermalSample readings => Sys2Proof.Machine.execThermalSample readings s
  | .avsCurrentSample zones => Sys2Proof.Machine.execAvsCurrentSample zones s
  | .auxRailSample millivolts milliamps => Sys2Proof.Machine.execAuxRailSample millivolts milliamps s
  | .powerWindowFast watts => Sys2Proof.Machine.execPowerWindowFast watts s
  | .powerWindow1ms watts => Sys2Proof.Machine.execPowerWindow1ms watts s
  | .graceEnd => Sys2Proof.Machine.execGraceEnd s
  | .setpointStep millivolts => Sys2Proof.Machine.execSetpointStep millivolts s
  | .supplySag cause vcore vaux => Sys2Proof.Machine.execSupplySag cause vcore vaux s
  | .stretchEnd => Sys2Proof.Machine.execStretchEnd s
  | .nvHoldEnd => Sys2Proof.Machine.execNvHoldEnd s
  | .vcoreCollapse => Sys2Proof.Machine.execVcoreCollapse s
  | .vstbyLow => Sys2Proof.Machine.execVstbyLow s
  | .powerCycle => Sys2Proof.Machine.execPowerCycle s
  | .smoulderEntry u => Sys2Proof.Machine.execSmoulderEntry u s
  | .smoulderWake crossing => Sys2Proof.Machine.execSmoulderWake crossing s
  | .perstAssert => Sys2Proof.Machine.execPerstAssert s
  | .perstRelease thermCompat bootSel nonce => Sys2Proof.Machine.execPerstRelease thermCompat bootSel nonce s
  | .refclkLoss => Sys2Proof.Machine.execRefclkLoss s
  | .rootPllLock => Sys2Proof.Machine.execRootPllLock s
  | .startupStepDone step => Sys2Proof.Machine.execStartupStepDone step s
  | .startupStepLimit step => Sys2Proof.Machine.execStartupStepLimit step s
  | .watchdogService => Sys2Proof.Machine.execWatchdogService s
  | .watchdogExpiry => Sys2Proof.Machine.execWatchdogExpiry s
  | .functionLevelReset fn => Sys2Proof.Machine.execFunctionLevelReset fn s
  | .svnBurn => Sys2Proof.Machine.execSvnBurn s
  | .getVersion fn body rand => Sys2Proof.Machine.execGetVersion fn body rand s
  | .getCapabilities fn body rand => Sys2Proof.Machine.execGetCapabilities fn body rand s
  | .negotiateAlgorithms fn body rand => Sys2Proof.Machine.execNegotiateAlgorithms fn body rand s
  | .getDigests fn body rand => Sys2Proof.Machine.execGetDigests fn body rand s
  | .getCertificate fn body rand => Sys2Proof.Machine.execGetCertificate fn body rand s
  | .spdmChallenge fn body rand => Sys2Proof.Machine.execSpdmChallenge fn body rand s
  | .getMeasurements fn body rand => Sys2Proof.Machine.execGetMeasurements fn body rand s
  | .keyExchange fn body rand => Sys2Proof.Machine.execKeyExchange fn body rand s
  | .spdmFinish fn body rand => Sys2Proof.Machine.execSpdmFinish fn body rand s
  | .endSession fn body rand => Sys2Proof.Machine.execEndSession fn body rand s
  | .keyUpdate fn body rand => Sys2Proof.Machine.execKeyUpdate fn body rand s
  | .ideKm fn body rand => Sys2Proof.Machine.execIdeKm fn body rand s
  | .jtagBypass => Sys2Proof.Machine.execJtagBypass s
  | .jtagIdcode => Sys2Proof.Machine.execJtagIdcode s
  | .samplePreload => Sys2Proof.Machine.execSamplePreload s
  | .jtagExtest => Sys2Proof.Machine.execJtagExtest s
  | .jtagHighz => Sys2Proof.Machine.execJtagHighz s
  | .dbgacc => Sys2Proof.Machine.execDbgacc s
  | .entdaa address => Sys2Proof.Machine.execEntdaa address s
  | .setdasa static address => Sys2Proof.Machine.execSetdasa static address s
  | .rstdaa => Sys2Proof.Machine.execRstdaa s
  | .getpid => Sys2Proof.Machine.execGetpid s
  | .getbcr => Sys2Proof.Machine.execGetbcr s
  | .getdcr => Sys2Proof.Machine.execGetdcr s
  | .getstatus => Sys2Proof.Machine.execGetstatus s
  | .i3cIndexWrite data => Sys2Proof.Machine.execI3cIndexWrite data s
  | .i3cPrivateRead => Sys2Proof.Machine.execI3cPrivateRead s
  | .powerOn => Sys2Proof.Machine.execPowerOn s
  | .refclkReturn => Sys2Proof.Machine.execRefclkReturn s
  | .hostLinkDown => Sys2Proof.Machine.execHostLinkDown s
  | .nvWriteDone => Sys2Proof.Machine.execNvWriteDone s
  | .setpointStepDone => Sys2Proof.Machine.execSetpointStepDone s
  | .vfEnable count => Sys2Proof.Machine.execVfEnable count s
  | .doeDiscovery fn index => Sys2Proof.Machine.execDoeDiscovery fn index s

end Sys2Proof.Machine
end

