-- ==== Sys2Proof/Safety.lean ====
section
/-!
DEFINITION. What counts as a safe state: the invariants that every step keeps, in the terms that statements use.
-/
namespace Sys2Proof.Machine

open Sys2Proof

/-- A table in its one canonical form: its numbers strictly rise. -/
def Rising {α : Type} (t : Table α) : Prop := (t.map (·.1)).Pairwise (· < ·)

/-- What every command keeps, beside the queue of waiting commands and what has been sent: 64 function slices (R286), 8 clamps (R83),
1,024 event sources (R462), 68 event targets (R464), at most 63 virtual functions, contexts in rising order of their numbers (R64), a
32-bit layout generation (R452), and an event log of at most 65,536 records (R470). -/
structure Sound (queue : List Instr) (sent : List Out) (s : State) : Prop where
  queue : s.pending = queue
  sent : sent <+: s.out
  functions : s.fns.length = 64
  clamps : s.clamps.length = 8
  sources : s.evt.sources.length = 1024
  targets : s.evt.targets.length = 68
  log : s.evt.log.length ≤ 65536
  layout : s.layoutGen < 2 ^ 32
  virtual : s.rst.vfEnabled ≤ 63
  contexts : Rising s.ctxs

/-- The invariant of the module's state. -/
def Inv (s : State) : Prop := Sound s.pending s.out s

/-! ## Packets that are decided at once -/

/-- Who sent a packet that came through a context's window. -/
def packetSender (p : Packet) : Sender := { fn := p.fn, ctx := p.ctx }

/-- The state once a packet has left its context's window: the expected slot has moved on (R294). -/
def landed (s : State) (p : Packet) : State := modCtx s p.ctx fun x => { x with slot := (x.slot + 1) % 16, taken := [] }

/-- The state that the tests of R515 see: the packet has left the window, and the credit it carries has been taken (R309). -/
def facing (s : State) (p : Packet) (c : Ctx) : State := packetCredit (landed s p) p.ctx { seen := c.seen, retry := c.retry } p

/-- A packet that passes the tests of R515 up to the opcode's own: it comes through the window of a context `c` of its function, nothing
of that window waits before it, firmware does not hold it, and tests 1 to 12 let it pass. -/
structure Admitted (op : Nat) (s : State) (p : Packet) (c : Ctx) : Prop where
  takes : takesPackets s p.fn = true
  window : p.boot = false
  found : ctxOf s p.ctx = some c
  owner : c.fn = p.fn
  going : c.ending = false
  ring : c.serving = false
  first : c.taken = []
  prompt : (p.choice.fwHeld && byFirmware s false op) = false
  fresh : seqTest c.seen c.retry p.seq = none
  form : formTest p = none
  credit : creditOk c p.consumed = true
  room : ((ctxOf (facing s p c) p.ctx).map fun x => x.held.length).getD 0 < 64
  passes : ∃ x, opInfo op = some x ∧ opTests (facing s p c) (packetSender p) x p = none
    ∧ (x.queued = true → queueFull (facing s p c) p.ctx p.queue = false)

/-- The state once a decision's reply has been put into the ring (into the boot reply, for a context that ends itself, R324) and
remembered under the packet's sequence number (R302). -/
def answered (op : Nat) (s : State) (p : Packet) (c : Ctx) (v : Verdict) : State :=
  let f := facing s p c
  let q := SeqState.after { seen := c.seen, retry := c.retry } 4096 p.seq v
  modCtx (if endsOwn (packetSender p) op p v then bootAnswer f p.fn p v else ringAnswer f p.ctx p v) p.ctx fun x =>
    { x with seen := q.seen, retry := q.retry }

/-- Every packet of an opcode that is decided at once, and of which `P` holds in the state that the tests see, is answered with the
verdict `v`, whose effect is then carried out. -/
def Decides (i : Packet → Instr) (op : Nat) (P : State → Packet → Prop) (v : State → Packet → Verdict) : Prop :=
  ∀ (s : State) (p : Packet) (c : Ctx), Admitted op s p c → P (facing s p c) p →
    exec (i p) s = .next ((v (facing s p c) p).effect (answered op s p c (v (facing s p c) p)))

/-- ACCEPTED with a new handle: the command waits at the end of its queue (R65, R318). -/
def queuedAs (w : Work) (s : State) (p : Packet) : Verdict :=
  let h := newHandle s p.ctx p.choice.pick
  { status := stAccepted, handle := h, effect := fun t => settled (addQueued p h w t) }

/-- ACCEPTED with a new handle: the command is in its run phase, and does at once what `after` says (R318). -/
def runsAs (w : Work) (after : Handle → State → State) (s : State) (p : Packet) : Verdict :=
  let h := newHandle s p.ctx p.choice.pick
  { status := stAccepted, handle := h, effect := fun t => after h (addRunning p h w t) }

/-- The first parameters of a MODEL_REGISTER lie in their ranges (R240). -/
def modelInRange (b : List Byte) : Prop :=
  u64 b 0 ≠ 0 ∧ 2 ≤ u32 b 8 ∧ u32 b 8 ≤ 16777216 ∧ 1 ≤ u8 b 12 ∧ 1 ≤ u8 b 13 ∧ u8 b 13 ≤ 64 ∧ u16 b 14 = 128
    ∧ (u8 b 16 = 0x02 ∨ u8 b 16 = 0x04 ∨ u8 b 16 = 0x05) ∧ 16 ≤ u32 b 20 ∧ u32 b 20 ≤ 131072 ∧ u32 b 20 % 16 = 0

/-! ## The streams of a Kiln core -/

/-- The next instruction of a core's execute stream, with its opcode: the tile, its command, its launch block and the instruction. -/
structure KilnAt (op : Nat) (s : State) (die core : Nat) (t : Tile) (c : Cmd) (l : Launch) (x : ExecInstr) : Prop where
  issues : issuing s die core = some (t, c, l)
  going : t.exe.ended = false
  fetched : fetchInstr s c l t.exe.pos = .got x
  listed : execListed x = true
  opcode : x.opcode = op

/-- A core where nothing is in flight over the work area, and no unit or stationary buffer is in its occupancy. -/
structure Quiet (t : Tile) : Prop where
  flights : t.flights = []
  readers : t.readers = []
  units : ∀ u, (at? t.units u (0, 0)).2 ≤ t.exe.cycle
  buffers : ∀ b, (at? t.bufs b (0, 0)).2 ≤ t.exe.cycle ∧ (at? t.statOld b (none, 0)).2 ≤ t.exe.cycle

/-- `n` bytes of the work area from a line. -/
def work (t : Tile) (line n : Nat) : List Byte := rdBytes t.pad (64 * line) n

/-- The tile once an instruction of a unit has written its results: `occ` cycles of occupancy, results from `lat` cycles on, operands read
until then (R155 to R157). -/
def unitDone (t : Tile) (unit occ lat : Nat) (reads : List (Nat × Nat)) (outs : List (Nat × List Byte)) : Tile :=
  let now := t.exe.cycle
  let w := outs.foldl (fun (w : Memory × List Flight) o =>
    (wrBytes w.1 (64 * o.1) o.2, { line := o.1, ready := now + lat, old := rdBytes w.1 (64 * o.1) (64 * linesOf o.2.length) } :: w.2))
    (t.pad, t.flights)
  { t with
    pad := w.1, flights := w.2, units := t.units.set unit (now, now + occ)
    readers := t.readers ++ readersOf (now + lat) reads (outs.map fun o => ReadDst.lines o.1 (linesOf o.2.length)) }

/-- The state once the next instruction of a core has retired with its tile as `t`: the position moves on, `cycles` are counted, the
breakpoints are tried, and the access stream makes the accesses that are now allowed (R143, R147, R162). -/
def issued (s : State) (die core : Nat) (t : Tile) (next cycles : Nat) (tag : Option Nat) : State :=
  pumped (retired s (advance t next cycles) true tag) die core

/-- An instruction of the vector unit on a quiet core writes `outs`, of what its operands hold. -/
def VectorRow (op : Nat) (i : Nat → Nat → Instr) (P : Tile → ExecInstr → Prop) (mult extra : Tile → ExecInstr → Nat)
    (reads : Tile → ExecInstr → List (Nat × Nat)) (outs : Tile → ExecInstr → List (List FP32) → List (Nat × List Byte)) : Prop :=
  ∀ (s : State) (die core : Nat) (t : Tile) (c : Cmd) (l : Launch) (x : ExecInstr), KilnAt op s die core t c l x → Quiet t → 1 ≤ rVLEN t →
    P t x → (∀ r ∈ reads t x, inWork l r.1 r.2 = true) →
    let o := outs t x ((reads t x).map fun r => fps (work t r.1 r.2))
    (∀ r ∈ o, inWork l r.1 r.2.length = true) →
    exec (i die core) s = .next (issued s die core
      (unitDone t unitVector (mult t x * rVLEN t) (mult t x * rVLEN t + extra t x) (reads t x) o) (t.exe.pos + 1) 1 none)

/-- The next entry of a core's access stream, with its opcode. -/
structure EntryAt (op : Nat) (s : State) (die core : Nat) (t : Tile) (c : Cmd) (l : Launch) (e : Entry) : Prop where
  issues : issuing s die core = some (t, c, l)
  going : t.acc.ended = false
  fetched : fetchEntry s c l t.acc.pos = .got e
  good : badEntry e = false
  opcode : e.opcode = op

/-! ## Ember units -/

/-- The next micro-operation of a unit that runs, with its code, on a channel that lets its units run: for a part of a command (whose
handle is `h`), or in bank view for none (R58); no sod of the part lies on a resource that is not its clamp's (R47). -/
structure EmberAt (op : Nat) (e : ECtx) (h : Handle) (u : EUnit) (x : EOp) : Prop where
  unit : unitOf e.s e.stack e.chan e.unit = u
  works : unitWork e.s e.stack e.chan u = some (e.c, e.b, e.part)
  cmd : e.c.handle = h
  runs : u.state = .running
  mode : unitsRun (chanOf e.s e.stack e.chan) = true
  inStore : u.pc ≤ 255
  fetched : decodeEmber (at? u.store u.pc 0) = x
  opcode : x.op = op
  owned : partForeign e.s e.c e.b e.part = false
  free : e.k = e.s.freeCount

/-- The state once a micro-operation has ended: the unit as `u`, its writes in the command's shadows, or in bank view in the rows of its
bank pair, and `used` free values taken (in bank view 4,096 more, log entry 52). -/
def passed (e : ECtx) (h : Handle) (u : EUnit) (writes : List (Nat × List Byte)) (used : Nat) : State :=
  let s := { e.s with freeCount := if e.bankView then e.s.freeCount + used + 4096 else e.s.freeCount + used }
  let s := if writes.isEmpty then s
    else if e.bankView then applyRows e (unitOf e.s e.stack e.chan e.unit) s writes
    else modCmd s h fun c => { c with shadows := applyWrites e c.shadows writes }
  setUnit s e.stack e.chan e.unit u

/-- Whether every burst of a span may be written: its row is open and lies in a fence range (R188, R211). -/
def spanOpen (e : ECtx) (u : EUnit) (x n : Nat) : Prop := ∀ i, i < n → writeRefused e u (addrPlus x i) = none

/-- The bursts that a span of bytes makes. -/
def burstsOf (x : Nat) (bs : List Byte) : List (Nat × List Byte) :=
  (List.range (ceilDiv bs.length 32)).map fun i => (addrPlus x i, slice bs (32 * i) 32)

/-- The unit that has written their sods. -/
def wrote (u : EUnit) (x : Nat) (bs : List Byte) : EUnit := noteWrites u x (ceilDiv bs.length 32)

/-- A unit whose address registers move on when the operation's inc flag is set (R216). -/
def moved (u : EUnit) (x : EOp) (l : List (Nat × Nat)) : EUnit := if x.inc then l.foldl (fun u m => bump u m.1 m.2) u else u

/-! ## Flue frames and messages -/

/-- A port that is up once a good frame's acknowledgement has been taken and waiting flits have been sent (R366, R367). -/
def ackedAt (s : State) (p : Nat) (f : Frame) : State := pump (modPort s p (dropAcked f.ack)) p

/-- A message of a pair's current epoch, for this module, from a partner whose pair stands (R371, R372). -/
structure PairTakes (s : State) (m : Msg) (p : Pair) : Prop where
  pair : pairOf s m.src = some p
  up : p.up = true
  epoch : p.epoch = m.epoch
  lock : s.flue.lock = true
  mine : m.dst = s.flue.moduleId

/-- The state once a message's arrival has been noted at its pair. -/
def stamped (s : State) (m : Msg) (p : Pair) : State :=
  { s with flue := { s.flue with pairs := tset s.flue.pairs m.src { p with lastArrival := s.now } } }

/-! ## Waits of the block for the host, the supplies and the mailboxes -/

/-- A read of host memory that waits for bytes from an offset of its range on. -/
structure HostWait (s : State) (h : Handle) (c : Cmd) (off : Nat) : Prop where
  cmd : cmdOf s h = some c
  runs : c.phase = .run
  waits : awaited c off = true

/-- A mailbox whose connection has negotiated its algorithms. -/
def Negotiated (s : State) (fn : Nat) : Prop := spdmUp s fn = true ∧ (spdmOf s fn).algs = true

/-- A session of a mailbox, as the body of a row names it: its number, whether it is established, and its secret. -/
structure SessionAt (s : State) (fn : Nat) (body : List Byte) (up : Bool) (secret : List Byte) : Prop where
  answers : spdmUp s fn = true
  session : (spdmOf s fn).sessions.find? (fun e => e.1 == u32 body 0) = some (u32 body 0, up, secret)

end Sys2Proof.Machine
end

