-- ==== Sys2Proof/Certificates/Slice0/Obligations.lean ====
section
/-!
DEFINITION. The statements about the model, for the provers. Those about packets speak of packets that are decided at once (`Admitted`);
`facing` is the state that their tests see, `answered` the state in which their reply stands.
-/
open Sys2Proof Sys2Proof.Machine

/-! ## Packets of contexts, queues and flags -/

/-- CONTEXT_NOP, CONTEXT_CREATE, CONTEXT_DESTROY and CONTEXT_SET, when no test of theirs fails: the reply is OK; CONTEXT_CREATE takes the
lowest free number and answers it with the version agreed, CONTEXT_DESTROY ends the context, CONTEXT_SET changes the fields that its mask
names, a weight of 0 becoming 1,000 and a wait limit of 0 becoming 50 ms. -/
def Obligations.ContextPackets : Prop :=
  Decides .contextNop 0x0000 (fun _ _ => True) (fun _ _ => .ok 0) ∧
  Decides .contextCreate 0x0001
    (fun s p =>
      let b := ownParams p
      let minor := ((agreedVersion (u16 b 0) (u16 b 2)).getD 0) % 256
      (agreedVersion (u16 b 0) (u16 b 2)).isSome = true ∧ badContextParams b minor = false
        ∧ (p.fn = 0 ∨ (clampOf s (u8 b 4)).state ≠ .unconfigured) ∧ (clampOf s (u8 b 4)).assign.getLsbD p.fn = true
        ∧ s.ctxs.length < 1024 ∧ clampContexts s (u8 b 4) < clampMaxCtx (clampOf s (u8 b 4)))
    (fun s p =>
      let b := ownParams p
      let minor := ((agreedVersion (u16 b 0) (u16 b 2)).getD 0) % 256
      .ok (tfree s.ctxs 0 + 2 ^ 16 + minor * 2 ^ 24) fun t =>
        { t with ctxs := tset t.ctxs (tfree s.ctxs 0) (ctxFrom p.fn minor b (slice p.choice.rand 0 32)) }) ∧
  Decides .contextDestroy 0x0002
    (fun s p =>
      let n := u16 (ownParams p) 0
      n ≤ 1023 ∧ ∃ c, ctxOf s n = some c ∧ c.fn = p.fn ∧ c.ending = false)
    (fun _ p => .ok 0 fun t => settled (endContext t (u16 (ownParams p) 0))) ∧
  Decides .contextSet 0x0003
    (fun _ p =>
      let b := ownParams p
      (bit (u8 b 0) 1 = true → u64 b 8 = 0 ∨ (1000 ≤ u64 b 8 ∧ u64 b 8 ≤ 6000000000))
        ∧ (bit (u8 b 0) 3 = true → 1 ≤ u16 b 24 ∧ u16 b 24 ≤ 64 ∧ 1 ≤ u32 b 28 ∧ u32 b 28 ≤ 100000))
    (fun _ p =>
      let b := ownParams p
      let m := u8 b 0
      .ok 0 fun t => modCtx t p.ctx fun c => { c with
        weight := if bit m 0 then (if u16 b 2 = 0 then 1000 else u16 b 2) else c.weight
        waitLimit := if bit m 1 then (if u64 b 8 = 0 then 5000000 else u64 b 8) else c.waitLimit
        remoteMask := if bit m 2 then BitVec.ofNat 64 (u64 b 16) else c.remoteMask
        coalCount := if bit m 3 then u16 b 24 else c.coalCount
        coalTime := if bit m 3 then u32 b 28 else c.coalTime })

/-- COMMAND_QUERY answers the command's state; COMMAND_CANCEL runs, and ends OK when it won and ALREADY_DONE when it lost; QUEUE_RESUME
ends a queue's halt and answers whether there was one; QUEUE_FLUSH ends the queue's commands CANCELLED and answers how many; FLAG_WRITE
waits in its queue; FLAG_READ answers the flag's value. -/
def Obligations.QueueAndFlagPackets : Prop :=
  (∀ c : Cmd, Decides .commandQuery 0x0010
    (fun s p => cmdOf s (handleAt (ownParams p) 0) = some c ∧ (handleAt (ownParams p) 0).ctx = p.ctx)
    (fun s _ => .ok (queryValue s c))) ∧
  Decides .commandCancel 0x0011
    (fun s p => (cmdOf s (handleAt (ownParams p) 0)).isSome = true ∧ (handleAt (ownParams p) 0).ctx = p.ctx)
    (fun s p => runsAs (.atOnce 0x0011) (fun me t =>
      let r := takeCancel t (handleAt (ownParams p) 0)
      finish r.1 me (if r.2 then stOk else stAlreadyDone)) s p) ∧
  Decides .queueResume 0x0012 (fun _ p => u8 (ownParams p) 0 ≤ 15)
    (fun s p =>
      let q := u8 (ownParams p) 0
      .ok (b2n (((ctxOf s p.ctx).map fun c => (at? c.queues q {}).halted).getD false)) fun t =>
        settled (modCtx t p.ctx fun c => { c with queues := c.queues.modify q fun u => { u with halted := false } })) ∧
  Decides .queueFlush 0x0013 (fun _ p => u8 (ownParams p) 0 ≤ 15)
    (fun s p =>
      let q := u8 (ownParams p) 0
      .ok (flushable s p.ctx q).length fun t =>
        let t := (flushable t p.ctx q).foldl (fun t c => endCmd t c.handle stCancelled none true) t
        settled (modCtx t p.ctx fun c => { c with queues := c.queues.modify q fun u => { u with halted := false } })) ∧
  Decides .flagWrite 0x0014
    (fun s p => depOk s p.ctx p = true ∧ u8 (ownParams p) 0 ≤ 63 ∧ u8 (ownParams p) 1 ≤ 1)
    (fun s p =>
      let b := ownParams p
      queuedAs (.flagWrite { flag := u8 b 0, add := u8 b 1 == 1, value := u32 b 4 }) s p) ∧
  Decides .flagRead 0x0015 (fun _ p => u8 (ownParams p) 0 ≤ 63)
    (fun s p => .ok (((ctxOf s p.ctx).map fun c => at? c.flags (u8 (ownParams p) 0) 0).getD 0))

/-! ## Packets of tensors and shard sets -/

/-- TENSOR_CREATE enters the tensor under a new handle and writes its DONE record; TENSOR_GRANT and TENSOR_REVOKE change its grants;
TENSOR_INFO answers its sods and its ash sods; SHARD_SET_CREATE enters the set; SHARD_SET_DESTROY takes out one that no tensor names. -/
def Obligations.TensorObjectPackets : Prop :=
  Decides .tensorCreate 0x0100
    (fun s p =>
      let b := ownParams p
      let t := tensorFrom s p.ctx b (newHandle s p.ctx p.choice.pick)
      badTensorParams s p.ctx b = false ∧ (∀ x, shardSetOf s t.shardSet = some x → x.handle.ctx = p.ctx) ∧ (t.shared = true → p.fn = 0)
        ∧ (s.store.tensors.filter fun x => x.handle.ctx == p.ctx && !x.destroyed).length < 65536 ∧ s.store.tensors.length < 1048576
        ∧ tensorSods t ≤ clampFree s t.clamp ∧ (t.shared = true → 11 ≤ placeableStacks s t.clamp))
    (fun s p =>
      let h := newHandle s p.ctx p.choice.pick
      { status := stAccepted, handle := h, effect := fun t =>
          let t := takeSlot t h
          let t := { t with store := { t.store with tensors := t.store.tensors ++ [tensorFrom s p.ctx (ownParams p) h] } }
          let t := modCtx t p.ctx fun c => { c with endedOk := c.endedOk + 1 }
          putRec t p.ctx (createdRec t p p.ctx h) }) ∧
  Decides .tensorGrant 0x0102
    (fun s p =>
      let b := ownParams p
      badTensor s (handleAt b 0) = false ∧ u16 b 8 ≤ 1023 ∧ u8 b 10 ≤ 1 ∧ (handleAt b 0).ctx = p.ctx)
    (fun _ p =>
      let b := ownParams p
      .ok 0 fun t => modTensor t (handleAt b 0) fun x =>
        { x with grants := x.grants.filter (fun g => g.1 != u16 b 8) ++ [(u16 b 8, u8 b 10 == 1)] }) ∧
  Decides .tensorRevoke 0x0103
    (fun s p => badTensor s (handleAt (ownParams p) 0) = false ∧ u16 (ownParams p) 8 ≤ 1023 ∧ (handleAt (ownParams p) 0).ctx = p.ctx)
    (fun _ p =>
      let b := ownParams p
      .ok 0 fun t => modTensor t (handleAt b 0) fun x => { x with grants := x.grants.filter fun g => g.1 != u16 b 8 }) ∧
  (∀ t : Tensor, Decides .tensorInfo 0x0109
    (fun s p => tensorOf s (handleAt (ownParams p) 0) = some t ∧ mayRead t p.ctx = true)
    (fun _ _ => .ok (tensorSods t % 2 ^ 32 + ashCount t * 2 ^ 32))) ∧
  Decides .shardSetCreate 0x0110
    (fun s p => badShardSet s p.ctx (ownParams p) = false)
    (fun s p =>
      let h := newHandle s p.ctx p.choice.pick
      { status := stOk, handle := h, effect := fun t =>
          let t := takeSlot t h
          { t with store := { t.store with shardSets := t.store.shardSets ++ [shardSetFrom (ownParams p) h] } } }) ∧
  Decides .shardSetDestroy 0x0111
    (fun s p =>
      let h := handleAt (ownParams p) 0
      (shardSetOf s h).isSome = true ∧ h.ctx = p.ctx ∧ ∀ t ∈ s.store.tensors, t.shardSet = h → t.destroyed = true)
    (fun _ p =>
      let h := handleAt (ownParams p) 0
      .ok 0 fun t => dropSlot { t with store := { t.store with shardSets := t.store.shardSets.filter fun x => x.handle != h } } h)

/-- TENSOR_DESTROY, TENSOR_READ, TENSOR_WRITE, TENSOR_COPY, TENSOR_FILL and TENSOR_GATHER, when no test of theirs fails, are accepted with
a new handle and wait in their queue with the operands of their parameters. -/
def Obligations.TensorQueuePackets : Prop :=
  Decides .tensorDestroy 0x0101
    (fun s p => depOk s p.ctx p = true ∧ badTensor s (handleAt (ownParams p) 0) = false ∧ (handleAt (ownParams p) 0).ctx = p.ctx)
    (fun s p => queuedAs (.tensorDestroy (handleAt (ownParams p) 0)) s p) ∧
  Decides .tensorRead 0x0104
    (fun s p =>
      let b := ownParams p
      depOk s p.ctx p = true ∧ badTensor s (handleAt b 0) = false ∧ badTransfer s b = false
        ∧ deniedTensor s p.ctx (handleAt b 0) false = false)
    (fun s p =>
      let b := ownParams p
      queuedAs (.tensorRead (handleAt b 0) (u64 b 8) (u64 b 16) (u64 b 24) (u8 b 32) (u8 b 33)) s p) ∧
  Decides .tensorWrite 0x0105
    (fun s p =>
      let b := ownParams p
      depOk s p.ctx p = true ∧ badTensor s (handleAt b 0) = false ∧ badTransfer s b = false
        ∧ deniedTensor s p.ctx (handleAt b 0) true = false)
    (fun s p =>
      let b := ownParams p
      queuedAs (.tensorWrite (handleAt b 0) (u64 b 8) (u64 b 16) (u64 b 24) (u8 b 32) (u8 b 33)) s p) ∧
  Decides .tensorCopy 0x0106
    (fun s p =>
      let b := ownParams p
      depOk s p.ctx p = true ∧ badTensor s (handleAt b 0) = false ∧ badTensor s (handleAt b 8) = false
        ∧ 1 ≤ u64 b 32 ∧ u64 b 32 ≤ 2 ^ 34
        ∧ (fmtMx (fmtOf s (handleAt b 8)) = true → u64 b 24 % 32 = 0 ∧ u64 b 32 % 32 = 0)
        ∧ deniedTensor s p.ctx (handleAt b 0) false = false ∧ deniedTensor s p.ctx (handleAt b 8) true = false)
    (fun s p =>
      let b := ownParams p
      queuedAs (.tensorCopy (handleAt b 0) (handleAt b 8) (u64 b 16) (u64 b 24) (u64 b 32)) s p) ∧
  Decides .tensorFill 0x0107
    (fun s p =>
      let b := ownParams p
      depOk s p.ctx p = true ∧ badTensor s (handleAt b 0) = false ∧ deniedTensor s p.ctx (handleAt b 0) true = false)
    (fun s p =>
      let b := ownParams p
      queuedAs (.tensorFill (handleAt b 0) (u64 b 8) (u64 b 16) (slice b 24 8)) s p) ∧
  Decides .tensorGather 0x0108
    (fun s p =>
      let b := ownParams p
      depOk s p.ctx p = true ∧ badTensor s (handleAt b 0) = false ∧ badTensor s (handleAt b 8) = false
        ∧ badTensor s (handleAt b 16) = false ∧ fmtOf s (handleAt b 8) = 0x10
        ∧ 1 ≤ u32 b 24 ∧ u32 b 24 ≤ 16777216 ∧ 1 ≤ u32 b 28 ∧ u32 b 28 ≤ 65536
        ∧ deniedTensor s p.ctx (handleAt b 0) false = false ∧ deniedTensor s p.ctx (handleAt b 8) false = false
        ∧ deniedTensor s p.ctx (handleAt b 16) true = false)
    (fun s p =>
      let b := ownParams p
      queuedAs (.tensorGather (handleAt b 0) (handleAt b 8) (handleAt b 16) (u32 b 24) (u32 b 28)) s p)

/-! ## Packets of launches -/

/-- PROGRAM_LAUNCH and INBANK_LAUNCH read their block from the parameter tensor and, when no test fails, wait in their queue with what the
block says (a launch's decision makes ash of the program's sods whose tags do not hold, R37); SLANE_RESUME runs a halted command again or
ends its wait, and ends ALREADY_DONE when there is no halt to end. -/
def Obligations.LaunchPackets : Prop :=
  (∀ x : List Byte, Decides .programLaunch 0x0200
    (fun s p =>
      let b := ownParams p
      let l := launchFrom x
      depOk s p.ctx p = true ∧ readParamTensor s p.ctx (handleAt b 0) (u64 b 8) (u32 b 16) 655360 = .ok x ∧ launchLen x ≤ x.length
        ∧ (∀ y ∈ l.bindings, y.kind = 2 → tagInUse s p.ctx y.src y.tag = false)
        ∧ badLaunch s (clampNum s p.ctx) x false = false ∧ deniedLaunch s p.ctx l = false
        ∧ noCore s (clampNum s p.ctx) = false ∧ (l.inband.isSome = true → noStack s (clampNum s p.ctx) = false))
    (fun s p =>
      let l := launchFrom x
      let v := queuedAs (.program l) s p
      { v with effect := fun t => v.effect (imageFinds t l.program) })) ∧
  (∀ x : List Byte, Decides .inbankLaunch 0x0201
    (fun s p =>
      let b := ownParams p
      depOk s p.ctx p = true ∧ readParamTensor s p.ctx (handleAt b 0) (u64 b 8) (u32 b 16) 655360 = .ok x ∧ 304 ≤ x.length
        ∧ badInbank s x 16777216 = false ∧ deniedInbank s p.ctx (inbankFrom x) = false ∧ noStack s (clampNum s p.ctx) = false)
    (fun s p => queuedAs (.inband (inbankFrom x)) s p)) ∧
  Decides .slaneResume 0x0202
    (fun s p =>
      let b := ownParams p
      (cmdOf s (handleAt b 0)).isSome = true ∧ u8 b 8 ≤ 1 ∧ (handleAt b 0).ctx = p.ctx)
    (fun s p => runsAs (.atOnce 0x0202) (fun me t =>
      let h := handleAt (ownParams p) 0
      if haltOpen t h then finish (if u8 (ownParams p) 8 = 0 then retrySlane t h else abortSlane t h) me stOk
      else finish t me stAlreadyDone) s p)

/-! ## Packets of the serving engine -/

/-- GENERATE, when no test fails, enters a request in the request table; REQUEST_CANCEL ends OK when it won and ALREADY_DONE when it lost
(a request handed over is cancelled where it is decoded); REQUEST_QUERY answers the request's state. -/
def Obligations.RequestPackets : Prop :=
  (∀ (m : Model) (head x : List Byte), Decides .generate 0x0300
    (fun s p =>
      let b := ownParams p
      let k := clampNum s p.ctx
      let role := (clampOf s k).role
      let q := reqFrom s (packetSender p) b (reqBlockOf x) (newHandle s p.ctx p.choice.pick)
      modelOf s k (u64 b 0) = some m ∧ m.retiring = false
        ∧ u8 b 35 ≤ 1 ∧ (role = 0 → u8 b 35 = 0) ∧ (role = 1 → u8 b 35 = 1) ∧ (u8 b 35 = 1 → u8 b 34 ≤ 7) ∧ role ≠ 2
        ∧ (u8 b 35 = 1 → u16 b 32 = s.flue.moduleId → (modelOf s (u8 b 34) (u64 b 0)).isSome = true)
        ∧ (u16 b 8 = 0 ∨ ∃ v ∈ s.serve.versions, v.of k (u64 b 0) (u16 b 8) = true ∧ v.current = true) ∧ u16 b 36 ≤ 1023
        ∧ readParamTensor s p.ctx (handleAt b 16) (u64 b 24) 512 655360 = .ok head ∧ u32 head 0 < m.maxSeq
        ∧ readParamTensor s p.ctx (handleAt b 16) (u64 b 24) (512 + 4 * u32 head 0) 655360 = .ok x
        ∧ badReqBlock x m.vocab m.maxSeq = false
        ∧ (u8 b 35 = 0 ∨ u16 b 32 = s.flue.moduleId → badReply s q.targetClamp q.replyCtx = false)
        ∧ servesModel s k m = true ∧ tableFull s k = false ∧ promptTooBig s k m (u32 head 0) = false)
    (fun s p =>
      let q := reqFrom s (packetSender p) (ownParams p) (reqBlockOf x) (newHandle s p.ctx p.choice.pick)
      runsAs (.generate q.id) (fun _ t => addReq t q) s p)) ∧
  (∀ q : Req, Decides .requestCancel 0x0301
    (fun s p => reqByHandle s (handleAt (ownParams p) 0) = some q ∧ concerns s p.ctx q = true)
    (fun s p => runsAs (.requestCancel q.id) (fun me t =>
      if q.sentAway then forwardCancel t me q
      else
        let r := cancelReq t q.id
        finish r.1 me (if r.2 then stOk else stAlreadyDone)) s p)) ∧
  (∀ q : Req, Decides .requestQuery 0x030A
    (fun s p => reqByHandle s (handleAt (ownParams p) 0) = some q ∧ concerns s p.ctx q = true)
    (fun _ _ => .ok (q.state.code + 256 * b2n q.stalled + 512 * b2n q.parked + 2 ^ 32 * q.kvLen)))

/-- MODEL_REGISTER enters the model and ends OK; from a MODEL_RETIRE on the model is retiring; SHAVING_LOAD enters the first version of a
shaving, current, and ends OK; SHAVING_REPLACE ends the replacements before it, and then waits when there is no room; SHAVING_RETIRE lets
no new request bind, and frees the versions to which none is bound. -/
def Obligations.ModelAndShavingPackets : Prop :=
  Decides .modelRegister 0x0302
    (fun s p =>
      let b := ownParams p
      let k := clampNum s p.ctx
      modelInRange b ∧ modelOf s k (u64 b 0) = none
        ∧ badGraphHandle s k (handleAt b 24) = false ∧ badGraphHandle s k (handleAt b 32) = false
        ∧ deniedTensor s p.ctx (handleAt b 24) false = false ∧ deniedTensor s p.ctx (handleAt b 32) false = false
        ∧ (s.serve.models.filter fun m => m.clamp == k).length < 16)
    (fun s p => runsAs (.atOnce 0x0302) (fun me t =>
      let b := ownParams p
      finish { t with serve := { t.serve with models := t.serve.models ++ [{
        clamp := clampNum s p.ctx, fingerprint := u64 b 0, vocab := u32 b 8, layers := u8 b 12, kvHeads := u8 b 13, kvFmt := u8 b 16
        maxSeq := u32 b 20, prefill := handleAt b 24, stepGraph := handleAt b 32, handle := me }] } } me stOk) s p) ∧
  Decides .modelRetire 0x0303
    (fun s p => (modelOf s (clampNum s p.ctx) (u64 (ownParams p) 0)).isSome = true)
    (fun s p => runsAs (.modelRetire (clampNum s p.ctx) (u64 (ownParams p) 0)) (fun _ t =>
      let mark := fun m : Model =>
        if m.clamp = clampNum s p.ctx ∧ m.fingerprint = u64 (ownParams p) 0 then { m with retiring := true } else m
      { t with serve := { t.serve with models := t.serve.models.map mark } }) s p) ∧
  Decides .shavingLoad 0x0304
    (fun s p =>
      let b := ownParams p
      let k := clampNum s p.ctx
      (modelOf s k (u64 b 0)).isSome = true ∧ u16 b 8 ≠ 0 ∧ (∀ v ∈ s.serve.versions, v.clamp = k → v.number ≠ u16 b 8)
        ∧ badVersion s k p b = false ∧ deniedTensor s p.ctx (handleAt b 16) false = false ∧ versionRoomLacks s k (handleAt b 16) = false)
    (fun s p => runsAs (.atOnce 0x0304) (fun me t =>
      let b := ownParams p
      finish { t with serve := { t.serve with versions := t.serve.versions ++ [{
        clamp := clampNum s p.ctx, model := u64 b 0, number := u16 b 8, fingerprint := u64 b 24, patch := handleAt b 16
        size := patchSods t (handleAt b 16), current := true
        sods := ((tensorOf t (handleAt b 16)).map (·.sods)).getD [] }] } } me stOk) s p) ∧
  Decides .shavingReplace 0x0305
    (fun s p =>
      let b := ownParams p
      let k := clampNum s p.ctx
      (∃ v ∈ s.serve.versions, v.of k (u64 b 0) (u16 b 8) = true ∧ v.current = true) ∧ retiringShaving s k (u64 b 0) (u16 b 8) = false
        ∧ badVersion s k p b = false ∧ deniedTensor s p.ctx (handleAt b 16) false = false
        ∧ (versionRoomLacks s k (handleAt b 16) = true → bit (u8 b 32) 0 = true))
    (fun s p =>
      let b := ownParams p
      let k := clampNum s p.ctx
      let v := runsAs (.shavingReplace k (u64 b 0) (u16 b 8) (u64 b 24) (handleAt b 16)) (fun me t =>
        if versionRoomLacks s k (handleAt b 16) then
          { t with serve := { t.serve with noBind := t.serve.noBind ++ [(k, u64 b 0, u16 b 8)] } }
        else modCmd t me fun c => { c with done := true }) s p
      { v with effect := fun t => v.effect (endReplaces t k (u64 b 0) (u16 b 8)) }) ∧
  Decides .shavingRetire 0x0306
    (fun s p => ∃ v ∈ s.serve.versions, v.of (clampNum s p.ctx) (u64 (ownParams p) 0) (u16 (ownParams p) 8) = true)
    (fun s p =>
      let b := ownParams p
      let k := clampNum s p.ctx
      runsAs (.shavingRetire k (u64 b 0) (u16 b 8)) (fun _ t =>
        freeVersions { t with serve := { t.serve with noBind := t.serve.noBind ++ [(k, u64 b 0, u16 b 8)] } }) s p)

/-- SERVING_CONFIGURE sets a stopped clamp's serving settings, makes its serving context once, and answers that context's number;
SHARING_GROUP_SET puts the contexts that it names into the group and gives all of the group the salt; SERVING_REPLY_ENABLE makes the
sending context a reply context or stops it being one. -/
def Obligations.ServingSettingPackets : Prop :=
  Decides .servingConfigure 0x0307
    (fun s p =>
      let b := ownParams p
      let k := u8 b 0
      let c := clampOf s k
      let old := c.serving.map (·.ctx)
      let v := servingFrom b (old.getD (tfree s.ctxs 0))
      k ≤ 7 ∧ c.state = .stopped ∧ c.changing = false ∧ badServing s k v = false
        ∧ (old = none → s.ctxs.length < 1024 ∧ clampContexts s k < clampMaxCtx c)
        ∧ poolSods v ≤ clampFree s k + (c.serving.map poolSods).getD 0)
    (fun s p =>
      let b := ownParams p
      let k := u8 b 0
      let n := ((clampOf s k).serving.map (·.ctx)).getD (tfree s.ctxs 0)
      .ok n fun t =>
        let t := modClamp t k fun c => { c with serving := some (servingFrom b n) }
        let t := { t with layoutGen := (t.layoutGen + 1) % 2 ^ 32 }
        match ctxOf t n with
        | some _ => modCtx t n fun x => { x with weight := (servingFrom b n).weight }
        | none => { t with ctxs := tset t.ctxs n { fn := 0, clamp := k, weight := (servingFrom b n).weight, serving := true } }) ∧
  Decides .sharingGroupSet 0x0308
    (fun s p =>
      let b := ownParams p
      1 ≤ u16 b 0 ∧ u16 b 0 ≤ 1023 ∧ 1 ≤ u8 b 2 ∧ u8 b 2 ≤ 16 ∧ ∀ n ∈ groupMembers b, ∃ c, ctxOf s n = some c ∧ c.ending = false)
    (fun _ p =>
      let b := ownParams p
      let g := u16 b 0
      let join := fun e : Nat × Ctx =>
        if (groupMembers b).contains e.1 then (e.1, { e.2 with group := g, salt := slice b 8 32 })
        else if e.2.group = g then (e.1, { e.2 with salt := slice b 8 32 }) else e
      .ok 0 fun t => { t with
        ctxs := t.ctxs.map join
        layoutGen := (t.layoutGen + 1) % 2 ^ 32
        serve := { t.serve with salts := tset t.serve.salts g (slice b 8 32) } }) ∧
  Decides .servingReplyEnable 0x0309
    (fun _ p => u8 (ownParams p) 0 ≤ 1)
    (fun _ p => .ok 0 fun t => modCtx t p.ctx fun c => { c with replyEnabled := u8 (ownParams p) 0 == 1 })

/-! ## Packets of the Flue and of clamps -/

/-- FLUE_SEND, FLUE_RECEIVE, FLUE_FLAG_SET and FLUE_REDUCE, when no test fails, wait in their queue with the operands of their parameters;
FLUE_PORT_STATUS answers a byte for each port. -/
def Obligations.FluePackets : Prop :=
  Decides .flueSend 0x0400
    (fun s p =>
      let b := ownParams p
      depOk s p.ctx p = true ∧ badTensor s (handleAt b 0) = false ∧ badTag s p.ctx (u16 b 24) (u64 b 32) = false ∧ u16 b 26 ≤ 1023
        ∧ deniedTensor s p.ctx (handleAt b 0) false = false)
    (fun s p =>
      let b := ownParams p
      queuedAs (.flueSend (handleAt b 0) (u64 b 8) (u64 b 16) (u16 b 24) (u16 b 26) (u64 b 32)) s p) ∧
  Decides .flueReceive 0x0401
    (fun s p =>
      let b := ownParams p
      depOk s p.ctx p = true ∧ badTensor s (handleAt b 0) = false ∧ badTag s p.ctx (u16 b 24) (u64 b 32) = false
        ∧ deniedTensor s p.ctx (handleAt b 0) true = false)
    (fun s p =>
      let b := ownParams p
      queuedAs (.flueReceive (handleAt b 0) (u64 b 8) (u64 b 16) (u16 b 24) (u64 b 32)) s p) ∧
  Decides .flueFlagSet 0x0402
    (fun s p =>
      let b := ownParams p
      depOk s p.ctx p = true ∧ u16 b 2 ≤ 1023 ∧ u8 b 4 ≤ 63 ∧ u8 b 5 ≤ 1)
    (fun s p =>
      let b := ownParams p
      queuedAs (.flueFlagSet (u16 b 0) (u16 b 2) (u8 b 4) (u8 b 5 == 1) (u32 b 8)) s p) ∧
  Decides .flueReduce 0x0403
    (fun s p =>
      let b := ownParams p
      depOk s p.ctx p = true ∧ badReduce s (handleAt b 0) (handleAt b 8) (u8 b 16) (u8 b 17) = false
        ∧ deniedTensor s p.ctx (handleAt b 0) false = false ∧ deniedTensor s p.ctx (handleAt b 8) true = false
        ∧ reduceUnreached s (handleAt b 0) (u8 b 16) = false)
    (fun s p =>
      let b := ownParams p
      queuedAs (.flueReduce (handleAt b 0) (handleAt b 8) (u8 b 16)) s p) ∧
  Decides .fluePortStatus 0x0404 (fun _ _ => True)
    (fun s _ => .ok (leNat ((List.range 8).map fun i => BitVec.ofNat 8 (portOf s i).brief)))

/-- CLAMP_CONFIGURE sets all the settings of an unconfigured or stopped clamp at once, or ends NO_SPACE with the old ones kept, or stays in run
while a shadow holds up a move (R54);
CLAMP_START makes a stopped clamp run; CLAMP_STOP makes a running one stop, in KILL mode with its commands killed; CLAMP_DELETE makes a
stopped clamp unconfigured; CLAMP_ASSIGN sets which functions may use a clamp; CLAMP_QUERY answers its state. -/
def Obligations.ClampPackets : Prop :=
  Decides .clampConfigure 0x0500
    (fun s p =>
      let b := ownParams p
      let c := clampOf s (u8 b 0)
      badSettings b = false ∧ badUnits s (u8 b 0) (clampFrom b c) = false ∧ badSums s (u8 b 0) (clampFrom b c) = false
        ∧ (c.state = .unconfigured ∨ c.state = .stopped) ∧ c.changing = false)
    (fun s p =>
      let k := u8 (ownParams p) 0
      let new := clampFrom (ownParams p) (clampOf s k)
      runsAs (.clampConfigure k (ownParams p)) (fun me t =>
        if storageLacks t k new then finish t me stNoSpace
        else if movesHeld t k new then modClamp t k fun c => { c with changing := true }
        else finish (configureNow t k (ownParams p)) me stOk) s p) ∧
  Decides .clampStart 0x0501
    (fun s p =>
      let c := clampOf s (u8 (ownParams p) 0)
      u8 (ownParams p) 0 ≤ 7 ∧ c.state = .stopped ∧ c.changing = false ∧ c.resetting = false ∧ debugMoving s = false
        ∧ anyBankView s c = false)
    (fun _ p => .ok 0 fun t => settled (modClamp t (u8 (ownParams p) 0) fun c => { c with state := .running, sliceStart := t.now })) ∧
  Decides .clampStop 0x0502
    (fun s p =>
      let b := ownParams p
      u8 b 0 ≤ 7 ∧ u8 b 1 ≤ 1 ∧ (u8 b 1 = 0 → 1000 ≤ u64 b 8 ∧ u64 b 8 ≤ 6000000000)
        ∧ (clampOf s (u8 b 0)).state = .running ∧ (clampOf s (u8 b 0)).changing = false)
    (fun s p =>
      let b := ownParams p
      let k := u8 b 0
      runsAs (.clampStop k) (fun me t =>
        let t := modClamp t k fun c =>
          { c with state := .stopping, stop := some { cmd := some me, kill := u8 b 1 == 1, deadline := t.now + u64 b 8 } }
        if u8 b 1 = 1 then settled (killClamp t k) else abandonSwitches t k) s p) ∧
  Decides .clampDelete 0x0503
    (fun s p =>
      let k := u8 (ownParams p) 0
      let c := clampOf s k
      k ≤ 7 ∧ c.state = .stopped ∧ c.changing = false ∧ c.resetting = false ∧ clampContexts s k = 0
        ∧ ∀ t ∈ s.store.tensors, t.clamp ≠ k)
    (fun _ p => .ok 0 fun t => newLayout (modClamp t (u8 (ownParams p) 0) unconfigure)) ∧
  Decides .clampAssign 0x0504
    (fun _ p => u8 (ownParams p) 0 ≤ 7)
    (fun _ p => .ok 0 fun t =>
      newLayout (modClamp t (u8 (ownParams p) 0) fun c => { c with assign := BitVec.ofNat 64 (u64 (ownParams p) 8) })) ∧
  Decides .clampQuery 0x0505
    (fun s p => u8 (ownParams p) 0 ≤ 7 ∧ (p.fn = 0 ∨ (clampOf s (u8 (ownParams p) 0)).assign.getLsbD p.fn = true))
    (fun s p => .ok (clampValue s (u8 (ownParams p) 0)))

/-! ## Packets of the module's management -/

/-- TELEMETRY_READ runs and writes its snapshot at commit; COUNTER_SELECT chooses a bank's event and clears the bank; EVENT_ROUTE sets a
source's target and level, and the lines of the old and the new target are taken anew; POWER_CAP_SET sets the cap at once and waits for
the window ends; SCRUB_SET sets the period that applies from the next pass. -/
def Obligations.ManagePackets : Prop :=
  Decides .telemetryRead 0x0600
    (fun s p =>
      let b := ownParams p
      u8 b 8 ≤ 2 ∧ (u8 b 8 = 1 → u8 b 9 ≤ 7)
        ∧ (p.fn = 0 ∨ (u8 b 8 ≠ 2 ∧ (u8 b 8 = 1 → (clampOf s (u8 b 9)).assign.getLsbD p.fn = true))))
    (fun s p => runsAs (.telemetry (u8 (ownParams p) 8) (u8 (ownParams p) 9) (u64 (ownParams p) 0))
      (fun me t => modCmd t me fun c => { c with done := true }) s p) ∧
  Decides .counterSelect 0x0601
    (fun _ p => u8 (ownParams p) 0 ≤ 15 ∧ u16 (ownParams p) 2 ∈ selectors)
    (fun _ p =>
      let b := ownParams p
      .ok 0 fun t => { t with evt := { t.evt with
        bankSel := t.evt.bankSel.set (u8 b 0) (u16 b 2), bank := t.evt.bank.set (u8 b 0) 0 } }) ∧
  Decides .eventRoute 0x0602
    (fun _ p =>
      let b := ownParams p
      1 ≤ u16 b 0 ∧ u16 b 0 ≤ 511 ∧ 4 ≤ u8 b 2 ∧ u8 b 2 ≤ 67 ∧ u8 b 3 ≤ 15)
    (fun s p =>
      let b := ownParams p
      .ok 0 fun t => reassess (reassess (modSrc t (u16 b 0) fun x => { x with target := u8 b 2, level := u8 b 3 })
        (srcOf s (u16 b 0)).target) (u8 b 2)) ∧
  Decides .powerCapSet 0x0603
    (fun _ p => 600 ≤ u16 (ownParams p) 0 ∧ u16 (ownParams p) 0 ≤ 2400)
    (fun s p =>
      let n := u16 (ownParams p) 0
      runsAs (.powerCap n) (fun me t =>
        let t := modCmd t me fun c => { c with phase := .commit, committed := true, stamp := t.now }
        { t with pwr := { t.pwr with cap := n, capCmds := t.pwr.capCmds ++ [me] } }) s p) ∧
  Decides .scrubSet 0x0604
    (fun _ p => 1 ≤ u8 (ownParams p) 0 ∧ u8 (ownParams p) 0 ≤ 168)
    (fun _ p => .ok 0 fun t => { t with store := { t.store with scrubNext := u8 (ownParams p) 0 } })

/-- FW_STAGE reads and verifies the image, ends DATA_ASH on a bad sod of it and DENIED when it does not verify or names the running slot,
and else starts the write of the slot; FW_ACTIVATE, KEY_REVOKE and REPAIR_COMMIT start their non-volatile write. -/
def Obligations.FirmwarePackets : Prop :=
  (∀ x : Tensor, Decides .fwStage 0x0700
    (fun s p =>
      let b := ownParams p
      tensorOf s (handleAt b 0) = some x ∧ u32 b 8 ≤ x.bytes ∧ u8 b 12 ≤ 1 ∧ u32 b 8 ≤ 16777216
        ∧ deniedTensor s p.ctx (handleAt b 0) false = false)
    (fun s p =>
      let b := ownParams p
      let image := readView x.sods 0 0 (u32 b 8)
      runsAs (.fwStage (u8 b 12) image) (fun me t =>
        let r := checkSods t x.sods (handleAt b 0) (sodsOf 0 0 (u32 b 8))
        if !r.2 then finish r.1 me stDataAsh
        else if !imageVerifies t image || u8 b 12 == t.sec.running.slot then finish t me stDenied
        else startNv t me) s p)) ∧
  Decides .fwActivate 0x0701
    (fun s p => u8 (ownParams p) 0 ≤ 1 ∧ (at? s.sec.slots (u8 (ownParams p) 0) {}).digest.isSome = true)
    (fun s p => runsAs (.fwActivate (u8 (ownParams p) 0)) (fun me t => startNv t me) s p) ∧
  Decides .keyRevoke 0x0702
    (fun s p =>
      let n := u8 (ownParams p) 0
      n ≤ 3 ∧ n ≠ s.sec.running.key ∧ keysLeft s ≠ [n])
    (fun s p => runsAs (.keyRevoke (u8 (ownParams p) 0)) (fun me t => startNv t me) s p) ∧
  (∀ x : List Byte, Decides .repairCommit 0x0705
    (fun s p =>
      let b := ownParams p
      let n := u16 b 16
      u8 b 0 ≤ 11 ∧ 1 ≤ n ∧ n ≤ 256 ∧ readParamTensor s p.ctx (handleAt b 8) 0 (4 * n) 655360 = .ok x
        ∧ (∀ i < n, badRow x i = false) ∧ (tgetD s.store.softRepairs (u8 b 0) []).length + n ≤ 4096)
    (fun s p =>
      let b := ownParams p
      runsAs (.repairCommit (u8 b 0) ((List.range (u16 b 16)).map (repairRow x))) (fun me t => startNv t me) s p))

/-- DEBUG_UNLOCK ends DENIED unless debug is locked and the token opens this module, and else goes to UNLOCKING with everything wiped;
DEBUG_LOCK ends DENIED unless debug is unlocked and every clamp quiet, and else goes to LOCKING, debug access over, with everything wiped. -/
def Obligations.DebugStatePackets : Prop :=
  (∀ x : List Byte, Decides .debugUnlock 0x0703
    (fun s p =>
      readParamTensor s p.ctx (handleAt (ownParams p) 0) 0 (u32 (ownParams p) 8) 655360 = .ok x ∧ clampsQuiet s = true)
    (fun s p => runsAs (.debugUnlock x) (fun me t =>
      if t.sec.debug ≠ .locked ∨ !tokenValid t x then finish t me stDenied
      else
        let t := modCmd t me fun c => { c with phase := .commit }
        wipe p.ctx { t with sec := { t.sec with debug := .unlocking, transition := some me, lastToken := Config.sha512 x } }) s p)) ∧
  Decides .debugLock 0x0704 (fun _ _ => True)
    (fun s p => runsAs .debugLock (fun me t =>
      if t.sec.debug ≠ .unlocked ∨ Config.debugFuseMode = 1 ∨ !clampsQuiet t then finish t me stDenied
      else
        let t := modCmd t me fun c => { c with phase := .commit }
        wipe p.ctx (endDebug { t with sec := { t.sec with debug := .locking, transition := some me } })) s p)

/-- DBG_BREAK_SET arms a breakpoint and DBG_BREAK_CLEAR disarms it; DBG_TILE_CONTROL lets a halted tile go on, or step; DBG_READ and
DBG_BANK_VIEW run and act at commit; DBG_BANK_WRITE reads host memory for its rows. -/
def Obligations.DebugPackets : Prop :=
  Decides .dbgBreakSet 0x7F00
    (fun s p =>
      let b := ownParams p
      (ctxOf s (u16 b 0)).isSome = true ∧ u8 b 2 ≤ 3 ∧ u8 b 3 ≤ 1 ∧ u8 b 4 ≤ 1 ∧ u8 b 5 ≤ 1 ∧ u64 b 8 ≠ 0
        ∧ (u8 b 4 = 1 → u64 b 8 ≤ 65535))
    (fun _ p =>
      let b := ownParams p
      .ok 0 fun t => modCtx t (u16 b 0) fun c => { c with breaks := c.breaks.set (u8 b 2) (some (breakFrom b)) }) ∧
  Decides .dbgBreakClear 0x7F01
    (fun s p => (ctxOf s (u16 (ownParams p) 0)).isSome = true ∧ u8 (ownParams p) 2 ≤ 3)
    (fun _ p =>
      let b := ownParams p
      .ok 0 fun t => modCtx t (u16 b 0) fun c => { c with breaks := c.breaks.set (u8 b 2) none }) ∧
  (∀ t : Tile, Decides .dbgTileControl 0x7F02
    (fun s p =>
      let b := ownParams p
      tileOf s (handleAt b 0) (u32 b 8) = some t ∧ t.halted = true ∧ u8 b 12 ≤ 1 ∧ u8 b 13 ≤ 1 ∧ s.evt.jtagOwner = false)
    (fun _ p =>
      let b := ownParams p
      .ok 0 fun s => modTile s t.die t.core (tileGoes (u8 b 12 == 1) (u8 b 13 == 1) (u64 b 16)))) ∧
  Decides .dbgRead 0x7F03
    (fun s p =>
      let b := ownParams p
      u8 b 0 ≤ 3 ∧ u32 b 24 ≤ 6291456 ∧ (u8 b 0 = 0 → u64 b 16 + u32 b 24 ≤ 6291456) ∧ badLocator s (u8 b 0) (u64 b 8) = false
        ∧ (u8 b 0 = 3 → (chanOf s (bits (u64 b 8) 7 0) (bits (u64 b 8) 15 8)).mode = .bankView))
    (fun s p =>
      let b := ownParams p
      runsAs (.dbgRead (u8 b 0) (u64 b 8) (u64 b 16) (u32 b 24) (u32 b 28) (u64 b 36))
        (fun me t => modCmd t me fun c => { c with done := true }) s p) ∧
  Decides .dbgBankView 0x7F04
    (fun s p =>
      let b := ownParams p
      badSpot (u8 b 0) (u8 b 1) 0 = false ∧ u8 b 2 ≤ 1 ∧ (u8 b 2 = 0 → bankViewOk s (u8 b 0) (u8 b 1) = true)
        ∧ (u8 b 2 = 1 → (chanOf s (u8 b 0) (u8 b 1)).mode = .bankView))
    (fun s p =>
      let b := ownParams p
      runsAs (.bankView (u8 b 0) (u8 b 1) (u8 b 2 == 0)) (fun me t => modCmd t me fun c => { c with done := true }) s p) ∧
  Decides .dbgBankWrite 0x7F05
    (fun s p =>
      let b := ownParams p
      badSpot (u8 b 0) (u8 b 1) 0 = false ∧ u8 b 2 ≤ 31 ∧ 1 ≤ u16 b 6 ∧ u16 b 6 ≤ 64 ∧ u16 b 4 + u16 b 6 ≤ 12288
        ∧ (chanOf s (u8 b 0) (u8 b 1)).mode = .bankView ∧ s.evt.jtagOwner = false)
    (fun s p =>
      let b := ownParams p
      runsAs (.bankWrite (u8 b 0) (u8 b 1) (u8 b 2) (u16 b 4) (u16 b 6) (u64 b 8))
        (fun me t => askHost t me (u64 b 8) (4096 * u16 b 6)) s p)

/-! ## Packets as such -/

/-- R302: a remembered sequence number draws DUPLICATE with the handle and status remembered; one that is not above the highest remembered
draws SEQUENCE_STALE; with a retry mark any other than the marked one draws BUSY_RETRY with cause 3; the rest are decided on their own
merits. The answer is remembered among the last `room` numbers (4,096 of a context) unless it is BUSY_RETRY, DUPLICATE or
SEQUENCE_STALE; a BUSY_RETRY of another cause sets the mark when there is none, and any other answer to the marked number clears it. -/
def Obligations.SequenceMemory : Prop :=
  (∀ (seen : List Seen) (retry : Option Nat) (q : Nat) (x : Seen), seen.find? (fun y => y.seq == q) = some x →
    seqTest seen retry q = some { status := stDuplicate, handle := x.handle, value := x.status }) ∧
  (∀ (seen : List Seen) (retry : Option Nat) (q : Nat), (∀ x ∈ seen, x.seq ≠ q) → (∃ x ∈ seen, q < x.seq) →
    seqTest seen retry q = some (.refuse stSequenceStale)) ∧
  (∀ (seen : List Seen) (b q : Nat), (∀ x ∈ seen, x.seq < q) → q ≠ b →
    seqTest seen (some b) q = some { status := stBusyRetry, value := 3 }) ∧
  (∀ (seen : List Seen) (q : Nat), (∀ x ∈ seen, x.seq < q) → seqTest seen none q = none ∧ seqTest seen (some q) q = none) ∧
  (∀ (m : SeqState) (room q : Nat) (v : Verdict),
    (v.status = stBusyRetry → (m.after room q v).seen = m.seen
      ∧ (m.after room q v).retry = (if v.value ≠ 3 ∧ m.retry = none then some q else m.retry)) ∧
    (v.status ≠ stBusyRetry → (m.after room q v).retry = (if m.retry = some q then none else m.retry)) ∧
    (v.status = stDuplicate ∨ v.status = stSequenceStale → (m.after room q v).seen = m.seen) ∧
    (v.status ≠ stBusyRetry → v.status ≠ stDuplicate → v.status ≠ stSequenceStale →
      ∃ old, m.seen ++ [{ seq := q, handle := v.handle, status := v.status }] = old ++ (m.after room q v).seen
        ∧ (m.after room q v).seen.length = min room (m.seen.length + 1))) ∧
  (∀ (s : State) (p : Packet) (c : Ctx) (v : Verdict) (op : Nat), takesPackets s p.fn = true → p.boot = false → ctxOf s p.ctx = some c →
    c.fn = p.fn → c.ending = false → c.serving = false → c.taken = [] → p.choice.fwHeld = false → seqTest c.seen c.retry p.seq = some v →
    v.effect = id → v.status ≠ stOk → takePacket op p s = modCtx (ringAnswer (landed s p) p.ctx p v) p.ctx fun x =>
      let q := SeqState.after { seen := c.seen, retry := c.retry } 4096 p.seq v
      { x with seen := q.seen, retry := q.retry })

/-- R299, R312: a reply is a record of kind 0x01 with its status; its body holds cookie, sequence number, handle and value. It is written,
bytes [31:4] first, at the entry of its number, with the phase of its pass through the ring. -/
def Obligations.ReplyRecord : Prop :=
  ∀ (s : State) (n : Nat) (c : Ctx) (p : Packet) (v : Verdict), ctxOf s n = some c → c.ending = false → c.serving = false →
    (∀ x ∈ c.held, x.kind ≠ 0x01) → 1 ≤ ringFree c → c.unreported + 1 < c.winCount → c.winStart ≠ none →
    let entry := c.written % c.ringEntries
    let phase := (c.written / c.ringEntries + 1) % 2
    let t := ringAnswer s n p v
    (t.out = s.out ++ [
      .hostWrite c.fn (c.ringBase + 32 * entry + 4)
        (natLE 4 p.cookie ++ natLE 8 p.seq ++ natLE 8 (Handle.encode v.handle) ++ natLE 8 v.value),
      .hostWrite c.fn (c.ringBase + 32 * entry) [BitVec.ofNat 8 (1 + 128 * phase), BitVec.ofNat 8 v.status, 0, 0]]) ∧
    ctxOf t n = some { c with written := (c.written + 1) % 2 ^ 32, unreported := c.unreported + 1 }

/-! ## The host's writes -/

/-- A write into a submission window that the module evaluates: a piece that does not reach the last byte of its slot is only stored; one
that completes the expected slot is taken as its packet when its trailer agrees, and counts a seal miss when it does not; a write to a
window that is not open to the function counts a drop (R288, R294). A write to a register changes that register, and only the half that it
covers (R482, R483). -/
def Obligations.HostWrites : Prop :=
  (∀ (s : State) (f n o : Nat) (data : List Byte) (ch : Choice) (c : Ctx), takesPackets s f = true → n < 1024 → windowOpen s f n = some c →
    data ≠ [] → o % 256 + data.length < 256 → o < 4096 →
    exec (.registerWrite f 2 (4096 * n + o) data ch) s = .next (modCtx s n fun x => { x with window := wrBytes c.window o data })) ∧
  (∀ (s : State) (f n o : Nat) (data : List Byte) (ch : Choice) (c : Ctx), takesPackets s f = true → n < 1024 → windowOpen s f n = some c →
    data ≠ [] → o % 256 + data.length = 256 → o < 4096 → c.slot = o / 256 →
    let m := wrBytes c.window o data
    let slot := rdBytes m (256 * c.slot) 256
    let t := modCtx s n fun x => { x with window := m }
    exec (.registerWrite f 2 (4096 * n + o) data ch) s = .next
      (if trailerAgrees slot then takePacket (u16 slot 0) (packetOf f false n slot ch) t
       else modFn t f fun x => { x with sealMiss := satAdd 0x7FFFFFFF x.sealMiss 1 })) ∧
  (∀ (s : State) (f n o : Nat) (data : List Byte) (ch : Choice), takesPackets s f = true → n < 1024 → windowOpen s f n = none →
    data ≠ [] → o < 4096 →
    exec (.registerWrite f 2 (4096 * n + o) data ch) s = .next (modFn s f fun x => { x with dropCount := satAdd 0x7FFFFFFF x.dropCount 1 })) ∧
  (∀ (s : State) (f off : Nat) (data : List Byte) (ch : Choice) (r : Reg), reachable s f = true →
    ¬ (bootBase f ≤ off ∧ off < bootBase f + 256) → regAt f (off / 8 * 8) = some r →
    (off % 8 = 0 → data.length = 8 → exec (.registerWrite f 0 off data ch) s = .next (writeReg s f r (leNat data) true true)) ∧
    (off % 8 = 0 → data.length = 4 → exec (.registerWrite f 0 off data ch) s = .next (writeReg s f r (leNat data) true false)) ∧
    (off % 8 = 4 → data.length = 4 → exec (.registerWrite f 0 off data ch) s = .next (writeReg s f r (leNat data * 2 ^ 32) false true)))

/-- What a packet that firmware holds, and a context's coalescing window, do when their time comes (R298, R316). A held packet whose
firmware hands over its decision before the deadline is decided as itself; at the deadline it is answered BUSY_RETRY with cause 2. -/
def Obligations.PacketDeadlines : Prop :=
  (∀ (s : State) (n : Nat) (c : Ctx) (t : Taken) (fn : Nat), ctxOf s n = some c → c.taken = [t] → t.held = true → c.ending = false →
    s.now < t.sealAt + 600 →
    exec (.firmwareDecision fn false n) s = .next (decideRing (modCtx s n fun x => { x with taken := [] }) n c t false)) ∧
  (∀ (s : State) (n : Nat) (c : Ctx) (t : Taken) (fn : Nat), ctxOf s n = some c → c.taken = [t] → t.held = true → c.ending = false →
    t.sealAt + 600 ≤ s.now → byFirmware s false t.op = true →
    exec (.firmwareDeadline fn false n) s = .next (decideRing (modCtx s n fun x => { x with taken := [] }) n c t true)) ∧
  (∀ (s : State) (n : Nat) (c : Ctx) (t : Taken),
    let p := t.pkt
    let q : SeqState := { seen := c.seen, retry := c.retry }
    let v : Verdict := { status := stBusyRetry, value := 2 }
    decideRing s n c t true = modCtx (ringAnswer (packetCredit s n q p) n p v) n fun x =>
      { x with seen := c.seen, retry := if c.retry = none then some p.seq else c.retry }) ∧
  (∀ (s : State) (n b : Nat) (c : Ctx), ctxOf s n = some c → c.winStart = some b → b + c.winTime ≤ s.now → 1 ≤ c.unreported →
    exec (.coalesceTimeout n) s = .next (emit (modCtx s n fun x => { x with unreported := 0, winStart := none }) (.msix c.fn c.vector)))

/-! ## The event controller and single registers -/

/-- R466: a read of EVT_CLAIM claims, among the eligible sources of its target, one of the highest level, and among those of one level the
highest number; the source's pending bit clears, it is in service, and its level goes onto the target's claim stack, whose top is the
running level. A read that finds no eligible source returns 0 and changes nothing. A source in service is not eligible; raised again it is
pending, and completed it is eligible at a level above threshold and running level. -/
def Obligations.EventClaim : Prop :=
  (∀ (s : State) (t k : Nat) (x : Source), s.evt.sources[k]? = some x → eligible (tgtOf s t) t x = true →
    ∃ y, s.evt.sources[claimSource s t false]? = some y ∧ eligible (tgtOf s t) t y = true
      ∧ (x.level < y.level ∨ (x.level = y.level ∧ k ≤ claimSource s t false))) ∧
  (∀ (s : State) (f t : Nat) (g : Bool), reachable s f = true → reachesTarget f t = true → claimSource s t g ≠ 0 →
    let n := claimSource s t g
    let u := modSrc s n fun x => { x with pending := false, inService := true, grace := false }
    let w := modTgt u t fun x => { x with stack := (n, (srcOf s n).level) :: x.stack }
    exec (.evtClaimRead f t g) s = .next (emit (reassess w t) (.mmio f n))) ∧
  (∀ (s : State) (f t : Nat), reachable s f = true → reachesTarget f t = true →
    (∀ x ∈ s.evt.sources, eligible (tgtOf s t) t x = false) → exec (.evtClaimRead f t false) s = .next (emit s (.mmio f 0))) ∧
  (∀ t : Target, (t.stack = [] → t.running = 0) ∧ (∀ n l r, t.stack = (n, l) :: r → t.running = l)) ∧
  (∀ (t : Target) (k : Nat) (x : Source), (x.inService = true → eligible t k x = false) ∧
    (x.pending = true → x.mask = false → x.target = k → t.threshold < x.level → t.running < x.level →
      eligible t k { x with inService := false } = true)) ∧
  (∀ (s : State) (n : Nat), n < s.evt.sources.length → (srcOf (setPending s n) n).pending = true
    ∧ (srcOf (setPending s n) n).inService = (srcOf s n).inService)

/-- A complete takes effect for the source on top of the claim stack alone, and otherwise only sets bad_complete (R467); a threshold takes
effect at once (R468); a mask written by the physical function waits for its cycle, and leaves a candidate one delivery (R469). -/
def Obligations.EventRegisters : Prop :=
  (∀ (s : State) (f t v l : Nat) (rest : List (Nat × Nat)), reachable s f = true → reachesTarget f t = true →
    (tgtOf s t).stack = (v % 1024, l) :: rest →
    let u := modSrc (modTgt s t fun x => { x with stack := rest }) (v % 1024) fun x => { x with inService := false }
    let w := if (srcOf u (v % 1024)).target = t then u else reassess u (srcOf u (v % 1024)).target
    let z := modTgt w t fun x => { x with line := hasEligible w t }
    exec (.evtClaimWrite f t v) s = .next (if hasEligible w t then emit z (.msix (t - 4) 0) else z)) ∧
  (∀ (s : State) (f t v : Nat), reachable s f = true → reachesTarget f t = true → (tgtOf s t).stack.head?.map (·.1) ≠ some (v % 1024) →
    exec (.evtClaimWrite f t v) s = .next (modTgt s t fun x => { x with badComplete := true })) ∧
  (∀ (s : State) (f t v : Nat), reachable s f = true → reachesTarget f t = true →
    exec (.evtThresholdWrite f t v) s = .next (reassess (modTgt s t fun x => { x with threshold := v % 16 }) t)) ∧
  (∀ (s : State) (n : Nat) (m : Bool), reachable s 0 = true →
    exec (.evtMaskWrite 0 n m) s = .next (modSrc s n fun x => { x with maskNext := some m })) ∧
  (∀ (s : State) (n : Nat) (m : Bool), (srcOf s n).maskNext = some m →
    let x := srcOf s n
    let was := eligible (tgtOf s x.target) x.target x
    exec (.maskEffect n) s = .next
      (reassess (modSrc s n fun y => { y with mask := m, maskNext := none, grace := m && (was || y.grace) }) x.target))

/-- The other registers that have a row of their own: NIR_SEAL_MISS and NIR_DROP_COUNT are cleared by their owner (R487); a read of the low
half of RDY_TIME returns it and keeps the high half (R399); a written identity locks, and once locked a write changes nothing (R370);
PWR_SMOULDER takes its enables, and a unit whose enable clears wakes (R434); bad_complete, the trip log's bit and CDC_OVERRUN clear where
1 is written (R483); a completion that arrives poisoned raises INTERNAL with code 6 (R285, R350). -/
def Obligations.SingleRegisters : Prop :=
  (∀ (s : State) (f : Nat), reachable s f = true → exec (.nirSealMissClear f f) s = .next (modFn s f fun x => { x with sealMiss := 0 })) ∧
  (∀ (s : State) (f : Nat), reachable s f = true → exec (.nirDropCountClear f f) s = .next (modFn s f fun x => { x with dropCount := 0 })) ∧
  (∀ s : State, reachable s 0 = true → exec (.timeReadLatch 0) s = .next
    (emit (modFn s 0 fun x => { x with timeLatch := some (BitVec.ofNat 32 (s.now / 2 ^ 32)) }) (.mmio 0 (s.now % 2 ^ 32)))) ∧
  (∀ (s : State) (id : Nat), reachable s 0 = true → s.flue.lock = false → id < 65536 → (∀ x ∈ s.flue.ports, x.state ≠ .up) →
    exec (.moduleIdLock 0 id) s = .next { s with flue := { s.flue with moduleId := id, lock := true } }) ∧
  (∀ (s : State) (id : Nat), s.flue.lock = true → exec (.moduleIdLock 0 id) s = .next s) ∧
  (∀ (s : State) (v : Nat), reachable s 0 = true →
    let w := wakeUnits s (~~~(BitVec.ofNat 32 v))
    exec (.pwrSmoulderWrite 0 v) s = .next { w with pwr := { w.pwr with smoulderEn := BitVec.ofNat 32 v } }) ∧
  (∀ (s : State) (f off t : Nat) (d : List Byte), reachable s f = true → aligned off d.length = true → off % 8 = 0 →
    ¬ (bootBase f ≤ off ∧ off < bootBase f + 256) → regAt f off = some (.tgtStatus t) → bit (leNat d) 9 = true →
    exec (.rw1cClear f off d) s = .next (modTgt s t fun x => { x with badComplete := false })) ∧
  (∀ (s : State) (f off : Nat) (d : List Byte), reachable s f = true → aligned off d.length = true → off % 8 = 0 →
    ¬ (bootBase f ≤ off ∧ off < bootBase f + 256) → regAt f off = some .tripLog → bit (leNat d) 5 = true →
    exec (.rw1cClear f off d) s = .next { s with pwr := { s.pwr with tripped := false } }) ∧
  (∀ (s : State) (f off : Nat) (d : List Byte), reachable s f = true → aligned off d.length = true → off % 8 = 0 →
    ¬ (bootBase f ≤ off ∧ off < bootBase f + 256) → regAt f off = some .overrun → d.length = 8 →
    exec (.rw1cClear f off d) s = .next
      { s with rst := { s.rst with cdcOverrun := s.rst.cdcOverrun &&& ~~~BitVec.ofNat 64 (leNat d) } }) ∧
  (∀ (s : State) (f off n : Nat), reachable s f = true → aligned off n = true → regAt f (off / 8 * 8) = none →
    exec (.poisonedCompletion f off n) s = .next (raise (emit s (.poisoned f)) 200 0x13 (natLE 1 0xFF ++ natLE 1 6)))

/-! ## Resets, pins and start-up -/

/-- The state after reset holds what R83, R400, R404, R409, R464 and R470 say of it: PERST# asserted, no context, command or tensor, memory
lists nothing, every readiness bit clear, no clamp configured and each assigned to the physical function alone, sources 1 to 511 routed to
target 4 at level 0 with nothing pending, masked or in service, thresholds 0 and claim stacks empty. That the model starts at power-on with
PERST# asserted is its choice (log entry 2). -/
def Obligations.ResetState : Prop :=
  let s := State.reset
  s.pending = [] ∧ s.out = [] ∧ s.now = 0 ∧ s.ctxs = [] ∧ s.cmds = [] ∧ s.slots = [] ∧ s.store.tensors = [] ∧ s.rst.perst = true
    ∧ s.rst.ready = 0 ∧ s.rst.failed = 0 ∧ s.rst.causeRequested = false ∧ s.rst.causeWatchdog = false ∧ s.rst.warmCount = 0
    ∧ s.flue.lock = false ∧ s.flue.moduleId = 0
    ∧ s.clamps.length = 8 ∧ (∀ c ∈ s.clamps, c.state = .unconfigured ∧ c.assign = 1)
    ∧ s.evt.sources.length = 1024
    ∧ (∀ n, 1 ≤ n → n ≤ 511 → (srcOf s n).target = 4 ∧ (srcOf s n).level = 0)
    ∧ (∀ x ∈ s.evt.sources, x.pending = false ∧ x.mask = false ∧ x.inService = false ∧ x.raises = 0)
    ∧ s.evt.targets.length = 68 ∧ (∀ t ∈ s.evt.targets, t.threshold = 0 ∧ t.stack = [] ∧ t.badComplete = false)

/-- Warm module reset (R400, R403): contexts, commands and tensors end, clamps are unconfigured, flash, fuses and the module's identity are
kept, readiness clears but for host_link, the cause is recorded and counted, and start-up runs again from Kindling; one that meets a
non-volatile write in progress waits for it (R402). -/
def Obligations.WarmReset : Prop :=
  (∀ (s : State) (watchdog : Bool), s.sec.nv = none →
    let t := warmNow s watchdog
    t.ctxs = [] ∧ t.cmds = [] ∧ t.store.tensors = [] ∧ t.now = s.now ∧ t.pending = s.pending
      ∧ t.rst.causeRequested = !watchdog ∧ t.rst.causeWatchdog = watchdog ∧ t.rst.warmCount = min 255 (s.rst.warmCount + 1)
      ∧ t.rst.ready = (s.rst.ready &&& 1) ∧ t.rst.failed = 0 ∧ t.rst.kindling = .running s.now ∧ t.rst.hostLink = s.rst.hostLink
      ∧ t.rst.vfEnabled = s.rst.vfEnabled ∧ t.flue.moduleId = s.flue.moduleId ∧ t.flue.lock = s.flue.lock
      ∧ t.sec.revoked = s.sec.revoked ∧ t.sec.svnMin = s.sec.svnMin ∧ t.sec.slots = s.sec.slots ∧ t.sec.bootPtr = s.sec.bootPtr
      ∧ t.sec.debug = .locked ∧ (∀ c ∈ t.clamps, c.state = .unconfigured ∧ c.assign = 1)
      ∧ t.out = s.out ++ [.avs Config.setpointFuse]) ∧
  (∀ s : State, s.rst.rootLocked = true → s.rst.warmWait = none → s.sec.nv = none →
    exec (.warmReset 0 0x4B52) s = .next (warmNow s false)) ∧
  (∀ s : State, s.rst.rootLocked = true → s.rst.warmWait = none → s.sec.nv.isSome = true →
    exec (.warmReset 0 0x4B52) s = .next { s with rst := { s.rst with warmWait := some (false, s.now) } }) ∧
  (∀ s : State, rdy s rdyHearth = true → s.rst.lastService + 50000000 ≤ s.now → s.rst.warmWait = none → s.sec.nv = none →
    exec .watchdogExpiry s = .next (warmNow s true)) ∧
  (∀ s : State, rdy s rdyHearth = true → exec .watchdogService s = .next { s with rst := { s.rst with lastService := s.now } }) ∧
  (∀ (s : State) (f k : Nat), f ≠ 0 ∨ k ≠ 0x4B52 → exec (.warmReset f k) s = .next s)

/-- Clamp and function-level resets, and SR-IOV (R283, R301, R400, R401, R404, R405, R470): a clamp reset begins at once when no stop or
change of the clamp is in progress and waits for its end otherwise; while a warm module reset waits both are discarded; when no context of the clamp is left, its bit clears and RESET_DONE is
raised; a function-level reset resets the function, and clears its target's threshold, claim stack and bad_complete. -/
def Obligations.ClampAndFunctionResets : Prop :=
  (∀ (s : State) (k : Nat), s.rst.rootLocked = true → k ≤ 7 → (clampOf s k).resetting = false → (clampOf s k).resetWaits = false →
    s.rst.warmWait = none → exec (.clampReset 0 k 0x4B52) s = .next
      (if (clampOf s k).state = .stopping ∨ (clampOf s k).changing = true then modClamp s k fun c => { c with resetWaits := true }
       else beginClampReset s k)) ∧
  (∀ (s : State) (k f key : Nat), f ≠ 0 ∨ key ≠ 0x4B52 → exec (.clampReset f k key) s = .next s) ∧
  (∀ (s : State) (k : Nat), (clampOf s k).resetting = true → (clampOf s k).stop = none → clampContexts s k = 0 →
    exec (.clampResetDone k) s = .next
      (raise (newLayout (modClamp s k fun c => { c with resetting := false, changing := false })) (80 + k) 0x0A (natLE 1 k))) ∧
  (∀ (s : State) (f : Nat), s.rst.perst = false → s.rst.rootLocked = true → s.rst.warmWait = none → f ≠ 0 →
    exec (.functionLevelReset f) s = .next (resetFunction s f)) ∧
  (∀ s : State, s.rst.perst = false → s.rst.rootLocked = true → s.rst.warmWait = none →
    exec (.functionLevelReset 0) s = .next (resetFunction (setVfs s 0) 0)) ∧
  (∀ (s : State) (f k : Nat), s.rst.warmWait.isSome = true →
    exec (.functionLevelReset f) s = .next s ∧ exec (.clampReset 0 k 0x4B52) s = .next s) ∧
  (∀ (s : State) (t : Nat), (tgtOf (resetTarget s t) t).stack = [] ∧ (tgtOf (resetTarget s t) t).threshold = 0
    ∧ (tgtOf (resetTarget s t) t).badComplete = false
    ∧ ∀ n, (srcOf (resetTarget s t) n).pending = (srcOf s n).pending ∧ (srcOf (resetTarget s t) n).target = (srcOf s n).target
      ∧ (srcOf (resetTarget s t) n).level = (srcOf s n).level) ∧
  (∀ (s : State) (n : Nat), s.rst.perst = false → s.rst.rootLocked = true → s.rst.vfEnabled ≤ n → n ≤ 63 →
    exec (.vfEnable n) s = .next { s with rst := { s.rst with vfEnabled := n } })

/-- PERST#, the reference clock and the supplies (R388, R391, R392, R400, R406, R430): a fundamental reset clears all but what R400 keeps; at
its release the straps are sampled and the root PLL begins to lock, unless the reference is held or a latched Quench is not yet over; at
lock the host link and Kindling begin. -/
def Obligations.PinsAndClocks : Prop :=
  (∀ (s t : State), exec .perstAssert s = .next t ∨ exec .refclkLoss s = .next t ∨ exec .powerOn s = .next t →
    t.ctxs = [] ∧ t.cmds = [] ∧ t.store.tensors = [] ∧ t.slots = [] ∧ t.now = 0 ∧ t.rst.ready = 0 ∧ t.rst.failed = 0 ∧ t.rst.warmCount = 0
      ∧ t.rst.causeRequested = false ∧ t.rst.causeWatchdog = false ∧ t.flue = {} ∧ t.sec.debug = .locked ∧ t.sec.revoked = s.sec.revoked
      ∧ t.sec.svnMin = s.sec.svnMin ∧ t.sec.slots = s.sec.slots ∧ t.store.flashRetired = s.store.flashRetired
      ∧ t.store.softRepairs = s.store.softRepairs ∧ t.clamps = List.replicate 8 {} ∧ t.out = s.out ∧ t.pending = s.pending) ∧
  (∀ s : State, exec .perstAssert s = .next
    (fundamental { s with rst := { s.rst with perst := true, refHeld := s.rst.refHeld && !s.rst.refGood } })) ∧
  (∀ s : State, exec .refclkLoss s = .next (fundamental { s with rst := { s.rst with refGood := false, refHeld := true } })) ∧
  (∀ s : State, exec .refclkReturn s = .next { s with rst := { s.rst with refGood := true } }) ∧
  (∀ s : State, exec .powerOn s = .next { fundamental s with rst := {}, pwr := {}, i3c := {} }) ∧
  (∀ (s : State) (tc bs : Bool) (nonce : List Byte), s.rst.perst = true → s.rst.refHeld = false → s.rst.refGood = true →
    (s.pwr.quench = false ∨ (s.rst.thermCompat = true ∧ allCool s = true)) →
    exec (.perstRelease tc bs nonce) s = .next { s with
      rst := { s.rst with perst := false, thermCompat := tc, bootSel := bs, rootPll := .running s.now, releasedAt := s.now }
      pwr := { s.pwr with quench := false }
      sec := { s.sec with nonce := slice nonce 0 32 } }) ∧
  (∀ (s : State) (tc bs : Bool) (nonce : List Byte), s.rst.perst = true → (s.rst.refHeld = true ∨ s.rst.refGood = false) →
    exec (.perstRelease tc bs nonce) s = .next { s with rst := { s.rst with perst := false, thermCompat := tc, bootSel := bs } }) ∧
  (∀ (s : State) (b : Nat), s.rst.rootPll = .running b →
    exec .rootPllLock s = .next (emit { s with
      pwr := { s.pwr with setpoint := Config.setpointFuse }
      rst := { s.rst with
        rootPll := .ok, rootLocked := true, hostLink := .running s.now, kindling := .running s.now
        kiln := List.replicate 4 (.running s.now), bog := .running s.now
        training := (List.range 12).map fun k => if k % 3 = 0 then .running s.now else .idle } } (.avs Config.setpointFuse)))

/-- The steps of start-up (R406, R407, R409): one that runs and succeeds before its limit sets its readiness bit, one that meets its limit
sets its bit in RDY_FAILED, and what waited for it begins; the channels of a stack join as they train, until its step ends with its first
success or at its limit (R207); a host link that goes down clears its bit and fails the reads of host memory in progress (R73).
R407: startup_done sets when every step but the Flue ports has succeeded or failed, and a stack's training starts when its predecessor in
its batch order has ended. -/
def Obligations.StartupSteps : Prop :=
  (∀ (s : State) (x : StartStep), s.rst.perst = false → s.rst.rootLocked = true →
    (stepLate s x = true → exec (.startupStepDone x) s = .next s) ∧ (stepLate s x = false → exec (.startupStepLimit x) s = .next s)) ∧
  (∀ (s : State) (d : Nat), (stepLate s .serving = true ↔ s.rst.serving.finished = false ∧ s.rst.releasedAt + 150000000 ≤ s.now)
    ∧ ∀ n b, at? s.rst.kiln d .idle = .running b → (stepLate s (.kiln d n) = true ↔ s.rst.releasedAt + 60000000 ≤ s.now)) ∧
  (∀ (s : State) (b : Nat), s.rst.perst = false → s.rst.rootLocked = true → stepLate s (.hostLink) = false → s.rst.hostLink = .running b →
    exec (.startupStepDone .hostLink) s = .next
      (settled (emit (withReady { s with rst := { s.rst with hostLink := .ok } } 1) .deviceReady))) ∧
  (∀ (s : State) (b : Nat), s.rst.perst = false → s.rst.rootLocked = true → stepLate s (.security) = false → s.rst.security = .running b →
    exec (.startupStepDone .security) s = .next (settled (withReady { s with
      rst := { s.rst with security := .ok }
      sec := { s.sec with svnDeferred := s.sec.running.commitSvn && decide (s.sec.svnMin < s.sec.running.svn) } } 4))) ∧
  (∀ (s : State) (b d n : Nat), s.rst.perst = false → s.rst.rootLocked = true → stepLate s (.kiln d n) = false → at? s.rst.kiln d .idle = .running b →
    exec (.startupStepDone (.kiln d n)) s = .next (settled (withReady
      { s with rst := { s.rst with kiln := s.rst.kiln.set d .ok, cores := s.rst.cores.set d (min n 64) } } (coolBit s d (rdyKiln d))))) ∧
  (∀ (s : State) (b k : Nat) (m : BitVec 32) (ends : Bool), s.rst.perst = false → s.rst.rootLocked = true → stepLate s (.stack k m ends) = false → 
    at? s.rst.training k .idle = .running b → (∃ i, i < 32 ∧ (m.getLsbD i = true ∨ (chanOf s k i).trained = true)) →
    dieFailed s (k / 3) = false →
    exec (.startupStepDone (.stack k m ends)) s = .next (settled (withReady
      (if ends then { trainChans s k m with rst := { s.rst with training := s.rst.training.set k .ok } } else trainChans s k m)
      (coolBit s (4 + k) (rdyExrad k))))) ∧
  (∀ (s : State) (b : Nat) (m slow : BitVec 64), s.rst.perst = false → s.rst.rootLocked = true → stepLate s (.bog m slow) = false → s.rst.bog = .running b →
    2 ≤ bogDies (bogMask s m) →
    exec (.startupStepDone (.bog m slow)) s = .next (settled (withReady (beginServing
      { s with rst := { s.rst with bog := .ok, bogChans := bogMask s m, bogSlow := slow &&& bogMask s m } }) (2 ^ rdyBog)))) ∧
  (∀ (s : State) (b : Nat), s.rst.perst = false → s.rst.rootLocked = true → stepLate s (.serving) = false → s.rst.serving = .running b →
    exec (.startupStepDone .serving) s = .next (settled (withReady { s with rst := { s.rst with serving := .ok } } (2 ^ rdyServing)))) ∧
  (∀ (s : State) (b : Nat), s.rst.perst = false → s.rst.rootLocked = true → s.rst.security = .running b →
    s.rst.releasedAt + 120000000 ≤ s.now →
    exec (.startupStepLimit .security) s = .next (withFailed { s with rst := { s.rst with security := .failed } } 4)) ∧
  (∀ (s : State) (b k : Nat), s.rst.perst = false → s.rst.rootLocked = true → at? s.rst.training k .idle = .running b →
    b + 180000000 ≤ s.now → exec (.startupStepLimit (.stack k 0 true)) s = .next
      (if (List.range 32).any fun i => (chanOf s k i).trained then
        withReady { s with rst := { s.rst with training := s.rst.training.set k .ok } } 0
       else withFailed { s with rst := { s.rst with training := s.rst.training.set k .failed } } (2 ^ rdyExrad k))) ∧
  (∀ (s : State) (b d : Nat), s.rst.perst = false → s.rst.rootLocked = true → at? s.rst.kiln d .idle = .running b →
    s.rst.releasedAt + 60000000 ≤ s.now → exec (.startupStepLimit (.kiln d 0)) s = .next (failDie s d)) ∧
  (∀ s : State, rdy s rdyHostLink = true →
    let t := readyOff { s with rst := { s.rst with hostLink := .running s.now } } rdyHostLink
    exec .hostLinkDown s = .next
      ((t.cmds.filter fun c => c.phase == .run && !c.hostOut.isEmpty).foldl (fun u c => hostFault u c.handle 13 (readBase c) 0) t)) ∧
  (∀ s : State, (∀ x ∈ s.rst.hostLink :: s.rst.kindling :: s.rst.security :: s.rst.bog :: s.rst.serving :: (s.rst.kiln ++ (advance13 s).rst.training),
      x.finished = true) → (advance13 s).rst.ready = s.rst.ready ||| BitVec.ofNat 64 (2 ^ 36)) ∧
  (∀ s : State, (∃ x ∈ [s.rst.hostLink, s.rst.kindling, s.rst.security, s.rst.bog, s.rst.serving], x.finished = false) →
      (advance13 s).rst.ready = s.rst.ready) ∧
  (∀ (s : State) (k : Nat), k < 12 → s.rst.training.length = 12 → at? s.rst.training k .idle = .idle →
    (k % 3 ≠ 0 → (at? s.rst.training (k - 1) .idle).finished = true → at? (advance13 s).rst.training k .idle = .running s.now) ∧
    (k % 3 = 0 ∨ (at? s.rst.training (k - 1) .idle).finished = false → at? (advance13 s).rst.training k .idle = .idle))

/-! ## Running and committing commands -/

/-- R89: an operation on a flag sets it, or adds to it and stops at 0xFFFF_FFFF; the other flags, and every other context, keep theirs.
R90: the waits of a command hold when every one of its flags has reached its threshold; once satisfied they stay so, whatever the flag
does later, and a flag change at or after the end of the wait window satisfies nothing (R12). -/
def Obligations.FlagOperations : Prop :=
  (∀ (s : State) (n : Nat) (c : Ctx) (o : FlagOp), ctxOf s n = some c → o.flag < c.flags.length →
    ∃ d, ctxOf (applyFlag s n o) n = some d
      ∧ at? d.flags o.flag 0 = (if o.add then min 0xFFFFFFFF (at? c.flags o.flag 0 + o.value) else o.value % 2 ^ 32)
      ∧ ∀ f, f ≠ o.flag → at? d.flags f 0 = at? c.flags f 0) ∧
  (∀ (s : State) (n m : Nat) (o : FlagOp), m ≠ n → ctxOf (applyFlag s n o) m = ctxOf s m) ∧
  (∀ (x : Ctx) (c : Cmd), waitsHold x c = true ↔ ∀ w ∈ c.waits, w.2 ≤ at? x.flags w.1 0) ∧
  (∀ (s : State) (h : Handle) (c : Cmd), cmdOf s h = some c → c.flagsOk = true → cmdOf (latchWaits s) h = some c) ∧
  (∀ (s : State) (h : Handle) (c : Cmd), cmdOf s h = some c → c.waitEnd ≤ s.now → cmdOf (latchWaits s) h = some c) ∧
  (∀ (s : State) (h : Handle) (c : Cmd) (x : Ctx), cmdOf s h = some c → c.phase = .waiting → c.flagsOk = false → s.now < c.waitEnd →
    ctxOf s h.ctx = some x → cmdOf (latchWaits s) h = some { c with flagsOk := waitsHold x c })

/-- The start of the run phase (R67, R68, R353, R420, R421): a command whose tensors lost a weight ends WEIGHT_LOST, and one that touches a
stack too hot to be in service THERMAL, unless it is of a serving context; otherwise it takes its snapshot and enters run, a program's tiles
and parts are dealt, a data command asks for a Slane channel, a Flue command opens its transfers, a serving command that was killed runs
again, and a command without engine work is ready to commit at once. A command that may not run yet does not start; one in run that waits
for its Slane channel asks again. -/
def Obligations.RunPhase : Prop :=
  (∀ (s : State) (h : Handle) (locs : List Loc) (errs : List (Handle × Nat)) (c : Cmd), cmdOf s h = some c → mayRun s c = false →
    c.phase ≠ .run → exec (.runPhaseStart h ⟨locs, errs⟩) s = .next s) ∧
  (∀ (s : State) (h : Handle) (locs : List Loc) (errs : List (Handle × Nat)) (c : Cmd), cmdOf s h = some c → c.phase = .run →
    exec (.runPhaseStart h ⟨locs, errs⟩) s = .next (serveSlane s h)) ∧
  (∀ (s : State) (h : Handle) (locs : List Loc) (errs : List (Handle × Nat)) (c : Cmd), cmdOf s h = some c → mayRun s c = true →
    readsLost s c = true → exec (.runPhaseStart h ⟨locs, errs⟩) s = .next (finish s h stWeightLost)) ∧
  (∀ (s : State) (h : Handle) (locs : List Loc) (errs : List (Handle × Nat)) (c : Cmd), cmdOf s h = some c → mayRun s c = true →
    readsLost s c = false → (touchesHot s c = true ∨ lacksDie s c = true) →
    exec (.runPhaseStart h ⟨locs, errs⟩) s = .next (if isServing s c then s else finish s h stThermal)) ∧
  (∀ (s : State) (h : Handle) (locs : List Loc) (errs : List (Handle × Nat)) (c : Cmd), cmdOf s h = some c → mayRun s c = true →
    readsLost s c = false → touchesHot s c = false → lacksDie s c = false →
    let u := enterRun s h errs
    ((∃ l, c.work = .program l) ∨ (∃ b, c.work = .inband b) → exec (.runPhaseStart h ⟨locs, errs⟩) s = .next
      (match startWork u h locs with
       | some t => arrive t h
       | none => s)) ∧
    (∀ t, c.work = .tensorDestroy t → exec (.runPhaseStart h ⟨locs, errs⟩) s = .next (doneNow u h)) ∧
    (∀ o, c.work = .flagWrite o → exec (.runPhaseStart h ⟨locs, errs⟩) s = .next (doneNow u h)) ∧
    (∀ m x f a v, c.work = .flueFlagSet m x f a v → exec (.runPhaseStart h ⟨locs, errs⟩) s = .next (doneNow u h)) ∧
    (usesSlane c.work = true → exec (.runPhaseStart h ⟨locs, errs⟩) s = .next (serveSlane (arrive u h) h)) ∧
    ((∃ t o n m x k, c.work = .flueSend t o n m x k) ∨ (∃ t o n d k, c.work = .flueReceive t o n d k) ∨ (∃ a b g, c.work = .flueReduce a b g) →
      exec (.runPhaseStart h ⟨locs, errs⟩) s = .next (startFlue u h)) ∧
    ((∃ k r p n t, c.work = .prefill k r p n t) ∨ (∃ k m a b, c.work = .step k m a b) ∨ (∃ r, c.work = .handover r) →
      exec (.runPhaseStart h ⟨locs, errs⟩) s = .next (rerunServing u c))) ∧
  (∀ (s : State) (h : Handle) (errs : List (Handle × Nat)) (c : Cmd), cmdOf s h = some c → ∃ d, cmdOf (enterRun s h errs) h = some d
    ∧ d.phase = .run ∧ d.runAt = s.now ∧ d.snap = some (c.snap.getD (snapshotOf s c)) ∧ d.work = c.work ∧ d.shadows = c.shadows
    ∧ d.killed = false ∧ d.done = false ∧ d.errs = errs)

/-- What schedules commands without running one: the Collier's promotions for a waiting in-bank command (R43), a wait window that ends
(R91), the check for deadlocks at each millisecond (R94-R96), slices (R86), a core's switch, whose time is discarded (R88), and the end
of an accounting period, whose charges then stand under its number (R87), and whose access counts become those of the last period (R46).
A head whose waits ended in time, and which only waits for its turn, is ended by no wait limit (R12); one of whose tile commits waits for
shadow room is, at that limit (R53).
R43, R55, R56: a promotion checks the sod's tag before it flips the entry, and is made only between places in memory mode. -/
def Obligations.Scheduling : Prop :=
  (∀ (s u : State) (h : Handle) (locs : List Loc) (c : Cmd) (b : InbankBlock), cmdOf s h = some c → inbandOf c = some b →
    c.phase = .waiting → c.snap = none → allPlaced s c b = false → promoteAll (neededSods b) locs s = some u →
    exec (.sodPromotion h locs) s = .next (if allPlaced u c b then settled u else s)) ∧
  (∀ (s : State) (t : Handle) (k : Nat) (l : Loc) (x : Tensor) (old : Sod), tensorAny s t = some x → tget? x.sods k = some old →
    old.loc ≠ some l → old.ash = false →
    (placeOk s x k l = false ∨ shadowed s t k = true ∨ quiet s old.loc = false ∨ quiet s (some l) = false ∨ movesStand s x = false →
      promote s t k l = none) ∧
    (placeOk s x k l = true → shadowed s t k = false → quiet s old.loc = true → quiet s (some l) = true → movesStand s x = true →
      (tagFails old = true → promote s t k l = some (makeAsh s t k)) ∧
      (tagFails old = false → promote s t k l = some (openAt (gather (modTensor s t fun x =>
        { x with sods := tset x.sods k { old with loc := some l } }) 0x3002 1) (some l))))) ∧
  (∀ (s : State) (h : Handle) (c : Cmd), cmdOf s h = some c → c.phase = .waiting → c.killed = false → c.headAt.isSome = true →
    c.waitEnd ≤ s.now → exec (.waitTimeout h) s = .next (if waitsOver s c then s else finish s h stWaitTimeout)) ∧
  (∀ (s : State) (h : Handle) (c : Cmd) (t : Nat), cmdOf s h = some c → c.phase = .run → c.roomWait = some t →
    t + waitLimitOf s h.ctx ≤ s.now → exec (.waitTimeout h) s = .next (finish s h stWaitTimeout)) ∧
  (∀ s : State, s.now % 100000 = 0 → exec .deadlockCheck s = .next (settled ((s.ctxs.map (·.1)).foldl checkDeadlock s))) ∧
  (∀ (s : State) (k : Nat), (clampOf s k).state = .running ∨ (clampOf s k).state = .stopping →
    (clampOf s k).sliceStart + (clampOf s k).slice ≤ s.now →
    exec (.sliceBoundary k) s = .next (settled (assignAll (modClamp s k fun x => { x with sliceStart := s.now }) k))) ∧
  (∀ (s : State) (d n k : Nat) (e : Engine), tget? s.kiln.cores (coreNum d n) = some e → e.use = .switching k → tileOn s d n = none →
    exec (.coreSwitchDone d n) s = .next
      (fillCores (modCore (discard s e.ctx .core e.since) d n fun x => { x with use := .idle, since := s.now }))) ∧
  (∀ s : State, s.now % 1000000 = 0 → exec .accountingPeriodEnd s = .next { s with
    ctxs := s.ctxs.map fun e => (e.1, { e.2 with charge := recentTimes s e.2.charge })
    clamps := s.clamps.map fun k => { k with discarded := recentTimes s k.discarded }
    store := { s.store with tensors := s.store.tensors.map fun t => { t with hits := [], hitsPrev := t.hits } } }) ∧
  (∀ (s : State) (t : Table (List Nat)) (e : Nat × List Nat), e ∈ recentTimes s t ↔ e ∈ t ∧ s.now / 1000000 ≤ e.1 + 1)

/-- Stops of a clamp (R97): at the drain limit what still runs is killed; a clamp at rest is stopped, and the CLAMP_STOP ends OK. -/
def Obligations.ClampStops : Prop :=
  (∀ (s : State) (k : Nat) (x : Stop), (clampOf s k).stop = some x → x.kill = false → x.deadline ≤ s.now →
    exec (.drainLimitExpiry k) s = .next (settled (killClamp (modClamp s k fun c => { c with stop := some { x with kill := true } }) k))) ∧
  (∀ (s : State) (k : Nat) (x : Stop) (h : Handle), (clampOf s k).stop = some x → x.cmd = some h → (clampOf s k).state = .stopping →
    atRest s k = true →
    let t := modClamp s k fun c => { c with state := .stopped, stop := none }
    let t := finish { t with kiln := { t.kiln with cores := t.kiln.cores.filter fun e => clampNum t e.2.ctx != k } } h stOk
    (clampOf t k).resetting = false → (clampOf t k).resetWaits = false → exec (.clampStopped k) s = .next t)

/-- Tile commit (R160, R161): the hold area's records go into the command's shadow sods, and bytes that another tile has written end the
command FAULTED; without room for the shadows it needs the tile waits (R53). At its end the tile is charged and gone, and its core is free;
the time of one whose command was killed or has ended meanwhile is discarded (R70, R88). -/
def Obligations.TileCommit : Prop :=
  (∀ (s : State) (d n : Nat) (t : Tile) (c : Cmd) (l : Launch), issuing s d n = some (t, c, l) → t.exe.ended = true → t.acc.ended = true →
    (∀ q ∈ t.storeQ, q = []) → t.acc.stores = [] → overlaps c (holdPieces s l t) = false →
    let p := holdPieces s l t
    (roomForShadows s (newShadows c p) = true →
      let u := modCmd s t.cmd fun c => { c with roomWait := none }
      let u := p.foldl (fun u x => writeShadow u t.cmd x.1 x.2.1 x.2.2.1 x.2.2.2) u
      exec (.tileCommit d n) s = .next
        (modTile (modCmd u t.cmd fun c => { c with shadows := p.foldl markTile c.shadows }) d n fun t => { t with committing := true })) ∧
    (roomForShadows s (newShadows c p) = false →
      exec (.tileCommit d n) s = .next (modCmd s t.cmd fun c => { c with roomWait := c.roomWait.or (some s.now) }))) ∧
  (∀ (s : State) (d n : Nat) (t : Tile) (c : Cmd) (l : Launch), issuing s d n = some (t, c, l) → t.exe.ended = true → t.acc.ended = true →
    (∀ q ∈ t.storeQ, q = []) → t.acc.stores = [] → overlaps c (holdPieces s l t) = true →
    ∃ diag, diag.cause = 11 ∧ exec (.tileCommit d n) s = .next (finish s t.cmd stFaulted (some diag))) ∧
  (∀ (s : State) (d n : Nat) (t : Tile), tileOn s d n = some t → t.committing = true →
    let u := if t.dropped then (match coreClamp s d n with | some k => discardIn s k .core t.startedAt | none => s)
      else charge s t.cmd.ctx .core t.startedAt
    let u := { u with kiln := { u.kiln with tiles := u.kiln.tiles.filter fun x => !(x.die == d && x.core == n) } }
    let u := modCore u d n fun e => match e.use with
      | .switching _ => { e with since := u.now }
      | _ => { e with use := .idle, since := u.now }
    exec (.tileCommitDone d n) s = .next (if t.dropped then settled u
      else settled (markDone (modCmd u t.cmd fun c => { c with tilesLeft := c.tilesLeft.filter (· != t.index) }) t.cmd)))

/-- COMMIT (R38, R52, R71, R72, R89): a command that may commit releases its effects in the order of R72: the flip, its flag operations, the
serving state, Flue messages, host writes, and its completion record; one whose outputs meet ash that it does not write whole ends
DATA_ASH with nothing committed, where a committed sod that fails its check before its bytes are merged in is ash (R35); from the end of a
drain on no command of a queue reaches commit (R97); one that may not commit yet changes nothing. -/
def Obligations.CommandCommit : Prop :=
  (∀ (s : State) (h : Handle) (locs : List Loc) (c : Cmd), cmdOf s h = some c → mayCommit s c = true → (∀ k b, c.work ≠ .clampConfigure k b) →
    let u := (tornMerges s { c with shadows := written c }).foldl (fun s x => makeAsh s x.1 x.2) s
    (commitMeetsAsh u c = false →
      let flip := commitFlip (confirmAll (chargeSlane u c) c) c locs
      let stamped := modCmd flip c.handle fun x => { x with committed := true, stamp := flip.now, shadows := [] }
      exec (.commandCommit h locs) s = .next (settled (askAll (commitFlue (commitServing (commitFlags stamped c) c) c)))) ∧
    (commitMeetsAsh u c = true → exec (.commandCommit h locs) s = .next (finish u h stDataAsh))) ∧
  (∀ (s : State) (h : Handle) (locs : List Loc) (c : Cmd) (k : Nat) (b : List Byte), cmdOf s h = some c → mayCommit s c = true →
    c.work = .clampConfigure k b → exec (.commandCommit h locs) s = .next
      (if storageLacks s k (clampFrom b (clampOf s k)) then finish s h stNoSpace else finish (configureNow s k b) h stOk)) ∧
  (∀ (s : State) (c : Cmd), drainOver s c = true → (∀ k m b t, c.work ≠ .step k m b t) → mayCommit s c = false) ∧
  (∀ (s : State) (c : Cmd), c.ops = [] → (∀ o, c.work ≠ .flagWrite o) → commitFlags s c = s) ∧
  (∀ (s : State) (c : Cmd) (o : FlagOp), c.work = .flagWrite o →
    commitFlags s c = applyFlag (c.ops.foldl (fun u x => applyFlag u c.handle.ctx x) s) c.handle.ctx o) ∧
  (∀ (s : State) (h : Handle) (locs : List Loc) (c : Cmd), cmdOf s h = some c → mayCommit s c = false →
    exec (.commandCommit h locs) s = .next s)

/-! ## The Kiln cores -/

/-- Control instructions of the execute stream (R145-R147, R152, R155, R160): DELAY counts its cycles, SET writes a setup or a count register,
LOOP repeats its body or skips it, BEOS skips when the queue's end flag is set, which it clears, and faults on a queue of size 0, TAG sets the
tag, END ends the stream, also as the last instruction of a body on its last pass, and faults where a body has more to run.
The next position of a stream (R147): a body repeats as often as its LOOP latched, and then goes on behind it. -/
def Obligations.KilnControl : Prop :=
  (∀ s d n t c l x, KilnAt 0x01 s d n t c l x → 1 ≤ x.imm → x.imm ≤ 65535 →
    exec (.delay d n) s = .next (issued s d n (prune t) (t.exe.pos + 1) x.imm none)) ∧
  (∀ s d n t c l x, KilnAt 0x02 s d n t c l x → exec (.setReg d n) s = .next (issued s d n { prune t with exe :=
      if x.mode < 16 then { t.exe with regs := t.exe.regs.set x.mode x.imm }
      else { t.exe with cnt := t.exe.cnt.set (x.mode - 16) (x.imm % 2 ^ 32) } } (t.exe.pos + 1) 1 none)) ∧
  (∀ s d n t c l x, KilnAt 0x03 s d n t c l x → 1 ≤ x.srcA → x.srcA ≤ 511 →
    let count := if bit x.mode 4 then at? t.exe.cnt (x.dst % 16) 0 else x.dst
    (count = 0 → exec (.execLoop d n) s = .next (issued s d n (prune t) (t.exe.pos + 1 + x.srcA) 1 none)) ∧
    (count ≠ 0 → t.exe.loops.length < 4 → exec (.execLoop d n) s = .next (issued s d n
      { prune t with exe := { t.exe with
        loops := { first := t.exe.pos + 1, last := t.exe.pos + 1 + x.srcA, left := count } :: t.exe.loops } } (t.exe.pos + 1) 1 none)) ∧
    (count ≠ 0 → t.exe.loops.length = 4 → exec (.execLoop d n) s = .next (pumped (exeFault s t 5) d n))) ∧
  (∀ s d n t c l x, KilnAt 0x04 s d n t c l x → 1 ≤ x.srcA → x.srcA ≤ 511 →
    (loadQBytes l (x.mode % 8) = 0 → exec (.beos d n) s = .next (pumped (exeFault s t 8) d n)) ∧
    (loadQBytes l (x.mode % 8) ≠ 0 → at? t.endFlag (x.mode % 8) false = true → exec (.beos d n) s = .next (issued s d n
      { prune t with endFlag := t.endFlag.set (x.mode % 8) false } (t.exe.pos + 1 + x.srcA) 1 none)) ∧
    (loadQBytes l (x.mode % 8) ≠ 0 → at? t.endFlag (x.mode % 8) false = false → exec (.beos d n) s = .next (issued s d n (prune t) (t.exe.pos + 1) 1 none))) ∧
  (∀ s d n t c l x, KilnAt 0x05 s d n t c l x → exec (.execTag d n) s = .next (issued s d n
    { prune t with exe := { t.exe with tag := bits x.imm 15 0 } } (t.exe.pos + 1) 1 (some (bits x.imm 15 0)))) ∧
  (∀ s d n t c l x, KilnAt 0x06 s d n t c l x → (nextPos t.exe.loops (t.exe.pos + 1)).2 = [] → exec (.execEnd d n) s = .next (issued s d n
    { prune t with exe := { t.exe with ended := true } } (t.exe.pos + 1) 1 none)) ∧
  (∀ s d n t c l x, KilnAt 0x06 s d n t c l x → (nextPos t.exe.loops (t.exe.pos + 1)).2 ≠ [] →
    exec (.execEnd d n) s = .next (pumped (exeFault s t 18) d n)) ∧
  (∀ p, nextPos [] p = (p, [])) ∧
  (∀ l r p, p < l.last → nextPos (l :: r) p = (p, l :: r)) ∧
  (∀ l r p, l.last ≤ p → 1 < l.left → nextPos (l :: r) p = (l.first, { l with left := l.left - 1 } :: r)) ∧
  (∀ l r p, l.last ≤ p → l.left ≤ 1 → nextPos (l :: r) p = nextPos r p) ∧
  (∀ (t : Tile) (k n : Nat), k < 13 → t.exe.regs.length = 13 →
    let u := { t with exe := { t.exe with regs := t.exe.regs.set k n } }
    reg u k = n ∧ ∀ j, j ≠ k → reg u j = reg t j)

/-- The lane operations of the vector unit (R118-R122, R145, R155): VADD, VSUB, VMUL, VFMA, VMIN, VMAX, VCMP in its four modes, VSEL, VMOV
and the nine functions of VFN, on VLEN vectors of 256 lanes. -/
def Obligations.VectorLanes : Prop :=
  let two := fun (t : Tile) (x : ExecInstr) => [(x.srcA, vecBytes t), (x.srcB, vecBytes t)]
  let three := fun (t : Tile) (x : ExecInstr) => [(x.srcA, vecBytes t), (x.srcB, vecBytes t), (x.dst, vecBytes t)]
  let f2 := fun (f : ExecInstr → FP32 → FP32 → FP32) (_ : Tile) (x : ExecInstr) (v : List (List FP32)) =>
    [(x.dst, fpBytes (List.zipWith (f x) (at? v 0 []) (at? v 1 [])))]
  let f3 := fun (f : FP32 → FP32 → FP32 → FP32) (_ : Tile) (x : ExecInstr) (v : List (List FP32)) =>
    [(x.dst, fpBytes (List.zipWith (fun (a, b) d => f a b d) ((at? v 0 []).zip (at? v 1 [])) (at? v 2 [])))]
  VectorRow 0x20 .vadd (fun _ _ => True) (fun _ _ => 1) (fun _ _ => 20) two (f2 fun _ => fpAdd) ∧
  VectorRow 0x21 .vsub (fun _ _ => True) (fun _ _ => 1) (fun _ _ => 20) two (f2 fun _ => fpSub) ∧
  VectorRow 0x22 .vmul (fun _ _ => True) (fun _ _ => 1) (fun _ _ => 20) two (f2 fun _ => fpMul) ∧
  VectorRow 0x23 .vfma (fun _ _ => True) (fun _ _ => 1) (fun _ _ => 22) three (f3 fpFma) ∧
  VectorRow 0x24 .vmin (fun _ _ => True) (fun _ _ => 1) (fun _ _ => 16) two (f2 fun _ => fpMin) ∧
  VectorRow 0x25 .vmax (fun _ _ => True) (fun _ _ => 1) (fun _ _ => 16) two (f2 fun _ => fpMax) ∧
  VectorRow 0x26 .vcmp (fun _ _ => True) (fun _ _ => 1) (fun _ _ => 16) two (f2 fun x a b =>
    if (x.mode = 0 ∧ fpEq a b = true) ∨ (x.mode = 1 ∧ fpEq a b = false) ∨ (x.mode = 2 ∧ fpLt a b = true) ∨ (x.mode = 3 ∧ fpLe a b = true)
    then 0xFFFFFFFF else 0) ∧
  VectorRow 0x27 .vsel (fun _ _ => True) (fun _ _ => 1) (fun _ _ => 16) three (f3 fun a b d => if d = 0 then b else a) ∧
  VectorRow 0x2E .vmov (fun _ _ => True) (fun _ _ => 1) (fun _ _ => 16) (fun t x => [(x.srcA, vecBytes t)])
    (fun _ x v => [(x.dst, fpBytes (at? v 0 []))]) ∧
  (∀ m f mult extra, (m, f, mult, extra) ∈ ([(0, fpExp, 1, 34), (1, fpRcp, 1, 30), (2, fpRsqrt, 1, 34), (3, fpLogistic, 2, 70),
      (4, fpSilu, 2, 70), (5, fpTanh, 2, 70), (6, fpGelu, 3, 120), (7, fpSqrt, 1, 40)] : List (Nat × (FP32 → FP32) × Nat × Nat)) →
    VectorRow 0x28 .vfn (fun _ x => x.mode = m) (fun _ _ => mult) (fun _ _ => extra) (fun t x => [(x.srcA, vecBytes t)])
      (fun _ x v => [(x.dst, fpBytes ((at? v 0 []).map f))])) ∧
  VectorRow 0x28 .vfn (fun _ x => x.mode = 8) (fun _ _ => 1) (fun _ _ => 40) two (f2 fun _ => fpDiv)

/-- The vector instructions that reduce, form chunk states or convert (R112, R123, R124, R145, R520): VCHS, VSMX with and without its
exponentials, VMRG, VBC, and VCVT in both directions, with the scales of an MX format. -/
def Obligations.VectorBlocks : Prop :=
  VectorRow 0x29 .vchs (fun _ _ => True) (fun _ _ => 1) (fun _ _ => 24) (fun t x => [(x.srcA, vecBytes t)])
    (fun t x v => [(x.dst, fpBytes ((chunks 128 (2 * rVLEN t) (at? v 0 [])).map fun h => alignedChunk (h.map numOf)))]) ∧
  VectorRow 0x2B .vsmx (fun _ _ => True) (fun _ _ => 2) (fun _ _ => 48) (fun t x => [(x.srcA, vecBytes t)])
    (fun t x v =>
      let st := (chunks 128 (2 * rVLEN t) (at? v 0 [])).map chunkState
      (x.dst, fpBytes (st.flatMap fun (m, s, _) => [m, s]))
        :: if bit x.mode 0 then [(x.srcB, fpBytes (st.flatMap fun (_, _, e) => e))] else []) ∧
  VectorRow 0x2C .vmrg (fun _ _ => True) (fun _ _ => 1) (fun _ _ => 44) (fun t x => [(x.srcA, vecBytes t), (x.srcB, vecBytes t)])
    (fun _ x v => [(x.dst, fpBytes (((statePairs (at? v 0 [])).zip (statePairs (at? v 1 []))).flatMap fun (a, b) => mergeQuad a b))]) ∧
  VectorRow 0x2F .vbc (fun _ _ => True) (fun _ _ => 1) (fun _ _ => 16) (fun t x => [(x.srcA, vecBytes t)])
    (fun t x v => [(x.dst, fpBytes ((chunks 256 (rVLEN t) (at? v 0 [])).flatMap fun w => w.map fun _ => w.headD 0))]) ∧
  VectorRow 0x2D .vcvt (fun t x => x.mode = 0 ∧ fmtValid (fOut t) = true) (fun _ _ => 1) (fun _ _ => 22) (fun t x => [(x.srcA, vecBytes t)])
    (fun t x v =>
      let modes := (List.range (256 * rVLEN t)).map fun j => roundingAt t (rIDXBASE t + j / 256 * rIDXROW t + j % 256 * rIDXCOL t)
      let r := convertOut (fOut t) ((at? v 0 []).map numOf) modes
      (x.dst, r.1) :: if fmtMx (fOut t) then [(x.srcB, r.2)] else []) ∧
  (∀ s d n t c l x, KilnAt 0x2D s d n t c l x → Quiet t → 1 ≤ rVLEN t → x.mode = 1 → fmtValid (fOut t) = true →
    let fmt := fOut t
    let k := 256 * rVLEN t
    let reads := (x.srcA, packedBytes fmt k) :: if fmtMx fmt then [(x.srcB, k / 32)] else []
    let outs := [(x.dst, fpBytes (convertIn fmt k (work t x.srcA (packedBytes fmt k)) (if fmtMx fmt then work t x.srcB (k / 32) else [])))]
    (∀ r ∈ reads, inWork l r.1 r.2 = true) → (∀ r ∈ outs, inWork l r.1 r.2.length = true) →
    exec (.vcvt d n) s = .next (issued s d n (unitDone t unitVector (rVLEN t) (rVLEN t + 22) reads outs) (t.exe.pos + 1) 1 none))

/-- The tensor array (R110-R116, R148-R150, R155, R157): TLD fills a stationary buffer with a tile and its scales; MMA streams MROWS rows
against a buffer, and the row results join the planes of the tree; TFL adds the planes of the set bits of KIDX, and an addend when asked. A
buffer that holds another format than FMT names gives results that nothing constrains, and one that was never loaded holds zeros: the
model's choices (log entries 14 and 11). -/
def Obligations.TensorArray : Prop :=
  (∀ s d n t c l x, KilnAt 0x10 s d n t c l x → Quiet t → arrayFmt (fStat t) = true →
    let fmt := fStat t
    let b := x.mode % 2
    let now := t.exe.cycle
    let occ := statBytes fmt / 512 + b2n (fmtMx fmt)
    let reads := (x.srcA, statBytes fmt) :: if fmtMx fmt then [(x.srcB, 256)] else []
    (∀ r ∈ reads, inWork l r.1 r.2 = true) →
    exec (.tld d n) s = .next (issued s d n { unitDone t unitLoader occ (occ + 12) reads [] with
      stat := t.stat.set b (some { fmt := fmt, data := work t x.srcA (statBytes fmt), scales := if fmtMx fmt then work t x.srcB 256 else [] })
      statOld := t.statOld.set b (at? t.stat b none, now + occ + 12)
      readers := readersOf (now + occ + 12) reads [.buffer b] } (t.exe.pos + 1) 1 none)) ∧
  (∀ s d n t c l x, KilnAt 0x11 s d n t c l x → Quiet t → 1 ≤ rMROWS t → rMROWS t ≤ 512 → 1 ≤ rKLEN t → rKLEN t ≤ 128 →
    arrayFmt (fStat t) = true → arrayFmt (fStream t) = true →
    let fa := fStream t
    let rows := rMROWS t
    let y := (at? t.stat (x.mode % 2) none).getD { fmt := fStat t, data := zeros (statBytes (fStat t)), scales := zeros 256 }
    let occ := mmaOcc fa (fStat t) rows
    let rowBytes := packedBytes fa 128
    let ones := lowOnes 24 (rKIDX t)
    let plane := fun i => x.dst + i * rPSTR t
    let sc := if fmtMx fa then work t x.srcB (4 * rows) else []
    let results := (List.range rows).flatMap fun i =>
      if y.fmt = fStat t then rowResults fa (fStat t) (rKLEN t) (slice (work t x.srcA (rowBytes * rows)) (rowBytes * i) rowBytes)
        (slice sc (4 * i) 4) y.data y.scales
      else (List.range 64).map fun c => Config.freeFP32 (s.freeCount + 64 * i + c)
    let sum := (List.range ones).foldl (fun acc i => List.zipWith fpAdd (fps (work t (plane i) (256 * rows))) acc) results
    let reads := (x.srcA, rowBytes * rows) :: (if fmtMx fa then [(x.srcB, 4 * rows)] else [])
      ++ (List.range ones).map fun i => (plane i, 256 * rows)
    let used := if y.fmt = fStat t then s.freeCount else s.freeCount + 64 * rows
    (∀ r ∈ reads, inWork l r.1 r.2 = true) → inWork l (plane ones) (fpBytes sum).length = true →
    exec (.mma d n) s = .next (pumped (countRows s d n (retired { s with freeCount := used }
      (advance { unitDone t unitArray occ (occ + 24) reads [(plane ones, fpBytes sum)] with
        bufs := t.bufs.set (x.mode % 2) (t.exe.cycle, t.exe.cycle + occ)
        exe := if fKinc t then { t.exe with regs := t.exe.regs.set 2 ((rKIDX t + 1) % 2 ^ 24) } else t.exe }
      (t.exe.pos + 1) 1) true none)) d n)) ∧
  (∀ s d n t c l x, KilnAt 0x12 s d n t c l x → Quiet t → 1 ≤ rMROWS t → rMROWS t ≤ 512 →
    let rows := rMROWS t
    let add := bit x.mode 0
    let planes := (setBits (rKIDX t)).map fun i => x.dst + i * rPSTR t
    let reads := planes.map (fun q => (q, 256 * rows)) ++ if add then [(x.srcB, 256 * rows)] else []
    let root := match planes.map fun q => fps (work t q (256 * rows)) with
      | [] => List.replicate (64 * rows) 0
      | p :: r => r.foldl (fun acc q => List.zipWith fpAdd q acc) p
    let outs := [(x.srcA, fpBytes (if add then List.zipWith fpAdd root (fps (work t x.srcB (256 * rows))) else root))]
    (∀ r ∈ reads, inWork l r.1 r.2 = true) → (∀ r ∈ outs, inWork l r.1 r.2.length = true) →
    exec (.tfl d n) s = .next (issued s d n (unitDone t unitArray rows (rows + 24) reads outs) (t.exe.pos + 1) 1 none))

/-- QPOP and QPUSH (R151-R153): a pop moves its lines from a load queue that holds them into the work area; one that meets the marker first
fills the rest with zeros, takes the marker, and sets the end flag; one that finds too little while data is on its way waits; a push converts its block, in its layout, into a store queue with room,
and the scales of an MX format into theirs. -/
def Obligations.QueuePops : Prop :=
  (∀ s d n t c l x, KilnAt 0x30 s d n t c l x → Quiet t → 1 ≤ x.srcA → x.srcA ≤ 512 →
    let q := x.mode % 8
    let k := 64 * x.srcA
    let queue := at? t.loadQ q []
    let taken := popBytes k queue
    let occ := ceilDiv taken.1.length 512
    let short := decide (taken.1.length < k)
    k ≤ loadQBytes l q → inWork l x.dst k = true → (k ≤ (popAhead queue).1 ∨ (popAhead queue).2 = true) →
    exec (.qpop d n) s = .next (issued s d n { t with
      pad := wrBytes t.pad (64 * x.dst) (slice taken.1 0 k)
      flights := [{ line := x.dst, ready := t.exe.cycle + occ + 4, old := work t x.dst k }]
      loadQ := t.loadQ.set q (if short then taken.2.drop 1 else taken.2)
      endFlag := if short then t.endFlag.set q true else t.endFlag
      units := t.units.set unitPop (t.exe.cycle, t.exe.cycle + occ)
      waitAt := if t.waiting then some t.exe.cycle else t.waitAt } (t.exe.pos + 1) 1 none)) ∧
  (∀ s d n t c l x, KilnAt 0x30 s d n t c l x → Quiet t → 1 ≤ x.srcA → x.srcA ≤ 512 → 64 * x.srcA ≤ loadQBytes l (x.mode % 8) →
    inWork l x.dst (64 * x.srcA) = true → popShort t x = true → (∃ r ∈ t.acc.reqs, r.queue = x.mode % 8 ∧ r.got = none) →
    (∀ r ∈ t.acc.reqs, (slotAt l r.slot).kind ≠ 2) →
    exec (.qpop d n) s = .next (pumped (modTile s d n fun t => { t with waiting := true }) d n)) ∧
  (∀ s d n t c l x, KilnAt 0x31 s d n t c l x → Quiet t → fmtValid (fOut t) = true → t.acc.ended = false →
    let q := x.mode % 4
    let sq := bits (rLAYOUT t) 6 5
    let rows := bits (rQSHAPE t) 15 0
    let cols := bits (rQSHAPE t) 31 16
    let v := bits (rLAYOUT t) 4 1
    let transpose := bit (rLAYOUT t) 0
    let mx := fmtMx (fOut t)
    let count := rows * cols
    let k := packedBytes (fOut t) count
    let occ := ceilDiv (4 * count) 1024 + (if mx then 8 else 0)
    let vals := fps (work t x.srcA (4 * count))
    let order := pushOrder rows cols transpose (if v = 0 then 0 else 2 ^ v)
    let r := convertOut (fOut t) (order.map fun (i, j) => numOf (at? vals (i * cols + j) 0))
      (order.map fun (i, j) => roundingAt t (rIDXBASE t + i * rIDXROW t + j * rIDXCOL t))
    rows ≠ 0 → cols ≠ 0 → v ≤ 8 → (v ≠ 0 → rows % 2 ^ v = 0 ∧ cols % 2 ^ v = 0) → (mx = true → count % 32 = 0 ∧ q ≠ sq) →
    storeQBytes l q ≠ 0 → (at? t.storeQ q []).length + k ≤ storeQBytes l q → inWork l x.srcA (4 * count) = true →
    (mx = true → (at? t.storeQ sq []).length + count / 32 ≤ storeQBytes l sq) →
    exec (.qpush d n) s = .next (issued s d n { t with
      storeQ := if mx then pushQ (pushQ t.storeQ q r.1) sq r.2 else pushQ t.storeQ q r.1
      units := t.units.set unitPush (t.exe.cycle, t.exe.cycle + occ)
      readers := readersOf (t.exe.cycle + occ + 16) [(x.srcA, 4 * count)]
        (if mx then [ReadDst.queue q k, ReadDst.queue sq (count / 32)] else [ReadDst.queue q r.1.length])
      waitAt := if t.waiting then some t.exe.cycle else t.waitAt } (t.exe.pos + 1) 1 none))

/-- The access stream (R138-R143, R160, R163): LOAD and STORE issue with their counts latched, a STORE with a zero count retires at once;
SETCNT writes a count register, CNTADD adds to one, signed, between 0 and 0xFFFF_FFFF; END ends the stream once all is drained; data that
comes back for a request of a tensor goes into its queue. A Slane channel halted for its context's wait limit ends its command (R167). -/
def Obligations.AccessStream : Prop :=
  (∀ s d n t c l e, EntryAt 0x01 s d n t c l e → emptySlot l e.slot = false → loadQBytes l e.queue ≠ 0 →
    t.acc.loads.length + t.acc.stores.length < 512 →
    exec (.accessLoad d n) s = .next (pumped (modTile s t.die t.core fun _ => { t with acc := { t.acc with
      pos := t.acc.pos + 1, loads := t.acc.loads ++ [nestOf t e] } }) d n)) ∧
  (∀ s d n t c l e, EntryAt 0x02 s d n t c l e → emptySlot l e.slot = false → (slotAt l e.slot).kind ≠ 2 → (slotAt l e.slot).kind ≠ 8 →
    storeQBytes l e.queue ≠ 0 →
    e.run ≤ storeQBytes l e.queue → t.acc.loads.length + t.acc.stores.length < 512 →
    let u : Tile := { t with acc := { t.acc with pos := t.acc.pos + 1 } }
    exec (.accessStore d n) s = .next (pumped
      (if (nestOf t e).points = 0 then retired s { u with acc := { u.acc with retired := t.acc.retired + 1 } } false (some e.tag)
       else modTile s t.die t.core fun _ => { u with acc := { u.acc with stores := t.acc.stores ++ [nestOf t e] } }) d n)) ∧
  (∀ s d n t c l e, EntryAt 0x10 s d n t c l e → exec (.setcnt d n) s = .next
    (retired s (accNext { t with acc := { t.acc with cnt := t.acc.cnt.set e.queue e.value } }) false none)) ∧
  (∀ s d n t c l e, EntryAt 0x11 s d n t c l e →
    let v : Int := (at? t.acc.cnt e.queue 0 : Nat) + signed 32 e.value
    exec (.cntadd d n) s = .next (retired s (accNext { t with acc := { t.acc with
      cnt := t.acc.cnt.set e.queue (if v < 0 then 0 else if 0xFFFFFFFF < v then 0xFFFFFFFF else v.toNat) } }) false none)) ∧
  (∀ s d n t c l e, EntryAt 0x1F s d n t c l e → t.acc.loads = [] → t.acc.stores = [] → (∀ q ∈ t.storeQ, q = []) →
    exec (.accessEnd d n) s = .next
      (hopelessNow (retired s { accNext t with acc := { (accNext t).acc with ended := true } } false none) d n)) ∧
  (∀ s d n t c l k r x, tileOn s d n = some t → cmdOf s t.cmd = some c → launchOf c = some l → c.phase = .run → t.committing = false →
    t.acc.reqs[k]? = some r → r.got = none → (slotAt l r.slot).kind = 1 → tensorAny s (slotAt l r.slot).handle = some x →
    let b := slotAt l r.slot
    let base := sodBase x r.plane
    let view := viewOf s c b.handle
    servedNext s r = true → firstUnread c b.handle view (sodsOf base r.off r.len) = none →
    exec (.loadDataReturn d n k .none) s = .next
      (pumped (answerReq (servedRun s c.handle.ctx b.handle view base r.off r.len .normal) t k (readView view base r.off r.len)) d n)) ∧
  (∀ s d n t c l k r, tileOn s d n = some t → cmdOf s t.cmd = some c → launchOf c = some l → c.phase = .run → t.committing = false →
    t.acc.reqs[k]? = some r → r.got = none → (slotAt l r.slot).kind = 1 → servedNext s r = false →
    exec (.loadDataReturn d n k .none) s = .next (pumped s d n)) ∧
  (∀ (s : State) (h t : Handle) (n since off : Nat) (q : SlaneChan), slaneOf s h = some (n, q) → q.halt = some (since, t, off) →
    since + ((ctxOf s h.ctx).map (·.waitLimit)).getD 0 ≤ s.now → exec (.slaneHaltTimeout h) s = .next (finish s h stDataAsh))

/-! ## Channels and Ember units -/

/-- The modes of a channel and the commands of a unit (R171-R178, R195, R203, R204): a request for processor mode begins the switch; at its
end, outside a refresh, the channel is in processor mode and held STARTs begin, or it is on its way back when its work is gone; a request for
memory mode, or a queued request that has waited EMB_CH_HOLD, asks the units at work to yield, and memory mode is entered when none runs or
pauses; a unit starts, or the START is held or refused; a suspended unit resumes; a clear of EMB_STATUS leaves the unit idle. -/
def Obligations.ChannelModes : Prop :=
  (∀ (s : State) (st ch : Nat) (tr : Bool), (chanOf s st ch).mode = .memory → smoulders s st = false → powerBlocks s.pwr = false →
    keepsRead s st ch = false → chanWork s st ch = true → methodFits s st ch tr = true →
    exec (.processorModeRequest st ch tr) s = .next (modChan s st ch fun c => { c with
      mode := .toProcessor, trigger := tr, asker := chanAsker s st ch, abandon := false })) ∧
  (∀ (s : State) (st ch : Nat) (tr : Bool), ((chanOf s st ch).mode ≠ .memory ∨ smoulders s st = true ∨ powerBlocks s.pwr = true
      ∨ keepsRead s st ch = true ∨ chanWork s st ch = false ∨ methodFits s st ch tr = false) →
    exec (.processorModeRequest st ch tr) s = .next s) ∧
  (∀ (s : State) (st ch : Nat), (chanOf s st ch).mode = .processor →
    let t := modChan s st ch fun c => { c with mode := .toMemory, units := c.units.map fun u => (u.1, askYield u.2) }
    exec (.memoryModeRequest st ch) s = .next t ∧ (holdOver s st ch = true → exec (.holdLimitExpiry st ch) s = .next t)) ∧
  (∀ (s : State) (st ch : Nat), holdOver s st ch = false → exec (.holdLimitExpiry st ch) s = .next s) ∧
  (∀ u : EUnit, (u.state = .running → askYield u = { u with yieldStop := true }) ∧
    (u.state = .refreshPause → u.atYield = true → askYield u = { u with state := .suspended }) ∧
    (u.state = .refreshPause → u.atYield = false → askYield u = { u with yieldStop := true }) ∧
    (u.state ≠ .running → u.state ≠ .refreshPause → askYield u = u)) ∧
  (∀ (s : State) (st ch : Nat), (chanOf s st ch).mode = .toProcessor →
    exec (.memoryModeRequest st ch) s = .next (modChan s st ch fun c => { c with abandon := true })) ∧
  (∀ (s : State) (st ch : Nat), (chanOf s st ch).mode = .toProcessor → (chanOf s st ch).refreshing = false →
    let t := gather (modChan s st ch fun c => { c with switches := (c.switches + 1) % 2 ^ 32 }) 0x2001 1
    ((chanOf s st ch).abandon = true ∨ chanWork t st ch = false → exec (.processorModeEntered st ch) s = .next
      (modChan t st ch fun c => { c with mode := .toMemory, abandon := false })) ∧
    ((chanOf s st ch).abandon = false → chanWork t st ch = true → exec (.processorModeEntered st ch) s = .next
      (releaseHeld (modChan t st ch fun c => { c with mode := .processor }) st ch))) ∧
  (∀ (s : State) (st ch : Nat), (chanOf s st ch).mode ≠ .toProcessor ∨ (chanOf s st ch).refreshing = true →
    exec (.processorModeEntered st ch) s = .next s) ∧
  (∀ (s : State) (st ch : Nat), (chanOf s st ch).mode = .toMemory → (chanOf s st ch).refreshing = false →
    (∀ u ∈ (chanOf s st ch).units, u.2.state ≠ .running ∧ u.2.state ≠ .refreshPause) →
    exec (.memoryModeEntered st ch) s = .next (chargeChan (gather (modChan (noteActive s (4 + st)) st ch fun c => { c with
      mode := .memory, switches := (c.switches + 1) % 2 ^ 32 }) 0x2001 1) st ch)) ∧
  (∀ (s : State) (st ch un entry tag : Nat) (x : Cmd × InbankBlock × Nat), (unitOf s st ch un).state.busy = false →
    (chanOf s st ch).mode = .processor → (chanOf s st ch).trigger = false → partFor s st ch un entry tag = some x →
    exec (.embStart st ch un entry tag) s = .next (startPart s st ch un x.1 x.2.1 x.2.2 entry tag true)) ∧
  (∀ (s : State) (st ch un entry tag : Nat), (unitOf s st ch un).state.busy = false → (chanOf s st ch).mode = .bankView →
    exec (.embStart st ch un entry tag) s = .next (setUnit s st ch un (bankUnit (unitOf s st ch un) entry tag))) ∧
  (∀ (s : State) (st ch un entry tag : Nat), (unitOf s st ch un).state.busy = false → (chanOf s st ch).mode ≠ .bankView →
    ¬ ((chanOf s st ch).mode = .processor ∧ (chanOf s st ch).trigger = false) →
    exec (.embStart st ch un entry tag) s = .next (setUnit s st ch un { unitOf s st ch un with heldStart := some (entry, tag) })) ∧
  (∀ (s : State) (st ch un entry tag : Nat), (unitOf s st ch un).state.busy = true →
    exec (.embStart st ch un entry tag) s = .next (modChan s st ch fun c => { c with refusedWrites := min 255 (c.refusedWrites + 1) })) ∧
  (∀ (s : State) (st ch un : Nat) (h : Handle) (p : Nat), (unitOf s st ch un).state.busy = true → (unitOf s st ch un).part = some (h, p) →
    exec (.embStop st ch un) s = .next (idleChans (reseedPart (setUnit s st ch un { unitOf s st ch un with
      state := .stopped, ended := true, part := none, heldStart := none, fences := List.replicate 8 {}, vregs := [], yieldStop := false }) h p))) ∧
  (∀ (s : State) (st ch un : Nat), (unitOf s st ch un).state.busy = false → exec (.embStop st ch un) s = .next s) ∧
  (∀ (s : State) (st ch un : Nat) (h : Handle) (p : Nat) (e : Engine), (unitOf s st ch un).state = .suspended →
    (unitOf s st ch un).part = some (h, p) → (chanOf s st ch).mode = .processor → (chanOf s st ch).lastCtx = some h.ctx →
    tget? s.kiln.chans (chanNum st ch) = some e →
    exec (.embResume st ch un) s = .next (setUnit s st ch un { unitOf s st ch un with state := .running, yieldStop := false })) ∧
  (∀ (s : State) (st ch un : Nat), (unitOf s st ch un).ended = true →
    ((unitOf s st ch un).state.busy = false → exec (.embStatusClear st ch un) s = .next
      (setUnit s st ch un { unitOf s st ch un with ended := false, state := .idle, cause := 0 })) ∧
    ((unitOf s st ch un).state.busy = true → exec (.embStatusClear st ch un) s = .next
      (setUnit s st ch un { unitOf s st ch un with ended := false }))) ∧
  (∀ (s : State) (st ch : Nat), (chanOf s st ch).mode = .processor → (chanOf s st ch).refreshing = false → 8 ≤ (chanOf s st ch).debt →
    smoulders s st = false → (chanOf s st ch).units.any (fun u => u.2.state == .running) = true →
    ∃ t, exec (.refreshDue st ch) s = .next t ∧ (chanOf t st ch).refreshing = true ∧ (chanOf t st ch).mode = .processor ∧
      (chanOf t st ch).units = (chanOf s st ch).units.map fun u => (u.1, pauseUnit u.2)) ∧
  (∀ (s : State) (st ch : Nat), (chanOf s st ch).refreshing = true →
    ∃ t, exec (.refreshComplete st ch) s = .next t ∧ (chanOf t st ch).refreshing = false ∧ (chanOf t st ch).mode = (chanOf s st ch).mode ∧
      (chanOf t st ch).debt = (chanOf s st ch).debt)

/-- Refresh and reseal (R184, R185, R191-R196, R360): below a debt of 8 a refresh is postponed; at 8 one is made, and units that run then pause
for it; its end lets them run on; with no unit at work the controller pays its debt back; the refresh timer of a stack in Smoulder stands. An
open row that no command writes is sealed again in memory mode, when the class it is served in has its turn, and a tag that does not match
makes its sod ash. -/
def Obligations.RefreshAndReseal : Prop :=
  (∀ (s : State) (st ch : Nat), ((chanOf s st ch).mode = .offline ∨ (chanOf s st ch).refreshing = true ∨ smoulders s st = true) →
    exec (.refreshDue st ch) s = .next s) ∧
  (∀ (s : State) (st ch : Nat), (chanOf s st ch).mode ≠ .offline → (chanOf s st ch).refreshing = false → smoulders s st = false →
    (chanOf s st ch).debt < 8 →
    exec (.refreshDue st ch) s = .next (modChan s st ch fun c => { c with debt := c.debt + 1, hot := stackHot s st })) ∧
  (∀ (s : State) (st ch : Nat), ((chanOf s st ch).mode = .processor ∨ (chanOf s st ch).mode = .toMemory) →
    (chanOf s st ch).refreshing = false → smoulders s st = false → 8 ≤ (chanOf s st ch).debt →
    (∃ u ∈ (chanOf s st ch).units, u.2.state = .running) →
    exec (.refreshDue st ch) s = .next (modChan (gather s 0x2002 1) st ch fun c => { c with
      refreshing := true, hot := stackHot s st, forcedPauses := min 4095 (c.forcedPauses + 1)
      units := c.units.map fun u => (u.1, pauseUnit u.2) })) ∧
  (∀ (s : State) (st ch : Nat), (chanOf s st ch).mode ≠ .offline → (chanOf s st ch).refreshing = false → smoulders s st = false →
    8 ≤ (chanOf s st ch).debt →
    ((chanOf s st ch).mode ≠ .processor ∧ (chanOf s st ch).mode ≠ .toMemory ∨ ∀ u ∈ (chanOf s st ch).units, u.2.state ≠ .running) →
    exec (.refreshDue st ch) s = .next (modChan (gather s 0x2002 0) st ch fun c => { c with refreshing := true, hot := stackHot s st })) ∧
  (∀ (s : State) (st ch : Nat), (chanOf s st ch).refreshing = true →
    exec (.refreshComplete st ch) s = .next (modChan s st ch fun c => { c with
      refreshing := false
      units := c.units.map fun u => (u.1, if u.2.state = .refreshPause then { u.2 with state := .running } else u.2) })) ∧
  (∀ (s : State) (st ch : Nat), (chanOf s st ch).refreshing = false → (chanOf s st ch).mode ≠ .offline →
    (∀ u ∈ (chanOf s st ch).units, u.2.state ≠ .running) →
    exec (.refreshComplete st ch) s = .next (modChan s st ch fun c => { c with debt := c.debt - 1 })) ∧
  (∀ (s : State) (st ch : Nat), (chanOf s st ch).refreshing = false →
    ((chanOf s st ch).mode = .offline ∨ ∃ u ∈ (chanOf s st ch).units, u.2.state = .running) →
    exec (.refreshComplete st ch) s = .next s) ∧
  (∀ (s : State) (st ch bank row : Nat) (err : MemErr), chanReady s (chanNum st ch) = true → servesClass s .bulk (chanNum st ch) = true →
    rowIsOpen s st ch bank row = true → (∀ c ∈ s.cmds, ∀ sh ∈ c.shadows, sh.loc ≠ some (.bank st ch bank row)) →
    let l := Loc.bank st ch bank row
    let w := serveBursts s .bulk 256 (chanNum st ch)
    let shut := fun v => modChan v st ch fun c => { c with openRows := c.openRows.filter fun r => r != (bank, row) }
    (sodAt s l = none → exec (.rowReseal st ch bank row err) s = .next (shut w)) ∧
    (∀ t k x old, sodAt s l = some (t, k) → shadowed s t k = false → tensorAny s t = some x → tget? x.sods k = some old →
      let v := countTraffic w x.clamp .bulk 8192
      (anyFlip err = false → tagFails old = false → exec (.rowReseal st ch bank row err) s = .next (shut v)) ∧
      (anyFlip err = true ∨ tagFails old = true →
        exec (.rowReseal st ch bank row err) s = .next (shut (settled (makeAsh v t k)))))) ∧
  (∀ (s : State) (st ch bank row : Nat) (err : MemErr), (chanReady s (chanNum st ch) = false ∨ rowIsOpen s st ch bank row = false ∨
      ∃ c ∈ s.cmds, ∃ sh ∈ c.shadows, sh.loc = some (.bank st ch bank row)) →
    exec (.rowReseal st ch bank row err) s = .next s)

/-- A command's accesses through its trigger window, for the part that its current wave runs on a unit in address-trigger mode (R177,
R199-R203): once the channel is the context's to use, and cleared for it, reads and writes of a vector register, of the broadcast buffer
(whatever the unit field; not while a part runs), of the store and of an argument register; START, STOP and RESUME written to EMB_CMD; and
reads of EMB_STATUS, which EMB_WAIT delays while the unit is at work: a delayed read stays at its unit. -/
def Obligations.TriggerWindow : Prop :=
  (∀ (s : State) (h : Handle) (c : Cmd) (b : InbankBlock) (part p st ch un : Nat), cmdOf s h = some c → inbandOf c = some b → c.phase = .run →
    windowed c = true → part < 512 → (currentWave s c b)[part]? = some p → partUnit s c b p = some (st, ch, un) →
    (chanOf s st ch).mode = .processor → (chanOf s st ch).trigger = true → chanServes s st ch c.handle.ctx = true →
    (∀ t ∈ s.kiln.tiles, ∀ r ∈ t.acc.reqs, r.unit = none) →
    let v := claimUnit s st ch un c.handle.ctx
    let u := unitOf v st ch un
    let answer := fun (q op index : Nat) (bs : List Byte) => match windowReq s h (windowOffset q op index) with
      | some (t, i) => answerReq v t i bs
      | none => v
    (∀ i w, i ≤ 15 → u.state.busy = false → exec (.trigVreg h part i (some w)) s = .next
      (setUnit v st ch un { u with vregs := wrBytes u.vregs (32 * i) (slice w 0 32) })) ∧
    (∀ i, i ≤ 15 → exec (.trigVreg h part i none) s = .next (answer part 0 i (rdBytes u.vregs (32 * i) 32))) ∧
    (∀ q i w, part % 16 = 0 → q < 16 → i ≤ 127 → (chanOf v st ch).anyBusy = false → exec (.trigBbuf h (part + q) i (some w)) s = .next
      (modChan v st ch fun x => { x with bbuf := wrBytes x.bbuf (32 * i) (slice w 0 32) })) ∧
    (∀ q i w, part % 16 = 0 → q < 16 → i ≤ 127 → (chanOf v st ch).anyBusy = true → exec (.trigBbuf h (part + q) i (some w)) s = .next v) ∧
    (∀ q i, part % 16 = 0 → q < 16 → i ≤ 127 → exec (.trigBbuf h (part + q) i none) s = .next
      (answer (part + q) 1 i (rdBytes (chanOf v st ch).bbuf (32 * i) 32))) ∧
    (∀ i w, i ≤ 63 → u.state.busy = false → exec (.trigUstore h part i (some w)) s = .next (setUnit v st ch un { u with
      store := (List.range 4).foldl (fun l j => l.set (4 * i + j) (BitVec.ofNat 64 (u64 w (8 * j)))) u.store })) ∧
    (∀ i, i ≤ 63 → exec (.trigUstore h part i none) s = .next
      (answer part 2 i ((List.range 4).flatMap fun j => natLE 8 (at? u.store (4 * i + j) 0).toNat))) ∧
    (∀ i w, i ≤ 3 → u.state.busy = false → leNat (slice w 8 24) = 0 → exec (.trigArg h part i (some w)) s = .next
      (setUnit v st ch un { u with args := u.args.set i (BitVec.ofNat 64 (u64 w 0)) })) ∧
    (∀ i, i ≤ 3 → exec (.trigArg h part i none) s = .next (answer part 3 i (natLE 8 (at? u.args i 0).toNat ++ zeros 24))) ∧
    (∀ i w, leNat (slice w 8 24) = 0 → bits (u64 w 0) 9 8 = 1 → u.state.busy = false → exec (.trigCmd h part i (some w)) s = .next
      (startPart v st ch un c b p (bits (u64 w 0) 7 0) (bits (u64 w 0) 31 16) false)) ∧
    (∀ i w, leNat (slice w 8 24) = 0 → bits (u64 w 0) 9 8 = 2 → exec (.trigCmd h part i (some w)) s = .next
      (haltUnit EUnit.stopped v st ch un)) ∧
    (∀ i w, leNat (slice w 8 24) = 0 → bits (u64 w 0) 9 8 = 3 → exec (.trigCmd h part i (some w)) s = .next (resumeUnit v st ch un)) ∧
    (∀ i, i ≤ 127 → exec (.trigCmd h part i none) s = .next (answer part 4 i (natLE 8 (statusWord u) ++ zeros 24))) ∧
    (∀ i, i ≤ 127 → u.state.busy = false → exec (.trigWait h part i none) s = .next (answer part 5 i (natLE 8 (statusWord u) ++ zeros 24))) ∧
    (∀ i, i ≤ 127 → u.state.busy = true → exec (.trigWait h part i none) s = .next (match windowReq s h (windowOffset part 5 i) with
      | some (t, j) => modTile s t.die t.core fun x => { x with acc := { x.acc with
          reqs := x.acc.reqs.modify j fun r => { r with unit := some (st, ch, un) } } }
      | none => s))) ∧
  (∀ (s : State) (h : Handle) (c : Cmd) (b : InbankBlock) (part i j st ch un : Nat) (t : Tile), cmdOf s h = some c → inbandOf c = some b →
    c.phase = .run → windowed c = true → windowReq s h (windowOffset part 5 i) = some (t, j) →
    (at? t.acc.reqs j default).unit = some (st, ch, un) →
    let u := unitOf s st ch un
    (u.lastCtx = some c.handle.ctx → u.state.busy = true → exec (.trigWait h part i none) s = .next s) ∧
    (u.lastCtx = some c.handle.ctx → u.state.busy = false →
      exec (.trigWait h part i none) s = .next (answerReq s t j (natLE 8 (statusWord u) ++ zeros 24))) ∧
    (u.lastCtx ≠ some c.handle.ctx → exec (.trigWait h part i none) s = .next (answerReq s t j goneStatus)))

/-- Control micro-operations (R216, R224, R233-R236): NOP and FENCE fall through; YIELD suspends when a yield was asked for; LOOP repeats its
body or skips it; SETA, ADDA, SETB and SETF set their registers; TSET sets a reduction slot; END ends the part, unless a sod that it read
is bad. -/
def Obligations.EmberControl : Prop :=
  (∀ e h u x, EmberAt 0x00 e h u x → exec (.emberNop e.stack e.chan e.unit) e.s = .next (passed e h (pass u) [] 0)) ∧
  (∀ e h u x, EmberAt 0x04 e h u x → exec (.emberFence e.stack e.chan e.unit) e.s = .next (passed e h (pass u) [] 0)) ∧
  (∀ e h u x, EmberAt 0x02 e h u x → exec (.emberYield e.stack e.chan e.unit) e.s = .next
    (passed e h (if u.yieldStop then { pass u with state := .suspended, yieldStop := false, atYield := true }
      else { pass u with atYield := true }) [] 0)) ∧
  (∀ e h u x, EmberAt 0x03 e h u x →
    let len := bits x.imm 7 0
    let count := if bit x.flags 0 then argOf u x.v % 2 ^ 24 else bits x.imm 23 8
    1 ≤ len → u.pc + 1 + len ≤ 256 →
    (count = 0 → exec (.emberLoop e.stack e.chan e.unit) e.s = .next (passed e h (stepPc u (u.pc + 1 + len)) [] 0)) ∧
    (count ≠ 0 → u.loops.length < 2 → exec (.emberLoop e.stack e.chan e.unit) e.s = .next (passed e h { u with
      pc := u.pc + 1, lastPc := u.pc, atYield := false
      loops := { first := u.pc + 1, last := u.pc + 1 + len, left := count } :: u.loops } [] 0)) ∧
    (count ≠ 0 → u.loops.length = 2 → exec (.emberLoop e.stack e.chan e.unit) e.s = .next (unitFault e.s e.stack e.chan e.unit 4 0xFF))) ∧
  (∀ e h u x, EmberAt 0x08 e h u x →
    (bits x.flags 1 0 = 0 → exec (.seta e.stack e.chan e.unit) e.s = .next
      (passed e h (pass { u with areg := u.areg.set x.a (BitVec.ofNat 64 (firstAddr e.b e.part (bits x.imm 2 0))) }) [] 0)) ∧
    (bits x.flags 1 0 = 1 → exec (.seta e.stack e.chan e.unit) e.s = .next
      (passed e h (pass { u with areg := u.areg.set x.a (at? u.argsIn (x.v % 4) 0) }) [] 0)) ∧
    (bits x.flags 1 0 = 2 → exec (.seta e.stack e.chan e.unit) e.s = .next
      (passed e h (pass { u with areg := u.areg.set x.a (at? u.areg (bits x.imm 2 0) 0) }) [] 0)) ∧
    (bits x.flags 1 0 = 3 → exec (.seta e.stack e.chan e.unit) e.s = .next (unitFault e.s e.stack e.chan e.unit 3 0xFF))) ∧
  (∀ e h u x, EmberAt 0x09 e h u x → exec (.adda e.stack e.chan e.unit) e.s = .next
    (passed e h (pass { u with areg := u.areg.modify x.a fun y => y + BitVec.ofInt 64 (signed 24 x.imm) }) [] 0)) ∧
  (∀ e h u x, EmberAt 0x0A e h u x → exec (.setb e.stack e.chan e.unit) e.s = .next
    (passed e h (pass { u with bb := if bit x.flags 0 then argOf u x.v % 128 else bits x.imm 6 0 }) [] 0)) ∧
  (∀ e h u x, EmberAt 0x0B e h u x → exec (.setf e.stack e.chan e.unit) e.s = .next
    (passed e h (pass { u with fmt := BitVec.ofNat 24 x.imm }) [] 0)) ∧
  (∀ e h u x, EmberAt 0x0C e h u x → bit x.flags 0 = false → exec (.tset e.stack e.chan e.unit) e.s = .next
    (passed e h (pass { u with slots := u.slots.set x.p { chunks := x.imm } }) [] 0)) ∧
  (∀ e h u x k, EmberAt 0x0C e h u x → bit x.flags 0 = true → x.imm = 2 ^ k →
    let q : RSlot := { chunks := 2 ^ k, levels := ({} : RSlot).levels.set k (vlane u x.v (x.line % 8)) }
    exec (.tset e.stack e.chan e.unit) e.s = .next (passed e h (pass { u with slots := u.slots.set x.p q }) [] 0)) ∧
  (∀ e h u x err, EmberAt 0x01 e h u x → (e.bankView = true ∨ endBad e u err = none) → exec (.emberEnd e.stack e.chan e.unit err) e.s = .next
    (partDone e.s e.stack e.chan e.unit h e.part u))

/-- Stream micro-operations (R216-R219, R225-R227): LDV, STV, SHV, STRM and DQ move their bursts when every burst can be read and every burst
written may be, and their address registers move on when inc is set. -/
def Obligations.EmberStreams : Prop :=
  (∀ e h u x bs, EmberAt 0x10 e h u x → x.n ≤ 16 → x.v + x.n ≤ 16 → readBursts e u (areg u x.a) x.n = .got bs →
    exec (.ldv e.stack e.chan e.unit) e.s = .next (passed e h (pass (moved
      { noteReads u (areg u x.a) x.n with vregs := wrBytes u.vregs (32 * x.v) bs } x [(x.a, x.n)])) [] 0)) ∧
  (∀ e h u x, EmberAt 0x11 e h u x → x.n ≤ 16 → x.v + x.n ≤ 16 → spanOpen e u (areg u x.a) x.n →
    let bs := rdBytes u.vregs (32 * x.v) (32 * x.n)
    exec (.stv e.stack e.chan e.unit) e.s = .next
      (passed e h (pass (moved (wrote u (areg u x.a) bs) x [(x.a, x.n)])) (burstsOf (areg u x.a) bs) 0)) ∧
  (∀ e h u x bs, EmberAt 0x12 e h u x → readBursts e u (areg u x.a) x.n = .got bs →
    let old := if bit x.flags 0 then [] else u.patch
    old.length + 8 * x.n ≤ 512 →
    exec (.shv e.stack e.chan e.unit) e.s = .next (passed e h (pass (moved
      { noteReads u (areg u x.a) x.n with patch := old ++ words32 bs, rowOpen := if bit x.flags 0 then false else u.rowOpen }
      x [(x.a, x.n)])) [] 0)) ∧
  (∀ e h u x bs, EmberAt 0x13 e h u x → x.n ≤ 32 →
    let d := bits x.imm 2 0
    spansMeet (areg u x.a) x.n (areg u d) x.n = false → readBursts e u (areg u x.a) x.n = .got bs → bs.length = 32 * x.n →
    spanOpen e (noteReads u (areg u x.a) x.n) (areg u d) x.n →
    exec (.strm e.stack e.chan e.unit) e.s = .next
      (passed e h (pass (moved (wrote (noteReads u (areg u x.a) x.n) (areg u d) bs) x [(x.a, x.n), (d, x.n)])) (burstsOf (areg u d) bs) 0)) ∧
  (∀ e h u x bs, EmberAt 0x14 e h u x → streamFmt (eStream u) = true → eOut u ∈ [0x01, 0x02, 0x03, 0x04, 0x05] →
    let d := bits x.imm 2 0
    let outBits := x.n * perBurst (eStream u) * fmtBits (eOut u)
    let vals := (spanElems u (eStream u) (areg u x.a) bs x.n).map fun (_, y, sc) => encodeElem .nearest (eOut u) (elemValue (eStream u) y sc)
    let out := packElems (eOut u) vals
    outBits % 256 = 0 → x.n + outBits / 256 ≤ 64 → readBursts e u (areg u x.a) x.n = .got bs →
    spanOpen e (noteReads u (areg u x.a) x.n) (areg u d) (ceilDiv out.length 32) →
    exec (.dq e.stack e.chan e.unit) e.s = .next (passed e h
      (pass (moved (wrote (noteReads u (areg u x.a) x.n) (areg u d) out) x [(x.a, x.n), (d, outBits / 256)])) (burstsOf (areg u d) out) 0))

/-- Reductions of a unit (R222-R225): MAC multiplies its bursts, patched when asked, by the broadcast vector into a reduction slot, whose
chunks of 128 products close into the tree; with fls set, the root is shifted into V[v] and the slot is clear. -/
def Obligations.EmberMac : Prop :=
  ∀ e h u x bs q, EmberAt 0x20 e h u x →
    let fs := eStream u
    let fv := eVector u
    let sum := bit x.flags 4
    let pat := bits x.flags 3 2
    let line := (u.bb + x.line) % 128
    let vb := packedBytes fv (x.n * perBurst fs)
    let vec := if sum then [] else vectorBytes e line vb
    let q0 := if pat = 2 ∧ u.rowOpen = true then dropRow u.patch else u.patch
    let elems := spanElems u fs (areg u x.a) bs x.n
    let r := if pat = 0 then (q0, elems) else patchSpan (fmtBits fs) q0 elems
    let terms := r.2.zipIdx.map fun ((_, y, sc), i) => (fs, y, sc, if sum then 0 else fv, if sum then 0 else elemBits fv vec i)
    let start : RSlot := if bit x.flags 0 then {} else at? u.slots x.p {}
    let w := moved { noteReads u (areg u x.a) x.n with patch := r.1, rowOpen := if pat = 2 then true else u.rowOpen } x [(x.a, x.n)]
    let used := if sum = false ∧ 4096 < 32 * line + vb then vb else 0
    streamFmt fs = true → (sum = true ∨ vectorFmt fv = true) → pat ≠ 3 → readBursts e u (areg u x.a) x.n = .got bs →
    addTerms start terms = some q →
    (bit x.flags 1 = false → exec (.mac e.stack e.chan e.unit) e.s = .next (passed e h (pass { w with slots := u.slots.set x.p q }) [] used)) ∧
    (∀ z, bit x.flags 1 = true → (if q.terms = [] then some q else closeChunk q) = some z →
      exec (.mac e.stack e.chan e.unit) e.s = .next (passed e h
        (pass { shiftIn w x.v ((treeRoot fpAdd z.chunks z.levels none).getD 0) with slots := u.slots.set x.p {} }) [] used))

/-- Attention on a unit (R228-R232): ASC appends the scores of its tokens, ASM makes the chunk state of the scores, AVG weighs the values of
one group, ACL pushes the chunk state into the state tree, AFL flushes the tree, normalised when asked, and ASL loads a state. What the root
of an empty tree is, the manual does not say: those values are free (log entry 14). -/
def Obligations.EmberAttention : Prop :=
  (∀ e h u x bs, EmberAt 0x28 e h u x →
    let k := bits x.imm 4 0
    let sod := areg u x.a
    let line := (u.bb + x.line) % 128
    let qb := packedBytes (eVector u) 128
    let query := vectorBytes e line qb
    1 ≤ k → k ≤ 16 → turfFmt (eStream u) = true → vectorFmt (eVector u) = true → u.scores.length + k ≤ 128 →
    readSpans e u ((List.range k).map fun j => (keyAddr sod j, 4)) = .got bs →
    exec (.asc e.stack e.chan e.unit) e.s = .next (passed e h (pass (moved { noteReads u (keyAddr sod 0) 1 with
      scores := u.scores ++ (List.range k).map fun j =>
        scoreOf (eStream u) (eVector u) (slice bs (128 * j) 128) query (BitVec.ofNat 32 (argOf u x.v)) } x [(x.a, 128)]))
      [] (if 4096 < 32 * line + qb then qb else 0))) ∧
  (∀ e h u x, EmberAt 0x29 e h u x →
    let r := chunkState u.scores
    exec (.asm e.stack e.chan e.unit) e.s = .next (passed e h (pass { u with
      scores := [], scoresBack := u.scores, chunkM := r.1, chunkS := r.2.1
      probs := r.2.2 ++ List.replicate (128 - r.2.2.length) 0 }) [] 0)) ∧
  (∀ e h u x bs, EmberAt 0x2A e h u x → turfFmt (eStream u) = true →
    let g := bits x.imm 1 0
    let n := u.scoresBack.length
    let first := areg u x.a / 128 * 128
    let read := (List.range (ceilDiv n 16)).foldl (fun w i => noteReads w (addrPlus first (128 * i)) 1) u
    let o := (List.range 32).map fun d =>
      if u.chunkM = fpMinusInf then (0 : FP32)
      else alignedChunk ((List.range n).map fun i =>
        mulNum (numOf (at? u.probs i 0)) (elemValue (eStream u) (elemBits (eStream u) (slice bs (32 * i) 32) d) 0))
    readSpans e u ((List.range n).map fun i => (valueAddr (addrPlus first (128 * (i / 16))) (i % 16) g, 1)) = .got bs →
    exec (.avg e.stack e.chan e.unit) e.s = .next (passed e h (pass (moved { read with
      chunkO := read.chunkO.take (32 * g) ++ o ++ read.chunkO.drop (32 * g + 32)
      chunkBuf := wrBytes read.chunkBuf 0 bs } x [(x.a, n)])) [] 0)) ∧
  (∀ e h u x t, EmberAt 0x2B e h u x → treePush mergeStates 8 u.treeCount u.tree { m := u.chunkM, s := u.chunkS, o := u.chunkO } = some t →
    exec (.acl e.stack e.chan e.unit) e.s = .next (passed e h (pass { u with tree := t, treeCount := u.treeCount + 1 }) [] 0)) ∧
  (∀ e h u x, EmberAt 0x2C e h u x →
    let root : SState := (treeRoot mergeStates u.treeCount u.tree none).getD
      { m := Config.freeFP32 e.k, s := Config.freeFP32 (e.k + 1), o := (List.range 128).map fun i => Config.freeFP32 (e.k + 2 + i) }
    let out := stateBytes (if bit x.flags 0 then { root with o := root.o.map fun v => fpMul v (fpRcp root.s) } else root)
    let v : EUnit := { u with tree := List.replicate 7 {}, treeCount := 0 }
    let w := wrote v (areg u x.a) out
    spanOpen e v (areg u x.a) 17 → exec (.afl e.stack e.chan e.unit) e.s = .next
      (passed e h (pass (moved (if bit x.flags 0 then { w with normalised := areg u x.a :: w.normalised } else w) x [(x.a, 17)])) (burstsOf (areg u x.a) out) (if u.treeCount = 0 then 130 else 0))) ∧
  (∀ e h u x bs, EmberAt 0x2D e h u x → bits x.imm 2 0 ≠ 7 → (∀ y ∈ u.normalised, spansMeet (areg u x.a) 17 y 17 = false) →
    readBursts e u (areg u x.a) 17 = .got bs →
    exec (.asl e.stack e.chan e.unit) e.s = .next (passed e h (pass (moved { noteReads u (areg u x.a) 17 with
      tree := u.tree.set (bits x.imm 2 0) (stateFrom bs), treeCount := 2 ^ bits x.imm 2 0 } x [(x.a, 17)])) [] 0))

/-! ## Memory integrity and serving -/

/-- The Collier's moves and rebuilds, and the scrubber (R41, R55, R349, R351, R356-R358): a sod that may move goes to its new place when its
tag matches, and becomes ash when it does not, as when a burst of it is past correction; an ash sod of a shared tensor comes back from the rest
of its stripe when its tag then matches, and a parity sod from the data sods; a scrub pass starts, reads pages whose channels can serve the
read, and ends at the end of its period with SCRUB_LATE for what it did not reach; a burst of a tag array that is past correction makes the
sods of its four tags ash (R337; which four rows is log entry 59). What a burst's code makes of the wrong bits follows from the code (R180).
The ends of windows (R9, R463, R478): one ASH record for every tensor whose millisecond is over, and the performance counters take the
totals of each window once, after its end. The totals of the events that the model does not count are free values (log entry 50). -/
def Obligations.IntegrityRows : Prop :=
  (∀ (s : State) (t : Handle) (k : Nat) (l : Loc) (x : Tensor) (old : Sod), tensorAny s t = some x → tget? x.sods k = some old →
    mayMove s x k old l = true → tagFails old = false →
    let u := modTensor (copySod s x k old.loc (some l)) t fun x => { x with sods := tset x.sods k { old with loc := some l } }
    let v := openAt (gather { u with store := { u.store with migrations := u.store.migrations + 1 } } 0x3002 1) (some l)
    exec (.sodMigration t k l .none) s = .next (match old.loc with | some a => pageLeft v a | none => v)) ∧
  (∀ (s : State) (t : Handle) (k : Nat) (l : Loc) (x : Tensor) (old : Sod), tensorAny s t = some x → tget? x.sods k = some old →
    mayMove s x k old l = true → exec (.sodMigration t k l .tagMismatch) s = .next (settled (makeAsh s t k))) ∧
  (∀ (s : State) (t : Handle) (k : Nat) (a l : Loc) (x : Tensor) (old : Sod) (e : MemErr), tensorAny s t = some x →
    tget? x.sods k = some old → mayMove s x k old l = true → old.loc = some a → checkedAt s a = true →
    seenOf (checkBytes a) e = .uncorrectable → exec (.sodMigration t k l e) s = .next
      (settled (makeAsh (uncorrectableBurst s (spotOf s a) (flipBurst e)) t k))) ∧
  (∀ (s : State) (t : Handle) (k : Nat) (l : Loc) (x : Tensor) (old : Sod) (e : MemErr), tensorAny s t = some x →
    tget? x.sods k = some old → mayMove s x k old l = false → exec (.sodMigration t k l e) s = .next s) ∧
  (∀ (s : State) (t : Handle) (k : Nat) (l : Loc) (x : Tensor) (r : Stripe), tensorAny s t = some x → x.shared = true → k < tensorSods x →
    (sodIn x.sods k).ash = true → x.lost.contains (k / 11) = false → tget? x.stripes (k / 11) = some r → rebuildPlace s x k l = true →
    badMembers x (k / 11) (k % 11) [] = [] → sodTag (rebuilt x r k) = at? r.tags (k % 11) 0 →
    exec (.sodRebuild t k l []) s = .next
      (settled (openAt (placeRebuilt s x.handle k (mkSod (rebuilt x r k) (some l))) (some l)))) ∧
  (∀ (s : State) (t : Handle) (j : Nat) (l : Loc) (x : Tensor) (r : Stripe), tensorAny s t = some x → x.shared = true →
    tget? x.stripes j = some r → r.parity.ash = true → x.lost.contains j = false → badMembers x j 11 [] = [] →
    exec (.sodRebuild t (tensorSods x + j) l []) s = .next (modTensor s x.handle fun y =>
      { y with stripes := tset y.stripes j (freshStripe y j (parityPlace s (some l))) })) ∧
  (∀ s : State, s.store.scrubStart = none → rdy s rdyBog = true → exec .scrubPassStart s = .next { s with store := { s.store with
    scrubStart := some s.now, scrubHours := s.store.scrubNext, scrubBulk := [], scrubDone := [] } }) ∧
  (∀ (s : State) (st ch b r : Nat) (e : MemErr), patrolReads s (.bank st ch b r) = true → rowIsOpen s st ch b r = false →
    seenOf 4 e = .corrected → exec (.patrolRead (.exrad st ch b r) e) s = .next
      (correctedBurst (patrolDone (patrolTraffic s (.bank st ch b r) 128) (.bank st ch b r))
        { bog := false, dev := st, chan := ch, bank := b, row := r } (flipBurst e) (flipHard e))) ∧
  (∀ (s : State) (p pg : Nat) (e : MemErr), patrolReads s (.bog p pg) = true → seenOf 3 e = .uncorrectable →
    exec (.patrolRead (.bog p pg) e) s = .next
      (patrolAsh (uncorrectableBurst (patrolDone (patrolTraffic s (.bog p pg) 128) (.bog p pg))
        { bog := true, dev := p, chan := freeBelow s.freeCount 4, bank := 0, row := pg } (flipBurst e)) (.bog p pg))) ∧
  (∀ (s : State) (st ch b g : Nat) (e : MemErr), patrolServed s (.bank st ch b (4 * g)) = true → seenOf 4 e = .uncorrectable →
    exec (.patrolRead (.tags st ch b g) e) s = .next
      ([4 * g, 4 * g + 1, 4 * g + 2, 4 * g + 3].foldl (fun u r => patrolAsh u (.bank st ch b r)) (patrolTraffic s (.bank st ch b (4 * g)) 1))) ∧
  (∀ (s : State) (x : PatrolTarget) (e : MemErr), patrolServed s (patrolSpot s x).1 = false → exec (.patrolRead x e) s = .next s) ∧
  (∀ (s : State) (t : Nat) (late : List Nat), s.store.scrubStart = some t → t + scrubUnits s ≤ s.now → (∀ n ∈ late, n < 448) →
    let u := late.foldl scrubLate (readOnDie s)
    exec (.scrubPassEnd late) s = .next { u with store := { u.store with
      scrubStart := none, scrubPass := u.store.scrubPass + 1, scrubBulk := late } }) ∧
  (∀ s : State,
    let isOver (w : AshWindow) : Bool := decide (w.stamp / 100000 < s.now / 100000)
    let u := (s.store.ashWindows.filter isOver).foldl ashRecord s
    exec .ashWindowEnd s = .next { u with store := { u.store with ashWindows := u.store.ashWindows.filter fun w => !isOver w } }) ∧
  (∀ s : State, s.now / 10000 ≤ s.evt.windowsDone → exec .counterWindowEnd s = .next s) ∧
  (∀ s : State, s.evt.windowsDone < s.now / 10000 →
    let total (i : Nat) : Nat :=
      if at? s.evt.bankSel i 0 = 0 then at? s.evt.bank i 0
      else (at? s.evt.bank i 0 + windowTotal s (at? s.evt.bankSel i 0) i) % 2 ^ 64
    exec .counterWindowEnd s = .next { s with
      evt := { s.evt with
        bank := (List.range 16).map total, windowsDone := s.now / 10000
        gathered := s.evt.gathered.filter fun e => decide (s.now / 10000 ≤ e.1 / 65536) }
      freeCount := s.freeCount + 128 }) ∧
  (∀ (s : State) (sel i : Nat), sel ∉ [0x1002, 0x2003, 0x2004, 0x3001] → windowTotal s sel i =
    sumN (s.evt.gathered.map fun e => if e.1 % 65536 = sel ∧ e.1 / 65536 < s.now / 10000 then e.2 else 0))

/-- The serving engine (R240, R248-R252, R255, R262, R268, R269): a request with room is admitted with its version bound and its confirmed
blocks shared; a prefill command takes its next chunk and samples the first token with the last; a step samples a token for each request of
its batch; at its commit slot, where a step enters its commit phase in time for a drain, each token joins its request; a finished prefill
hands over to its decode clamp. A command that meets a turf as ash ends every request that uses the turf (R282). What logits a graph
yields from its model, version and tokens is an uninterpreted function (the model's choice, log entry 44). -/
def Obligations.ServingRows : Prop :=
  (∀ (s : State) (id : Nat) (q : Req) (m : Model) (v : Option Nat), reqOf s id = some q → modelOf s q.clamp q.model = some m →
    bindVersion s q = some v → q.state = .admitting → q.remote = none → (clampOf s q.clamp).state = .running → modelLost s m = false →
    let hit := confirmed s { q with version := v } (v.getD 0)
    let r := growTurves (turfCount q.block.promptLen) (shareBlocks s id hit.1) id (turfCount q.block.promptLen)
    r.2 = true →
    let u := modClamp r.1 q.clamp fun k => { k with
      prefixConfirmed := k.prefixConfirmed + hit.1.length, prefixFalse := k.prefixFalse + b2n hit.2 }
    let w := modReq u id fun q => { q with
      state := .prefill, version := v, admitted := u.serve.admissions, done := 16 * hit.1.length, kvLen := 16 * hit.1.length }
    exec (.servingAdmission id) s = .next { w with serve := { w.serve with admissions := w.serve.admissions + 1 } }) ∧
  (∀ (s : State) (k id : Nat) (ash : List Nat) (q : Req) (v : ServingCfg) (m : Model), reqOf s id = some q → (clampOf s k).serving = some v →
    modelOf s k q.model = some m → q.clamp = k → q.state = .prefill → q.first = none → (clampOf s k).state = .running →
    servingLive s k 0 = [] → ((clampOf s k).role = 0 → servingLive s k 2 = []) → servesModel s k m = true → prefillTurn s k = true →
    modelLost s m = false →
    let n := min v.prefillChunk (q.block.promptLen - q.done)
    let final := decide (q.done + n = q.block.promptLen)
    let token := if final then some (sampleToken q.block q.block.promptLen (logitsOf s m q)) else none
    let u := servingWork s k 0 (.prefill k id q.done n token)
    ((∀ i ∈ ash, q.kvLen / 16 ≤ i) → exec (.prefillCommand k id ash) s = .next
      { u with serve := { u.serve with prefillTurn := tset u.serve.prefillTurn k false } }) ∧
    ((∃ i ∈ ash, i < q.kvLen / 16) → exec (.prefillCommand k id ash) s = .next
      (settled (ashTurves s q (ash.filter fun i => decide (i < q.kvLen / 16)))))) ∧
  (∀ (s : State) (k fp : Nat) (ash : List (Nat × Nat)) (v : ServingCfg) (m : Model), (clampOf s k).serving = some v →
    modelOf s k fp = some m → (clampOf s k).state = .running → (clampOf s k).role ≠ 1 →
    ((clampOf s k).role = 0 → servingLive s k 0 = [] ∧ (tgetD s.serve.prefillTurn k true = false ∨ reqsIn s k .prefill = [])) →
    servingLive s k 2 = [] → servesModel s k m = true → modelLost s m = false →
    let a := rejoinParked s.serve.reqs.length s k
    nextModel a k = some fp →
    let b := (batchOf a k fp v.maxBatch).foldl (fun u q => roomForStep (u.serve.reqs.length + 1) u k q.id) a
    let batch := (batchOf b k fp v.maxBatch).filter fun q => decide (turfCount (q.kvLen + 1) ≤ q.turves.length)
    batch ≠ [] →
    let tokens := batch.map fun q => sampleToken q.block (q.kvLen + 1) (logitsOf b m q)
    let c := servingWork b k 2 (.step k fp (batch.map (·.id)) tokens)
    (batchAsh batch ash = [] → exec (.decodeStep k fp ash) s = .next { c with serve := { c.serve with
      lastModel := tset c.serve.lastModel k fp, prefillTurn := tset c.serve.prefillTurn k true } }) ∧
    (batchAsh batch ash ≠ [] → exec (.decodeStep k fp ash) s = .next (settled ((batchAsh batch ash).foldl (fun s x => ashTurves s x.1 x.2) b)))) ∧
  (∀ (s : State) (k fp : Nat) (c : Cmd) (rest : List Cmd) (batch : List Nat) (tokens : List (Option Nat)), servingLive s k 2 = c :: rest →
    c.phase = .run → c.done = true → (∀ x, (clampOf s k).stop = some x → s.now < x.deadline) → c.work = .step k fp batch tokens →
    let live := batch.filter fun id => match reqOf s id with | some q => q.state == .decode && q.endReason == 0 | none => false
    let u := (batch.zip tokens).foldl (slotReq (((modelOf s k fp).map (·.maxSeq)).getD 0)) s
    let u := modCmd u c.handle fun c => { c with phase := .commit }
    exec (.commitSlot k) s = .next { u with serve := { u.serve with slotTaken := u.serve.slotTaken ++ [(c.handle, live)] } }) ∧
  (∀ (s : State) (id : Nat) (ash : List Nat) (q : Req), reqOf s id = some q → q.state = .shipping → (clampOf s q.clamp).state = .running →
    servingLive s q.clamp 1 = [] →
    let r := servingCmd s q.clamp 1 (.handover id) false
    let bad := ash.filter fun i => decide (i < q.turves.length)
    (bad = [] → exec (.servingHandover ⟨id, ash⟩) s = .next (startHandover r.1 r.2 q)) ∧
    (bad ≠ [] → exec (.servingHandover ⟨id, ash⟩) s = .next (settled (ashTurves s q bad))))

/-- R257: a token joins what has been generated, and the stop checks come in their order: an end token, a stop sequence, the limit of new
tokens or of the model's positions. -/
def Obligations.StopChecks : Prop :=
  (∀ (q : Req) (t m : Nat), (appendToken m t q).generated = q.generated ++ [t] ∧ (appendToken m t q).openRec = q.openRec ++ [t]) ∧
  (∀ (q : Req) (t m : Nat), t ∈ q.block.endTokens → (appendToken m t q).endReason = 1) ∧
  (∀ (q : Req) (t m : Nat) (stop : List Nat), t ∉ q.block.endTokens → stop ∈ q.block.stopSeqs → stop <:+ q.generated ++ [t] →
    (appendToken m t q).endReason = 3) ∧
  (∀ (q : Req) (t m : Nat), t ∉ q.block.endTokens → (∀ stop ∈ q.block.stopSeqs, ¬ stop <:+ q.generated ++ [t]) →
    (appendToken m t q).endReason = if q.block.maxNew ≤ q.generated.length + 1 ∨ m ≤ q.kvLen + 1 then 2 else 0)

/-! ## Flue links -/

/-- Frames and training at a Flue port (R363, R364, R366 to R369): a good frame takes its acknowledgement; a flit is accepted when its
sequence number is the expected one; a bad frame is counted and draws one replay request; a replay request has the kept frames sent again,
the eighth for one acknowledgement a retrain; a retrain or a lost lane starts training; training ends with the port up inside its attempt's window, down or
retired. -/
def Obligations.FlueLinkRows : Prop :=
  (∀ (s : State) (p : Nat) (f : Frame), (portOf s p).state = .up → f.bad = false → exec (.flueIdle p f) s = .next (ackedAt s p f)) ∧
  (∀ (s : State) (p : Nat) (f : Frame), (portOf s p).state = .up → f.bad = false → f.seq = ((portOf s p).rxSeq + 1) % 4096 →
    exec (.flueFlit p f) s = .next (modPort (ackedAt s p f) p fun x => { x with rxSeq := f.seq, requested := false })) ∧
  (∀ (s : State) (p : Nat) (f : Frame), (portOf s p).state = .up → f.bad = false → f.seq ≠ ((portOf s p).rxSeq + 1) % 4096 →
    exec (.flueFlit p f) s = .next (ackedAt s p f)) ∧
  (∀ (s : State) (p : Nat) (f : Frame), (portOf s p).state = .up → f.bad = true →
    let t := modPort s p fun x => { x with crcFails := satAdd 65535 x.crcFails 1, requested := true }
    let u := if (portOf s p).requested = true then t else sendFrame t p 2
    ∀ i ∈ [Instr.flueIdle p f, .flueFlit p f, .replayRequest p f, .retrainRequest p f], exec i s = .next u) ∧
  (∀ (s : State) (p : Nat) (f : Frame), (portOf s p).state = .up → f.bad = false →
    let x := portOf (ackedAt s p f) p
    let n := if x.lastAck = f.ack then x.sameAck + 1 else 1
    let t := modPort (gather (ackedAt s p f) 0x4001 1) p fun x => { x with replays := (x.replays + 1) % 2 ^ 32, lastAck := f.ack, sameAck := n }
    exec (.replayRequest p f) s = .next (if 8 ≤ n then startRetrain t p [] true else resend t p)) ∧
  (∀ (s : State) (p : Nat) (f : Frame), (portOf s p).state = .up → f.bad = false →
    exec (.retrainRequest p f) s = .next (startRetrain (ackedAt s p f) p [] false)) ∧
  (∀ (s : State) (p l : Nat), (portOf s p).state = .up → l ≤ 4 → l ≠ (portOf s p).excluded →
    exec (.laneLockLoss p l) s = .next (startRetrain s p [l] true)) ∧
  (∀ (s : State) (p : Nat) (n : List Nat), s.now / 100000 ≤ (portOf s p).fecDone → exec (.fecWindowEnd p n) s = .next s) ∧
  (∀ (s : State) (p : Nat) (n : List Nat), (portOf s p).fecDone < s.now / 100000 →
    let t := modPort s p fun x => { x with fecDone := s.now / 100000 }
    ((portOf s p).state = .up → (∃ l < 5, l ≠ (portOf s p).excluded ∧ 4096 < at? n l 0) → exec (.fecWindowEnd p n) s = .next
      (startRetrain t p ((List.range 5).filter fun l => decide (l ≠ (portOf s p).excluded ∧ 4096 < at? n l 0)) true)) ∧
    ((portOf s p).state ≠ .up ∨ (∀ l < 5, l = (portOf s p).excluded ∨ at? n l 0 ≤ 4096) → exec (.fecWindowEnd p n) s = .next t)) ∧
  (∀ (s : State) (p : Nat) (l : List Nat) (tell : Bool), p < s.flue.ports.length → (portOf s p).state = .up →
    let t := startRetrain s p l tell
    let n := satAdd 65535 (portOf s p).retrains 1
    portOf t p = { portOf s p with state := .training, retrains := n, attempts := 1, attemptStart := s.now, failedLanes := l, sameAck := 0 }
      ∧ rdy t (rdyFlue p) = false) ∧
  (∀ (s : State) (p partner : Nat) (l : List Nat), (portOf s p).state = .training → (portOf s p).attemptStart + 200000 ≤ s.now →
    exec (.retrainDone p l partner) s = .next s) ∧
  (∀ (s : State) (p partner : Nat) (l : List Nat), (portOf s p).state = .training → s.now < (portOf s p).attemptStart + 200000 →
    (2 ≤ (lanesFailed (portOf s p) l).length → exec (.retrainDone p l partner) s = .next (portRetire s p)) ∧
    ((lanesFailed (portOf s p) l).length < 2 →
      let ex (x : Port) : Nat := (lanesFailed (portOf s p) l).headD x.excluded
      ((portOf s p).attempts = 0 → exec (.retrainDone p l partner) s = .next (announce (modPort s p fun x =>
        { x with state := .up, excluded := ex x, partner := partner % 65536, attempts := 0, failedLanes := [] }) p)) ∧
      (1 ≤ (portOf s p).attempts →
        let t := modPort s p fun x => { x with state := .up, excluded := ex x, attempts := 0, failedLanes := [] }
        exec (.retrainDone p l partner) s = .next (pump (resend (if t.flue.lock then readyOn t (rdyFlue p) else t) p) p)))) ∧
  (∀ (s : State) (p : Nat) (l : List Nat), (portOf s p).state = .training → (portOf s p).attemptStart + 200000 ≤ s.now →
    exec (.retrainAttemptEnd p l) s = .next
      (if 2 ≤ (lanesFailed (portOf s p) l).length then portRetire s p
       else if (portOf s p).attempts = 0 ∨ 3 ≤ (portOf s p).attempts then portDown s p
       else modPort s p fun x =>
         { x with attempts := x.attempts + 1, attemptStart := s.now, failedLanes := lanesFailed x l })) ∧
  (∀ (s : State) (p : Nat), (portOf s p).state = .down → at? s.rst.kiln (portDie p) .idle = .ok →
    ((portOf s p).attemptStart = 0 ∨ (portOf s p).attemptStart + 10000000 ≤ s.now) →
    exec (.trainingAttempt p) s = .next
      (modPort s p fun x => { x with state := .training, attempts := 0, attemptStart := s.now, failedLanes := [] }))

/-- Pairs (R371, R372, R385): HELLO makes a pair stand at one more than the higher of both epochs; ROUTE names what a port reaches; a
PROBE is sent when nothing has been for 1 ms of live state; 10 ms without an arrival lose the pair, as UNREACHABLE does; a message of
another epoch or from no standing pair is discarded and counted. -/
def Obligations.FluePairRows : Prop :=
  (∀ (s : State) (m : Msg), s.flue.lock = true → m.dst = s.flue.moduleId → (portOf s m.port).state = .up →
    let t := losePair (noteReach s m.port m.src) m.src 0
    let u := if (pairOf t m.src).any (·.hello) then t else meet t m.src
    exec (.flueHello m) s = .next (standPair u m.src m.port m.epoch)) ∧
  (∀ (s : State) (m port theirs : Nat), (pairOf s m).isSome = true →
    ∃ p, pairOf (standPair s m port theirs) m = some p ∧ p.up = true ∧ p.lastArrival = s.now
      ∧ p.epoch = (max (((pairOf s m).map (·.epoch)).getD 0) theirs + 1) % 65536) ∧
  (∀ (s : State) (m : Msg), (portOf s m.port).state = .up →
    exec (.flueRoute m) s = .next ((routeIds 64 m.body).foldl (meetListed (portOf s m.port).reach)
      (modPort s m.port fun x => { x with reach := routeIds 64 m.body }))) ∧
  (∀ (s : State) (m : Msg) (p : Pair), PairTakes s m p → exec (.flueProbe m) s = .next (stamped s m p)
    ∧ exec (.flueUnreachable m) s = .next (losePair (stamped s m p) m.src 1)) ∧
  (∀ (s : State) (m : Nat) (p : Pair), pairOf s m = some p → p.up = true → liveState s m = true → p.lastSent + 100000 ≤ s.now →
    exec (.probeDue m) s = .next (sendMsg s m mkPair { dst := m, src := 0, status := pmProbe })) ∧
  (∀ (s : State) (m : Nat) (p : Pair), pairOf s m = some p → p.up = true → liveState s m = true → p.lastArrival + 1000000 ≤ s.now →
    exec (.pairSilenceTimeout m) s = .next (meet (losePair s m 2) m)) ∧
  (∀ (s : State) (m cause : Nat) (p : Pair), pairOf s m = some p → p.up = true → losePair s m cause =
    raise (endLive (putPair s m { p with up := false, hello := false }) m) (72 + p.port) 0x09
      (natLE 2 m ++ natLE 1 p.port ++ natLE 2 p.epoch ++ natLE 1 cause)) ∧
  (∀ (s : State) (m : Msg), (∀ p, ¬ PairTakes s m p) →
    ∀ i ∈ [Instr.flueReady m, .flueWithdraw m, .flueData m, .flueRefuse m, .flueReopen m, .flueConfirm m, .flueAbort m, .flueDecline m,
      .flueFlag m, .flagAnswer m, .flueOffer m, .flueCancel m, .flueProbe m, .flueUnreachable m],
      exec i s = .next (modPort s m.port fun x => { x with epochDiscards := satAdd 65535 x.epochDiscards 1 }))

/-- Messages of transfers and remote flags that a pair takes (R74, R81, R82, R265, R377 to R382): a token is kept and answered once its
sender is in run; DATA that has room lands, and is refused without, and both first end every wait whose window is over (`closeWaits`); CONFIRM, ABORT, DECLINE and FLAG do what their rules say. The bodies
of FLAG, OFFER and CANCEL are the model's own layouts (log entries 42 and 43). -/
def Obligations.FlueTransferRows : Prop :=
  (∀ (s : State) (m : Msg) (p : Pair), PairTakes s m p → isHandover m.tag = false →
    let t := closeWaits (stamped s m p)
    let token : Token := { die := 0, ctx := m.sctx, src := m.src, tag := m.tag, off := m.off, len := u64 m.body 0 }
    let u := { t with flue := { t.flue with offered := t.flue.offered ++ [token] } }
    exec (.flueReady m) s = .next (match senderOf u m with | some (c, _) => answerTokens u c.handle | none => u)) ∧
  (∀ (s : State) (m : Msg) (p : Pair), PairTakes s m p →
    let t := stamped s m p
    let kept := t.flue.offered.filter fun x => !(x.src == m.src && x.ctx == m.sctx && x.tag == m.tag)
    exec (.flueRefuse m) s = .next t ∧ exec (.flueWithdraw m) s = .next { t with flue := { t.flue with offered := kept } }) ∧
  (∀ (s : State) (m : Msg) (p : Pair), PairTakes s m p → isHandover m.tag = false →
    let t := closeWaits (stamped s m p)
    let n := clampNum t m.dctx
    let blocks := dataBlocks m
    ((ctxOf t m.dctx).isSome = true → t.flue.consumed.contains (m.dctx, m.src, m.tag) = false → roomFor t m = true →
      exec (.flueData m) s = .next (askAll (afterLanding
        (blocks.foldl (landBlock m) (gather t 0x4002 (4096 * blocks.length))) m.dctx m.src m.tag))) ∧
    let full := modClamp t n fun k => { k with landingRefusals := k.landingRefusals + 1 }
    ((ctxOf t m.dctx).isSome = true → t.flue.consumed.contains (m.dctx, m.src, m.tag) = false → roomFor t m = false →
      exec (.flueData m) s = .next (askAll (sendMsg full m.src mkRefuse
        { dst := m.src, src := 0, dctx := m.sctx, sctx := m.dctx, tag := m.tag, off := m.off }))) ∧
    ((ctxOf t m.dctx).isNone = true ∨ t.flue.consumed.contains (m.dctx, m.src, m.tag) = true →
      exec (.flueData m) s = .next (askAll t))) ∧
  (∀ (s : State) (m : Msg) (off : Nat) (bs : Memory),
    let mine (x : Token) : Bool := x.ctx == m.dctx && x.src == m.src && x.tag == m.tag && x.off == off
    let data : Landed := { die := pairDie s m.src, ctx := m.dctx, src := m.src, tag := m.tag, off := off, bytes := bs }
    hasLanded s m.dctx m.src m.tag off = false →
    (landBlock m s (off, bs, sodTag bs)).flue.tokens = s.flue.tokens.filter (fun x => !mine x)
      ∧ (landBlock m s (off, bs, sodTag bs)).flue.landed = s.flue.landed ++ [data]) ∧
  (∀ (s : State) (m : Msg) (p : Pair), PairTakes s m p → isHandover m.tag = false →
    receiverOf (stamped s m p) m.dctx m.src m.tag = none →
    (s.flue.consumed.contains (m.dctx, m.src, m.tag) = true
      ∨ ∃ c ∈ s.cmds, c.handle.ctx = m.dctx ∧ c.transfer.taken.contains (m.src, m.tag) = true) →
    exec (.flueReopen m) s = .next
      (sendMsg (stamped s m p) m.src mkConfirm { dst := m.src, src := 0, dctx := m.sctx, sctx := m.dctx, tag := m.tag })) ∧
  (∀ (s : State) (m : Msg) (p : Pair) (c : Cmd), PairTakes s m p → isHandover m.tag = false →
    receiverOf (stamped s m p) m.dctx m.src m.tag = some c →
    let t := stamped s m p
    let mine (x : Token) : Bool := x.ctx == m.dctx && x.src == m.src && x.tag == m.tag
    let kept := t.flue.tokens.filter fun x => !mine x
    let u := { t with flue := { t.flue with tokens := kept } }
    let v := (t.flue.tokens.filter mine).foldl (fun s x => issueToken s m.dctx m.src m.tag x.off x.len) u
    exec (.flueReopen m) s = .next (if c.phase = .run then askMissing v c.handle else v)) ∧
  (∀ (s : State) (m : Msg) (p : Pair) (c : Cmd) (o : Outgoing), PairTakes s m p → isHandover m.tag = false →
    senderOf (stamped s m p) m = some (c, o) →
    let add (l : List (Nat × Nat)) : List (Nat × Nat) := if l.contains (o.partner, o.tag) then l else l ++ [(o.partner, o.tag)]
    let t := modCmd (stamped s m p) c.handle fun c => { c with transfer := { c.transfer with confirmed := add c.transfer.confirmed } }
    exec (.flueConfirm m) s = .next (settled (flueSettle t c.handle))) ∧
  (∀ (s : State) (m : Msg) (p : Pair) (c : Cmd), PairTakes s m p → isHandover m.tag = false → m.status = 2 →
    receiverOf (stamped s m p) m.dctx m.src m.tag = some c →
    exec (.flueAbort m) s = .next (finish (stamped s m p) c.handle stDataAsh)) ∧
  (∀ (s : State) (m : Msg) (p : Pair), PairTakes s m p → isHandover m.tag = false → m.status ≠ 2 →
    exec (.flueAbort m) s = .next (settled (unpark (stamped s m p) m.dctx m.src m.tag true))) ∧
  (∀ (s : State) (m : Msg) (p : Pair) (c : Cmd) (o : Outgoing), PairTakes s m p → isHandover m.tag = false →
    senderOf (stamped s m p) m = some (c, o) →
    exec (.flueDecline m) s = .next (finish (stamped s m p) c.handle (if m.status = stDataAsh then stDataAsh else stCancelled))) ∧
  (∀ (s : State) (m : Msg) (p : Pair), PairTakes s m p →
    let t := stamped s m p
    let op := flagOfBody m.body
    let answer (status : Nat) : Msg := { dst := m.src, src := 0, dctx := m.sctx, sctx := m.dctx, status := status, tag := m.tag }
    (∀ c, ctxOf s m.dctx = some c → c.ending = false → c.remoteMask.getLsbD op.flag = true →
      exec (.flueFlag m) s = .next (sendMsg (settled (applyFlag t m.dctx op)) m.src mkFlagAnswer (answer stOk))) ∧
    ((∀ c, ctxOf s m.dctx = some c → c.ending = true ∨ c.remoteMask.getLsbD op.flag = false) →
      exec (.flueFlag m) s = .next (sendMsg t m.src mkFlagAnswer (answer stDenied)))) ∧
  (∀ (s : State) (m : Msg) (p : Pair) (c : Cmd), PairTakes s m p →
    s.cmds.find? (fun c => c.awaiting && Handle.encode c.handle == m.tag) = some c →
    exec (.flagAnswer m) s = .next (settled
      (reapContext (endCmd (stamped s m p) c.handle (if m.status = stOk then stOk else stDenied)) c.handle.ctx))) ∧
  (∀ (s : State) (m : Msg) (p : Pair), PairTakes s m p → exec (.flueOffer m) s = .next (takeOffer m (stamped s m p))
    ∧ exec (.flueCancel m) s = .next (takeCancelMsg m (stamped s m p))) ∧
  (∀ (s : State) (m : Msg) (p : Pair), PairTakes s m p → isHandover m.tag = true →
    exec (.flueReady m) s = .next (readyHandover m (closeWaits (stamped s m p)))
      ∧ exec (.flueData m) s = .next (landData m (closeWaits (stamped s m p)))
      ∧ exec (.flueReopen m) s = .next (reopenHandover m (stamped s m p))
      ∧ exec (.flueConfirm m) s = .next (confirmHandover m (stamped s m p))
      ∧ exec (.flueAbort m) s = .next (abortHandover m (stamped s m p))
      ∧ exec (.flueDecline m) s = .next (declineHandover m (stamped s m p))) ∧
  (∀ s : State, closeWaits s = (s.cmds.map (·.handle)).foldl closeWait s) ∧
  (∀ (s : State) (h : Handle), exec (.transferTimeout h) s = .next (closeWait s h)) ∧
  (∀ (s : State) (h : Handle) (c : Cmd), cmdOf s h = some c → c.phase = .run → c.done = false → nothingYet s c = true →
    c.runAt + waitLimitOf s h.ctx ≤ s.now → (∀ r, c.work ≠ .handover r) →
    exec (.transferTimeout h) s = .next (finish ((outgoing s c).foldl (fun s o => sendMsg s o.partner mkAbort
      { dst := o.partner, src := 0, dctx := o.ctx, sctx := h.ctx, status := 2, tag := o.tag }) s) h stWaitTimeout)) ∧
  (∀ (s : State) (h : Handle) (c : Cmd) (r : Nat) (q : Req), cmdOf s h = some c → c.phase = .run → c.done = false →
    nothingYet s c = true → c.runAt + waitLimitOf s h.ctx ≤ s.now → c.work = .handover r → reqOf s r = some q →
    exec (.transferTimeout h) s = .next (failHandover (abandonHandover s q) r stWaitTimeout))

/-! ## The host's completions, power, thermal and trust -/

/-- Reads of host memory as they end (R21, R285, R516), and a stream that loses its integrity (R453): data are taken and the last of them ends
the command's work, with the tags of requests that have been answered free for what was held back; any other completion, and the timeout, fault it
with cause 13; a secure stream becomes insecure, and a write of host memory that an insecure one covers is not sent. -/
def Obligations.HostCompletions : Prop :=
  (∀ (s : State) (h : Handle) (c : Cmd) (off : Nat) (bs : List Byte), HostWait s h c off →
    ideBlocks s (ctxFn s h.ctx) (readBase c + off) = false →
    let left := dropRange off bs.length c.hostOut
    let t := pumpHost 4096 (modCmd (gather s 0x5002 bs.length) c.handle fun x =>
      { x with hostData := wrBytes x.hostData off bs, hostOut := left, hostReqs := openReqs left x.hostReqs })
    (left ≠ [] → exec (.hostReadCompletion h off (.data bs)) s = .next t) ∧
    (∀ d, left = [] → cmdOf t c.handle = some d →
      exec (.hostReadCompletion h off (.data bs)) s = .next (doneNow (endWrite t d) c.handle))) ∧
  (∀ (s : State) (h : Handle) (c : Cmd) (off st : Nat), HostWait s h c off → ideBlocks s (ctxFn s h.ctx) (readBase c + off) = false →
    exec (.hostReadCompletion h off .poisoned) s = .next (hostFault s h 13 (readBase c + off) 8)
      ∧ exec (.hostReadCompletion h off (.refused st)) s = .next (hostFault s h 13 (readBase c + off) (st % 8))) ∧
  (∀ (s : State) (h : Handle) (c : Cmd) (off : Nat) (r : HostRead), HostWait s h c off →
    ideBlocks s (ctxFn s h.ctx) (readBase c + off) = true → exec (.hostReadCompletion h off r) s = .next s) ∧
  (∀ (s : State) (h : Handle) (c : Cmd) (r : Nat × Nat) (rest : List (Nat × Nat)), cmdOf s h = some c → c.phase = .run → c.hostOut = r :: rest →
    exec (.completionTimeout h) s = .next (hostFault s h 13 (readBase c + r.1) 0x10)) ∧
  (∀ (s : State) (fn addr : Nat) (bs : List Byte),
    (ideBlocks s fn addr = true → hostPut s fn addr bs = s) ∧
    (ideBlocks s fn addr = false → hostPut s fn addr bs = gather (emit s (.hostWrite fn addr bs)) 0x5001 bs.length)) ∧
  (∀ (s : State) (n : Nat), n < 8 → (at? s.sec.ide n {}).state = .secure →
    let ide := s.sec.ide.modify n fun x => { x with state := .insecure, programmed := [] }
    exec (.tlpIntegrityFailure n) s = .next (raise { s with sec := { s.sec with ide := ide } } (64 + n) 0x08 (natLE 1 n)))

/-- Sensors, rails and the two limiters (R411 to R429): a sample sets each sensor's reading and each die's throttle and takes hot units out
of service, or quenches; zones and rails are checked; each window moves the rating limiter and the cap limiter once, at its end (R9); a
setpoint step of at
most 5 mV goes out once in a window. -/
def Obligations.PowerRows : Prop :=
  (∀ (s : State) (l : List Reading), s.pwr.quench = false → s.rst.rootLocked = true → quenchSensor l = none →
    exec (.thermalSample l) s = .next
      (settled ((List.range 16).foldl serveSensor { s with pwr := { s.pwr with sensors := sampleAll s.pwr.sensors l } }))) ∧
  (∀ (s : State) (l : List Reading) (n : Nat), s.pwr.quench = false → quenchSensor l = some n →
    exec (.thermalSample l) s = .next (quenchNow { s with pwr := { s.pwr with sensors := sampleAll s.pwr.sensors l } } n)) ∧
  (∀ (s : State) (l : List Reading), s.pwr.quench = true →
    let t := { s with pwr := { s.pwr with sensors := sampleAll s.pwr.sensors l } }
    exec (.thermalSample l) s = .next
      (if s.rst.thermCompat = true ∧ allCool t = true then restart { t with pwr := { t.pwr with quench := false } } else t)) ∧
  (∀ (n : Nat) (x : Sensor) (v : Int), -320 ≤ v → v ≤ 1200 →
    let y := sampled n x (.value v)
    y.temp = v ∧ y.valid = true ∧ y.badRun = 0 ∧ y.throttle = (if n < 4 ∧ 760 < v then min 75 (v - 760).toNat else 0)
      ∧ (x.out = false → (goesOut n y = true ↔ (if n < 4 then 880 else 840) ≤ v))) ∧
  (∀ (n : Nat) (x : Sensor), (sampled n x .failed).temp = x.temp ∧ (sampled n x .failed).badRun = min (x.badRun + 1) 3
      ∧ (x.out = false → (goesOut n (sampled n x .failed) = true ↔ 2 ≤ x.badRun))) ∧
  (∀ (s : State) (n : Nat), (quenchNow s n).pwr.quench = true ∧ (quenchNow s n).pwr.tripSensor = n
      ∧ (quenchNow s n).pwr.tripped = true ∧ (quenchNow s n).pwr.trips = satAdd 255 s.pwr.trips 1 ∧ (quenchNow s n).cmds = []) ∧
  (∀ (s : State) (l : List (Option Nat)), s.rst.rootLocked = true →
    exec (.avsCurrentSample l) s = .next ((l.take 8).zipIdx.foldl avsZone s)) ∧
  (∀ (s : State) (z a : Nat), avsZone s (some a, z) = { s with pwr := { s.pwr with
      avsBad := 0, avsGood := min (s.pwr.avsGood + 1) 3, avsFault := s.pwr.avsFault && min (s.pwr.avsGood + 1) 3 != 3
      sagAt := if s.pwr.avsFault then s.now else s.pwr.sagAt
      zoneOver := s.pwr.zoneOver.set z (decide (350 < a)) } }) ∧
  (∀ (s : State) (z : Nat), s.pwr.avsBad < 2 ∨ s.pwr.avsFault = true → avsZone s (none, z) = { s with pwr := { s.pwr with
      avsBad := min (s.pwr.avsBad + 1) 3, avsGood := 0, avsFault := s.pwr.avsFault, zoneOver := s.pwr.zoneOver.set z false } }) ∧
  (∀ (s : State) (z : Nat), 2 ≤ s.pwr.avsBad → s.pwr.avsFault = false →
    let p := { s.pwr with avsBad := 3, avsGood := 0, avsFault := true, zoneOver := s.pwr.zoneOver.set z false }
    let t := raise { s with pwr := p } 51 0x06 (natLE 1 z ++ [1])
    avsZone s (none, z) =
      beginSag { t with freeCount := t.freeCount + 4 } .avsFault (freeBytes t.freeCount 2) (freeBytes (t.freeCount + 2) 2)) ∧
  (∀ (s : State) (mv ma : List Nat), s.rst.rootLocked = true →
    let l := (mv.zip ma).take 7
    exec (.auxRailSample mv ma) s = .next (l.zipIdx.foldl railOne { s with pwr := { s.pwr with rails := l } })) ∧
  (∀ (s : State) (v : Nat), rdy s rdyHearth = true → s.pwr.stepFrom = none → s.pwr.stepWindow ≠ some (s.now / 10000) → 600 ≤ v → v ≤ 850 →
    v ≤ s.pwr.setpoint + 5 → s.pwr.setpoint ≤ v + 5 →
    let p := { s.pwr with setpoint := v, stepFrom := some s.pwr.setpoint, stepWindow := some (s.now / 10000) }
    exec (.setpointStep v) s = .next (emit { s with pwr := p } (.avs v))) ∧
  (∀ s : State, exec .setpointStepDone s = .next { s with pwr := { s.pwr with stepFrom := none } }) ∧
  (∀ (s : State) (w : Nat), s.rst.rootLocked = true → s.now % 10000 = 0 → s.pwr.fastDone < s.now / 10000 →
    let long := if 2400 < w then min (s.pwr.over2400 + 1) 100 else 0
    let next (d : Nat) : Nat := ratingNext w long (at? s.pwr.rh d 0) (dieOver s.pwr d)
    exec (.powerWindowFast w) s = .next { s with pwr := { s.pwr with fastDone := s.now / 10000, pFast := w, over2400 := long, rh := (List.range 4).map next } }) ∧
  (∀ (s : State) (w : Nat), (s.now % 10000 ≠ 0 ∨ s.now / 10000 ≤ s.pwr.fastDone → exec (.powerWindowFast w) s = .next s)
    ∧ (s.now % 100000 ≠ 0 ∨ s.now / 100000 ≤ s.pwr.slowDone → exec (.powerWindow1ms w) s = .next s)) ∧
  (∀ (s : State) (w : Nat), s.rst.rootLocked = true → s.now % 100000 = 0 → s.pwr.slowDone < s.now / 100000 →
    let t := { s with pwr := { s.pwr with slowDone := s.now / 100000, p1 := w, lastP1 := (w :: s.pwr.lastP1).take 10 } }
    exec (.powerWindow1ms w) s = .next (judgeCaps (if s.pwr.enforcing = true then enforce t else adviseCap t))) ∧
  (∀ (s : State) (t : Nat), s.pwr.advisory = some t → s.pwr.enforcing = false → t + 2000000 ≤ s.now →
    t + 2000000 ≤ 100000 * s.pwr.slowDone →
    let p := { s.pwr with enforcing := true, rp := min 75 (s.pwr.rp + 4), advisoryCmds := [] }
    exec .graceEnd s = .next
      (if overCap s.pwr = true then endCaps { s with pwr := p } s.pwr.advisoryCmds stPowerLimit else clearAdvisory s))

/-- Supply sag, restarts, Smoulder and non-volatile writes (R391, R396, R402, R429, R431 to R434, R444, R457, R496): a condition of a sag
that holds begins it and the hold of non-volatile writes; the hold ends 10 ms after the sag has; collapses and a power cycle restart the
module; a unit whose enable is set enters Smoulder once it has been idle for 10,000 counts, and a crossing wakes it; a non-volatile write that ends complete does what its command
is for; a debug transition ends its command. -/
def Obligations.SagAndSmoulder : Prop :=
  (∀ (s : State) (c : SagCause) (vcore vaux : Nat), s.rst.rootLocked = true → sagHolds s vcore vaux c = true →
    exec (.supplySag c vcore vaux) s = .next (beginSag s c (natLE 2 vcore) (natLE 2 vaux))) ∧
  (∀ (s : State) (vcore vaux : Nat), (sagHolds s vcore vaux .vaux = true ↔ vaux < 1710) ∧ (sagHolds s vcore vaux .avsFault = s.pwr.avsFault)
    ∧ (s.pwr.stepFrom = none → (sagHolds s vcore vaux .vcore = true ↔ vcore * 100 < 92 * s.pwr.setpoint))
    ∧ (∀ v, s.pwr.stepFrom = some v → (sagHolds s vcore vaux .vcore = true ↔ vcore * 100 < 92 * min v s.pwr.setpoint))) ∧
  (∀ s : State, s.pwr.sag = true → s.now < s.pwr.sagAt + 10000 → exec .stretchEnd s = .next s) ∧
  (∀ s : State, s.pwr.sag = true → s.pwr.avsFault = false → s.pwr.sagAt + 10000 ≤ s.now → exec .stretchEnd s = .next
    { s with pwr := { s.pwr with sag := false, sagCauses := [], recovery := some (s.now - 10000) } }) ∧
  (∀ (s : State) (r : Nat), s.pwr.recovery = some r → s.pwr.nvHold = true → s.pwr.sag = false → r + 1000000 ≤ s.now →
    exec .nvHoldEnd s = .next (nextNv { s with pwr := { s.pwr with nvHold := false, recovery := none } })) ∧
  (∀ s : State, exec .vcoreCollapse s = .next (restart s) ∧ exec .vstbyLow s = .next (restart s)
    ∧ exec .powerCycle s = .next (restart { s with pwr := { s.pwr with tripped := false, trips := 0, tripSensor := 0, quench := false } })) ∧
  (∀ s : State, s.rst.perst = true → restart s = fundamental s) ∧
  (∀ (s : State) (u : SmoulderUnit), s.rst.rootLocked = true → smoulderUnitOk u = true → s.pwr.smoulderEn.getLsbD (smoulderBit u) = true →
    smoulderReady s u = true → (at? s.pwr.activeAt (smoulderBit u) 0 + 10000 ≤ s.now → exec (.smoulderEntry u) s = .next
      { s with pwr := { s.pwr with smoulderIn := s.pwr.smoulderIn ||| BitVec.ofNat 32 (2 ^ smoulderBit u) } })
      ∧ (s.now < at? s.pwr.activeAt (smoulderBit u) 0 + 10000 → exec (.smoulderEntry u) s = .next s)) ∧
  (∀ (s : State) (n : Nat), (∀ d, coreCrossing n = some d → (at? s.pwr.sensors d {}).out = false) → exec (.smoulderWake n) s = .next
    (wakeUnits s (BitVec.ofNat 32 (wokenBits n)))) ∧
  (∀ (s : State) (m : BitVec 32) (st ch : Nat), ch < 32 → st < 12 → (s.pwr.smoulderIn &&& m).getLsbD (4 + st) = true →
    (wakeUnits s m).pwr.smoulderIn = s.pwr.smoulderIn &&& ~~~m ∧ (chanOf (wakeUnits s m) st ch).debt = 0) ∧
  (∀ (s : State) (n d : Nat), coreCrossing n = some d → (at? s.pwr.sensors d {}).out = true → exec (.smoulderWake n) s = .next
    (if s.rst.wakePending.contains n = true then loseEvent s n
     else { s with rst := { s.rst with wakePending := s.rst.wakePending ++ [n] } })) ∧
  (∀ (s : State) (w : NvWrite), s.sec.nv = some w → s.rst.warmWait = none → exec .nvWriteDone s = .next (nextNv (endNv s w))) ∧
  (∀ (s : State) (w : NvWrite) (dog : Bool) (t : Nat), s.sec.nv = some w → s.rst.warmWait = some (dog, t) →
    exec .nvWriteDone s = .next (if t + 5000000 ≤ s.now then warmNow s dog else warmNow (endNv s w) dog)) ∧
  (∀ (s : State) (h : Handle) (c : Cmd), cmdOf s h = some c →
    endNv s (.command h) = finish (writtenNv { s with sec := { s.sec with nv := none } } c.work) h stOk) ∧
  (∀ s : State, rdy s rdySecurity = true → s.sec.svnDeferred = true → s.pwr.nvHold = false → s.sec.nv = none → s.rst.warmWait = none →
    exec .svnBurn s = .next { s with sec := { s.sec with nv := some .svnBurn, svnDeferred := false } }) ∧
  (∀ (s : State) (h : Handle) (nonce : List Byte), s.sec.transition = some h →
    (s.sec.debug = .unlocking →
      let sec := { s.sec with debug := .unlocked, transition := none, nonce := slice nonce 0 32, unlockCount := satAdd 255 s.sec.unlockCount 1 }
      exec (.debugTransitionDone nonce) s = .next (finish { s with sec := sec } h stOk)) ∧
    (s.sec.debug = .locking →
      let sec := { s.sec with debug := .locked, transition := none, nonce := slice nonce 0 32 }
      exec (.debugTransitionDone nonce) s = .next (finish { s with sec := sec } h stOk)))

/-- The mailboxes (R283, R448 to R453): each SPDM request is answered when the connection has come far enough, its answer and it join
the transcript, and the answers of CHALLENGE, KEY_EXCHANGE and signed GET_MEASUREMENTS are signed over it; a session ends, changes its
keys, and carries the key management of IDE streams. The codes and layouts of messages are DSP0274's (log entry 16). -/
def Obligations.MailboxRows : Prop :=
  (∀ (s : State) (fn : Nat) (b r : List Byte), spdmUp s fn = true → exec (.getVersion fn b r) s = .next
    (respond (modSpdm s fn fun x => { version := 1, sessions := x.sessions }) fn b 0x04 ([2] ++ natLE 2 0x1200 ++ natLE 2 0x1300))) ∧
  (∀ (s : State) (fn : Nat) (b r : List Byte), spdmUp s fn = true → (spdmOf s fn).version ≠ 0 → u8 b 0 = 0x12 ∨ u8 b 0 = 0x13 →
    exec (.getCapabilities fn b r) s = .next
      (respond (modSpdm s fn fun x => { x with version := u8 b 0, caps := true }) fn b 0x61 (natLE 4 spdmCaps))) ∧
  (∀ (s : State) (fn : Nat) (b r : List Byte), spdmUp s fn = true → (spdmOf s fn).caps = true → bit (u32 b 8) 6 = true →
    bit (u32 b 12) 2 = true → exec (.negotiateAlgorithms fn b r) s = .next (respond (modSpdm s fn fun x => { x with algs := true }) fn b 0x63
      (natLE 4 8 ++ natLE 4 64 ++ natLE 4 4 ++ natLE 2 4 ++ natLE 2 2))) ∧
  (∀ (s : State) (fn : Nat) (b r : List Byte), Negotiated s fn → exec (.getDigests fn b r) s = .next (respond s fn b 0x01 ([1] ++ chainDigest))) ∧
  (∀ (s : State) (fn : Nat) (b r : List Byte), Negotiated s fn → u8 b 2 % 16 = 0 →
    let off := u16 b 4
    let n := min (u16 b 6) (Config.certChain.length - off)
    exec (.getCertificate fn b r) s = .next (if Config.certChain.length ≤ off then spdmError s fn errInvalidRequest
      else respond s fn b 0x02 (natLE 2 n ++ natLE 2 (Config.certChain.length - off - n) ++ slice Config.certChain off n))) ∧
  (∀ (s : State) (fn : Nat) (b r : List Byte), Negotiated s fn → u8 b 2 % 16 = 0 →
    let all := if u8 b 3 = 0 then [] else digestBytes (Config.sha512 ((List.range' 1 7).flatMap (measureBlock s)))
    exec (.spdmChallenge fn b r) s = .next (respondSigned s fn b r 0x03 (chainDigest ++ slice r 0 32 ++ all))) ∧
  (∀ (s : State) (fn : Nat) (b r : List Byte) (l : List Nat), Negotiated s fn → measuresAsked (u8 b 3) = some l →
    let body := natLE 1 7 ++ natLE 1 l.length ++ l.flatMap (measureBlock s) ++ slice r 0 32
    exec (.getMeasurements fn b r) s = .next (if bit (u8 b 2) 0 = true then respondSigned s fn b r 0x60 body else respond s fn b 0x60 body)) ∧
  (∀ (s : State) (fn : Nat) (b r : List Byte), Negotiated s fn → (spdmOf s fn).sessions.length < 2 → sessionsAll s < 16 → u8 b 3 % 16 = 0 →
    let n := freeSession (spdmOf s fn)
    let secret := Config.keyExchange ((spdmOf s fn).transcript ++ b) r
    let t := modSpdm s fn fun x => { x with sessions := x.sessions ++ [(u16 b 4 + 65536 * n, false, secret)] }
    exec (.keyExchange fn b r) s = .next (respondSigned t fn b r 0x64 (natLE 2 n ++ slice r 0 32))) ∧
  (∀ (s : State) (fn : Nat) (b r : List Byte), Negotiated s fn → 2 ≤ (spdmOf s fn).sessions.length ∨ 16 ≤ sessionsAll s →
    exec (.keyExchange fn b r) s = .next (spdmError s fn errBusy)) ∧
  (∀ (s : State) (fn : Nat) (b r secret : List Byte), SessionAt s fn b false secret → exec (.spdmFinish fn b r) s = .next
    (if Config.finishOk secret (b.drop 4) = true then emit (modSession s fn (u32 b 0) fun e => (true, e.2)) (.doe fn 0x65 [])
     else spdmError (dropSession s fn (u32 b 0)) fn errDecrypt)) ∧
  (∀ (s : State) (fn : Nat) (b r secret : List Byte), SessionAt s fn b true secret →
    exec (.endSession fn b r) s = .next (emit (dropSession s fn (u32 b 0)) (.doe fn 0x6C []))) ∧
  (∀ (s : State) (fn : Nat) (b r secret : List Byte), SessionAt s fn b true secret →
    (u8 b 6 = 1 ∨ u8 b 6 = 2 → exec (.keyUpdate fn b r) s = .next
      (emit (modSession s fn (u32 b 0) fun e => (e.1, Config.nextSecret e.2 (u8 b 6))) (.doe fn 0x69 (slice b 6 2)))) ∧
    (u8 b 6 = 3 → exec (.keyUpdate fn b r) s = .next (emit s (.doe fn 0x69 (slice b 6 2))))) ∧
  (∀ (s : State) (b r secret : List Byte), SessionAt s 0 b true secret →
    let answer (t : State) (code bad : Nat) : State := emit t (.doe 0 0x7E (natLE 1 code ++ natLE 1 (u8 b 5) ++ natLE 1 bad))
    let go := modIde s (u8 b 5) fun x => { x with state := .secure, keySet := u8 b 6 }
    (u8 b 4 = 0 → exec (.ideKm 0 b r) s = .next (answer s 1 0)) ∧
    (u8 b 4 = 2 → u8 b 5 < 8 → u8 b 6 < 12 → u8 b 9 ≤ 2 → exec (.ideKm 0 b r) s = .next (answer (programKey s b) 3 0)) ∧
    (u8 b 4 = 4 → u8 b 5 < 8 → u8 b 6 < 2 → keySetReady (at? s.sec.ide (u8 b 5) {}) (u8 b 6) = true →
      exec (.ideKm 0 b r) s = .next (answer go 6 0))) ∧
  (∀ (s : State) (fn : Nat) (b r : List Byte), spdmUp s fn = true → (spdmOf s fn).algs = false →
    ∀ i ∈ [Instr.getDigests fn b r, .getCertificate fn b r, .spdmChallenge fn b r, .getMeasurements fn b r, .keyExchange fn b r],
      exec i s = .next (spdmError s fn errUnexpected)) ∧
  (∀ (s : State) (fn : Nat) (b r : List Byte), spdmUp s fn = false →
    ∀ i ∈ [Instr.getVersion fn b r, .getCapabilities fn b r, .negotiateAlgorithms fn b r, .getDigests fn b r, .getCertificate fn b r,
      .spdmChallenge fn b r, .getMeasurements fn b r, .keyExchange fn b r, .spdmFinish fn b r, .endSession fn b r, .keyUpdate fn b r,
      .ideKm fn b r], exec i s = .next s) ∧
  (∀ (s : State) (fn i : Nat), mailboxUp s fn = true →
    (i < 3 → exec (.doeDiscovery fn i) s = .next (emit s (.doe fn 0 (natLE 2 1 ++ natLE 1 i ++ natLE 1 ((i + 1) % 3))))) ∧
    (3 ≤ i → exec (.doeDiscovery fn i) s = .next (emit s (.doe fn 0 (natLE 2 0xFFFF ++ [0, 0])))))

/-- The sideband (R479, R480, R505): a JTAG instruction is selected, and the session lasts while DBGACC is; EXTEST and HIGHZ act only
while PERST# is asserted, DBGACC only while debug is open; the I3C target takes an address, answers with its identity and with the
register that its index names, and is silent without an address. -/
def Obligations.SidebandRows : Prop :=
  (∀ (s : State) (i : JtagInstr), jtagSelect s i = { s with evt := { s.evt with jtag := i, jtagOwner := i == .dbgacc } }) ∧
  (∀ s : State, exec .jtagBypass s = .next (jtagSelect s .bypass) ∧ exec .samplePreload s = .next (jtagSelect s .samplePreload)
    ∧ exec .jtagIdcode s = .next (emit (jtagSelect s .idcode) (.jtag (0x14800000 + Config.idcodeLow.toNat)))) ∧
  (∀ s : State, s.rst.perst = true → exec .jtagExtest s = .next (jtagSelect s .extest) ∧ exec .jtagHighz s = .next (jtagSelect s .highz)) ∧
  (∀ s : State, s.rst.perst = false → exec .jtagExtest s = .next (jtagSelect s .bypass) ∧ exec .jtagHighz s = .next (jtagSelect s .bypass)) ∧
  (∀ s : State, exec .dbgacc s = .next (jtagSelect s (if debugOpen s = true then .dbgacc else .bypass))) ∧
  (∀ (s : State) (a : Nat), s.i3c.address = none → exec (.entdaa a) s = .next { s with i3c := { s.i3c with address := some a } }
    ∧ exec (.setdasa 0x4C a) s = .next { s with i3c := { s.i3c with address := some a } }) ∧
  (∀ (s : State) (a x : Nat), s.i3c.address = some x → exec (.entdaa a) s = .next s ∧ exec (.setdasa 0x4C a) s = .next s) ∧
  (∀ (s : State) (st a : Nat), st ≠ 0x4C → exec (.setdasa st a) s = .next s) ∧
  (∀ s : State, exec .rstdaa s = .next { s with i3c := { s.i3c with address := none } }) ∧
  (∀ (s : State) (x : Nat), s.i3c.address = some x →
    exec .getpid s = .next (emit s (.i3c (natLE 6 Config.i3cPid.toNat).reverse)) ∧ exec .getbcr s = .next (emit s (.i3c [Config.i3cBcr]))
      ∧ exec .getdcr s = .next (emit s (.i3c [Config.i3cDcr]))
      ∧ exec .getstatus s = .next
          (emit { s with freeCount := s.freeCount + 1 } (.i3c (natLE 2 (Config.i3cStatus s.freeCount).toNat).reverse))
      ∧ (∀ b : Byte, exec (.i3cIndexWrite [b]) s = .next { s with i3c := { s.i3c with index := b.toNat } })
      ∧ (∀ r, i3cReg s.i3c.index = some r → exec .i3cPrivateRead s = .next (emit s (.i3c (natLE 8 (regValue s 0 r)))))
      ∧ (22 < s.i3c.index → exec .i3cPrivateRead s = .next (emit s (.i3c (zeros 8))))) ∧
  (∀ s : State, s.i3c.address = none → exec .getpid s = .next s ∧ exec .getbcr s = .next s ∧ exec .getdcr s = .next s
    ∧ exec .i3cPrivateRead s = .next s ∧ ∀ l, exec (.i3cIndexWrite l) s = .next s)

/-! ## The block as a whole -/

/-- A step takes the command at the front of the queue and runs it on the state with the rest; on an empty queue one edge of the reference
passes, which counts the module's time and keeps which units are active (R434), and does nothing else (the model's choice, log entry 15). -/
def Obligations.StepRunsFront : Prop :=
  (∀ (s : State) (c : Instr) (rest : List Instr), s.pending = c :: rest → step s = exec c { s with pending := rest }) ∧
  (∀ s : State, s.pending = [] → step s = .next (tick s)) ∧
  (∀ s : State, counting s = true → tick s = { noteUnits s with now := s.now + 1 }) ∧
  (∀ (s : State) (i : Nat), i < s.pwr.activeAt.length → at? (noteUnits s).pwr.activeAt i 0 =
    if smoulderReady s (smoulderUnit i) = true then at? s.pwr.activeAt i 0 else s.now) ∧
  (∀ s : State, counting s = false → tick s = s) ∧
  (∀ s : State, counting s = true ↔ s.rst.perst = false ∧ s.rst.refHeld = false ∧ s.rst.refGood = true ∧ s.pwr.quench = false)

/-- No command stops the block: from every state with the invariant each answers a next state; it leaves the commands that wait behind it as they are, and
what has been sent stays sent. -/
def Obligations.ExecGoesOn : Prop :=
  ∀ (i : Instr) (s : State), Inv s → ∃ t, exec i s = .next t ∧ t.pending = s.pending ∧ s.out <+: t.out

/-- The invariant holds after reset: 64 function slices, 8 clamps, 1,024 event sources, 68 targets, a log of at most 65,536 records, at
most 63 virtual functions, a 32-bit layout generation, contexts in rising order. -/
def Obligations.ResetIsSound : Prop := Inv State.reset

/-- Every step keeps the invariant. -/
def Obligations.StepKeepsInv : Prop := ∀ s t : State, Inv s → step s = .next t → Inv t
end

