-- ==== Sys2Proof/Laws/Ember.lean ====
section
/-!
SUPPORT. What the shared operations on micro-operations do: one that is done, one that faults, a span that may be written.
-/
namespace Sys2Proof.Machine

open Sys2Proof

/-- A micro-operation that is done. -/
theorem ember_done {op : Nat} {body : EBody} {e : ECtx} {h : Handle} {u : EUnit} {x : EOp} {v : EUnit} {ws : List (Nat × List Byte)} {used : Nat}
    (a : EmberAt op e h u x) (hop : emberOps.contains op = true) (hb : body e u x = .done v ws (e.k + used)) :
    emberIssue op body e.s e.stack e.chan e.unit = passed e h v ws used := by
  have hk := a.free
  obtain ⟨s, st, ch, un, c, b, p, k⟩ := e
  have hm := a.mode
  have ho := a.owned
  have hc := a.cmd
  simp at hm hk ho hc
  subst hk
  unfold emberIssue
  simp only [a.unit, a.works, a.runs, a.fetched, a.opcode]
  rw [if_neg (by simp [hm]), if_neg (by have := a.inStore; omega), if_neg (by rw [hop]; simp), if_neg (by simp), if_neg (by rw [ho]; simp)]
  simp only [hb]
  have hu : unitOf s st ch un = u := a.unit
  simp only [passed, hu, hc]

/-- A micro-operation that faults. -/
theorem ember_fault {op : Nat} {body : EBody} {e : ECtx} {h : Handle} {u : EUnit} {x : EOp} {k sl : Nat}
    (a : EmberAt op e h u x) (hop : emberOps.contains op = true) (hb : body e u x = .fault k sl) :
    emberIssue op body e.s e.stack e.chan e.unit = unitFault e.s e.stack e.chan e.unit k sl := by
  have hk := a.free
  obtain ⟨s, st, ch, un, c, b, p, k⟩ := e
  have hm := a.mode
  have ho := a.owned
  have hc := a.cmd
  simp at hm hk ho hc
  subst hk
  unfold emberIssue
  simp only [a.unit, a.works, a.runs, a.fetched, a.opcode]
  rw [if_neg (by simp [hm]), if_neg (by have := a.inStore; omega), if_neg (by rw [hop]; simp), if_neg (by simp), if_neg (by rw [ho]; simp)]
  simp only [hb]

/-- A span whose bursts may all be written. -/
theorem write_span {e : ECtx} {u : EUnit} {x k : Nat} {bs : List Byte} (h : spanOpen e u x (ceilDiv bs.length 32)) :
    writeSpan e u x bs k = .done (wrote u x bs) (burstsOf x bs) k := by
  unfold writeSpan
  have : ((List.range (ceilDiv bs.length 32)).findSome? fun i => (writeRefused e u (addrPlus x i)).map fun c => c) = none := by
    simp only [List.findSome?_eq_none_iff]
    intro i hi
    rw [h i (by simpa using hi)]; rfl
  simp only [this]
  rfl

end Sys2Proof.Machine
end

