-- ==== Sys2Proof/Laws/Kiln.lean ====
section
/-!
SUPPORT. What the execute stream's shared operations do: an instruction that is done, and one of a unit on a quiet core.
-/
namespace Sys2Proof.Machine

open Sys2Proof

/-- An instruction that is done retires. -/
theorem issue_done {op : Nat} {body : Body} {s : State} {d n : Nat} {t : Tile} {c : Cmd} {l : Launch} {x : ExecInstr} {u : Tile} {nx cy : Nat} {tag : Option Nat}
    (h : KilnAt op s d n t c l x) (hb : body s (prune t) c l x s.freeCount = .done u nx cy s.freeCount tag) :
    issueExec op body s d n = retired s (advance u nx cy) true tag := by
  unfold issueExec
  rw [h.issues]
  simp only [h.going, h.fetched, h.listed, h.opcode, hb]
  simp
/-- An instruction that faults ends its command. -/
theorem issue_fault {op : Nat} {body : Body} {s : State} {d n : Nat} {t : Tile} {c : Cmd} {l : Launch} {x : ExecInstr} {k}
    (h : KilnAt op s d n t c l x) (hb : body s (prune t) c l x s.freeCount = .fault k) :
    issueExec op body s d n = exeFault s t k := by
  unfold issueExec
  rw [h.issues]
  simp only [h.going, h.fetched, h.listed, h.opcode, hb]
  simp

/-- A quiet core has nothing to forget. -/
theorem quiet_prune {t : Tile} (h : Quiet t) : prune t = t := by
  cases t
  have h1 := h.flights; have h2 := h.readers
  simp at h1 h2; subst h1; subst h2
  rfl

/-- A line of a quiet core reads what it holds. -/
theorem quiet_line {t : Tile} (h : Quiet t) (k line : Nat) : lineNow t k line = rdBytes t.pad (64 * line) 64 := by
  simp [lineNow, flightOver, h.flights]

/-- Two runs of numbers, one after the other. -/
theorem range_append (a b c : Nat) : List.range' a b ++ List.range' (a + b) c = List.range' a (b + c) := by
  have := List.range'_append (s := a) (m := b) (n := c) (step := 1)
  simpa using this

/-- Lines read one after the other are a run of bytes. -/
theorem flat_lines (m : Memory) (line : Nat) : ∀ j, ((List.range j).flatMap fun i => rdBytes m (64 * (line + i)) 64) = rdBytes m (64 * line) (64 * j) := by
  intro j
  induction j with
  | zero => rfl
  | succ j ih =>
    rw [List.range_succ, List.flatMap_append, ih]
    simp only [List.flatMap_cons, List.flatMap_nil, List.append_nil, rdBytes, ← List.map_append]
    congr 1
    rw [show 64 * (line + j) = 64 * line + 64 * j by omega, range_append]
    congr 1

/-- The first bytes of a run. -/
theorem take_rd (m : Memory) (a n k : Nat) (h : n ≤ k) : (rdBytes m a k).take n = rdBytes m a n := by
  simp only [rdBytes, ← List.map_take]
  congr 1
  induction n generalizing a k with
  | zero => simp
  | succ n ih =>
    obtain ⟨k, rfl⟩ : ∃ j, k = j + 1 := ⟨k - 1, by omega⟩
    simp only [List.range'_succ, List.take_succ_cons]
    rw [ih _ _ (by omega)]

/-- An operand on a quiet core is what the work area holds. -/
theorem quiet_read {t : Tile} (h : Quiet t) (k line n : Nat) : readPad t k line n = work t line n := by
  unfold readPad work
  simp only [quiet_line h]
  rw [flat_lines, take_rd]
  unfold linesOf ceilDiv; omega

/-- All operands of an instruction on a quiet core. -/
theorem quiet_all {t : Tile} (h : Quiet t) (r : List (Nat × Nat)) (k : Nat) : readAll t r k = (r.map fun r => work t r.1 r.2, k) := by
  induction r with
  | nil => rfl
  | cons e r ih =>
    obtain ⟨a, b⟩ := e
    have ha : anyFlight t a b = false := by simp [anyFlight, flightOver, h.flights]
    simp only [readAll, ha, Bool.false_eq_true, if_false, ih, quiet_read h, List.map_cons]

/-- Results written where nothing is still read. -/
theorem write_all (ready : Nat) : ∀ (outs : List (Nat × List Byte)) (t : Tile) (k : Nat), t.readers = [] →
    writeAll ready outs t k = ({ t with
      pad := (outs.foldl (fun (w : Memory × List Flight) o => (wrBytes w.1 (64 * o.1) o.2, { line := o.1, ready := ready, old := rdBytes w.1 (64 * o.1) (64 * linesOf o.2.length) } :: w.2)) (t.pad, t.flights)).1
      flights := (outs.foldl (fun (w : Memory × List Flight) o => (wrBytes w.1 (64 * o.1) o.2, { line := o.1, ready := ready, old := rdBytes w.1 (64 * o.1) (64 * linesOf o.2.length) } :: w.2)) (t.pad, t.flights)).2 }, k) := by
  intro outs
  induction outs with
  | nil => intro t k h; rfl
  | cons o outs ih =>
    obtain ⟨a, b⟩ := o
    intro t k h
    have : writePad t k a ready b = ({ t with pad := wrBytes t.pad (64 * a) b, flights := { line := a, ready := ready, old := rdBytes t.pad (64 * a) (64 * linesOf b.length) } :: t.flights }, k) := by
      simp [writePad, lateReaders, h]
    simp only [writeAll, this]
    exact ih _ _ h

/-- What an instruction of a unit does on a quiet core. -/
theorem unit_op {t : Tile} (h : Quiet t) (l : Launch) (k unit occ lat : Nat) (reads : List (Nat × Nat)) (f : List (List Byte) → List (Nat × List Byte)) (post : Tile → Tile)
   (h1 : ∀ r ∈ reads, inWork l r.1 r.2 = true) (h2 : ∀ r ∈ f (reads.map fun r => work t r.1 r.2), inWork l r.1 r.2.length = true) :
   unitOp l t k unit occ lat reads f post = .done (post (unitDone t unit occ lat reads (f (reads.map fun r => work t r.1 r.2)))) (t.exe.pos + 1) 1 k none := by
  have hu : ¬ t.exe.cycle < (at? t.units unit (0, 0)).2 := by have := h.units unit; omega
  unfold unitOp
  simp only [hu, if_false, quiet_all h]
  rw [if_neg, if_neg]
  · rw [write_all _ _ _ _ h.readers]
    simp only [h.readers]
    unfold unitDone
    simp only [h.readers]
  · simp [stillBusy, hu]
  · simp
    exact ⟨fun a b hab => h1 _ hab, fun a b hab => h2 _ hab⟩

/-- A vector instruction's row, from its body. -/
theorem vec_row {op : Nat} {i : Nat → Nat → Instr} {P : Tile → ExecInstr → Prop} {mult extra : Tile → ExecInstr → Nat}
    {reads : Tile → ExecInstr → List (Nat × Nat)} {outs : Tile → ExecInstr → List (List FP32) → List (Nat × List Byte)} {body : Body}
    (hi : ∀ s d n, exec (i d n) s = .next (pumped (issueExec op body s d n) d n))
    (hb : ∀ s t c l x k, x.opcode = op → execListed x = true → P t x → body s t c l x k = vecOp l t k (mult t x) (extra t x) (reads t x) (outs t x)) :
    VectorRow op i P mult extra reads outs := by
  intro s d n t c l x h q hv hp h1 o h2
  rw [hi, issue_done (u := unitDone t unitVector (mult t x * rVLEN t) (mult t x * rVLEN t + extra t x) (reads t x) o) (nx := t.exe.pos + 1) (cy := 1) (tag := none) h]
  · rfl
  · rw [quiet_prune q, hb _ _ _ _ _ _ h.opcode h.listed hp]
    unfold vecOp
    rw [if_neg (by omega), unit_op q _ _ _ _ _ _ _ _ h1]
    · simp only [List.map_map]; rfl
    · simp only [List.map_map]; exact h2

end Sys2Proof.Machine
end

