-- ==== Sys2Proof/Laws/Memory.lean ====
section
/-!
SUPPORT. Memories and tables: every operation keeps a memory's canonical form, what a write leaves to be read, and what a table's setter
leaves.
-/
namespace Sys2Proof.Machine

open Sys2Proof

/-! ## The canonical form -/

theorem wf_iff (m : Memory) : Memory.wf m = true ↔ m.Pairwise (fun a b => a.1 < b.1) ∧ ∀ c ∈ m, c.2 ≠ 0 := by
  simp [Memory.wf]

theorem wf_nil : Memory.wf [] = true := rfl

theorem cellsFrom_range (bs : List Byte) : ∀ a, ∀ c ∈ cellsFrom a bs, a ≤ c.1 ∧ c.1 < a + bs.length := by
  induction bs with
  | nil => intro a c h; simp [cellsFrom] at h
  | cons b r ih =>
    intro a c h
    simp only [cellsFrom] at h
    have key : ∀ c ∈ cellsFrom (a + 1) r, a ≤ c.1 ∧ c.1 < a + (b :: r).length := by
      intro c h
      have := ih (a + 1) c h
      simp only [List.length_cons]; omega
    split at h
    · exact key c h
    · rcases List.mem_cons.1 h with rfl | h
      · simp
      · exact key c h

theorem wf_cellsFrom (bs : List Byte) : ∀ a, Memory.wf (cellsFrom a bs) = true := by
  induction bs with
  | nil => intro a; rfl
  | cons b r ih =>
    intro a
    have hr := (wf_iff _).1 (ih (a + 1))
    simp only [cellsFrom]
    split
    · exact ih (a + 1)
    · rename_i hb
      refine (wf_iff _).2 ⟨List.pairwise_cons.2 ⟨fun c hc => ?_, hr.1⟩, fun c hc => ?_⟩
      · have := cellsFrom_range r (a + 1) c hc; simp only; omega
      · rcases List.mem_cons.1 hc with rfl | hc
        · exact hb
        · exact hr.2 c hc

theorem wf_memOf (bs : List Byte) : Memory.wf (memOf bs) = true := wf_cellsFrom bs 0

theorem wf_wrBytes {m : Memory} (h : Memory.wf m = true) (a : Nat) (bs : List Byte) : Memory.wf (wrBytes m a bs) = true := by
  obtain ⟨h1, h2⟩ := (wf_iff m).1 h
  obtain ⟨c1, c2⟩ := (wf_iff _).1 (wf_cellsFrom bs a)
  refine (wf_iff _).2 ⟨?_, ?_⟩
  · simp only [wrBytes, List.pairwise_append, List.mem_append, List.mem_filter, decide_eq_true_eq]
    refine ⟨⟨h1.filter _, c1, ?_⟩, h1.filter _, ?_⟩
    · rintro x ⟨-, hx⟩ y hy
      have := cellsFrom_range bs a y hy; omega
    · rintro x hx y ⟨-, hy⟩
      rcases hx with ⟨-, hx⟩ | hx
      · omega
      · have := cellsFrom_range bs a x hx; omega
  · intro c hc
    simp only [wrBytes, List.mem_append, List.mem_filter] at hc
    rcases hc with (hc | hc) | hc
    · exact h2 c hc.1
    · exact c2 c hc
    · exact h2 c hc.1

/-! ## Reading after writing -/

theorem rdByte_none {m : Memory} {x : Nat} (h : ∀ c ∈ m, c.1 ≠ x) : rdByte m x = 0 := by
  induction m with
  | nil => rfl
  | cons c r ih =>
    have := h c (by simp)
    simp only [rdByte]
    rw [if_neg this]
    exact ih fun d hd => h d (by simp [hd])

theorem rdByte_append (m n : Memory) (x : Nat) (h : ∀ c ∈ m, c.1 ≠ x) : rdByte (m ++ n) x = rdByte n x := by
  induction m with
  | nil => rfl
  | cons c r ih =>
    have := h c (by simp)
    simp only [List.cons_append, rdByte]
    rw [if_neg this]
    exact ih fun d hd => h d (by simp [hd])

theorem rdByte_append_left (m n : Memory) (x : Nat) (h : ∀ c ∈ n, c.1 ≠ x) : rdByte (m ++ n) x = rdByte m x := by
  induction m with
  | nil => exact (rdByte_none h).trans rfl
  | cons c r ih => simp only [List.cons_append, rdByte]; rw [ih]

theorem rdByte_filter (m : Memory) (p : Nat → Bool) (x : Nat) (h : p x = true) : rdByte (m.filter fun c => p c.1) x = rdByte m x := by
  induction m with
  | nil => rfl
  | cons c r ih =>
    simp only [List.filter_cons]
    by_cases e : c.1 = x
    · rw [if_pos (by rw [e]; exact h)]
      simp [rdByte, e]
    · split
      · simp only [rdByte, if_neg e, ih]
      · simp only [rdByte, if_neg e, ih]

/-- A byte outside a write reads as before. -/
theorem rdByte_wrBytes_out (m : Memory) (a : Nat) (bs : List Byte) (x : Nat) (h : x < a ∨ a + bs.length ≤ x) :
    rdByte (wrBytes m a bs) x = rdByte m x := by
  have hc : ∀ c ∈ cellsFrom a bs, c.1 ≠ x := by
    intro c hc; have := cellsFrom_range bs a c hc; omega
  rcases h with h | h
  · have hr : ∀ c ∈ m.filter (fun c => a + bs.length ≤ c.1), c.1 ≠ x := by
      intro c hc
      simp only [List.mem_filter, decide_eq_true_eq] at hc
      omega
    rw [wrBytes, rdByte_append_left _ _ _ hr, rdByte_append_left _ _ _ hc]
    exact rdByte_filter m (fun k => decide (k < a)) x (by simpa using h)
  · have hl : ∀ c ∈ m.filter (fun c => c.1 < a) ++ cellsFrom a bs, c.1 ≠ x := by
      intro c hc'
      rcases List.mem_append.1 hc' with hc' | hc'
      · simp only [List.mem_filter, decide_eq_true_eq] at hc'; omega
      · exact hc c hc'
    rw [wrBytes, rdByte_append _ _ _ hl]
    exact rdByte_filter m (fun k => decide (a + bs.length ≤ k)) x (by simpa using h)

theorem rdByte_cellsFrom (bs : List Byte) : ∀ a x, a ≤ x → x < a + bs.length → rdByte (cellsFrom a bs) x = at? bs (x - a) 0 := by
  induction bs with
  | nil => intro a x h1 h2; simp at h2; omega
  | cons b r ih =>
    intro a x h1 h2
    simp only [List.length_cons] at h2
    by_cases e : a = x
    · subst e
      simp only [cellsFrom, Nat.sub_self, at?, List.getElem?_cons_zero, Option.getD_some]
      split
      · rename_i hb
        rw [hb]
        exact rdByte_none fun c hc => by have := cellsFrom_range r (a + 1) c hc; omega
      · simp [rdByte]
    · have hx : x - a = (x - (a + 1)) + 1 := by omega
      have := ih (a + 1) x (by omega) (by omega)
      simp only [cellsFrom]
      split
      · rw [this, hx]; simp [at?]
      · simp only [rdByte]
        rw [if_neg e, this, hx]; simp [at?]

/-- A byte inside a write reads as it was written. -/
theorem rdByte_wrBytes_in (m : Memory) (a : Nat) (bs : List Byte) (x : Nat) (h1 : a ≤ x) (h2 : x < a + bs.length) :
    rdByte (wrBytes m a bs) x = at? bs (x - a) 0 := by
  have hl : ∀ c ∈ m.filter (fun c => c.1 < a), c.1 ≠ x := by
    intro c hc; simp only [List.mem_filter, decide_eq_true_eq] at hc; omega
  have hr : ∀ c ∈ m.filter (fun c => a + bs.length ≤ c.1), c.1 ≠ x := by
    intro c hc; simp only [List.mem_filter, decide_eq_true_eq] at hc; omega
  rw [wrBytes, rdByte_append_left _ _ _ hr, rdByte_append _ _ _ hl]
  exact rdByte_cellsFrom bs a x h1 h2

/-! ## Tables -/

@[simp] theorem tget?_tset_same {α : Type} (t : Table α) (n : Nat) (x : α) : tget? (tset t n x) n = some x := by
  induction t with
  | nil => simp [tset, tget?]
  | cons e r ih =>
    simp only [tset]
    split
    · simp [tget?]
    · split
      · simp [tget?]
      · rename_i h1 h2
        simp only [tget?]
        rw [if_neg (by omega), ih]

theorem tget?_tset_other {α : Type} (t : Table α) (n k : Nat) (x : α) (h : k ≠ n) : tget? (tset t n x) k = tget? t k := by
  induction t with
  | nil => simp [tset, tget?, Ne.symm h]
  | cons e r ih =>
    simp only [tset]
    split
    · rw [tget?, if_neg (Ne.symm h)]
    · split
      · rename_i h1 h2
        subst h2
        simp only [tget?]
        rw [if_neg (Ne.symm h), if_neg (Ne.symm h)]
      · simp only [tget?, ih]

theorem tget?_tmod_other {α : Type} (t : Table α) (n k : Nat) (f : α → α) (h : k ≠ n) : tget? (tmod t n f) k = tget? t k := by
  induction t with
  | nil => rfl
  | cons e r ih =>
    have ih' : tget? (List.map (fun e => if e.1 = n then (e.1, f e.2) else e) r) k = tget? r k := ih
    by_cases e1 : e.1 = n
    · have : n ≠ k := Ne.symm h
      simp [tmod, tget?, e1, this, ih']
    · simp [tmod, tget?, e1, ih']

end Sys2Proof.Machine
end

