-- ==== Sys2Proof/Laws/Packets.lean ====
section
/-!
SUPPORT. What the shared operations on packets do: a packet that is decided at once.
-/
namespace Sys2Proof.Machine

open Sys2Proof

theorem tget?_tmod {α : Type} (t : Table α) (n : Nat) (f : α → α) : tget? (tmod t n f) n = (tget? t n).map f := by
  induction t with
  | nil => rfl
  | cons e t ih =>
    obtain ⟨k, x⟩ := e
    by_cases h : k = n
    · subst h; simp [tmod, tget?]
    · simpa [tmod, tget?, h] using ih

theorem ctxOf_modCtx (s : State) (n : Nat) (f : Ctx → Ctx) : ctxOf (modCtx s n f) n = (ctxOf s n).map f := tget?_tmod _ _ _

theorem modCtx_modCtx (s : State) (n : Nat) (f g : Ctx → Ctx) : modCtx (modCtx s n f) n g = modCtx s n (fun c => g (f c)) := by
  unfold modCtx tmod
  simp only [List.map_map]
  congr 1
  refine List.map_congr_left fun e _ => ?_
  by_cases h : e.1 = n <;> simp [h]

theorem judgeRing_admitted {op : Nat} {s : State} {p : Packet} {c : Ctx} (h : Admitted op s p c) {v : Verdict}
    (hv : decideOp op (facing s p c) (packetSender p) p = v) :
    judgeRing (facing s p c) (packetSender p) op p { seen := c.seen, retry := c.retry } true = v := by
  obtain ⟨x, hx, ht, hq⟩ := h.passes
  have hr := h.room
  unfold judgeRing
  simp only [h.fresh, h.form, Bool.not_true, Bool.false_eq_true, if_false]
  rw [if_neg (by simpa [packetSender] using hr)]
  unfold judge
  have hb : (packetSender p).boot = false := rfl
  simp only [hx, ht, hb, Bool.false_and, Bool.false_eq_true, if_false]
  by_cases hxq : x.queued = true
  · have hq' : queueFull (facing s p c) (packetSender p).ctx p.queue = false := hq hxq
    simp only [hxq, hq', Bool.and_false, Bool.false_eq_true, if_false]
    exact hv
  · simp only [hxq, Bool.false_and, Bool.false_eq_true, if_false]
    exact hv

theorem isLate_now (s : State) (t : Taken) (b : Bool) (h : t.sealAt = s.now) : isLate s b t = false := by
  unfold isLate
  rw [h]
  simp

theorem decideRing_admitted {op : Nat} {s : State} {p : Packet} {c : Ctx} (h : Admitted op s p c) {v : Verdict}
    (hv : decideOp op (facing s p c) (packetSender p) p = v) (c' : Ctx) (t : Taken) (h1 : c'.seen = c.seen) (h2 : c'.retry = c.retry)
    (h3 : creditOk c' t.pkt.consumed = true) (h4 : t.pkt = p) (h5 : t.op = op) :
    decideRing (landed s p) p.ctx c' t false = v.effect (answered op s p c v) := by
  have hj := judgeRing_admitted h hv
  obtain ⟨o, pk, at_, hd⟩ := t
  obtain rfl : p = pk := h4.symm
  obtain rfl : op = o := h5.symm
  unfold decideRing
  dsimp only
  rw [h1, h2, h3]
  show (judgeRing (facing s p c) (packetSender p) op p { seen := c.seen, retry := c.retry } true).effect
    (answered op s p c (judgeRing (facing s p c) (packetSender p) op p { seen := c.seen, retry := c.retry } true)) = _
  rw [hj]

theorem drainRing_one {s : State} {n : Nat} {c : Ctx} {t : Taken} (hc : ctxOf s n = some c) (ht : c.taken = [t])
    (hh : t.held = false) (he : c.ending = false) :
    drainRing 1 s n = decideRing (modCtx s n fun x => { x with taken := [] }) n c t (isLate s false t) := by
  unfold drainRing
  simp only [hc, ht, hh, he, Bool.or_self, Bool.false_eq_true, if_false]
  rfl

/-- A packet that is decided at once: its reply stands, and what its opcode's decision does is carried out. -/
theorem takePacket_admitted {op : Nat} {s : State} {p : Packet} {c : Ctx} (h : Admitted op s p c) {v : Verdict}
    (hv : decideOp op (facing s p c) (packetSender p) p = v) : takePacket op p s = v.effect (answered op s p c v) := by
  have ht : takenFrom s op p = { op := op, pkt := p, sealAt := s.now, held := false } := by
    unfold takenFrom
    rw [h.window, h.prompt]
  unfold takePacket
  rw [h.takes, h.window, h.found, ht]
  simp only [h.owner, h.going, h.ring, h.first, Bool.not_true, Bool.false_eq_true, if_false, ne_eq, not_true_eq_false, or_self,
    List.length_nil, Nat.zero_add]
  rw [drainRing_one (c := { c with slot := (c.slot + 1) % 16, taken := [{ op := op, pkt := p, sealAt := s.now, held := false }] })
    (by rw [ctxOf_modCtx, h.found]; simp [h.first]) rfl rfl h.going, modCtx_modCtx]
  rw [isLate_now _ _ _ rfl]
  exact decideRing_admitted h hv _ _ rfl rfl h.credit rfl rfl

/-- A packet's statement from its opcode's decision. -/
theorem decides_of {i : Packet → Instr} {op : Nat} {P : State → Packet → Prop} {v : State → Packet → Verdict}
    (hi : ∀ p s, exec (i p) s = .next (takePacket op p s)) (hd : ∀ s p, P s p → decideOp op s (packetSender p) p = v s p) :
    Decides i op P v := by
  intro s p c h hP
  rw [hi, takePacket_admitted h (hd _ _ hP)]

/-- A verdict none of whose tests fails. -/
theorem unless_pass {l : List (Bool × Nat)} {v : Verdict} (h : ∀ e ∈ l, e.1 = false) : Verdict.unless l v = v := by
  have h' : firstFail l = none := by
    induction l with
    | nil => rfl
    | cons e l ih =>
      obtain ⟨b, st⟩ := e
      have hb : b = false := h (b, st) List.mem_cons_self
      subst hb
      exact ih fun x hx => h x (List.mem_cons_of_mem _ hx)
  unfold Verdict.unless
  rw [h']

/-- A Q command none of whose tests fails. -/
theorem queueCmd_pass {s : State} {p : Packet} {l : List (Bool × Nat)} {w : Work} {n : Nat} (hn : n = p.ctx)
    (hd : depOk s p.ctx p = true) (h : ∀ e ∈ l, e.1 = false) : queueCmd s n p l w = queuedAs w s p := by
  subst hn
  unfold queueCmd queuedAs
  refine unless_pass fun e he => ?_
  rcases List.mem_cons.1 he with he | he
  · rw [he, hd]; rfl
  · exact h e he

/-- An A command none of whose tests fails. -/
theorem acceptCmd_pass {s : State} {p : Packet} {l : List (Bool × Nat)} {w : Work} {f : Handle → State → State} {n : Nat}
    (hn : n = p.ctx) (h : ∀ e ∈ l, e.1 = false) : acceptCmd s n p l w f = runsAs w f s p := by
  subst hn
  unfold acceptCmd runsAs
  exact unless_pass h

end Sys2Proof.Machine
end

