-- ==== Sys2Proof/Laws/SoundBase.lean ====
section
/-!
SUPPORT. What every operation of the machine keeps (`Sound`): the parts of the proofs that are the same for each of them.
-/
namespace Sys2Proof.Machine

open Sys2Proof

variable {qq : List Instr} {oo : List Out}

/-- What a decision's effect keeps. -/
def VSound (qq : List Instr) (oo : List Out) (v : Verdict) : Prop := ∀ s, Sound qq oo s → Sound qq oo (v.effect s)

/-- What a command's next state keeps. -/
def NSound (qq : List Instr) (oo : List Out) (x : Host.Outcome State Fault Refusal) : Prop :=
  match x with
  | .next t => Sound qq oo t
  | _ => True

/-- A window's answer. -/
def WSound (qq : List Instr) (oo : List Out) (x : Window) : Prop :=
  match x with
  | .ok t _ => Sound qq oo t
  | _ => True

/-- A move's answer. -/
def MSound (qq : List Instr) (oo : List Out) (x : Moved) : Prop :=
  match x with
  | .done t => Sound qq oo t
  | _ => True

/-- An optional state. -/
def OSound (qq : List Instr) (oo : List Out) (x : Option State) : Prop := ∀ t, x = some t → Sound qq oo t

theorem osound_none : OSound qq oo none := by intro t h; cases h
theorem osound_some {t : State} (h : Sound qq oo t) : OSound qq oo (some t) := by intro u e; cases e; exact h
theorem osound_use {x : Option State} {t : State} (h : OSound qq oo x) (e : x = some t) : Sound qq oo t := h t e

theorem wsound_fault : WSound qq oo .fault := True.intro
theorem wsound_wait : WSound qq oo .wait := True.intro
theorem wsound_ok {t : State} {bs : List Byte} (h : Sound qq oo t) : WSound qq oo (.ok t bs) := h
theorem wsound_use {x : Window} {t : State} {bs : List Byte} (h : WSound qq oo x) (e : x = .ok t bs) : Sound qq oo t := by
  rw [e] at h
  exact h
theorem msound_bad {t : Handle} {k : Nat} : MSound qq oo (.bad t k) := True.intro
theorem msound_outside {n : Nat} : MSound qq oo (.outside n) := True.intro
theorem msound_foreign {n : Nat} : MSound qq oo (.foreign n) := True.intro
theorem msound_waits : MSound qq oo .waits := True.intro
theorem msound_moved {t : Handle} {x : Unread} : MSound qq oo (x.moved t) := by cases x <;> exact True.intro
theorem msound_done {t : State} (h : Sound qq oo t) : MSound qq oo (.done t) := h
theorem msound_use {x : Moved} {t : State} (h : MSound qq oo x) (e : x = .done t) : Sound qq oo t := by
  rw [e] at h
  exact h

theorem sound_cut {p r : Prop} (h : p) (f : p → r) : r := f h

theorem sound_foldl {α : Type} {f : State → α → State} {l : List α} {s : State}
    (h : Sound qq oo s) (hf : ∀ s a, Sound qq oo s → Sound qq oo (f s a)) : Sound qq oo (l.foldl f s) := by
  induction l generalizing s with
  | nil => exact h
  | cons a l ih => exact ih (hf s a h)

theorem sound_mk {now : Nat} {rst : Reset} {fns : List Fn} {ctxs : Table Ctx} {slots : Table (Table Slot)} {cmds : List Cmd}
    {store : Store} {clamps : List Clamp} {layoutGen : Nat} {kiln : Kiln} {exrad : Exrad} {serve : Serve} {flue : Flue} {pwr : Power}
    {sec : Sec} {evt : Events} {i3c : I3c} {out : List Out} {freeCount : Nat} {pending : List Instr}
    (h1 : pending = qq) (h2 : oo <+: out) (h3 : fns.length = 64) (h4 : clamps.length = 8) (h5 : evt.sources.length = 1024)
    (h6 : evt.targets.length = 68) (h7 : evt.log.length ≤ 65536) (h8 : layoutGen < 2 ^ 32) (h9 : rst.vfEnabled ≤ 63) (h10 : Rising ctxs) :
    Sound qq oo (State.mk now rst fns ctxs slots cmds store clamps layoutGen kiln exrad serve flue pwr sec evt i3c out freeCount pending) :=
  ⟨h1, h2, h3, h4, h5, h6, h7, h8, h9, h10⟩

theorem vsound_use {v : Verdict} {s : State} (h : VSound qq oo v) (hs : Sound qq oo s) : Sound qq oo (v.effect s) := h s hs
theorem vsound_refuse {st : Nat} : VSound qq oo (.refuse st) := fun _ h => h
theorem vsound_mk {st : Nat} {hd : Handle} {v : Nat} {f : State → State} (hf : ∀ s, Sound qq oo s → Sound qq oo (f s)) :
    VSound qq oo { status := st, handle := hd, value := v, effect := f } := hf
theorem vsound_ok {v : Nat} {f : State → State} (hf : ∀ s, Sound qq oo s → Sound qq oo (f s)) : VSound qq oo (.ok v f) := hf
theorem vsound_unless {l : List (Bool × Nat)} {v : Verdict} (h : VSound qq oo v) : VSound qq oo (.unless l v) := by
  unfold Verdict.unless
  split
  · exact vsound_refuse
  · exact h

/-! ## Tables -/

theorem rising_keys {α β : Type} {t : Table α} {u : Table β} (h : Rising t) (e : u.map (·.1) = t.map (·.1)) : Rising u := by
  unfold Rising at *
  rw [e]
  exact h

theorem rising_map {α β : Type} {t : Table α} {f : Nat × α → Nat × β} (hf : ∀ e, (f e).1 = e.1) (h : Rising t) : Rising (t.map f) := by
  refine rising_keys h ?_
  rw [List.map_map]
  exact List.map_congr_left fun e _ => hf e

theorem rising_tmod {α : Type} {t : Table α} {n : Nat} {f : α → α} (h : Rising t) : Rising (tmod t n f) := by
  unfold tmod
  refine rising_map (fun e => ?_) h
  by_cases hn : e.1 = n <;> simp [hn]

theorem rising_filter {α : Type} {t : Table α} {p : Nat × α → Bool} (h : Rising t) : Rising (t.filter p) := by
  unfold Rising at *
  exact List.Pairwise.sublist (List.Sublist.map _ List.filter_sublist) h

theorem rising_tdel {α : Type} {t : Table α} {n : Nat} (h : Rising t) : Rising (tdel t n) := rising_filter h

theorem mem_tset {α : Type} {t : Table α} {n : Nat} {x : α} {e : Nat × α} (h : e ∈ tset t n x) : e.1 = n ∨ e ∈ t := by
  induction t with
  | nil =>
    simp only [tset, List.mem_singleton] at h
    subst h
    exact Or.inl rfl
  | cons a t ih =>
    obtain ⟨k, v⟩ := a
    unfold tset at h
    by_cases h1 : n < k
    · rw [if_pos h1] at h
      rcases List.mem_cons.1 h with h | h
      · subst h; exact Or.inl rfl
      · exact Or.inr h
    · rw [if_neg h1] at h
      by_cases h2 : n = k
      · rw [if_pos h2] at h
        rcases List.mem_cons.1 h with h | h
        · subst h; exact Or.inl rfl
        · exact Or.inr (List.mem_cons_of_mem _ h)
      · rw [if_neg h2] at h
        rcases List.mem_cons.1 h with h | h
        · exact Or.inr (h ▸ List.mem_cons_self)
        · rcases ih h with h | h
          · exact Or.inl h
          · exact Or.inr (List.mem_cons_of_mem _ h)

theorem rising_cons {α : Type} {a : Nat × α} {t : Table α} : Rising (a :: t) ↔ (∀ e ∈ t, a.1 < e.1) ∧ Rising t := by
  unfold Rising
  rw [List.map_cons, List.pairwise_cons]
  simp

theorem rising_tset {α : Type} {t : Table α} {n : Nat} {x : α} (h : Rising t) : Rising (tset t n x) := by
  induction t with
  | nil => simp [tset, Rising]
  | cons a t ih =>
    obtain ⟨k, v⟩ := a
    obtain ⟨h1, h2⟩ := rising_cons.1 h
    unfold tset
    by_cases c1 : n < k
    · rw [if_pos c1]
      refine rising_cons.2 ⟨fun e he => ?_, h⟩
      rcases List.mem_cons.1 he with he | he
      · subst he; exact c1
      · exact Nat.lt_trans c1 (h1 e he)
    · rw [if_neg c1]
      by_cases c2 : n = k
      · rw [if_pos c2]
        refine rising_cons.2 ⟨fun e he => ?_, h2⟩
        have := h1 e he
        simp only at this ⊢
        omega
      · rw [if_neg c2]
        refine rising_cons.2 ⟨fun e he => ?_, ih h2⟩
        rcases mem_tset he with he | he
        · simp only at he ⊢
          omega
        · exact h1 e he

theorem gen_lt {n : Nat} : n % 2 ^ 32 < 2 ^ 32 := Nat.mod_lt _ (by decide)

theorem log_nil : ([] : List Rec).length ≤ 65536 := Nat.zero_le _

theorem gen_zero : 0 < 2 ^ 32 := by decide

theorem rising_nil : Rising ([] : Table Ctx) := List.Pairwise.nil

theorem prefix_append {o l : List Out} {x : List Out} (h : o <+: l) : o <+: l ++ x := h.trans (List.prefix_append _ _)

end Sys2Proof.Machine
end

