-- ==== Sys2Proof/Laws/SoundStore.lean ====
section
/-!
SUPPORT. What every operation of the machine keeps (`Sound`): the shared operations: events, storage, charges, the ends of commands and requests.
-/
namespace Sys2Proof.Machine

open Sys2Proof

variable {qq : List Instr} {oo : List Out}

/-! ## Ops -/

theorem sound_emit {x0 : State} {x1 : Out} (h0 : Sound qq oo x0) : Sound qq oo (emit x0 x1) := by
  unfold emit
  repeat' first
      | with_reducible first
          | assumption | apply prefix_append | apply Sound.functions | apply Sound.clamps | apply Sound.sources | apply Sound.targets
          | apply Sound.log | apply Sound.layout | apply Sound.virtual | apply Sound.contexts | apply Sound.queue | apply Sound.sent
          | refine sound_mk ?_ ?_ ?_ ?_ ?_ ?_ ?_ ?_ ?_ ?_

theorem sound_gather {x0 : State} {x1 : Nat} {x2 : Nat} (h0 : Sound qq oo x0) : Sound qq oo (gather x0 x1 x2) := by
  unfold gather
  repeat' first
      | with_reducible assumption | (extract_lets +onlyGivenNames s1; refine sound_cut (p := s1.sources = s1.sources) rfl ?_; intro _; subst s1)
      | simp only [id_eq]
      | with_reducible first
          | apply Sound.functions | apply Sound.clamps | apply Sound.sources | apply Sound.targets | apply Sound.log | apply Sound.layout
          | apply Sound.virtual | apply Sound.contexts | apply Sound.queue | apply Sound.sent | refine sound_mk ?_ ?_ ?_ ?_ ?_ ?_ ?_ ?_ ?_ ?_

theorem sound_hostPut {x0 : State} {x1 : Nat} {x2 : Nat} {x3 : List Byte} (h0 : Sound qq oo x0) : Sound qq oo (hostPut x0 x1 x2 x3) := by
  unfold hostPut
  repeat' first
      | with_reducible first
          | assumption | apply sound_gather | apply sound_emit
      | split

theorem sound_modFn {x0 : State} {x1 : Nat} {x2 : Fn → Fn} (h0 : Sound qq oo x0) : Sound qq oo (modFn x0 x1 x2) := by
  unfold modFn
  repeat' first
      | with_reducible assumption | rw [List.length_modify]
      | with_reducible first
          | apply Sound.functions | apply Sound.clamps | apply Sound.sources | apply Sound.targets | apply Sound.log | apply Sound.layout
          | apply Sound.virtual | apply Sound.contexts | apply Sound.queue | apply Sound.sent | refine sound_mk ?_ ?_ ?_ ?_ ?_ ?_ ?_ ?_ ?_ ?_

theorem sound_modCtx {x0 : State} {x1 : Nat} {x2 : Ctx → Ctx} (h0 : Sound qq oo x0) : Sound qq oo (modCtx x0 x1 x2) := by
  unfold modCtx
  repeat' first
      | with_reducible first
          | assumption | apply rising_tmod | apply Sound.functions | apply Sound.clamps | apply Sound.sources | apply Sound.targets | apply Sound.log
          | apply Sound.layout | apply Sound.virtual | apply Sound.contexts | apply Sound.queue | apply Sound.sent
          | refine sound_mk ?_ ?_ ?_ ?_ ?_ ?_ ?_ ?_ ?_ ?_

theorem sound_modCmd {x0 : State} {x1 : Handle} {x2 : Cmd → Cmd} (h0 : Sound qq oo x0) : Sound qq oo (modCmd x0 x1 x2) := by
  unfold modCmd
  repeat' first
      | with_reducible first
          | assumption | apply Sound.functions | apply Sound.clamps | apply Sound.sources | apply Sound.targets | apply Sound.log | apply Sound.layout
          | apply Sound.virtual | apply Sound.contexts | apply Sound.queue | apply Sound.sent | refine sound_mk ?_ ?_ ?_ ?_ ?_ ?_ ?_ ?_ ?_ ?_

theorem sound_modClamp {x0 : State} {x1 : Nat} {x2 : Clamp → Clamp} (h0 : Sound qq oo x0) : Sound qq oo (modClamp x0 x1 x2) := by
  unfold modClamp
  repeat' first
      | with_reducible assumption | rw [List.length_modify]
      | with_reducible first
          | apply Sound.functions | apply Sound.clamps | apply Sound.sources | apply Sound.targets | apply Sound.log | apply Sound.layout
          | apply Sound.virtual | apply Sound.contexts | apply Sound.queue | apply Sound.sent | refine sound_mk ?_ ?_ ?_ ?_ ?_ ?_ ?_ ?_ ?_ ?_

theorem sound_modTensor {x0 : State} {x1 : Handle} {x2 : Tensor → Tensor} (h0 : Sound qq oo x0) : Sound qq oo (modTensor x0 x1 x2) := by
  unfold modTensor
  repeat' first
      | with_reducible assumption | (extract_lets +onlyGivenNames s1; clear_value s1)
      | with_reducible first
          | apply Sound.functions | apply Sound.clamps | apply Sound.sources | apply Sound.targets | apply Sound.log | apply Sound.layout
          | apply Sound.virtual | apply Sound.contexts | apply Sound.queue | apply Sound.sent | refine sound_mk ?_ ?_ ?_ ?_ ?_ ?_ ?_ ?_ ?_ ?_

theorem sound_writeRec {x0 : State} {x1 : Nat} {x2 : Rec} (h0 : Sound qq oo x0) : Sound qq oo (writeRec x0 x1 x2) := by
  unfold writeRec
  repeat' first
      | with_reducible assumption
      | (extract_lets +onlyGivenNames s1; refine sound_cut (p := Sound qq oo s1) ?_ ?_; subst s1; rotate_left; intro _; clear_value s1)
      | (extract_lets +onlyGivenNames s1; clear_value s1)
      | with_reducible first
          | apply sound_hostPut | apply sound_emit | apply rising_tset
      | split
      | with_reducible first
          | apply Sound.functions | apply Sound.clamps | apply Sound.sources | apply Sound.targets | apply Sound.log | apply Sound.layout
          | apply Sound.virtual | apply Sound.contexts | apply Sound.queue | apply Sound.sent | refine sound_mk ?_ ?_ ?_ ?_ ?_ ?_ ?_ ?_ ?_ ?_

theorem sound_flushHeld {x0 : Nat} {x1 : State} {x2 : Nat} (h1 : Sound qq oo x1) : Sound qq oo (flushHeld x0 x1 x2) := by
  induction x0 generalizing x1 x2 with
  | zero =>
    unfold flushHeld
    repeat' first
        | with_reducible assumption
  | succ n ih =>
    unfold flushHeld
    repeat' first
        | with_reducible first
            | assumption | apply ih | apply sound_writeRec | apply sound_modCtx
        | split

theorem sound_flushRing {x0 : State} {x1 : Nat} (h0 : Sound qq oo x0) : Sound qq oo (flushRing x0 x1) := by
  unfold flushRing
  repeat' first
      | with_reducible first
          | assumption | apply sound_flushHeld
      | split

theorem sound_addLost {x0 : State} {x1 : Nat} (h0 : Sound qq oo x0) : Sound qq oo (addLost x0 x1) := by
  unfold addLost
  repeat' first
      | with_reducible first
          | assumption | apply sound_modFn

theorem sound_putRec {x0 : State} {x1 : Nat} {x2 : Rec} (h0 : Sound qq oo x0) : Sound qq oo (putRec x0 x1 x2) := by
  unfold putRec
  repeat' first
      | with_reducible assumption | (extract_lets +onlyGivenNames s1; clear_value s1)
      | with_reducible first
          | apply sound_addLost | apply sound_writeRec | apply sound_modCtx
      | split
      | with_reducible first
          | apply Sound.functions | apply Sound.clamps | apply Sound.sources | apply Sound.targets | apply Sound.log | apply Sound.layout
          | apply Sound.virtual | apply Sound.contexts | apply Sound.queue | apply Sound.sent | refine sound_mk ?_ ?_ ?_ ?_ ?_ ?_ ?_ ?_ ?_ ?_

theorem sound_takeCredit {x0 : State} {x1 : Nat} {x2 : Nat} (h0 : Sound qq oo x0) : Sound qq oo (takeCredit x0 x1 x2) := by
  unfold takeCredit
  repeat' first
      | with_reducible first
          | assumption | apply sound_flushRing | apply rising_tset
      | split
      | with_reducible first
          | apply Sound.functions | apply Sound.clamps | apply Sound.sources | apply Sound.targets | apply Sound.log | apply Sound.layout
          | apply Sound.virtual | apply Sound.contexts | apply Sound.queue | apply Sound.sent | refine sound_mk ?_ ?_ ?_ ?_ ?_ ?_ ?_ ?_ ?_ ?_

theorem sound_takeSlot {x0 : State} {x1 : Handle} (h0 : Sound qq oo x0) : Sound qq oo (takeSlot x0 x1) := by
  unfold takeSlot
  repeat' first
      | with_reducible first
          | assumption | apply Sound.functions | apply Sound.clamps | apply Sound.sources | apply Sound.targets | apply Sound.log | apply Sound.layout
          | apply Sound.virtual | apply Sound.contexts | apply Sound.queue | apply Sound.sent | refine sound_mk ?_ ?_ ?_ ?_ ?_ ?_ ?_ ?_ ?_ ?_

theorem sound_dropSlot {x0 : State} {x1 : Handle} (h0 : Sound qq oo x0) : Sound qq oo (dropSlot x0 x1) := by
  unfold dropSlot
  repeat' first
      | with_reducible first
          | assumption | apply Sound.functions | apply Sound.clamps | apply Sound.sources | apply Sound.targets | apply Sound.log | apply Sound.layout
          | apply Sound.virtual | apply Sound.contexts | apply Sound.queue | apply Sound.sent | refine sound_mk ?_ ?_ ?_ ?_ ?_ ?_ ?_ ?_ ?_ ?_

theorem sound_modSrc {x0 : State} {x1 : Nat} {x2 : Source → Source} (h0 : Sound qq oo x0) : Sound qq oo (modSrc x0 x1 x2) := by
  unfold modSrc
  repeat' first
      | with_reducible assumption | (extract_lets +onlyGivenNames s1; refine sound_cut (p := s1.sources = s1.sources) rfl ?_; intro _; subst s1)
      | rw [List.length_modify] | simp only [id_eq]
      | with_reducible first
          | apply Sound.functions | apply Sound.clamps | apply Sound.sources | apply Sound.targets | apply Sound.log | apply Sound.layout
          | apply Sound.virtual | apply Sound.contexts | apply Sound.queue | apply Sound.sent | refine sound_mk ?_ ?_ ?_ ?_ ?_ ?_ ?_ ?_ ?_ ?_

theorem sound_modTgt {x0 : State} {x1 : Nat} {x2 : Target → Target} (h0 : Sound qq oo x0) : Sound qq oo (modTgt x0 x1 x2) := by
  unfold modTgt
  repeat' first
      | with_reducible assumption | (extract_lets +onlyGivenNames s1; refine sound_cut (p := s1.sources = s1.sources) rfl ?_; intro _; subst s1)
      | rw [List.length_modify] | simp only [id_eq]
      | with_reducible first
          | apply Sound.functions | apply Sound.clamps | apply Sound.sources | apply Sound.targets | apply Sound.log | apply Sound.layout
          | apply Sound.virtual | apply Sound.contexts | apply Sound.queue | apply Sound.sent | refine sound_mk ?_ ?_ ?_ ?_ ?_ ?_ ?_ ?_ ?_ ?_

theorem sound_reassess {x0 : State} {x1 : Nat} (h0 : Sound qq oo x0) : Sound qq oo (reassess x0 x1) := by
  unfold reassess
  repeat' first
      | with_reducible assumption
      | (extract_lets +onlyGivenNames s1; refine sound_cut (p := Sound qq oo s1) ?_ ?_; subst s1; rotate_left; intro _; clear_value s1)
      | (extract_lets +onlyGivenNames s1; clear_value s1)
      | with_reducible first
          | apply sound_modTgt | apply sound_emit
      | split

theorem sound_reassessAll {x0 : State} (h0 : Sound qq oo x0) : Sound qq oo (reassessAll x0) :=
  sound_foldl h0 fun _ _ h => sound_reassess h

theorem sound_logRec {x0 : State} {x1 : Rec} (h0 : Sound qq oo x0) : Sound qq oo (logRec x0 x1) := by
  have hl := h0.log
  unfold logRec
  split
  · exact sound_mk h0.queue h0.sent h0.functions h0.clamps h0.sources h0.targets (by simp; omega) h0.layout h0.virtual h0.contexts
  · exact sound_mk h0.queue h0.sent h0.functions h0.clamps h0.sources h0.targets (by simp; omega) h0.layout h0.virtual h0.contexts

theorem sound_eventRecord {x0 : State} {x1 : Nat} {x2 : Nat} {x3 : Nat} {x4 : List Byte} {x5 : Option Nat} (h0 : Sound qq oo x0) :
    Sound qq oo (eventRecord x0 x1 x2 x3 x4 x5) := by
  unfold eventRecord
  repeat' first
      | with_reducible assumption
      | (extract_lets +onlyGivenNames s1; refine sound_cut (p := Sound qq oo s1) ?_ ?_; subst s1; rotate_left; intro _; clear_value s1)
      | (extract_lets +onlyGivenNames s1; clear_value s1)
      | with_reducible first
          | apply sound_logRec | apply sound_modSrc | apply sound_putRec | apply sound_addLost
      | split

theorem sound_setPending {x0 : State} {x1 : Nat} (h0 : Sound qq oo x0) : Sound qq oo (setPending x0 x1) := by
  unfold setPending
  repeat' first
      | with_reducible first
          | assumption | apply sound_modSrc

theorem sound_raise {x0 : State} {x1 : Nat} {x2 : Nat} {x3 : List Byte} {x4 : Option Nat} (h0 : Sound qq oo x0) :
    Sound qq oo (raise x0 x1 x2 x3 x4) := by
  unfold raise
  repeat' first
      | with_reducible assumption
      | (extract_lets +onlyGivenNames s1; refine sound_cut (p := Sound qq oo s1) ?_ ?_; subst s1; rotate_left; intro _; clear_value s1)
      | with_reducible first
          | apply sound_setPending | apply sound_eventRecord | apply sound_reassess

theorem sound_setReady {x0 : State} {x1 : BitVec 64} {x2 : BitVec 64} (h0 : Sound qq oo x0) : Sound qq oo (setReady x0 x1 x2) := by
  unfold setReady
  repeat' first
      | with_reducible assumption
      | (extract_lets +onlyGivenNames s1; refine sound_cut (p := Sound qq oo s1) ?_ ?_; subst s1; rotate_left; intro _; clear_value s1)
      | (extract_lets +onlyGivenNames s1; refine sound_cut (p := s1.vfEnabled = s1.vfEnabled) rfl ?_; intro _; subst s1)
      | (extract_lets +onlyGivenNames s1; clear_value s1)
      | with_reducible first
          | apply sound_raise | refine sound_foldl ?_ (fun _ _ _ => ?_)
      | split | simp only [id_eq]
      | with_reducible first
          | apply Sound.functions | apply Sound.clamps | apply Sound.sources | apply Sound.targets | apply Sound.log | apply Sound.layout
          | apply Sound.virtual | apply Sound.contexts | apply Sound.queue | apply Sound.sent | refine sound_mk ?_ ?_ ?_ ?_ ?_ ?_ ?_ ?_ ?_ ?_

theorem sound_readyOn {x0 : State} {x1 : Nat} (h0 : Sound qq oo x0) : Sound qq oo (readyOn x0 x1) := by
  unfold readyOn
  repeat' first
      | with_reducible first
          | assumption | apply sound_setReady

theorem sound_readyOff {x0 : State} {x1 : Nat} (h0 : Sound qq oo x0) : Sound qq oo (readyOff x0 x1) := by
  unfold readyOff
  repeat' first
      | with_reducible first
          | assumption | apply sound_setReady

theorem sound_noteActive {x0 : State} {x1 : Nat} (h0 : Sound qq oo x0) : Sound qq oo (noteActive x0 x1) := by
  unfold noteActive
  repeat' first
      | with_reducible assumption
      | with_reducible first
          | apply Sound.functions | apply Sound.clamps | apply Sound.sources | apply Sound.targets | apply Sound.log | apply Sound.layout
          | apply Sound.virtual | apply Sound.contexts | apply Sound.queue | apply Sound.sent | refine sound_mk ?_ ?_ ?_ ?_ ?_ ?_ ?_ ?_ ?_ ?_

theorem sound_wakeUnits {x0 : State} {x1 : BitVec 32} (h0 : Sound qq oo x0) : Sound qq oo (wakeUnits x0 x1) := by
  unfold wakeUnits
  repeat' first
      | with_reducible assumption | (extract_lets +onlyGivenNames s1; clear_value s1) | (extract_lets +onlyGivenNames s1; refine sound_cut (p := s1.sources = s1.sources) rfl ?_; intro _; subst s1)
      | simp only [id_eq]
      | with_reducible first
          | apply Sound.functions | apply Sound.clamps | apply Sound.sources | apply Sound.targets | apply Sound.log | apply Sound.layout
          | apply Sound.virtual | apply Sound.contexts | apply Sound.queue | apply Sound.sent | refine sound_mk ?_ ?_ ?_ ?_ ?_ ?_ ?_ ?_ ?_ ?_

theorem sound_internalEvent {x0 : State} {x1 : Option Nat} {x2 : Nat} (h0 : Sound qq oo x0) : Sound qq oo (internalEvent x0 x1 x2) := by
  unfold internalEvent
  repeat' first
      | with_reducible first
          | assumption | apply sound_raise

/-! ## Link -/

theorem sound_modPort {x0 : State} {x1 : Nat} {x2 : Port → Port} (h0 : Sound qq oo x0) : Sound qq oo (modPort x0 x1 x2) := by
  unfold modPort
  repeat' first
      | with_reducible assumption | (extract_lets +onlyGivenNames s1; clear_value s1)
      | with_reducible first
          | apply Sound.functions | apply Sound.clamps | apply Sound.sources | apply Sound.targets | apply Sound.log | apply Sound.layout
          | apply Sound.virtual | apply Sound.contexts | apply Sound.queue | apply Sound.sent | refine sound_mk ?_ ?_ ?_ ?_ ?_ ?_ ?_ ?_ ?_ ?_

theorem sound_pumpPort {x0 : Nat} {x1 : State} {x2 : Nat} (h1 : Sound qq oo x1) : Sound qq oo (pumpPort x0 x1 x2) := by
  induction x0 generalizing x1 x2 with
  | zero =>
    unfold pumpPort
    repeat' first
        | with_reducible assumption
  | succ n ih =>
    unfold pumpPort
    repeat' first
        | with_reducible first
            | assumption | apply ih
        | (extract_lets +onlyGivenNames s1; refine sound_cut (p := Sound qq oo s1) ?_ ?_; subst s1; rotate_left; intro _; clear_value s1)
        | (extract_lets +onlyGivenNames s1; clear_value s1)
        | with_reducible first
            | apply sound_modPort | apply sound_emit
        | split

theorem sound_sendFrame {x0 : State} {x1 : Nat} {x2 : Nat} (h0 : Sound qq oo x0) : Sound qq oo (sendFrame x0 x1 x2) := by
  unfold sendFrame
  repeat' first
      | with_reducible assumption | (extract_lets +onlyGivenNames s1; clear_value s1) | with_reducible apply sound_emit

theorem sound_sendOn {x0 : State} {x1 : Nat} {x2 : Nat} {x3 : Msg} (h0 : Sound qq oo x0) : Sound qq oo (sendOn x0 x1 x2 x3) := by
  unfold sendOn
  repeat' first
      | with_reducible assumption
      | (extract_lets +onlyGivenNames s1; refine sound_cut (p := Sound qq oo s1) ?_ ?_; subst s1; rotate_left; intro _; clear_value s1)
      | (extract_lets +onlyGivenNames s1; clear_value s1)
      | with_reducible first
          | apply sound_pumpPort | apply sound_modPort | apply sound_emit

theorem sound_sendMsg {x0 : State} {x1 : Nat} {x2 : Nat} {x3 : Msg} (h0 : Sound qq oo x0) : Sound qq oo (sendMsg x0 x1 x2 x3) := by
  unfold sendMsg
  repeat' first
      | with_reducible assumption
      | (extract_lets +onlyGivenNames s1; refine sound_cut (p := Sound qq oo s1) ?_ ?_; subst s1; rotate_left; intro _; clear_value s1)
      | (extract_lets +onlyGivenNames s1; clear_value s1) | with_reducible apply sound_sendOn | split
      | with_reducible first
          | apply Sound.functions | apply Sound.clamps | apply Sound.sources | apply Sound.targets | apply Sound.log | apply Sound.layout
          | apply Sound.virtual | apply Sound.contexts | apply Sound.queue | apply Sound.sent | refine sound_mk ?_ ?_ ?_ ?_ ?_ ?_ ?_ ?_ ?_ ?_

/-! ## Storage -/

theorem sound_openAt {x0 : State} {x1 : Option Loc} (h0 : Sound qq oo x0) : Sound qq oo (openAt x0 x1) := by
  unfold openAt
  repeat' first
      | with_reducible assumption | (extract_lets +onlyGivenNames s1; clear_value s1) | split
      | with_reducible first
          | apply Sound.functions | apply Sound.clamps | apply Sound.sources | apply Sound.targets | apply Sound.log | apply Sound.layout
          | apply Sound.virtual | apply Sound.contexts | apply Sound.queue | apply Sound.sent | refine sound_mk ?_ ?_ ?_ ?_ ?_ ?_ ?_ ?_ ?_ ?_

theorem sound_countTraffic {x0 : State} {x1 : Nat} {x2 : Traffic} {x3 : Nat} (h0 : Sound qq oo x0) : Sound qq oo (countTraffic x0 x1 x2 x3) := by
  unfold countTraffic
  repeat' first
      | with_reducible assumption
      | (extract_lets +onlyGivenNames s1; refine sound_cut (p := Sound qq oo s1) ?_ ?_; subst s1; rotate_left; intro _; clear_value s1)
      | (extract_lets +onlyGivenNames s1; clear_value s1)
      | with_reducible first
          | apply sound_modClamp
      | split
      | with_reducible first
          | apply Sound.functions | apply Sound.clamps | apply Sound.sources | apply Sound.targets | apply Sound.log | apply Sound.layout
          | apply Sound.virtual | apply Sound.contexts | apply Sound.queue | apply Sound.sent | refine sound_mk ?_ ?_ ?_ ?_ ?_ ?_ ?_ ?_ ?_ ?_

theorem sound_serveBursts {x0 : State} {x1 : Traffic} {x2 : Nat} {x3 : Nat} (h0 : Sound qq oo x0) : Sound qq oo (serveBursts x0 x1 x2 x3) := by
  unfold serveBursts
  repeat' first
      | with_reducible assumption
      | (extract_lets +onlyGivenNames s1; refine sound_cut (p := Sound qq oo s1) ?_ ?_; subst s1; rotate_left; intro _; clear_value s1)
      | (extract_lets +onlyGivenNames s1; refine sound_cut (p := s1.vfEnabled = s1.vfEnabled) rfl ?_; intro _; subst s1)
      | (extract_lets +onlyGivenNames s1; clear_value s1)
      | with_reducible first
          | apply sound_noteActive
      | split
      | with_reducible first
          | apply Sound.functions | apply Sound.clamps | apply Sound.sources | apply Sound.targets | apply Sound.log | apply Sound.layout
          | apply Sound.virtual | apply Sound.contexts | apply Sound.queue | apply Sound.sent | refine sound_mk ?_ ?_ ?_ ?_ ?_ ?_ ?_ ?_ ?_ ?_

theorem sound_flipShadows {x0 : List Loc} {x1 : Nat} {x2 : List Shadow} {x3 : State} (h3 : Sound qq oo x3) :
    Sound qq oo (flipShadows x0 x1 x2 x3) := by
  induction x2 generalizing x0 x1 x3 with
  | nil =>
    unfold flipShadows
    repeat' first
        | with_reducible assumption
  | cons a l ih =>
    unfold flipShadows
    repeat' first
        | with_reducible first
            | assumption | apply ih
        | (extract_lets +onlyGivenNames s1; clear_value s1)
        | with_reducible first
            | apply sound_openAt | apply sound_modTensor
        | split

/-! ## Flags -/

theorem sound_latchWaits {x0 : State} (h0 : Sound qq oo x0) : Sound qq oo (latchWaits x0) := by
  unfold latchWaits
  repeat' first
      | with_reducible first
          | assumption | apply Sound.functions | apply Sound.clamps | apply Sound.sources | apply Sound.targets | apply Sound.log | apply Sound.layout
          | apply Sound.virtual | apply Sound.contexts | apply Sound.queue | apply Sound.sent | refine sound_mk ?_ ?_ ?_ ?_ ?_ ?_ ?_ ?_ ?_ ?_

theorem sound_applyFlag {x0 : State} {x1 : Nat} {x2 : FlagOp} (h0 : Sound qq oo x0) : Sound qq oo (applyFlag x0 x1 x2) := by
  unfold applyFlag
  repeat' first
      | with_reducible first
          | assumption | apply sound_latchWaits | apply sound_modCtx

/-! ## CmdEnd -/

theorem sound_releaseTensors {x0 : State} (h0 : Sound qq oo x0) : Sound qq oo (releaseTensors x0) := by
  unfold releaseTensors
  repeat' first
      | with_reducible assumption | (extract_lets +onlyGivenNames s1; clear_value s1)
      | with_reducible first
          | apply Sound.functions | apply Sound.clamps | apply Sound.sources | apply Sound.targets | apply Sound.log | apply Sound.layout
          | apply Sound.virtual | apply Sound.contexts | apply Sound.queue | apply Sound.sent | refine sound_mk ?_ ?_ ?_ ?_ ?_ ?_ ?_ ?_ ?_ ?_

theorem sound_charge {x0 : State} {x1 : Nat} {x2 : EngineClass} {x3 : Nat} (h0 : Sound qq oo x0) : Sound qq oo (charge x0 x1 x2 x3) := by
  unfold charge
  repeat' first
      | with_reducible first
          | assumption | apply sound_modCtx

theorem sound_discardIn {x0 : State} {x1 : Nat} {x2 : EngineClass} {x3 : Nat} (h0 : Sound qq oo x0) : Sound qq oo (discardIn x0 x1 x2 x3) := by
  unfold discardIn
  repeat' first
      | with_reducible assumption
      | with_reducible first
          | apply sound_modClamp
      | with_reducible first
          | apply Sound.functions | apply Sound.clamps | apply Sound.sources | apply Sound.targets | apply Sound.log | apply Sound.layout
          | apply Sound.virtual | apply Sound.contexts | apply Sound.queue | apply Sound.sent | refine sound_mk ?_ ?_ ?_ ?_ ?_ ?_ ?_ ?_ ?_ ?_

theorem sound_discard {x0 : State} {x1 : Nat} {x2 : EngineClass} {x3 : Nat} (h0 : Sound qq oo x0) : Sound qq oo (discard x0 x1 x2 x3) := by
  unfold discard
  repeat' first
      | with_reducible assumption
      | with_reducible first
          | apply sound_discardIn

theorem sound_modTile {x0 : State} {x1 : Nat} {x2 : Nat} {x3 : Tile → Tile} (h0 : Sound qq oo x0) : Sound qq oo (modTile x0 x1 x2 x3) := by
  unfold modTile
  repeat' first
      | with_reducible assumption | (extract_lets +onlyGivenNames s1; clear_value s1)
      | with_reducible first
          | apply Sound.functions | apply Sound.clamps | apply Sound.sources | apply Sound.targets | apply Sound.log | apply Sound.layout
          | apply Sound.virtual | apply Sound.contexts | apply Sound.queue | apply Sound.sent | refine sound_mk ?_ ?_ ?_ ?_ ?_ ?_ ?_ ?_ ?_ ?_

theorem sound_modCore {x0 : State} {x1 : Nat} {x2 : Nat} {x3 : Engine → Engine} (h0 : Sound qq oo x0) : Sound qq oo (modCore x0 x1 x2 x3) := by
  unfold modCore
  repeat' first
      | with_reducible assumption | (extract_lets +onlyGivenNames s1; clear_value s1)
      | with_reducible first
          | apply Sound.functions | apply Sound.clamps | apply Sound.sources | apply Sound.targets | apply Sound.log | apply Sound.layout
          | apply Sound.virtual | apply Sound.contexts | apply Sound.queue | apply Sound.sent | refine sound_mk ?_ ?_ ?_ ?_ ?_ ?_ ?_ ?_ ?_ ?_

theorem sound_killTile {x0 : Bool} {x1 : State} {x2 : Tile} (h1 : Sound qq oo x1) : Sound qq oo (killTile x0 x1 x2) := by
  unfold killTile
  repeat' first
      | with_reducible assumption
      | (extract_lets +onlyGivenNames s1; refine sound_cut (p := Sound qq oo s1) ?_ ?_; subst s1; rotate_left; intro _; clear_value s1)
      | (extract_lets +onlyGivenNames s1; clear_value s1)
      | with_reducible first
          | apply sound_modCore | apply sound_discard | apply sound_gather
      | split
      | with_reducible first
          | apply Sound.functions | apply Sound.clamps | apply Sound.sources | apply Sound.targets | apply Sound.log | apply Sound.layout
          | apply Sound.virtual | apply Sound.contexts | apply Sound.queue | apply Sound.sent | refine sound_mk ?_ ?_ ?_ ?_ ?_ ?_ ?_ ?_ ?_ ?_

theorem sound_modUnit {x0 : State} {x1 : Nat} {x2 : Nat} {x3 : Nat} {x4 : EUnit → EUnit} (h0 : Sound qq oo x0) :
    Sound qq oo (modUnit x0 x1 x2 x3 x4) := by
  unfold modUnit
  repeat' first
      | with_reducible assumption | (extract_lets +onlyGivenNames s1; clear_value s1)
      | with_reducible first
          | apply Sound.functions | apply Sound.clamps | apply Sound.sources | apply Sound.targets | apply Sound.log | apply Sound.layout
          | apply Sound.virtual | apply Sound.contexts | apply Sound.queue | apply Sound.sent | refine sound_mk ?_ ?_ ?_ ?_ ?_ ?_ ?_ ?_ ?_ ?_

theorem sound_stopUnits {x0 : State} {x1 : Handle} (h0 : Sound qq oo x0) : Sound qq oo (stopUnits x0 x1) := by
  unfold stopUnits
  repeat' first
      | with_reducible assumption | (extract_lets +onlyGivenNames s1; clear_value s1) | simp only [id_eq]
      | with_reducible first
          | apply Sound.functions | apply Sound.clamps | apply Sound.sources | apply Sound.targets | apply Sound.log | apply Sound.layout
          | apply Sound.virtual | apply Sound.contexts | apply Sound.queue | apply Sound.sent | refine sound_mk ?_ ?_ ?_ ?_ ?_ ?_ ?_ ?_ ?_ ?_

theorem sound_idleChans {x0 : State} (h0 : Sound qq oo x0) : Sound qq oo (idleChans x0) := by
  unfold idleChans
  repeat' first
      | with_reducible assumption
      | (extract_lets +onlyGivenNames s1; refine sound_cut (p := Sound qq oo s1) ?_ ?_; subst s1; rotate_left; intro _; clear_value s1)
      | (extract_lets +onlyGivenNames s1; clear_value s1)
      | with_reducible first
          | apply sound_discard | refine sound_foldl ?_ (fun _ _ _ => ?_) | apply Sound.functions | apply Sound.clamps | apply Sound.sources
          | apply Sound.targets | apply Sound.log | apply Sound.layout | apply Sound.virtual | apply Sound.contexts | apply Sound.queue
          | apply Sound.sent | refine sound_mk ?_ ?_ ?_ ?_ ?_ ?_ ?_ ?_ ?_ ?_

theorem sound_dropSlane {x0 : State} {x1 : Handle} (h0 : Sound qq oo x0) : Sound qq oo (dropSlane x0 x1) := by
  unfold dropSlane
  repeat' first
      | with_reducible first
          | assumption | apply sound_discard
      | split

theorem sound_releaseEngines {x0 : State} {x1 : Handle} (h0 : Sound qq oo x0) : Sound qq oo (releaseEngines x0 x1) := by
  unfold releaseEngines
  repeat' first
      | with_reducible assumption
      | (extract_lets +onlyGivenNames s1; refine sound_cut (p := Sound qq oo s1) ?_ ?_; subst s1; rotate_left; intro _; clear_value s1)
      | (extract_lets +onlyGivenNames s1; clear_value s1)
      | with_reducible first
          | apply sound_dropSlane | apply sound_idleChans | apply sound_stopUnits | apply sound_killTile | refine sound_foldl ?_ (fun _ _ _ => ?_)
          | apply Sound.functions | apply Sound.clamps | apply Sound.sources | apply Sound.targets | apply Sound.log | apply Sound.layout
          | apply Sound.virtual | apply Sound.contexts | apply Sound.queue | apply Sound.sent | refine sound_mk ?_ ?_ ?_ ?_ ?_ ?_ ?_ ?_ ?_ ?_

theorem sound_takeTile {x0 : State} {x1 : Nat} {x2 : Nat} {x3 : Nat} (h0 : Sound qq oo x0) : OSound qq oo (takeTile x0 x1 x2 x3) := by
  intro t ht
  unfold takeTile at ht
  obtain ⟨a, _, ha⟩ := List.exists_of_findSome?_eq_some ht
  obtain ⟨h, l⟩ := a
  obtain ⟨⟨i, fd, fc, ds⟩, _, rfl⟩ := Option.map_eq_some_iff.1 ha
  dsimp only
  split
  · exact sound_mk h0.queue h0.sent h0.functions h0.clamps h0.sources h0.targets h0.log h0.layout h0.virtual h0.contexts
  · have h1 := sound_gather (x1 := 4099) (x2 := 1) h0
    exact sound_mk h1.queue h1.sent h1.functions h1.clamps h1.sources h1.targets h1.log h1.layout h1.virtual h1.contexts

theorem sound_fillCore {x0 : State} {x1 : Nat} (h0 : Sound qq oo x0) : Sound qq oo (fillCore x0 x1) := by
  unfold fillCore
  repeat' first
      | with_reducible assumption | (extract_lets +onlyGivenNames s1; clear_value s1) | with_reducible apply sound_modCore
      | refine osound_use (sound_takeTile ?_) (by assumption) | split

theorem sound_fillCores {x0 : State} (h0 : Sound qq oo x0) : Sound qq oo (fillCores x0) := by
  unfold fillCores
  repeat' first
      | with_reducible first
          | assumption | apply sound_fillCore | refine sound_foldl ?_ (fun _ _ _ => ?_)

theorem sound_withdrawTokens {x0 : State} {x1 : Nat} {x2 : Nat} {x3 : Nat} (h0 : Sound qq oo x0) : Sound qq oo (withdrawTokens x0 x1 x2 x3) := by
  unfold withdrawTokens
  repeat' first
      | with_reducible assumption | (extract_lets +onlyGivenNames s1; clear_value s1) | with_reducible apply sound_sendMsg | split
      | with_reducible first
          | apply Sound.functions | apply Sound.clamps | apply Sound.sources | apply Sound.targets | apply Sound.log | apply Sound.layout
          | apply Sound.virtual | apply Sound.contexts | apply Sound.queue | apply Sound.sent | refine sound_mk ?_ ?_ ?_ ?_ ?_ ?_ ?_ ?_ ?_ ?_

theorem sound_dropLanded {x0 : State} {x1 : Nat} {x2 : Nat} {x3 : Nat} (h0 : Sound qq oo x0) : Sound qq oo (dropLanded x0 x1 x2 x3) := by
  unfold dropLanded
  repeat' first
      | with_reducible assumption | (extract_lets +onlyGivenNames s1; clear_value s1)
      | with_reducible first
          | apply Sound.functions | apply Sound.clamps | apply Sound.sources | apply Sound.targets | apply Sound.log | apply Sound.layout
          | apply Sound.virtual | apply Sound.contexts | apply Sound.queue | apply Sound.sent | refine sound_mk ?_ ?_ ?_ ?_ ?_ ?_ ?_ ?_ ?_ ?_

theorem sound_dropTaken {x0 : State} {x1 : Nat} {x2 : List (Nat × Nat)} (h0 : Sound qq oo x0) : Sound qq oo (dropTaken x0 x1 x2) := by
  unfold dropTaken
  repeat' first
      | with_reducible assumption
      | (extract_lets +onlyGivenNames s1; refine sound_cut (p := Sound qq oo s1) ?_ ?_; subst s1; rotate_left; intro _; clear_value s1)
      | (extract_lets +onlyGivenNames s1; refine sound_cut (p := Sound qq oo s1.1) ?_ ?_; subst s1; rotate_left; intro _; clear_value s1)
      | (extract_lets +onlyGivenNames s1; clear_value s1)
      | with_reducible first
          | apply sound_dropLanded | refine sound_foldl ?_ (fun _ _ _ => ?_)
      | with_reducible first
          | apply Sound.functions | apply Sound.clamps | apply Sound.sources | apply Sound.targets | apply Sound.log | apply Sound.layout
          | apply Sound.virtual | apply Sound.contexts | apply Sound.queue | apply Sound.sent | refine sound_mk ?_ ?_ ?_ ?_ ?_ ?_ ?_ ?_ ?_ ?_

theorem sound_declineReceives {x0 : State} {x1 : Cmd} {x2 : Nat} (h0 : Sound qq oo x0) : Sound qq oo (declineReceives x0 x1 x2) := by
  unfold declineReceives
  repeat' first
      | with_reducible assumption
      | (extract_lets +onlyGivenNames s1; refine sound_cut (p := Sound qq oo s1) ?_ ?_; subst s1; rotate_left; intro _; clear_value s1)
      | (extract_lets +onlyGivenNames s1; refine sound_cut (p := Sound qq oo s1.1) ?_ ?_; subst s1; rotate_left; intro _; clear_value s1)
      | (extract_lets +onlyGivenNames s1; clear_value s1)
      | with_reducible first
          | apply sound_dropLanded | apply sound_withdrawTokens | apply sound_sendMsg | apply sound_dropTaken
          | refine sound_foldl ?_ (fun _ _ _ => ?_)

theorem sound_putDone {x0 : State} {x1 : Cmd} {x2 : Nat} {x3 : Option Diag} (h0 : Sound qq oo x0) : Sound qq oo (putDone x0 x1 x2 x3) := by
  unfold putDone
  repeat' first
      | with_reducible assumption
      | (extract_lets +onlyGivenNames s1; refine sound_cut (p := Sound qq oo s1) ?_ ?_; subst s1; rotate_left; intro _; clear_value s1)
      | with_reducible apply sound_putRec | split

theorem sound_leaveQueue {x0 : State} {x1 : Cmd} {x2 : Bool} (h0 : Sound qq oo x0) : Sound qq oo (leaveQueue x0 x1 x2) := by
  unfold leaveQueue
  repeat' first
      | with_reducible first
          | assumption | apply sound_modCtx
      | split

theorem sound_undoLibrary {x0 : State} {x1 : Work} (h0 : Sound qq oo x0) : Sound qq oo (undoLibrary x0 x1) := by
  unfold undoLibrary
  repeat' first
      | with_reducible assumption
      | with_reducible first
          | apply sound_modClamp
      | split
      | with_reducible first
          | apply Sound.functions | apply Sound.clamps | apply Sound.sources | apply Sound.targets | apply Sound.log | apply Sound.layout
          | apply Sound.virtual | apply Sound.contexts | apply Sound.queue | apply Sound.sent | refine sound_mk ?_ ?_ ?_ ?_ ?_ ?_ ?_ ?_ ?_ ?_

theorem sound_endCmd {x0 : State} {x1 : Handle} {x2 : Nat} {x3 : Option Diag} {x4 : Bool} (h0 : Sound qq oo x0) :
    Sound qq oo (endCmd x0 x1 x2 x3 x4) := by
  unfold endCmd
  repeat' first
      | with_reducible assumption
      | (extract_lets +onlyGivenNames s1; refine sound_cut (p := Sound qq oo s1) ?_ ?_; subst s1; rotate_left; intro _; clear_value s1)
      | (extract_lets +onlyGivenNames s1; clear_value s1)
      | with_reducible first
          | apply sound_undoLibrary | apply sound_leaveQueue | apply sound_putDone | apply sound_declineReceives | apply sound_releaseEngines
          | apply sound_releaseTensors | apply sound_modCmd | apply sound_modCtx
      | split

/-! ## ServeReq -/

theorem sound_modReq {x0 : State} {x1 : Nat} {x2 : Req → Req} (h0 : Sound qq oo x0) : Sound qq oo (modReq x0 x1 x2) := by
  unfold modReq
  repeat' first
      | with_reducible assumption | (extract_lets +onlyGivenNames s1; clear_value s1)
      | with_reducible first
          | apply Sound.functions | apply Sound.clamps | apply Sound.sources | apply Sound.targets | apply Sound.log | apply Sound.layout
          | apply Sound.virtual | apply Sound.contexts | apply Sound.queue | apply Sound.sent | refine sound_mk ?_ ?_ ?_ ?_ ?_ ?_ ?_ ?_ ?_ ?_

theorem sound_putToken {x0 : State} {x1 : Req} {x2 : List Nat} {x3 : Bool} {x4 : Nat} {x5 : Nat} (h0 : Sound qq oo x0) :
    Sound qq oo (putToken x0 x1 x2 x3 x4 x5) := by
  unfold putToken
  repeat' first
      | with_reducible assumption
      | (extract_lets +onlyGivenNames s1; refine sound_cut (p := Sound qq oo s1) ?_ ?_; subst s1; rotate_left; intro _; clear_value s1)
      | with_reducible first
          | apply sound_putRec | apply sound_modClamp | apply sound_modCtx
      | split

theorem sound_releaseTurves {x0 : State} {x1 : Req} (h0 : Sound qq oo x0) : Sound qq oo (releaseTurves x0 x1) := by
  unfold releaseTurves
  repeat' first
      | with_reducible assumption | (extract_lets +onlyGivenNames s1; clear_value s1)
      | with_reducible first
          | apply Sound.functions | apply Sound.clamps | apply Sound.sources | apply Sound.targets | apply Sound.log | apply Sound.layout
          | apply Sound.virtual | apply Sound.contexts | apply Sound.queue | apply Sound.sent | refine sound_mk ?_ ?_ ?_ ?_ ?_ ?_ ?_ ?_ ?_ ?_

theorem sound_freeVersions {x0 : State} (h0 : Sound qq oo x0) : Sound qq oo (freeVersions x0) := by
  unfold freeVersions
  repeat' first
      | with_reducible assumption | (extract_lets +onlyGivenNames s1; clear_value s1)
      | with_reducible first
          | apply Sound.functions | apply Sound.clamps | apply Sound.sources | apply Sound.targets | apply Sound.log | apply Sound.layout
          | apply Sound.virtual | apply Sound.contexts | apply Sound.queue | apply Sound.sent | refine sound_mk ?_ ?_ ?_ ?_ ?_ ?_ ?_ ?_ ?_ ?_

theorem sound_awaitFinal {x0 : State} {x1 : Req} (h0 : Sound qq oo x0) : Sound qq oo (awaitFinal x0 x1) := by
  unfold awaitFinal
  repeat' first
      | with_reducible assumption
      | split
      | with_reducible first
          | apply Sound.functions | apply Sound.clamps | apply Sound.sources | apply Sound.targets | apply Sound.log | apply Sound.layout
          | apply Sound.virtual | apply Sound.contexts | apply Sound.queue | apply Sound.sent | refine sound_mk ?_ ?_ ?_ ?_ ?_ ?_ ?_ ?_ ?_ ?_

theorem sound_endReq {x0 : State} {x1 : Nat} {x2 : Nat} {x3 : Nat} {x4 : optParam (Option Diag) none} (h0 : Sound qq oo x0) : Sound qq oo (endReq x0 x1 x2 x3 x4) := by
  unfold endReq
  repeat' first
      | with_reducible assumption
      | (extract_lets +onlyGivenNames s1; refine sound_cut (p := Sound qq oo s1) ?_ ?_; subst s1; rotate_left; intro _; clear_value s1)
      | (extract_lets +onlyGivenNames s1; refine sound_cut (p := Sound qq oo s1.1) ?_ ?_; subst s1; rotate_left; intro _; clear_value s1)
      | (extract_lets +onlyGivenNames s1; clear_value s1)
      | with_reducible first
          | apply sound_putToken | apply sound_awaitFinal | apply sound_modReq | apply sound_releaseTurves | apply sound_freeVersions
          | apply sound_endCmd
      | split
      | with_reducible first
          | apply Sound.functions | apply Sound.clamps | apply Sound.sources | apply Sound.targets | apply Sound.log | apply Sound.layout
          | apply Sound.virtual | apply Sound.contexts | apply Sound.queue | apply Sound.sent | refine sound_mk ?_ ?_ ?_ ?_ ?_ ?_ ?_ ?_ ?_ ?_
      | simp only [id_eq]

theorem sound_dropReqCommands {x0 : State} {x1 : Nat} {x2 : optParam Nat stCancelled} (h0 : Sound qq oo x0) : Sound qq oo (dropReqCommands x0 x1 x2) := by
  unfold dropReqCommands
  repeat' first
      | with_reducible assumption
      | (extract_lets +onlyGivenNames s1; refine sound_cut (p := Sound qq oo s1) ?_ ?_; subst s1; rotate_left; intro _; clear_value s1)
      | (extract_lets +onlyGivenNames s1; clear_value s1)
      | with_reducible first
          | apply sound_endCmd | refine sound_foldl ?_ (fun _ _ _ => ?_)
      | split
      | with_reducible first
          | apply Sound.functions | apply Sound.clamps | apply Sound.sources | apply Sound.targets | apply Sound.log | apply Sound.layout
          | apply Sound.virtual | apply Sound.contexts | apply Sound.queue | apply Sound.sent | refine sound_mk ?_ ?_ ?_ ?_ ?_ ?_ ?_ ?_ ?_ ?_
      | simp only [id_eq]

theorem sound_endModelReqs {x0 : State} {x1 : Nat} {x2 : Nat} {x3 : Nat} (h0 : Sound qq oo x0) : Sound qq oo (endModelReqs x0 x1 x2 x3) := by
  unfold endModelReqs
  repeat' first
      | with_reducible assumption
      | with_reducible first
          | apply sound_endReq | apply sound_dropReqCommands | refine sound_foldl ?_ (fun _ _ _ => ?_)
      | simp only [id_eq]

theorem sound_endSteps {x0 : State} {x1 : Nat} {x2 : Nat} {x3 : Nat} (h0 : Sound qq oo x0) : Sound qq oo (endSteps x0 x1 x2 x3) := by
  unfold endSteps
  repeat' first
      | with_reducible assumption
      | with_reducible first
          | apply sound_endCmd | refine sound_foldl ?_ (fun _ _ _ => ?_)
      | split
      | with_reducible first
          | apply Sound.functions | apply Sound.clamps | apply Sound.sources | apply Sound.targets | apply Sound.log | apply Sound.layout
          | apply Sound.virtual | apply Sound.contexts | apply Sound.queue | apply Sound.sent | refine sound_mk ?_ ?_ ?_ ?_ ?_ ?_ ?_ ?_ ?_ ?_

theorem sound_endModel {x0 : State} {x1 : Model} (h0 : Sound qq oo x0) : Sound qq oo (endModel x0 x1) := by
  unfold endModel
  repeat' first
      | with_reducible assumption
      | with_reducible first
          | apply sound_endSteps | apply sound_endModelReqs

theorem sound_endLost {x0 : State} (h0 : Sound qq oo x0) : Sound qq oo (endLost x0) := by
  unfold endLost
  repeat' first
      | with_reducible assumption
      | with_reducible first
          | apply sound_endModel | refine sound_foldl ?_ (fun _ _ _ => ?_)
      | split

end Sys2Proof.Machine
end

