-- ==== Sys2Proof/Laws/SoundEngines.lean ====
section
/-!
SUPPORT. What every operation of the machine keeps (`Sound`): commands, the Exrad channels and units, the Kiln cores.
-/
namespace Sys2Proof.Machine

open Sys2Proof

variable {qq : List Instr} {oo : List Out}

/-! ## Commands -/

theorem sound_headUp {x0 : State} {x1 : Nat} {x2 : Nat} (h0 : Sound qq oo x0) : Sound qq oo (headUp x0 x1 x2) := by
  unfold headUp
  repeat' first
      | with_reducible assumption | (extract_lets +onlyGivenNames s1; clear_value s1) | with_reducible apply sound_modCmd | split

theorem sound_headsUp {x0 : State} (h0 : Sound qq oo x0) : Sound qq oo (headsUp x0) := by
  unfold headsUp
  repeat' first
      | with_reducible first
          | assumption | apply sound_headUp | refine sound_foldl ?_ (fun _ _ _ => ?_)

theorem sound_settle {x0 : Nat} {x1 : State} (h1 : Sound qq oo x1) : Sound qq oo (settle x0 x1) := by
  induction x0 generalizing x1 with
  | zero =>
    unfold settle
    repeat' first
        | with_reducible assumption
  | succ n ih =>
    unfold settle
    repeat' first
        | with_reducible first
            | assumption | apply ih
        | (extract_lets +onlyGivenNames s1; refine sound_cut (p := Sound qq oo s1) ?_ ?_; subst s1; rotate_left; intro _; clear_value s1)
        | with_reducible first
            | apply sound_headsUp | apply sound_endCmd | apply sound_latchWaits
        | split

theorem sound_settled {x0 : State} (h0 : Sound qq oo x0) : Sound qq oo (settled x0) := by
  unfold settled
  repeat' first
      | with_reducible assumption
      | with_reducible first
          | apply sound_fillCores | apply sound_settle | apply sound_endLost

theorem sound_finish {x0 : State} {x1 : Handle} {x2 : Nat} {x3 : Option Diag} {x4 : Bool} (h0 : Sound qq oo x0) :
    Sound qq oo (finish x0 x1 x2 x3 x4) := by
  unfold finish
  repeat' first
      | with_reducible first
          | assumption | apply sound_settled | apply sound_endCmd

theorem sound_foreignFault {x0 : State} {x1 : Handle} {x2 : Diag} (h0 : Sound qq oo x0) : Sound qq oo (foreignFault x0 x1 x2) := by
  unfold foreignFault
  repeat' first
      | with_reducible assumption
      | with_reducible first
          | apply sound_finish | apply sound_internalEvent

theorem sound_killCmd {x0 : State} {x1 : Handle} (h0 : Sound qq oo x0) : Sound qq oo (killCmd x0 x1) := by
  unfold killCmd
  repeat' first
      | with_reducible assumption
      | (extract_lets +onlyGivenNames s1; refine sound_cut (p := Sound qq oo s1) ?_ ?_; subst s1; rotate_left; intro _; clear_value s1)
      | with_reducible first
          | apply sound_withdrawTokens | apply sound_releaseEngines | apply sound_modCmd | apply sound_modCtx
          | refine sound_foldl ?_ (fun _ _ _ => ?_)
      | split

theorem sound_endReaders {x0 : State} {x1 : Handle} {x2 : Nat} (h0 : Sound qq oo x0) : Sound qq oo (endReaders x0 x1 x2) := by
  unfold endReaders
  repeat' first
      | with_reducible first
          | assumption | apply sound_endCmd | refine sound_foldl ?_ (fun _ _ _ => ?_)

theorem sound_loseStripe {x0 : State} {x1 : Handle} {x2 : Nat} (h0 : Sound qq oo x0) : Sound qq oo (loseStripe x0 x1 x2) := by
  unfold loseStripe
  repeat' first
      | with_reducible assumption
      | (extract_lets +onlyGivenNames s1; refine sound_cut (p := Sound qq oo s1) ?_ ?_; subst s1; rotate_left; intro _; clear_value s1)
      | with_reducible first
          | apply sound_endReaders | apply sound_raise | apply sound_modTensor
      | split

theorem sound_ashEntry {x0 : State} {x1 : Handle} {x2 : Nat} {x3 : Sod} (h0 : Sound qq oo x0) : Sound qq oo (ashEntry x0 x1 x2 x3) := by
  unfold ashEntry
  repeat' first
      | with_reducible assumption
      | (extract_lets +onlyGivenNames s1; refine sound_cut (p := Sound qq oo s1) ?_ ?_; subst s1; rotate_left; intro _; clear_value s1)
      | (extract_lets +onlyGivenNames s1; clear_value s1)
      | with_reducible first
          | apply sound_modTensor | apply Sound.functions | apply Sound.clamps | apply Sound.sources | apply Sound.targets | apply Sound.log
          | apply Sound.layout | apply Sound.virtual | apply Sound.contexts | apply Sound.queue | apply Sound.sent
          | refine sound_mk ?_ ?_ ?_ ?_ ?_ ?_ ?_ ?_ ?_ ?_

theorem sound_noteAsh {x0 : State} {x1 : Handle} {x2 : Nat} (h0 : Sound qq oo x0) : Sound qq oo (noteAsh x0 x1 x2) := by
  unfold noteAsh
  repeat' first
      | with_reducible assumption
      | (extract_lets +onlyGivenNames s1; refine sound_cut (p := Sound qq oo s1) ?_ ?_; subst s1; rotate_left; intro _; clear_value s1)
      | (extract_lets +onlyGivenNames s1; refine sound_cut (p := Sound qq oo s1.1) ?_ ?_; subst s1; rotate_left; intro _; clear_value s1)
      | (extract_lets +onlyGivenNames s1; clear_value s1)
      | with_reducible first
          | apply sound_setPending | apply sound_reassess
      | split
      | with_reducible first
          | apply Sound.functions | apply Sound.clamps | apply Sound.sources | apply Sound.targets | apply Sound.log | apply Sound.layout
          | apply Sound.virtual | apply Sound.contexts | apply Sound.queue | apply Sound.sent | refine sound_mk ?_ ?_ ?_ ?_ ?_ ?_ ?_ ?_ ?_ ?_

theorem sound_makeAsh {x0 : State} {x1 : Handle} {x2 : Nat} (h0 : Sound qq oo x0) : Sound qq oo (makeAsh x0 x1 x2) := by
  unfold makeAsh
  repeat' first
      | with_reducible assumption
      | (extract_lets +onlyGivenNames s1; refine sound_cut (p := Sound qq oo s1) ?_ ?_; subst s1; rotate_left; intro _; clear_value s1)
      | (extract_lets +onlyGivenNames s1; clear_value s1)
      | with_reducible first
          | apply sound_ashEntry | apply sound_noteAsh | apply sound_loseStripe
      | split
      | with_reducible first
          | apply Sound.functions | apply Sound.clamps | apply Sound.sources | apply Sound.targets | apply Sound.log | apply Sound.layout
          | apply Sound.virtual | apply Sound.contexts | apply Sound.queue | apply Sound.sent | refine sound_mk ?_ ?_ ?_ ?_ ?_ ?_ ?_ ?_ ?_ ?_

theorem sound_noteHits {x0 : State} {x1 : Handle} {x2 : List Nat} (h0 : Sound qq oo x0) : Sound qq oo (noteHits x0 x1 x2) := by
  unfold noteHits
  repeat' first
      | with_reducible assumption
      | with_reducible first
          | apply sound_modTensor | refine sound_foldl ?_ (fun _ _ _ => ?_)
      | with_reducible first
          | apply Sound.functions | apply Sound.clamps | apply Sound.sources | apply Sound.targets | apply Sound.log | apply Sound.layout
          | apply Sound.virtual | apply Sound.contexts | apply Sound.queue | apply Sound.sent | refine sound_mk ?_ ?_ ?_ ?_ ?_ ?_ ?_ ?_ ?_ ?_

theorem sound_servedRun {x0 : State} {x1 : Nat} {x2 : Handle} {x3 : Table Sod} {x4 : Nat} {x5 : Nat} {x6 : Nat} {x7 : Traffic} (h0 : Sound qq oo x0) : Sound qq oo (servedRun x0 x1 x2 x3 x4 x5 x6 x7) := by
  unfold servedRun
  repeat' first
      | with_reducible assumption
      | with_reducible first
          | apply sound_serveBursts | apply sound_countTraffic | apply sound_noteHits | refine sound_foldl ?_ (fun _ _ _ => ?_)

theorem sound_spoilSod {x0 : State} {x1 : Table Sod} {x2 : Handle} {x3 : Nat} (h0 : Sound qq oo x0) : Sound qq oo (spoilSod x0 x1 x2 x3) := by
  unfold spoilSod
  repeat' first
      | with_reducible assumption
      | with_reducible first
          | apply sound_makeAsh | apply sound_ashEntry
      | split
      | with_reducible first
          | apply Sound.functions | apply Sound.clamps | apply Sound.sources | apply Sound.targets | apply Sound.log | apply Sound.layout
          | apply Sound.virtual | apply Sound.contexts | apply Sound.queue | apply Sound.sent | refine sound_mk ?_ ?_ ?_ ?_ ?_ ?_ ?_ ?_ ?_ ?_

theorem sound_checkSeeds {x0 : State} {x1 : Handle} {x2 : List Nat} (h0 : Sound qq oo x0) : Sound qq oo (checkSeeds x0 x1 x2) := by
  unfold checkSeeds
  repeat' first
      | with_reducible assumption
      | with_reducible first
          | apply sound_makeAsh | refine sound_foldl ?_ (fun _ _ _ => ?_)
      | split

theorem sound_checkSods {x0 : State} {x1 : Table Sod} {x2 : Handle} {x3 : List Nat} (h0 : Sound qq oo x0) : Sound qq oo (checkSods x0 x1 x2 x3).1 := by
  unfold checkSods
  repeat' first
      | with_reducible assumption
      | with_reducible first
          | apply sound_spoilSod
      | split
      | with_reducible first
          | apply Sound.functions | apply Sound.clamps | apply Sound.sources | apply Sound.targets | apply Sound.log | apply Sound.layout
          | apply Sound.virtual | apply Sound.contexts | apply Sound.queue | apply Sound.sent | refine sound_mk ?_ ?_ ?_ ?_ ?_ ?_ ?_ ?_ ?_ ?_

theorem sound_checkSods_eq {x0 : State} {x1 : Table Sod} {x2 : Handle} {x3 : List Nat} {t : State} {r : _} (h0 : Sound qq oo x0)
    (e : checkSods x0 x1 x2 x3 = (t, r)) : Sound qq oo t := by
  have h := @sound_checkSods qq oo x0 x1 x2 x3 h0
  rw [e] at h
  exact h

theorem sound_dataError {x0 : State} {x1 : Handle} {x2 : Handle} {x3 : Nat} (h0 : Sound qq oo x0) : Sound qq oo (dataError x0 x1 x2 x3) := by
  unfold dataError
  repeat' first
      | with_reducible assumption
      | (extract_lets +onlyGivenNames s1; refine sound_cut (p := Sound qq oo s1) ?_ ?_; subst s1; rotate_left; intro _; clear_value s1)
      | (extract_lets +onlyGivenNames s1; clear_value s1)
      | with_reducible first
          | apply sound_spoilSod | apply sound_finish | apply sound_settled | apply sound_modCmd | apply sound_killCmd
      | split
      | with_reducible first
          | apply Sound.functions | apply Sound.clamps | apply Sound.sources | apply Sound.targets | apply Sound.log | apply Sound.layout
          | apply Sound.virtual | apply Sound.contexts | apply Sound.queue | apply Sound.sent | refine sound_mk ?_ ?_ ?_ ?_ ?_ ?_ ?_ ?_ ?_ ?_

theorem sound_destroyTensor {x0 : State} {x1 : Handle} (h0 : Sound qq oo x0) : Sound qq oo (destroyTensor x0 x1) := by
  unfold destroyTensor
  repeat' first
      | with_reducible first
          | assumption | apply sound_dropSlot | apply sound_modTensor

theorem sound_dropCommands {x0 : State} {x1 : Nat} (h0 : Sound qq oo x0) : Sound qq oo (dropCommands x0 x1) := by
  unfold dropCommands
  repeat' first
      | with_reducible first
          | assumption | apply sound_endCmd | refine sound_foldl ?_ (fun _ _ _ => ?_)

theorem sound_dropContext {x0 : State} {x1 : Nat} (h0 : Sound qq oo x0) : Sound qq oo (dropContext x0 x1) := by
  unfold dropContext
  repeat' first
      | with_reducible assumption | (extract_lets +onlyGivenNames s1; clear_value s1)
      | with_reducible first
          | apply rising_tdel | apply Sound.functions | apply Sound.clamps | apply Sound.sources | apply Sound.targets | apply Sound.log
          | apply Sound.layout | apply Sound.virtual | apply Sound.contexts | apply Sound.queue | apply Sound.sent
          | refine sound_mk ?_ ?_ ?_ ?_ ?_ ?_ ?_ ?_ ?_ ?_

/-! ## EmberOps -/

theorem sound_modChan {x0 : State} {x1 : Nat} {x2 : Nat} {x3 : Chan → Chan} (h0 : Sound qq oo x0) : Sound qq oo (modChan x0 x1 x2 x3) := by
  unfold modChan
  repeat' first
      | with_reducible assumption | (extract_lets +onlyGivenNames s1; clear_value s1)
      | with_reducible first
          | apply Sound.functions | apply Sound.clamps | apply Sound.sources | apply Sound.targets | apply Sound.log | apply Sound.layout
          | apply Sound.virtual | apply Sound.contexts | apply Sound.queue | apply Sound.sent | refine sound_mk ?_ ?_ ?_ ?_ ?_ ?_ ?_ ?_ ?_ ?_

theorem sound_setUnit {x0 : State} {x1 : Nat} {x2 : Nat} {x3 : Nat} {x4 : EUnit} (h0 : Sound qq oo x0) : Sound qq oo (setUnit x0 x1 x2 x3 x4) := by
  unfold setUnit
  repeat' first
      | with_reducible first
          | assumption | apply sound_modChan

theorem sound_unitFault {x0 : State} {x1 : Nat} {x2 : Nat} {x3 : Nat} {x4 : Nat} {x5 : Nat} (h0 : Sound qq oo x0) :
    Sound qq oo (unitFault x0 x1 x2 x3 x4 x5) := by
  unfold unitFault
  repeat' first
      | with_reducible assumption
      | (extract_lets +onlyGivenNames s1; refine sound_cut (p := Sound qq oo s1) ?_ ?_; subst s1; rotate_left; intro _; clear_value s1)
      | (extract_lets +onlyGivenNames s1; clear_value s1)
      | with_reducible first
          | apply sound_setUnit | apply sound_modChan | apply sound_finish
      | split

theorem sound_reseedPart {x0 : State} {x1 : Handle} {x2 : Nat} (h0 : Sound qq oo x0) : Sound qq oo (reseedPart x0 x1 x2) := by
  unfold reseedPart
  repeat' first
      | with_reducible assumption
      | (extract_lets +onlyGivenNames s1; refine sound_cut (p := Sound qq oo s1) ?_ ?_; subst s1; rotate_left; intro _; clear_value s1)
      | (extract_lets +onlyGivenNames s1; refine sound_cut (p := Sound qq oo s1.1) ?_ ?_; subst s1; rotate_left; intro _; clear_value s1)
      | (extract_lets +onlyGivenNames s1; clear_value s1)
      | with_reducible first
          | apply sound_checkSeeds | apply sound_modCmd | refine sound_foldl ?_ (fun _ _ _ => ?_)
      | split
      | with_reducible first
          | apply Sound.functions | apply Sound.clamps | apply Sound.sources | apply Sound.targets | apply Sound.log | apply Sound.layout
          | apply Sound.virtual | apply Sound.contexts | apply Sound.queue | apply Sound.sent | refine sound_mk ?_ ?_ ?_ ?_ ?_ ?_ ?_ ?_ ?_ ?_

theorem sound_haltUnit {x0 : EUnit → EUnit} {x1 : State} {x2 : Nat} {x3 : Nat} {x4 : Nat} (h1 : Sound qq oo x1) : Sound qq oo (haltUnit x0 x1 x2 x3 x4) := by
  unfold haltUnit
  repeat' first
      | with_reducible assumption
      | (extract_lets +onlyGivenNames s1; refine sound_cut (p := Sound qq oo s1) ?_ ?_; subst s1; rotate_left; intro _; clear_value s1)
      | (extract_lets +onlyGivenNames s1; refine sound_cut (p := Sound qq oo s1.1) ?_ ?_; subst s1; rotate_left; intro _; clear_value s1)
      | (extract_lets +onlyGivenNames s1; clear_value s1)
      | with_reducible first
          | apply sound_setUnit | apply sound_idleChans | apply sound_reseedPart
      | split
      | with_reducible first
          | apply Sound.functions | apply Sound.clamps | apply Sound.sources | apply Sound.targets | apply Sound.log | apply Sound.layout
          | apply Sound.virtual | apply Sound.contexts | apply Sound.queue | apply Sound.sent | refine sound_mk ?_ ?_ ?_ ?_ ?_ ?_ ?_ ?_ ?_ ?_

theorem sound_stopUnit {x0 : State} {x1 : Nat} {x2 : Nat} {x3 : Nat} (h0 : Sound qq oo x0) : Sound qq oo (stopUnit x0 x1 x2 x3) := by
  unfold stopUnit
  repeat' first
      | with_reducible assumption
      | with_reducible first
          | apply sound_haltUnit

theorem sound_evictOthers {x0 : State} {x1 : Nat} {x2 : Nat} {x3 : Nat} (h0 : Sound qq oo x0) : Sound qq oo (evictOthers x0 x1 x2 x3) := by
  unfold evictOthers
  repeat' first
      | with_reducible first
          | assumption | apply sound_stopUnit | refine sound_foldl ?_ (fun _ _ _ => ?_)

theorem sound_claimUnit {x0 : State} {x1 : Nat} {x2 : Nat} {x3 : Nat} {x4 : Nat} (h0 : Sound qq oo x0) : Sound qq oo (claimUnit x0 x1 x2 x3 x4) := by
  unfold claimUnit
  repeat' first
      | with_reducible assumption
      | (extract_lets +onlyGivenNames s1; refine sound_cut (p := Sound qq oo s1) ?_ ?_; subst s1; rotate_left; intro _; clear_value s1)
      | (extract_lets +onlyGivenNames s1; refine sound_cut (p := Sound qq oo s1.1) ?_ ?_; subst s1; rotate_left; intro _; clear_value s1)
      | (extract_lets +onlyGivenNames s1; clear_value s1)
      | with_reducible first
          | apply sound_evictOthers | apply sound_modChan | apply sound_setUnit
      | split
      | with_reducible first
          | apply Sound.functions | apply Sound.clamps | apply Sound.sources | apply Sound.targets | apply Sound.log | apply Sound.layout
          | apply Sound.virtual | apply Sound.contexts | apply Sound.queue | apply Sound.sent | refine sound_mk ?_ ?_ ?_ ?_ ?_ ?_ ?_ ?_ ?_ ?_

theorem sound_takeChan {x0 : State} {x1 : Nat} {x2 : Nat} {x3 : Nat} (h0 : Sound qq oo x0) : Sound qq oo (takeChan x0 x1 x2 x3) := by
  unfold takeChan
  repeat' first
      | with_reducible assumption
      | (extract_lets +onlyGivenNames s1; refine sound_cut (p := Sound qq oo s1) ?_ ?_; subst s1; rotate_left; intro _; clear_value s1)
      | (extract_lets +onlyGivenNames s1; refine sound_cut (p := Sound qq oo s1.1) ?_ ?_; subst s1; rotate_left; intro _; clear_value s1)
      | (extract_lets +onlyGivenNames s1; clear_value s1)
      | split
      | with_reducible first
          | apply Sound.functions | apply Sound.clamps | apply Sound.sources | apply Sound.targets | apply Sound.log | apply Sound.layout
          | apply Sound.virtual | apply Sound.contexts | apply Sound.queue | apply Sound.sent | refine sound_mk ?_ ?_ ?_ ?_ ?_ ?_ ?_ ?_ ?_ ?_

theorem sound_startPart {x0 : State} {x1 : Nat} {x2 : Nat} {x3 : Nat} {x4 : Cmd} {x5 : InbankBlock} {x6 : Nat} {x7 : Nat} {x8 : Nat} {x9 : Bool} (h0 : Sound qq oo x0) : Sound qq oo (startPart x0 x1 x2 x3 x4 x5 x6 x7 x8 x9) := by
  unfold startPart
  repeat' first
      | with_reducible assumption
      | (extract_lets +onlyGivenNames s1; refine sound_cut (p := Sound qq oo s1) ?_ ?_; subst s1; rotate_left; intro _; clear_value s1)
      | (extract_lets +onlyGivenNames s1; refine sound_cut (p := Sound qq oo s1.1) ?_ ?_; subst s1; rotate_left; intro _; clear_value s1)
      | (extract_lets +onlyGivenNames s1; refine sound_cut (p := s1.vfEnabled = s1.vfEnabled) rfl ?_; intro _; subst s1)
      | (extract_lets +onlyGivenNames s1; clear_value s1)
      | with_reducible first
          | apply sound_claimUnit | apply sound_finish | apply sound_foreignFault | apply sound_spoilSod | apply sound_dataError | apply sound_modChan
          | apply sound_takeChan | apply sound_setUnit
      | split
      | with_reducible first
          | apply Sound.functions | apply Sound.clamps | apply Sound.sources | apply Sound.targets | apply Sound.log | apply Sound.layout
          | apply Sound.virtual | apply Sound.contexts | apply Sound.queue | apply Sound.sent | refine sound_mk ?_ ?_ ?_ ?_ ?_ ?_ ?_ ?_ ?_ ?_

theorem sound_markDone {x0 : State} {x1 : Handle} (h0 : Sound qq oo x0) : Sound qq oo (markDone x0 x1) := by
  unfold markDone
  repeat' first
      | with_reducible first
          | assumption | apply sound_modCmd
      | split

/-! ## Ember -/

theorem sound_execProcessorModeRequest {x0 : Nat} {x1 : Nat} {x2 : Bool} {x3 : State} (h3 : Sound qq oo x3) :
    NSound qq oo (execProcessorModeRequest x0 x1 x2 x3) := by
  unfold execProcessorModeRequest
  show Sound qq oo _
  repeat' first
      | with_reducible first
          | assumption | apply sound_modChan
      | split

theorem sound_requestMemory {x0 : State} {x1 : Nat} {x2 : Nat} (h0 : Sound qq oo x0) : Sound qq oo (requestMemory x0 x1 x2) := by
  unfold requestMemory
  repeat' first
      | with_reducible first
          | assumption | apply sound_modChan
      | split

theorem sound_execMemoryModeRequest {x0 : Nat} {x1 : Nat} {x2 : State} (h2 : Sound qq oo x2) : NSound qq oo (execMemoryModeRequest x0 x1 x2) := by
  unfold execMemoryModeRequest
  show Sound qq oo _
  repeat' first
      | with_reducible first
          | assumption | apply sound_requestMemory

theorem sound_execHoldLimitExpiry {x0 : Nat} {x1 : Nat} {x2 : State} (h2 : Sound qq oo x2) : NSound qq oo (execHoldLimitExpiry x0 x1 x2) := by
  unfold execHoldLimitExpiry
  show Sound qq oo _
  repeat' first
      | with_reducible assumption
      | with_reducible first
          | apply sound_requestMemory
      | split

theorem sound_stokerStart {x0 : State} {x1 : Nat} {x2 : Nat} {x3 : Nat} {x4 : Nat} {x5 : Nat} (h0 : Sound qq oo x0) :
    Sound qq oo (stokerStart x0 x1 x2 x3 x4 x5) := by
  unfold stokerStart
  repeat' first
      | with_reducible assumption | (extract_lets +onlyGivenNames s1; clear_value s1)
      | with_reducible first
          | apply sound_startPart | apply sound_setUnit | apply sound_modChan
      | split

theorem sound_execEmbStart {x0 : Nat} {x1 : Nat} {x2 : Nat} {x3 : Nat} {x4 : Nat} {x5 : State} (h5 : Sound qq oo x5) :
    NSound qq oo (execEmbStart x0 x1 x2 x3 x4 x5) := by
  unfold execEmbStart
  show Sound qq oo _
  repeat' first
      | with_reducible first
          | assumption | apply sound_stokerStart

theorem sound_execEmbStop {x0 : Nat} {x1 : Nat} {x2 : Nat} {x3 : State} (h3 : Sound qq oo x3) : NSound qq oo (execEmbStop x0 x1 x2 x3) := by
  unfold execEmbStop
  show Sound qq oo _
  repeat' first
      | with_reducible first
          | assumption | apply sound_stopUnit

theorem sound_resumeUnit {x0 : State} {x1 : Nat} {x2 : Nat} {x3 : Nat} (h0 : Sound qq oo x0) : Sound qq oo (resumeUnit x0 x1 x2 x3) := by
  unfold resumeUnit
  repeat' first
      | with_reducible assumption
      | (extract_lets +onlyGivenNames s1; refine sound_cut (p := Sound qq oo s1) ?_ ?_; subst s1; rotate_left; intro _; clear_value s1)
      | (extract_lets +onlyGivenNames s1; refine sound_cut (p := Sound qq oo s1.1) ?_ ?_; subst s1; rotate_left; intro _; clear_value s1)
      | (extract_lets +onlyGivenNames s1; clear_value s1)
      | with_reducible first
          | apply sound_takeChan | apply sound_setUnit
      | split
      | with_reducible first
          | apply Sound.functions | apply Sound.clamps | apply Sound.sources | apply Sound.targets | apply Sound.log | apply Sound.layout
          | apply Sound.virtual | apply Sound.contexts | apply Sound.queue | apply Sound.sent | refine sound_mk ?_ ?_ ?_ ?_ ?_ ?_ ?_ ?_ ?_ ?_

theorem sound_execEmbResume {x0 : Nat} {x1 : Nat} {x2 : Nat} {x3 : State} (h3 : Sound qq oo x3) : NSound qq oo (execEmbResume x0 x1 x2 x3) := by
  unfold execEmbResume
  show Sound qq oo _
  repeat' first
      | with_reducible first
          | assumption | apply sound_resumeUnit

theorem sound_execEmbStatusClear {x0 : Nat} {x1 : Nat} {x2 : Nat} {x3 : State} (h3 : Sound qq oo x3) :
    NSound qq oo (execEmbStatusClear x0 x1 x2 x3) := by
  unfold execEmbStatusClear
  show Sound qq oo _
  repeat' first
      | with_reducible first
          | assumption | apply sound_setUnit
      | split

theorem sound_releaseHeld {x0 : State} {x1 : Nat} {x2 : Nat} (h0 : Sound qq oo x0) : Sound qq oo (releaseHeld x0 x1 x2) := by
  unfold releaseHeld
  repeat' first
      | with_reducible assumption | (extract_lets +onlyGivenNames s1; clear_value s1)
      | with_reducible first
          | apply sound_stokerStart | apply sound_setUnit | refine sound_foldl ?_ (fun _ _ _ => ?_)
      | split

theorem sound_execProcessorModeEntered {x0 : Nat} {x1 : Nat} {x2 : State} (h2 : Sound qq oo x2) :
    NSound qq oo (execProcessorModeEntered x0 x1 x2) := by
  unfold execProcessorModeEntered
  show Sound qq oo _
  repeat' first
      | with_reducible assumption
      | (extract_lets +onlyGivenNames s1; refine sound_cut (p := Sound qq oo s1) ?_ ?_; subst s1; rotate_left; intro _; clear_value s1)
      | with_reducible first
          | apply sound_releaseHeld | apply sound_modChan | apply sound_gather
      | split

theorem sound_chargeChan {x0 : State} {x1 : Nat} {x2 : Nat} (h0 : Sound qq oo x0) : Sound qq oo (chargeChan x0 x1 x2) := by
  unfold chargeChan
  repeat' first
      | with_reducible assumption
      | (extract_lets +onlyGivenNames s1; refine sound_cut (p := Sound qq oo s1) ?_ ?_; subst s1; rotate_left; intro _; clear_value s1)
      | (extract_lets +onlyGivenNames s1; clear_value s1) | with_reducible apply sound_charge | split
      | with_reducible first
          | apply Sound.functions | apply Sound.clamps | apply Sound.sources | apply Sound.targets | apply Sound.log | apply Sound.layout
          | apply Sound.virtual | apply Sound.contexts | apply Sound.queue | apply Sound.sent | refine sound_mk ?_ ?_ ?_ ?_ ?_ ?_ ?_ ?_ ?_ ?_

theorem sound_execMemoryModeEntered {x0 : Nat} {x1 : Nat} {x2 : State} (h2 : Sound qq oo x2) : NSound qq oo (execMemoryModeEntered x0 x1 x2) := by
  unfold execMemoryModeEntered
  show Sound qq oo _
  repeat' first
      | with_reducible assumption
      | (extract_lets +onlyGivenNames s1; refine sound_cut (p := Sound qq oo s1) ?_ ?_; subst s1; rotate_left; intro _; clear_value s1)
      | (extract_lets +onlyGivenNames s1; refine sound_cut (p := Sound qq oo s1.1) ?_ ?_; subst s1; rotate_left; intro _; clear_value s1)
      | (extract_lets +onlyGivenNames s1; clear_value s1)
      | with_reducible first
          | apply sound_chargeChan | apply sound_gather | apply sound_modChan | apply sound_noteActive
      | split
      | with_reducible first
          | apply Sound.functions | apply Sound.clamps | apply Sound.sources | apply Sound.targets | apply Sound.log | apply Sound.layout
          | apply Sound.virtual | apply Sound.contexts | apply Sound.queue | apply Sound.sent | refine sound_mk ?_ ?_ ?_ ?_ ?_ ?_ ?_ ?_ ?_ ?_

theorem sound_execRefreshDue {x0 : Nat} {x1 : Nat} {x2 : State} (h2 : Sound qq oo x2) : NSound qq oo (execRefreshDue x0 x1 x2) := by
  unfold execRefreshDue
  show Sound qq oo _
  repeat' first
      | with_reducible assumption | (extract_lets +onlyGivenNames s1; clear_value s1)
      | with_reducible first
          | apply sound_modChan | apply sound_gather
      | split

theorem sound_execRefreshComplete {x0 : Nat} {x1 : Nat} {x2 : State} (h2 : Sound qq oo x2) : NSound qq oo (execRefreshComplete x0 x1 x2) := by
  unfold execRefreshComplete
  show Sound qq oo _
  repeat' first
      | with_reducible first
          | assumption | apply sound_modChan
      | split

theorem sound_execRowReseal {x0 : Nat} {x1 : Nat} {x2 : Nat} {x3 : Nat} {x4 : MemErr} {x5 : State} (h5 : Sound qq oo x5) : NSound qq oo (execRowReseal x0 x1 x2 x3 x4 x5) := by
  unfold execRowReseal
  show Sound qq oo _
  repeat' first
      | with_reducible assumption
      | (extract_lets +onlyGivenNames s1; refine sound_cut (p := Sound qq oo s1) ?_ ?_; subst s1; rotate_left; intro _; clear_value s1)
      | (extract_lets +onlyGivenNames s1; refine sound_cut (p := Sound qq oo s1.1) ?_ ?_; subst s1; rotate_left; intro _; clear_value s1)
      | (extract_lets +onlyGivenNames s1; refine sound_cut (p := s1.vfEnabled = s1.vfEnabled) rfl ?_; intro _; subst s1)
      | (extract_lets +onlyGivenNames s1; clear_value s1)
      | with_reducible first
          | apply sound_serveBursts | apply sound_countTraffic | apply sound_settled | apply sound_makeAsh | apply sound_modChan
      | split
      | with_reducible first
          | apply Sound.functions | apply Sound.clamps | apply Sound.sources | apply Sound.targets | apply Sound.log | apply Sound.layout
          | apply Sound.virtual | apply Sound.contexts | apply Sound.queue | apply Sound.sent | refine sound_mk ?_ ?_ ?_ ?_ ?_ ?_ ?_ ?_ ?_ ?_

theorem sound_windowCmd {x0 : State} {x1 : Nat} {x2 : Nat} {x3 : Nat} {x4 : Cmd} {x5 : InbankBlock} {x6 : Nat} {x7 : Nat} (h0 : Sound qq oo x0) : WSound qq oo (windowCmd x0 x1 x2 x3 x4 x5 x6 x7) := by
  unfold windowCmd
  repeat' first
      | with_reducible assumption
      | (extract_lets +onlyGivenNames s1; refine sound_cut (p := Sound qq oo s1) ?_ ?_; subst s1; rotate_left; intro _; clear_value s1)
      | (extract_lets +onlyGivenNames s1; clear_value s1)
      | with_reducible first
          | apply wsound_fault | apply wsound_wait | apply wsound_ok | apply sound_startPart | apply sound_haltUnit | apply sound_resumeUnit
      | split
      | with_reducible first
          | apply Sound.functions | apply Sound.clamps | apply Sound.sources | apply Sound.targets | apply Sound.log | apply Sound.layout
          | apply Sound.virtual | apply Sound.contexts | apply Sound.queue | apply Sound.sent | refine sound_mk ?_ ?_ ?_ ?_ ?_ ?_ ?_ ?_ ?_ ?_

theorem sound_unitAccess {x0 : State} {x1 : Cmd} {x2 : InbankBlock} {x3 : Nat} {x4 : Nat} {x5 : Nat} {x6 : Nat} {x7 : Nat} {x8 : Nat} {x9 : Option (List Byte)} (h0 : Sound qq oo x0) : WSound qq oo (unitAccess x0 x1 x2 x3 x4 x5 x6 x7 x8 x9) := by
  unfold unitAccess
  repeat' first
      | with_reducible assumption
      | (extract_lets +onlyGivenNames s1; refine sound_cut (p := Sound qq oo s1) ?_ ?_; subst s1; rotate_left; intro _; clear_value s1)
      | (extract_lets +onlyGivenNames s1; refine sound_cut (p := Sound qq oo s1.1) ?_ ?_; subst s1; rotate_left; intro _; clear_value s1)
      | (extract_lets +onlyGivenNames s1; clear_value s1)
      | with_reducible first
          | apply wsound_fault | apply wsound_wait | apply wsound_ok | apply sound_setUnit | apply sound_modChan | apply sound_windowCmd
          | refine sound_foldl ?_ (fun _ _ _ => ?_)
      | refine wsound_use ?_ (by assumption)
      | split
      | with_reducible first
          | apply Sound.functions | apply Sound.clamps | apply Sound.sources | apply Sound.targets | apply Sound.log | apply Sound.layout
          | apply Sound.virtual | apply Sound.contexts | apply Sound.queue | apply Sound.sent | refine sound_mk ?_ ?_ ?_ ?_ ?_ ?_ ?_ ?_ ?_ ?_

theorem sound_windowAccess {x0 : State} {x1 : Cmd} {x2 : InbankBlock} {x3 : Nat} {x4 : Nat} {x5 : Nat} {x6 : Option (List Byte)} (h0 : Sound qq oo x0) : WSound qq oo (windowAccess x0 x1 x2 x3 x4 x5 x6) := by
  unfold windowAccess
  repeat' first
      | with_reducible assumption
      | (extract_lets +onlyGivenNames s1; refine sound_cut (p := Sound qq oo s1) ?_ ?_; subst s1; rotate_left; intro _; clear_value s1)
      | (extract_lets +onlyGivenNames s1; refine sound_cut (p := Sound qq oo s1.1) ?_ ?_; subst s1; rotate_left; intro _; clear_value s1)
      | (extract_lets +onlyGivenNames s1; clear_value s1)
      | with_reducible first
          | apply wsound_fault | apply wsound_wait | apply wsound_ok | apply sound_unitAccess | apply sound_claimUnit
      | refine wsound_use ?_ (by assumption)
      | split
      | with_reducible first
          | apply Sound.functions | apply Sound.clamps | apply Sound.sources | apply Sound.targets | apply Sound.log | apply Sound.layout
          | apply Sound.virtual | apply Sound.contexts | apply Sound.queue | apply Sound.sent | refine sound_mk ?_ ?_ ?_ ?_ ?_ ?_ ?_ ?_ ?_ ?_

theorem sound_windowBurst {x0 : State} {x1 : Cmd} {x2 : InbankBlock} {x3 : Nat} {x4 : Option (List Byte)} (h0 : Sound qq oo x0) : WSound qq oo (windowBurst x0 x1 x2 x3 x4) := by
  unfold windowBurst
  repeat' first
      | with_reducible assumption
      | with_reducible first
          | apply wsound_fault | apply wsound_wait | apply wsound_ok | apply sound_windowAccess
      | refine wsound_use ?_ (by assumption)
      | split
      | with_reducible first
          | apply Sound.functions | apply Sound.clamps | apply Sound.sources | apply Sound.targets | apply Sound.log | apply Sound.layout
          | apply Sound.virtual | apply Sound.contexts | apply Sound.queue | apply Sound.sent | refine sound_mk ?_ ?_ ?_ ?_ ?_ ?_ ?_ ?_ ?_ ?_

/-! ## Clock -/

theorem sound_noteUnits {x0 : State} (h0 : Sound qq oo x0) : Sound qq oo (noteUnits x0) := by
  unfold noteUnits
  repeat' first
      | with_reducible assumption
      | split
      | with_reducible first
          | apply Sound.functions | apply Sound.clamps | apply Sound.sources | apply Sound.targets | apply Sound.log | apply Sound.layout
          | apply Sound.virtual | apply Sound.contexts | apply Sound.queue | apply Sound.sent | refine sound_mk ?_ ?_ ?_ ?_ ?_ ?_ ?_ ?_ ?_ ?_

theorem sound_tick {x0 : State} (h0 : Sound qq oo x0) : Sound qq oo (tick x0) := by
  unfold tick
  repeat' first
      | with_reducible assumption
      | with_reducible first
          | apply sound_noteUnits
      | split
      | with_reducible first
          | apply Sound.functions | apply Sound.clamps | apply Sound.sources | apply Sound.targets | apply Sound.log | apply Sound.layout
          | apply Sound.virtual | apply Sound.contexts | apply Sound.queue | apply Sound.sent | refine sound_mk ?_ ?_ ?_ ?_ ?_ ?_ ?_ ?_ ?_ ?_

/-! ## FlueOps -/

theorem sound_issueToken {x0 : State} {x1 : Nat} {x2 : Nat} {x3 : Nat} {x4 : Nat} {x5 : Nat} (h0 : Sound qq oo x0) :
    Sound qq oo (issueToken x0 x1 x2 x3 x4 x5) := by
  unfold issueToken
  repeat' first
      | with_reducible assumption
      | (extract_lets +onlyGivenNames s1; refine sound_cut (p := Sound qq oo s1) ?_ ?_; subst s1; rotate_left; intro _; clear_value s1)
      | (extract_lets +onlyGivenNames s1; clear_value s1) | with_reducible apply sound_sendMsg | split
      | with_reducible first
          | apply Sound.functions | apply Sound.clamps | apply Sound.sources | apply Sound.targets | apply Sound.log | apply Sound.layout
          | apply Sound.virtual | apply Sound.contexts | apply Sound.queue | apply Sound.sent | refine sound_mk ?_ ?_ ?_ ?_ ?_ ?_ ?_ ?_ ?_ ?_

theorem sound_issueTokens {x0 : State} {x1 : Nat} {x2 : Nat} {x3 : Nat} {x4 : Nat} {x5 : Nat} (h0 : Sound qq oo x0) :
    Sound qq oo (issueTokens x0 x1 x2 x3 x4 x5) := by
  unfold issueTokens
  repeat' first
      | with_reducible first
          | assumption | apply sound_issueToken | refine sound_foldl ?_ (fun _ _ _ => ?_)
      | split

/-! ## KilnOps -/

theorem sound_accFault {x0 : State} {x1 : Tile} {x2 : Nat} {x3 : Nat} {x4 : Nat} (h0 : Sound qq oo x0) : Sound qq oo (accFault x0 x1 x2 x3 x4) := by
  unfold accFault
  repeat' first
      | with_reducible first
          | assumption | apply sound_finish

theorem sound_exeFault {x0 : State} {x1 : Tile} {x2 : Nat} (h0 : Sound qq oo x0) : Sound qq oo (exeFault x0 x1 x2) := by
  unfold exeFault
  repeat' first
      | with_reducible first
          | assumption | apply sound_finish

theorem sound_fetchError {x0 : State} {x1 : Tile} {x2 : Cmd} {x3 : Launch} {x4 : Nat} {x5 : Nat} {x6 : Nat} (h0 : Sound qq oo x0) : Sound qq oo (fetchError x0 x1 x2 x3 x4 x5 x6) := by
  unfold fetchError
  repeat' first
      | with_reducible assumption
      | (extract_lets +onlyGivenNames s1; refine sound_cut (p := Sound qq oo s1) ?_ ?_; subst s1; rotate_left; intro _; clear_value s1)
      | (extract_lets +onlyGivenNames s1; refine sound_cut (p := Sound qq oo s1.1) ?_ ?_; subst s1; rotate_left; intro _; clear_value s1)
      | (extract_lets +onlyGivenNames s1; refine sound_cut (p := s1.vfEnabled = s1.vfEnabled) rfl ?_; intro _; subst s1)
      | (extract_lets +onlyGivenNames s1; clear_value s1)
      | with_reducible first
          | apply sound_finish | apply sound_spoilSod
      | split

theorem sound_fetchForeign {x0 : State} {x1 : Tile} {x2 : Nat} {x3 : Nat} (h0 : Sound qq oo x0) : Sound qq oo (fetchForeign x0 x1 x2 x3) := by
  unfold fetchForeign
  repeat' first
      | with_reducible assumption
      | (extract_lets +onlyGivenNames s1; refine sound_cut (p := Sound qq oo s1) ?_ ?_; subst s1; rotate_left; intro _; clear_value s1)
      | (extract_lets +onlyGivenNames s1; clear_value s1)
      | with_reducible first
          | apply sound_internalEvent | apply sound_accFault | apply sound_exeFault
      | split

theorem sound_breakEvent {x0 : State} {x1 : Tile} {x2 : Bool} (h0 : Sound qq oo x0) : Sound qq oo (breakEvent x0 x1 x2) := by
  unfold breakEvent
  repeat' first
      | with_reducible first
          | assumption | apply sound_raise

theorem sound_retired {x0 : State} {x1 : Tile} {x2 : Bool} {x3 : Option Nat} (h0 : Sound qq oo x0) : Sound qq oo (retired x0 x1 x2 x3) := by
  unfold retired
  repeat' first
      | with_reducible assumption
      | (extract_lets +onlyGivenNames s1; refine sound_cut (p := Sound qq oo s1) ?_ ?_; subst s1; rotate_left; intro _; clear_value s1)
      | (extract_lets +onlyGivenNames s1; clear_value s1)
      | with_reducible first
          | apply sound_breakEvent | apply sound_modTile | apply sound_modCtx
      | split

theorem sound_askParked {x0 : State} {x1 : Parked} (h0 : Sound qq oo x0) : Sound qq oo (askParked x0 x1) := by
  unfold askParked
  repeat' first
      | with_reducible assumption
      | with_reducible first
          | apply sound_issueToken | refine sound_foldl ?_ (fun _ _ _ => ?_)
      | split

theorem sound_parkTile {x0 : State} {x1 : Tile} {x2 : Nat} {x3 : Nat} (h0 : Sound qq oo x0) : Sound qq oo (parkTile x0 x1 x2 x3) := by
  unfold parkTile
  repeat' first
      | with_reducible assumption
      | (extract_lets +onlyGivenNames s1; refine sound_cut (p := Sound qq oo s1) ?_ ?_; subst s1; rotate_left; intro _; clear_value s1)
      | (extract_lets +onlyGivenNames s1; refine sound_cut (p := Sound qq oo s1.1) ?_ ?_; subst s1; rotate_left; intro _; clear_value s1)
      | (extract_lets +onlyGivenNames s1; clear_value s1)
      | with_reducible first
          | apply sound_withdrawTokens | apply sound_killTile | apply sound_askParked
      | split
      | with_reducible first
          | apply Sound.functions | apply Sound.clamps | apply Sound.sources | apply Sound.targets | apply Sound.log | apply Sound.layout
          | apply Sound.virtual | apply Sound.contexts | apply Sound.queue | apply Sound.sent | refine sound_mk ?_ ?_ ?_ ?_ ?_ ?_ ?_ ?_ ?_ ?_

theorem sound_unpark {x0 : State} {x1 : Nat} {x2 : Nat} {x3 : Nat} {x4 : Bool} (h0 : Sound qq oo x0) : Sound qq oo (unpark x0 x1 x2 x3 x4) := by
  unfold unpark
  repeat' first
      | with_reducible assumption
      | with_reducible first
          | refine sound_foldl ?_ (fun _ _ _ => ?_)
      | with_reducible first
          | apply Sound.functions | apply Sound.clamps | apply Sound.sources | apply Sound.targets | apply Sound.log | apply Sound.layout
          | apply Sound.virtual | apply Sound.contexts | apply Sound.queue | apply Sound.sent | refine sound_mk ?_ ?_ ?_ ?_ ?_ ?_ ?_ ?_ ?_ ?_

/-! ## KilnExec -/

theorem sound_issueExec {x0 : Nat} {x1 : Body} {x2 : State} {x3 : Nat} {x4 : Nat} (h2 : Sound qq oo x2) : Sound qq oo (issueExec x0 x1 x2 x3 x4) := by
  unfold issueExec
  repeat' first
      | with_reducible assumption
      | with_reducible first
          | apply sound_exeFault | apply sound_fetchForeign | apply sound_fetchError | apply sound_modTile | apply sound_settled
          | apply sound_parkTile | apply sound_retired | apply prefix_append
      | split
      | with_reducible first
          | apply Sound.functions | apply Sound.clamps | apply Sound.sources | apply Sound.targets | apply Sound.log | apply Sound.layout
          | apply Sound.virtual | apply Sound.contexts | apply Sound.queue | apply Sound.sent | refine sound_mk ?_ ?_ ?_ ?_ ?_ ?_ ?_ ?_ ?_ ?_

theorem sound_hopelessNow {x0 : State} {x1 : Nat} {x2 : Nat} (h0 : Sound qq oo x0) : Sound qq oo (hopelessNow x0 x1 x2) := by
  unfold hopelessNow
  repeat' first
      | with_reducible assumption
      | with_reducible first
          | apply sound_exeFault
      | split
      | with_reducible first
          | apply Sound.functions | apply Sound.clamps | apply Sound.sources | apply Sound.targets | apply Sound.log | apply Sound.layout
          | apply Sound.virtual | apply Sound.contexts | apply Sound.queue | apply Sound.sent | refine sound_mk ?_ ?_ ?_ ?_ ?_ ?_ ?_ ?_ ?_ ?_

end Sys2Proof.Machine
end

