-- ==== Sys2Proof/Laws/SoundFlue.lean ====
section
/-!
SUPPORT. What every operation of the machine keeps (`Sound`): transfers, the serving engine, the Slane engines.
-/
namespace Sys2Proof.Machine

open Sys2Proof

variable {qq : List Instr} {oo : List Out}

/-! ## Operands -/

theorem sound_addQueued {x0 : Packet} {x1 : Handle} {x2 : Work} {x3 : State} (h3 : Sound qq oo x3) : Sound qq oo (addQueued x0 x1 x2 x3) := by
  unfold addQueued
  repeat' first
      | with_reducible assumption
      | (extract_lets +onlyGivenNames s1; refine sound_cut (p := Sound qq oo s1) ?_ ?_; subst s1; rotate_left; intro _; clear_value s1)
      | (extract_lets +onlyGivenNames s1; clear_value s1)
      | with_reducible first
          | apply sound_takeSlot | apply sound_modCtx | apply Sound.functions | apply Sound.clamps | apply Sound.sources | apply Sound.targets
          | apply Sound.log | apply Sound.layout | apply Sound.virtual | apply Sound.contexts | apply Sound.queue | apply Sound.sent
          | refine sound_mk ?_ ?_ ?_ ?_ ?_ ?_ ?_ ?_ ?_ ?_

theorem sound_queueCmd {x0 : State} {x1 : Nat} {x2 : Packet} {x3 : List (Bool × Nat)} {x4 : Work} (h0 : Sound qq oo x0) :
    VSound qq oo (queueCmd x0 x1 x2 x3 x4) := by
  unfold queueCmd
  repeat' first
      | with_reducible assumption | (extract_lets +onlyGivenNames s1; clear_value s1)
      | with_reducible first
          | refine vsound_unless ?_ | apply sound_addQueued | apply sound_settled | refine vsound_mk (fun _ _ => ?_)

theorem sound_addRunning {x0 : Packet} {x1 : Handle} {x2 : Work} {x3 : State} (h3 : Sound qq oo x3) : Sound qq oo (addRunning x0 x1 x2 x3) := by
  unfold addRunning
  repeat' first
      | with_reducible assumption
      | (extract_lets +onlyGivenNames s1; refine sound_cut (p := Sound qq oo s1) ?_ ?_; subst s1; rotate_left; intro _; clear_value s1)
      | (extract_lets +onlyGivenNames s1; clear_value s1)
      | with_reducible first
          | apply sound_takeSlot | apply Sound.functions | apply Sound.clamps | apply Sound.sources | apply Sound.targets | apply Sound.log
          | apply Sound.layout | apply Sound.virtual | apply Sound.contexts | apply Sound.queue | apply Sound.sent
          | refine sound_mk ?_ ?_ ?_ ?_ ?_ ?_ ?_ ?_ ?_ ?_

theorem sound_acceptCmd {x0 : State} {x1 : Nat} {x2 : Packet} {x3 : List (Bool × Nat)} {x4 : Work} {x5 : Handle → State → State}
    (hf : ∀ h s, Sound qq oo s → Sound qq oo (x5 h s)) : VSound qq oo (acceptCmd x0 x1 x2 x3 x4 x5) := by
  unfold acceptCmd
  exact vsound_unless (vsound_mk fun s hs => hf _ _ (sound_addRunning hs))

theorem vsound_readParamTensor {s : State} {n : Nat} {h : Handle} {off len limit : Nat} {v : Verdict}
    (e : readParamTensor s n h off len limit = .error v) : VSound qq oo v := by
  unfold readParamTensor at e
  dsimp only at e
  repeat' first
      | contradiction | (injection e with e; subst e; exact vsound_refuse)
      | (injection e with e; subst e; exact vsound_mk fun _ h => sound_settled (sound_checkSods h)) | split at e

/-! ## FlueRun -/

theorem sound_abortSend {x0 : State} {x1 : Cmd} {x2 : Outgoing} {x3 : Handle} {x4 : Nat} (h0 : Sound qq oo x0) :
    Sound qq oo (abortSend x0 x1 x2 x3 x4) := by
  unfold abortSend
  repeat' first
      | with_reducible assumption
      | (extract_lets +onlyGivenNames s1; refine sound_cut (p := Sound qq oo s1) ?_ ?_; subst s1; rotate_left; intro _; clear_value s1)
      | (extract_lets +onlyGivenNames s1; clear_value s1)
      | with_reducible first
          | apply sound_dataError | apply sound_sendMsg

theorem sound_answerToken {x0 : State} {x1 : Cmd} {x2 : Outgoing} {x3 : Token} (h0 : Sound qq oo x0) : Sound qq oo (answerToken x0 x1 x2 x3) := by
  unfold answerToken
  repeat' first
      | with_reducible assumption
      | (extract_lets +onlyGivenNames s1; refine sound_cut (p := Sound qq oo s1) ?_ ?_; subst s1; rotate_left; intro _; clear_value s1)
      | (extract_lets +onlyGivenNames s1; refine sound_cut (p := Sound qq oo s1.1) ?_ ?_; subst s1; rotate_left; intro _; clear_value s1)
      | (extract_lets +onlyGivenNames s1; refine sound_cut (p := s1.vfEnabled = s1.vfEnabled) rfl ?_; intro _; subst s1)
      | (extract_lets +onlyGivenNames s1; clear_value s1)
      | with_reducible first
          | apply sound_foreignFault | apply sound_abortSend | apply sound_modCmd | apply sound_servedRun | apply sound_sendMsg | apply prefix_append
      | split
      | with_reducible first
          | apply Sound.functions | apply Sound.clamps | apply Sound.sources | apply Sound.targets | apply Sound.log | apply Sound.layout
          | apply Sound.virtual | apply Sound.contexts | apply Sound.queue | apply Sound.sent | refine sound_mk ?_ ?_ ?_ ?_ ?_ ?_ ?_ ?_ ?_ ?_

theorem sound_answerTokens {x0 : State} {x1 : Handle} (h0 : Sound qq oo x0) : Sound qq oo (answerTokens x0 x1) := by
  unfold answerTokens
  repeat' first
      | with_reducible first
          | assumption | apply sound_answerToken | refine sound_foldl ?_ (fun _ _ _ => ?_)
      | split

theorem sound_confirmTag {x0 : State} {x1 : Nat} {x2 : Nat} {x3 : Nat} (h0 : Sound qq oo x0) : Sound qq oo (confirmTag x0 x1 x2 x3) := by
  unfold confirmTag
  repeat' first
      | with_reducible assumption
      | (extract_lets +onlyGivenNames s1; refine sound_cut (p := Sound qq oo s1) ?_ ?_; subst s1; rotate_left; intro _; clear_value s1)
      | (extract_lets +onlyGivenNames s1; clear_value s1)
      | with_reducible first
          | apply sound_dropLanded | apply sound_withdrawTokens | apply sound_sendMsg | apply Sound.functions | apply Sound.clamps
          | apply Sound.sources | apply Sound.targets | apply Sound.log | apply Sound.layout | apply Sound.virtual | apply Sound.contexts
          | apply Sound.queue | apply Sound.sent | refine sound_mk ?_ ?_ ?_ ?_ ?_ ?_ ?_ ?_ ?_ ?_

theorem sound_writeShadow {x0 : State} {x1 : Handle} {x2 : Handle} {x3 : Nat} {x4 : Nat} {x5 : List Byte} (h0 : Sound qq oo x0) : Sound qq oo (writeShadow x0 x1 x2 x3 x4 x5) := by
  unfold writeShadow
  repeat' first
      | with_reducible assumption
      | (extract_lets +onlyGivenNames s1; refine sound_cut (p := Sound qq oo s1) ?_ ?_; subst s1; rotate_left; intro _; clear_value s1)
      | (extract_lets +onlyGivenNames s1; clear_value s1)
      | with_reducible first
          | apply sound_checkSeeds | apply sound_modCmd
      | split
      | with_reducible first
          | apply Sound.functions | apply Sound.clamps | apply Sound.sources | apply Sound.targets | apply Sound.log | apply Sound.layout
          | apply Sound.virtual | apply Sound.contexts | apply Sound.queue | apply Sound.sent | refine sound_mk ?_ ?_ ?_ ?_ ?_ ?_ ?_ ?_ ?_ ?_

theorem sound_writeRoots {x0 : State} {x1 : Handle} {x2 : Handle} {x3 : List FP32} (h0 : Sound qq oo x0) : Sound qq oo (writeRoots x0 x1 x2 x3) := by
  unfold writeRoots
  repeat' first
      | with_reducible assumption
      | (extract_lets +onlyGivenNames s1; refine sound_cut (p := Sound qq oo s1) ?_ ?_; subst s1; rotate_left; intro _; clear_value s1)
      | (extract_lets +onlyGivenNames s1; refine sound_cut (p := Sound qq oo s1.1) ?_ ?_; subst s1; rotate_left; intro _; clear_value s1)
      | (extract_lets +onlyGivenNames s1; clear_value s1)
      | with_reducible first
          | apply sound_writeShadow | apply prefix_append
      | split
      | with_reducible first
          | apply Sound.functions | apply Sound.clamps | apply Sound.sources | apply Sound.targets | apply Sound.log | apply Sound.layout
          | apply Sound.virtual | apply Sound.contexts | apply Sound.queue | apply Sound.sent | refine sound_mk ?_ ?_ ?_ ?_ ?_ ?_ ?_ ?_ ?_ ?_

theorem sound_flueSettle {x0 : State} {x1 : Handle} (h0 : Sound qq oo x0) : Sound qq oo (flueSettle x0 x1) := by
  unfold flueSettle
  repeat' first
      | with_reducible assumption
      | (extract_lets +onlyGivenNames s1; refine sound_cut (p := Sound qq oo s1) ?_ ?_; subst s1; rotate_left; intro _; clear_value s1)
      | (extract_lets +onlyGivenNames s1; refine sound_cut (p := Sound qq oo s1.1) ?_ ?_; subst s1; rotate_left; intro _; clear_value s1)
      | (extract_lets +onlyGivenNames s1; clear_value s1)
      | with_reducible first
          | apply sound_modCmd | apply sound_writeShadow | apply sound_sendMsg | apply sound_writeRoots | refine sound_foldl ?_ (fun _ _ _ => ?_)
          | apply prefix_append
      | split
      | with_reducible first
          | apply Sound.functions | apply Sound.clamps | apply Sound.sources | apply Sound.targets | apply Sound.log | apply Sound.layout
          | apply Sound.virtual | apply Sound.contexts | apply Sound.queue | apply Sound.sent | refine sound_mk ?_ ?_ ?_ ?_ ?_ ?_ ?_ ?_ ?_ ?_

theorem sound_askMissing {x0 : State} {x1 : Handle} (h0 : Sound qq oo x0) : Sound qq oo (askMissing x0 x1) := by
  unfold askMissing
  repeat' first
      | with_reducible first
          | assumption | apply sound_issueTokens | refine sound_foldl ?_ (fun _ _ _ => ?_)
      | split

theorem sound_askAll {x0 : State} (h0 : Sound qq oo x0) : Sound qq oo (askAll x0) := by
  unfold askAll
  repeat' first
      | with_reducible assumption
      | with_reducible first
          | apply sound_askMissing | apply sound_askParked | refine sound_foldl ?_ (fun _ _ _ => ?_)

theorem sound_startFlue {x0 : State} {x1 : Handle} (h0 : Sound qq oo x0) : Sound qq oo (startFlue x0 x1) := by
  unfold startFlue
  repeat' first
      | with_reducible assumption
      | (extract_lets +onlyGivenNames s1; refine sound_cut (p := Sound qq oo s1) ?_ ?_; subst s1; rotate_left; intro _; clear_value s1)
      | (extract_lets +onlyGivenNames s1; refine sound_cut (p := Sound qq oo s1.1) ?_ ?_; subst s1; rotate_left; intro _; clear_value s1)
      | (extract_lets +onlyGivenNames s1; refine sound_cut (p := s1.vfEnabled = s1.vfEnabled) rfl ?_; intro _; subst s1)
      | (extract_lets +onlyGivenNames s1; clear_value s1)
      | with_reducible first
          | apply sound_dataError | apply sound_finish | apply sound_foreignFault | apply sound_sendMsg | apply sound_flueSettle
          | apply sound_answerTokens | apply sound_askMissing | refine sound_foldl ?_ (fun _ _ _ => ?_) | apply prefix_append
      | split
      | with_reducible first
          | apply Sound.functions | apply Sound.clamps | apply Sound.sources | apply Sound.targets | apply Sound.log | apply Sound.layout
          | apply Sound.virtual | apply Sound.contexts | apply Sound.queue | apply Sound.sent | refine sound_mk ?_ ?_ ?_ ?_ ?_ ?_ ?_ ?_ ?_ ?_

/-! ## ServeOps -/

theorem sound_dropOrphan {x0 : State} {x1 : Nat} (h0 : Sound qq oo x0) : Sound qq oo (dropOrphan x0 x1) := by
  unfold dropOrphan
  repeat' first
      | with_reducible assumption
      | split
      | with_reducible first
          | apply Sound.functions | apply Sound.clamps | apply Sound.sources | apply Sound.targets | apply Sound.log | apply Sound.layout
          | apply Sound.virtual | apply Sound.contexts | apply Sound.queue | apply Sound.sent | refine sound_mk ?_ ?_ ?_ ?_ ?_ ?_ ?_ ?_ ?_ ?_

theorem sound_dropOrphans {x0 : Nat} {x1 : State} {x2 : Nat} {x3 : Nat} (h1 : Sound qq oo x1) : Sound qq oo (dropOrphans x0 x1 x2 x3) := by
  induction x0 generalizing x1 x2 x3 with
  | zero =>
    unfold dropOrphans
    repeat' first
        | with_reducible assumption
        | with_reducible first
            | apply sound_dropOrphan
        | split
  | succ n ih =>
    unfold dropOrphans
    repeat' first
        | with_reducible assumption
        | with_reducible first
            | apply ih | apply sound_dropOrphan
        | split

theorem sound_bogRoom {x0 : State} {x1 : Nat} {x2 : Nat} (h0 : Sound qq oo x0) : Sound qq oo (bogRoom x0 x1 x2).1 := by
  unfold bogRoom
  repeat' first
      | with_reducible assumption
      | (extract_lets +onlyGivenNames s1; refine sound_cut (p := Sound qq oo s1) ?_ ?_; subst s1; rotate_left; intro _; clear_value s1)
      | (extract_lets +onlyGivenNames s1; refine sound_cut (p := Sound qq oo s1.1) ?_ ?_; subst s1; rotate_left; intro _; clear_value s1)
      | (extract_lets +onlyGivenNames s1; clear_value s1)
      | with_reducible first
          | apply sound_dropOrphans

theorem sound_bogRoom_eq {x0 : State} {x1 : Nat} {x2 : Nat} {t : State} {r : _} (h0 : Sound qq oo x0)
    (e : bogRoom x0 x1 x2 = (t, r)) : Sound qq oo t := by
  have h := @sound_bogRoom qq oo x0 x1 x2 h0
  rw [e] at h
  exact h

theorem sound_demoteColdest {x0 : State} {x1 : Nat} (h0 : Sound qq oo x0) : Sound qq oo (demoteColdest x0 x1).1 := by
  unfold demoteColdest
  repeat' first
      | with_reducible assumption
      | (extract_lets +onlyGivenNames s1; refine sound_cut (p := Sound qq oo s1) ?_ ?_; subst s1; rotate_left; intro _; clear_value s1)
      | (extract_lets +onlyGivenNames s1; refine sound_cut (p := Sound qq oo s1.1) ?_ ?_; subst s1; rotate_left; intro _; clear_value s1)
      | (extract_lets +onlyGivenNames s1; clear_value s1) | with_reducible apply sound_bogRoom | split | simp only [id_eq]
      | with_reducible first
          | apply Sound.functions | apply Sound.clamps | apply Sound.sources | apply Sound.targets | apply Sound.log | apply Sound.layout
          | apply Sound.virtual | apply Sound.contexts | apply Sound.queue | apply Sound.sent | refine sound_mk ?_ ?_ ?_ ?_ ?_ ?_ ?_ ?_ ?_ ?_

theorem sound_demoteColdest_eq {x0 : State} {x1 : Nat} {t : State} {r : _} (h0 : Sound qq oo x0)
    (e : demoteColdest x0 x1 = (t, r)) : Sound qq oo t := by
  have h := @sound_demoteColdest qq oo x0 x1 h0
  rw [e] at h
  exact h

theorem sound_freeRun {x0 : Nat} {x1 : State} {x2 : Nat} {x3 : Nat} (h1 : Sound qq oo x1) : Sound qq oo (freeRun x0 x1 x2 x3).1 := by
  induction x0 generalizing x1 x2 x3 with
  | zero =>
    unfold freeRun
    repeat' first
        | with_reducible assumption
  | succ n ih =>
    unfold freeRun
    repeat' first
        | with_reducible first
            | assumption | apply ih
        | (extract_lets +onlyGivenNames s1; refine sound_cut (p := Sound qq oo s1.1) ?_ ?_; subst s1; rotate_left; intro _; clear_value s1)
        | (extract_lets +onlyGivenNames s1; clear_value s1) | with_reducible apply sound_demoteColdest | split

theorem sound_freeRun_eq {x0 : Nat} {x1 : State} {x2 : Nat} {x3 : Nat} {t : State} {r : _} (h1 : Sound qq oo x1)
    (e : freeRun x0 x1 x2 x3 = (t, r)) : Sound qq oo t := by
  have h := @sound_freeRun qq oo x0 x1 x2 x3 h1
  rw [e] at h
  exact h

theorem sound_addTurf {x0 : State} {x1 : Nat} {x2 : Nat} (h0 : Sound qq oo x0) : Sound qq oo (addTurf x0 x1 x2).1 := by
  unfold addTurf
  repeat' first
      | with_reducible assumption
      | (extract_lets +onlyGivenNames s1; refine sound_cut (p := Sound qq oo s1.1) ?_ ?_; subst s1; rotate_left; intro _; clear_value s1)
      | (extract_lets +onlyGivenNames s1; clear_value s1)
      | with_reducible first
          | apply sound_modReq | apply sound_freeRun
      | split

theorem sound_addTurf_eq {x0 : State} {x1 : Nat} {x2 : Nat} {t : State} {r : _} (h0 : Sound qq oo x0)
    (e : addTurf x0 x1 x2 = (t, r)) : Sound qq oo t := by
  have h := @sound_addTurf qq oo x0 x1 x2 h0
  rw [e] at h
  exact h

theorem sound_growTurves {x0 : Nat} {x1 : State} {x2 : Nat} {x3 : Nat} (h1 : Sound qq oo x1) : Sound qq oo (growTurves x0 x1 x2 x3).1 := by
  induction x0 generalizing x1 x2 x3 with
  | zero =>
    unfold growTurves
    repeat' first
        | with_reducible assumption
  | succ n ih =>
    unfold growTurves
    repeat' first
        | with_reducible first
            | assumption | apply ih
        | (extract_lets +onlyGivenNames s1; refine sound_cut (p := Sound qq oo s1.1) ?_ ?_; subst s1; rotate_left; intro _; clear_value s1)
        | (extract_lets +onlyGivenNames s1; clear_value s1) | with_reducible apply sound_addTurf | split

theorem sound_growTurves_eq {x0 : Nat} {x1 : State} {x2 : Nat} {x3 : Nat} {t : State} {r : _} (h1 : Sound qq oo x1)
    (e : growTurves x0 x1 x2 x3 = (t, r)) : Sound qq oo t := by
  have h := @sound_growTurves qq oo x0 x1 x2 x3 h1
  rw [e] at h
  exact h

theorem sound_addReq {x0 : State} {x1 : Req} (h0 : Sound qq oo x0) : Sound qq oo (addReq x0 x1) := by
  unfold addReq
  repeat' first
      | with_reducible assumption | (extract_lets +onlyGivenNames s1; clear_value s1)
      | with_reducible first
          | apply Sound.functions | apply Sound.clamps | apply Sound.sources | apply Sound.targets | apply Sound.log | apply Sound.layout
          | apply Sound.virtual | apply Sound.contexts | apply Sound.queue | apply Sound.sent | refine sound_mk ?_ ?_ ?_ ?_ ?_ ?_ ?_ ?_ ?_ ?_

theorem sound_dropOffered {x0 : State} (h0 : Sound qq oo x0) : Sound qq oo (dropOffered x0) := by
  unfold dropOffered
  repeat' first
      | with_reducible assumption
      | (extract_lets +onlyGivenNames s1; refine sound_cut (p := Sound qq oo s1) ?_ ?_; subst s1; rotate_left; intro _; clear_value s1)
      | (extract_lets +onlyGivenNames s1; clear_value s1)
      | with_reducible first
          | apply sound_freeVersions | apply sound_releaseTurves | apply sound_dropSlot | refine sound_foldl ?_ (fun _ _ _ => ?_)
          | apply Sound.functions | apply Sound.clamps | apply Sound.sources | apply Sound.targets | apply Sound.log | apply Sound.layout
          | apply Sound.virtual | apply Sound.contexts | apply Sound.queue | apply Sound.sent | refine sound_mk ?_ ?_ ?_ ?_ ?_ ?_ ?_ ?_ ?_ ?_

theorem sound_abandonHandover {x0 : State} {x1 : Req} (h0 : Sound qq oo x0) : Sound qq oo (abandonHandover x0 x1) := by
  unfold abandonHandover
  repeat' first
      | with_reducible first
          | assumption | apply sound_dropOffered | apply sound_dropReqCommands | apply sound_sendMsg
      | split

theorem sound_cancelReq {x0 : State} {x1 : Nat} (h0 : Sound qq oo x0) : Sound qq oo (cancelReq x0 x1).1 := by
  unfold cancelReq
  repeat' first
      | with_reducible first
          | assumption | apply sound_abandonHandover | apply sound_dropReqCommands | apply sound_endReq | apply sound_modReq
      | split

theorem sound_cancelReq_eq {x0 : State} {x1 : Nat} {t : State} {r : _} (h0 : Sound qq oo x0)
    (e : cancelReq x0 x1 = (t, r)) : Sound qq oo t := by
  have h := @sound_cancelReq qq oo x0 x1 h0
  rw [e] at h
  exact h

theorem sound_rejoin {x0 : State} {x1 : Nat} (h0 : Sound qq oo x0) : Sound qq oo (rejoin x0 x1) := by
  unfold rejoin
  repeat' first
      | with_reducible assumption
      | (extract_lets +onlyGivenNames s1; refine sound_cut (p := Sound qq oo s1) ?_ ?_; subst s1; rotate_left; intro _; clear_value s1)
      | with_reducible first
          | apply sound_endReq | apply sound_putToken | apply sound_modReq | refine sound_foldl ?_ (fun _ _ _ => ?_)
      | split

theorem sound_evict {x0 : State} {x1 : PfxEntry} (h0 : Sound qq oo x0) : Sound qq oo (evict x0 x1) := by
  unfold evict
  repeat' first
      | with_reducible assumption
      | (extract_lets +onlyGivenNames s1; refine sound_cut (p := Sound qq oo s1) ?_ ?_; subst s1; rotate_left; intro _; clear_value s1)
      | (extract_lets +onlyGivenNames s1; refine sound_cut (p := Sound qq oo s1.1) ?_ ?_; subst s1; rotate_left; intro _; clear_value s1)
      | (extract_lets +onlyGivenNames s1; clear_value s1) | with_reducible apply sound_bogRoom | split
      | with_reducible first
          | apply Sound.functions | apply Sound.clamps | apply Sound.sources | apply Sound.targets | apply Sound.log | apply Sound.layout
          | apply Sound.virtual | apply Sound.contexts | apply Sound.queue | apply Sound.sent | refine sound_mk ?_ ?_ ?_ ?_ ?_ ?_ ?_ ?_ ?_ ?_

theorem sound_insertBlock {x0 : State} {x1 : Nat} {x2 : Nat} {x3 : BitVec 128} {x4 : List Nat} (h0 : Sound qq oo x0) :
    Sound qq oo (insertBlock x0 x1 x2 x3 x4) := by
  unfold insertBlock
  repeat' first
      | with_reducible assumption
      | (extract_lets +onlyGivenNames s1; refine sound_cut (p := Sound qq oo s1) ?_ ?_; subst s1; rotate_left; intro _; clear_value s1)
      | (extract_lets +onlyGivenNames s1; clear_value s1)
      | with_reducible first
          | apply sound_evict | apply sound_modReq
      | split
      | with_reducible first
          | apply Sound.functions | apply Sound.clamps | apply Sound.sources | apply Sound.targets | apply Sound.log | apply Sound.layout
          | apply Sound.virtual | apply Sound.contexts | apply Sound.queue | apply Sound.sent | refine sound_mk ?_ ?_ ?_ ?_ ?_ ?_ ?_ ?_ ?_ ?_

theorem sound_insertBlocks {x0 : State} {x1 : Nat} {x2 : Nat} {x3 : Nat} (h0 : Sound qq oo x0) : Sound qq oo (insertBlocks x0 x1 x2 x3) := by
  unfold insertBlocks
  repeat' first
      | with_reducible assumption | (extract_lets +onlyGivenNames s1; clear_value s1)
      | with_reducible first
          | apply sound_insertBlock | refine sound_foldl ?_ (fun _ _ _ => ?_)
      | split

theorem sound_spoilTurf {x0 : State} {x1 : Req} {x2 : Nat} (h0 : Sound qq oo x0) : Sound qq oo (spoilTurf x0 x1 x2) := by
  unfold spoilTurf
  repeat' first
      | with_reducible assumption
      | (extract_lets +onlyGivenNames s1; refine sound_cut (p := Sound qq oo s1) ?_ ?_; subst s1; rotate_left; intro _; clear_value s1)
      | (extract_lets +onlyGivenNames s1; clear_value s1)
      | with_reducible first
          | apply sound_noteAsh
      | split
      | with_reducible first
          | apply Sound.functions | apply Sound.clamps | apply Sound.sources | apply Sound.targets | apply Sound.log | apply Sound.layout
          | apply Sound.virtual | apply Sound.contexts | apply Sound.queue | apply Sound.sent | refine sound_mk ?_ ?_ ?_ ?_ ?_ ?_ ?_ ?_ ?_ ?_
      | simp only [id_eq]

theorem sound_faultReq {x0 : State} {x1 : Nat} {x2 : Nat} (h0 : Sound qq oo x0) : Sound qq oo (faultReq x0 x1 x2) := by
  unfold faultReq
  repeat' first
      | with_reducible assumption
      | (extract_lets +onlyGivenNames s1; refine sound_cut (p := Sound qq oo s1) ?_ ?_; subst s1; rotate_left; intro _; clear_value s1)
      | (extract_lets +onlyGivenNames s1; refine sound_cut (p := Sound qq oo s1.1) ?_ ?_; subst s1; rotate_left; intro _; clear_value s1)
      | (extract_lets +onlyGivenNames s1; clear_value s1)
      | with_reducible first
          | apply sound_endReq | apply sound_abandonHandover | apply sound_dropReqCommands | apply sound_sendMsg
      | split
      | with_reducible first
          | apply Sound.functions | apply Sound.clamps | apply Sound.sources | apply Sound.targets | apply Sound.log | apply Sound.layout
          | apply Sound.virtual | apply Sound.contexts | apply Sound.queue | apply Sound.sent | refine sound_mk ?_ ?_ ?_ ?_ ?_ ?_ ?_ ?_ ?_ ?_
      | simp only [id_eq]

theorem sound_ashTurves {x0 : State} {x1 : Req} {x2 : List Nat} (h0 : Sound qq oo x0) : Sound qq oo (ashTurves x0 x1 x2) := by
  unfold ashTurves
  repeat' first
      | with_reducible assumption
      | (extract_lets +onlyGivenNames s1; refine sound_cut (p := Sound qq oo s1) ?_ ?_; subst s1; rotate_left; intro _; clear_value s1)
      | (extract_lets +onlyGivenNames s1; clear_value s1)
      | with_reducible first
          | apply sound_faultReq | apply sound_spoilTurf | refine sound_foldl ?_ (fun _ _ _ => ?_)
      | simp only [id_eq]

theorem sound_cancelReqsOf {x0 : State} {x1 : Nat} (h0 : Sound qq oo x0) : Sound qq oo (cancelReqsOf x0 x1) := by
  unfold cancelReqsOf
  repeat' first
      | with_reducible first
          | assumption | apply sound_cancelReq | refine sound_foldl ?_ (fun _ _ _ => ?_)

theorem sound_endContext {x0 : State} {x1 : Nat} (h0 : Sound qq oo x0) : Sound qq oo (endContext x0 x1) := by
  unfold endContext
  repeat' first
      | with_reducible assumption
      | (extract_lets +onlyGivenNames s1; refine sound_cut (p := Sound qq oo s1) ?_ ?_; subst s1; rotate_left; intro _; clear_value s1)
      | (extract_lets +onlyGivenNames s1; clear_value s1)
      | with_reducible first
          | apply sound_cancelReqsOf | apply sound_dropContext | apply sound_dropCommands | apply sound_destroyTensor | apply sound_releaseTensors
          | apply sound_modCtx | refine sound_foldl ?_ (fun _ _ _ => ?_)
      | split
      | with_reducible first
          | apply Sound.functions | apply Sound.clamps | apply Sound.sources | apply Sound.targets | apply Sound.log | apply Sound.layout
          | apply Sound.virtual | apply Sound.contexts | apply Sound.queue | apply Sound.sent | refine sound_mk ?_ ?_ ?_ ?_ ?_ ?_ ?_ ?_ ?_ ?_

theorem sound_reapContext {x0 : State} {x1 : Nat} (h0 : Sound qq oo x0) : Sound qq oo (reapContext x0 x1) := by
  unfold reapContext
  repeat' first
      | with_reducible first
          | assumption | apply sound_dropContext
      | split

/-! ## FlueMsg -/

theorem sound_fromPartner {x0 : State} {x1 : Msg} (h0 : Sound qq oo x0) : OSound qq oo (fromPartner x0 x1) := by
  unfold fromPartner
  repeat' first
      | with_reducible assumption | (extract_lets +onlyGivenNames s1; clear_value s1) | exact osound_none | with_reducible refine osound_some ?_
      | split
      | with_reducible first
          | apply Sound.functions | apply Sound.clamps | apply Sound.sources | apply Sound.targets | apply Sound.log | apply Sound.layout
          | apply Sound.virtual | apply Sound.contexts | apply Sound.queue | apply Sound.sent | refine sound_mk ?_ ?_ ?_ ?_ ?_ ?_ ?_ ?_ ?_ ?_

theorem sound_discardMsg {x0 : State} {x1 : Msg} (h0 : Sound qq oo x0) : Sound qq oo (discardMsg x0 x1) := by
  unfold discardMsg
  repeat' first
      | with_reducible first
          | assumption | apply sound_modPort

theorem sound_taking {x0 : State} {x1 : Msg} {x2 : State → State} (h0 : Sound qq oo x0)
    (hf : ∀ s, Sound qq oo s → Sound qq oo (x2 s)) : Sound qq oo (taking x0 x1 x2) := by
  unfold taking
  split
  · exact hf _ (osound_use (sound_fromPartner h0) (by assumption))
  · exact sound_discardMsg h0

theorem sound_takeReady {x0 : Msg} {x1 : State} (h1 : Sound qq oo x1) : Sound qq oo (takeReady x0 x1) := by
  unfold takeReady
  repeat' first
      | with_reducible assumption
      | (extract_lets +onlyGivenNames s1; refine sound_cut (p := Sound qq oo s1) ?_ ?_; subst s1; rotate_left; intro _; clear_value s1)
      | (extract_lets +onlyGivenNames s1; clear_value s1) | with_reducible apply sound_answerTokens | split
      | with_reducible first
          | apply Sound.functions | apply Sound.clamps | apply Sound.sources | apply Sound.targets | apply Sound.log | apply Sound.layout
          | apply Sound.virtual | apply Sound.contexts | apply Sound.queue | apply Sound.sent | refine sound_mk ?_ ?_ ?_ ?_ ?_ ?_ ?_ ?_ ?_ ?_

theorem sound_takeWithdraw {x0 : Msg} {x1 : State} (h1 : Sound qq oo x1) : Sound qq oo (takeWithdraw x0 x1) := by
  unfold takeWithdraw
  repeat' first
      | with_reducible assumption | (extract_lets +onlyGivenNames s1; clear_value s1)
      | with_reducible first
          | apply Sound.functions | apply Sound.clamps | apply Sound.sources | apply Sound.targets | apply Sound.log | apply Sound.layout
          | apply Sound.virtual | apply Sound.contexts | apply Sound.queue | apply Sound.sent | refine sound_mk ?_ ?_ ?_ ?_ ?_ ?_ ?_ ?_ ?_ ?_

theorem sound_landBlock {x0 : Msg} {x1 : State} {x2 : Nat × Memory × BitVec 64} (h1 : Sound qq oo x1) : Sound qq oo (landBlock x0 x1 x2) := by
  unfold landBlock
  repeat' first
      | with_reducible assumption
      | (extract_lets +onlyGivenNames s1; refine sound_cut (p := Sound qq oo s1) ?_ ?_; subst s1; rotate_left; intro _; clear_value s1)
      | (extract_lets +onlyGivenNames s1; clear_value s1)
      | with_reducible first
          | apply sound_issueToken | apply sound_finish | apply sound_modCmd
      | split
      | with_reducible first
          | apply Sound.functions | apply Sound.clamps | apply Sound.sources | apply Sound.targets | apply Sound.log | apply Sound.layout
          | apply Sound.virtual | apply Sound.contexts | apply Sound.queue | apply Sound.sent | refine sound_mk ?_ ?_ ?_ ?_ ?_ ?_ ?_ ?_ ?_ ?_

theorem sound_afterLanding {x0 : State} {x1 : Nat} {x2 : Nat} {x3 : Nat} (h0 : Sound qq oo x0) : Sound qq oo (afterLanding x0 x1 x2 x3) := by
  unfold afterLanding
  repeat' first
      | with_reducible assumption
      | (extract_lets +onlyGivenNames s1; refine sound_cut (p := Sound qq oo s1) ?_ ?_; subst s1; rotate_left; intro _; clear_value s1)
      | with_reducible first
          | apply sound_flueSettle | apply sound_unpark | apply sound_settled | apply sound_modCmd
      | split

theorem sound_takeData {x0 : Msg} {x1 : State} (h1 : Sound qq oo x1) : Sound qq oo (takeData x0 x1) := by
  unfold takeData
  repeat' first
      | with_reducible assumption
      | (extract_lets +onlyGivenNames s1; refine sound_cut (p := Sound qq oo s1) ?_ ?_; subst s1; rotate_left; intro _; clear_value s1)
      | with_reducible first
          | apply sound_afterLanding | apply sound_landBlock | apply sound_sendMsg | apply sound_modClamp | apply sound_gather
          | refine sound_foldl ?_ (fun _ _ _ => ?_)
      | split

theorem sound_takeReopen {x0 : Msg} {x1 : State} (h1 : Sound qq oo x1) : Sound qq oo (takeReopen x0 x1) := by
  unfold takeReopen
  repeat' first
      | with_reducible assumption
      | (extract_lets +onlyGivenNames s1; refine sound_cut (p := Sound qq oo s1) ?_ ?_; subst s1; rotate_left; intro _; clear_value s1)
      | (extract_lets +onlyGivenNames s1; clear_value s1)
      | with_reducible first
          | apply sound_askMissing | apply sound_issueToken | apply sound_sendMsg | refine sound_foldl ?_ (fun _ _ _ => ?_)
      | split
      | with_reducible first
          | apply Sound.functions | apply Sound.clamps | apply Sound.sources | apply Sound.targets | apply Sound.log | apply Sound.layout
          | apply Sound.virtual | apply Sound.contexts | apply Sound.queue | apply Sound.sent | refine sound_mk ?_ ?_ ?_ ?_ ?_ ?_ ?_ ?_ ?_ ?_

theorem sound_takeConfirm {x0 : Msg} {x1 : State} (h1 : Sound qq oo x1) : Sound qq oo (takeConfirm x0 x1) := by
  unfold takeConfirm
  repeat' first
      | with_reducible first
          | assumption | apply sound_flueSettle | apply sound_settled | apply sound_modCmd
      | split

theorem sound_takeAbort {x0 : Msg} {x1 : State} (h1 : Sound qq oo x1) : Sound qq oo (takeAbort x0 x1) := by
  unfold takeAbort
  repeat' first
      | with_reducible first
          | assumption | apply sound_unpark | apply sound_finish | apply sound_settled
      | split

theorem sound_takeDecline {x0 : Msg} {x1 : State} (h1 : Sound qq oo x1) : Sound qq oo (takeDecline x0 x1) := by
  unfold takeDecline
  repeat' first
      | with_reducible first
          | assumption | apply sound_finish
      | split

theorem sound_takeFlag {x0 : Msg} {x1 : State} (h1 : Sound qq oo x1) : Sound qq oo (takeFlag x0 x1) := by
  unfold takeFlag
  repeat' first
      | with_reducible assumption
      | (extract_lets +onlyGivenNames s1; refine sound_cut (p := Sound qq oo s1) ?_ ?_; subst s1; rotate_left; intro _; clear_value s1)
      | (extract_lets +onlyGivenNames s1; clear_value s1)
      | with_reducible first
          | apply sound_settled | apply sound_applyFlag | apply sound_sendMsg
      | split

theorem sound_takeFlagAnswer {x0 : Msg} {x1 : State} (h1 : Sound qq oo x1) : Sound qq oo (takeFlagAnswer x0 x1) := by
  unfold takeFlagAnswer
  repeat' first
      | with_reducible first
          | assumption | apply sound_reapContext | apply sound_settled | apply sound_endCmd
      | split

/-! ## Serving -/

theorem sound_servingCmd {x0 : State} {x1 : Nat} {x2 : Nat} {x3 : Work} {x4 : Bool} (h0 : Sound qq oo x0) :
    Sound qq oo (servingCmd x0 x1 x2 x3 x4).1 := by
  unfold servingCmd
  repeat' first
      | with_reducible assumption
      | (extract_lets +onlyGivenNames s1; refine sound_cut (p := Sound qq oo s1) ?_ ?_; subst s1; rotate_left; intro _; clear_value s1)
      | (extract_lets +onlyGivenNames s1; clear_value s1) | with_reducible apply sound_takeSlot | split | simp only [id_eq]
      | with_reducible first
          | apply Sound.functions | apply Sound.clamps | apply Sound.sources | apply Sound.targets | apply Sound.log | apply Sound.layout
          | apply Sound.virtual | apply Sound.contexts | apply Sound.queue | apply Sound.sent | refine sound_mk ?_ ?_ ?_ ?_ ?_ ?_ ?_ ?_ ?_ ?_

theorem sound_servingCmd_eq {x0 : State} {x1 : Nat} {x2 : Nat} {x3 : Work} {x4 : Bool} {t : State} {r : _} (h0 : Sound qq oo x0)
    (e : servingCmd x0 x1 x2 x3 x4 = (t, r)) : Sound qq oo t := by
  have h := @sound_servingCmd qq oo x0 x1 x2 x3 x4 h0
  rw [e] at h
  exact h

theorem sound_lostModel {x0 : State} {x1 : Model} (h0 : Sound qq oo x0) : Sound qq oo (lostModel x0 x1) := by
  unfold lostModel
  repeat' first
      | with_reducible first
          | assumption | apply sound_endModelReqs | apply sound_settled

theorem sound_servingWork {x0 : State} {x1 : Nat} {x2 : Nat} {x3 : Work} (h0 : Sound qq oo x0) : Sound qq oo (servingWork x0 x1 x2 x3) := by
  unfold servingWork
  repeat' first
      | with_reducible assumption
      | (extract_lets +onlyGivenNames s1; refine sound_cut (p := Sound qq oo s1) ?_ ?_; subst s1; rotate_left; intro _; clear_value s1)
      | (extract_lets +onlyGivenNames s1; clear_value s1)
      | with_reducible first
          | apply sound_countTraffic | apply sound_servingCmd
      | (with_reducible apply sound_servingCmd_eq <;> assumption)
      | split
      | with_reducible first
          | apply Sound.functions | apply Sound.clamps | apply Sound.sources | apply Sound.targets | apply Sound.log | apply Sound.layout
          | apply Sound.virtual | apply Sound.contexts | apply Sound.queue | apply Sound.sent | refine sound_mk ?_ ?_ ?_ ?_ ?_ ?_ ?_ ?_ ?_ ?_

theorem sound_shareBlocks {x0 : State} {x1 : Nat} {x2 : List PfxEntry} (h0 : Sound qq oo x0) : Sound qq oo (shareBlocks x0 x1 x2) := by
  unfold shareBlocks
  repeat' first
      | with_reducible assumption
      | (extract_lets +onlyGivenNames s1; refine sound_cut (p := Sound qq oo s1) ?_ ?_; subst s1; rotate_left; intro _; clear_value s1)
      | (extract_lets +onlyGivenNames s1; clear_value s1)
      | with_reducible first
          | apply sound_modReq | apply Sound.functions | apply Sound.clamps | apply Sound.sources | apply Sound.targets | apply Sound.log
          | apply Sound.layout | apply Sound.virtual | apply Sound.contexts | apply Sound.queue | apply Sound.sent
          | refine sound_mk ?_ ?_ ?_ ?_ ?_ ?_ ?_ ?_ ?_ ?_

theorem sound_execServingAdmission {x0 : Nat} {x1 : State} (h1 : Sound qq oo x1) : NSound qq oo (execServingAdmission x0 x1) := by
  unfold execServingAdmission
  show Sound qq oo _
  repeat' first
      | with_reducible assumption
      | (extract_lets +onlyGivenNames s1; refine sound_cut (p := Sound qq oo s1) ?_ ?_; subst s1; rotate_left; intro _; clear_value s1)
      | (extract_lets +onlyGivenNames s1; refine sound_cut (p := Sound qq oo s1.1) ?_ ?_; subst s1; rotate_left; intro _; clear_value s1)
      | (extract_lets +onlyGivenNames s1; clear_value s1)
      | with_reducible first
          | apply sound_shareBlocks | apply sound_lostModel | apply sound_modReq | apply sound_modClamp | apply sound_growTurves
      | split
      | with_reducible first
          | apply Sound.functions | apply Sound.clamps | apply Sound.sources | apply Sound.targets | apply Sound.log | apply Sound.layout
          | apply Sound.virtual | apply Sound.contexts | apply Sound.queue | apply Sound.sent | refine sound_mk ?_ ?_ ?_ ?_ ?_ ?_ ?_ ?_ ?_ ?_

theorem sound_execPrefillCommand {x0 : Nat} {x1 : Nat} {x2 : List Nat} {x3 : State} (h3 : Sound qq oo x3) : NSound qq oo (execPrefillCommand x0 x1 x2 x3) := by
  unfold execPrefillCommand
  show Sound qq oo _
  repeat' first
      | with_reducible assumption
      | (extract_lets +onlyGivenNames s1; refine sound_cut (p := Sound qq oo s1) ?_ ?_; subst s1; rotate_left; intro _; clear_value s1)
      | (extract_lets +onlyGivenNames s1; refine sound_cut (p := Sound qq oo s1.1) ?_ ?_; subst s1; rotate_left; intro _; clear_value s1)
      | (extract_lets +onlyGivenNames s1; refine sound_cut (p := s1.vfEnabled = s1.vfEnabled) rfl ?_; intro _; subst s1)
      | (extract_lets +onlyGivenNames s1; clear_value s1)
      | with_reducible first
          | apply sound_lostModel | apply sound_settled | apply sound_ashTurves | apply sound_servingWork
      | split
      | with_reducible first
          | apply Sound.functions | apply Sound.clamps | apply Sound.sources | apply Sound.targets | apply Sound.log | apply Sound.layout
          | apply Sound.virtual | apply Sound.contexts | apply Sound.queue | apply Sound.sent | refine sound_mk ?_ ?_ ?_ ?_ ?_ ?_ ?_ ?_ ?_ ?_

theorem sound_parkLatest {x0 : State} {x1 : Nat} (h0 : Sound qq oo x0) : Sound qq oo (parkLatest x0 x1) := by
  unfold parkLatest
  repeat' first
      | with_reducible assumption
      | (extract_lets +onlyGivenNames s1; refine sound_cut (p := Sound qq oo s1.1) ?_ ?_; subst s1; rotate_left; intro _; clear_value s1)
      | (extract_lets +onlyGivenNames s1; clear_value s1)
      | with_reducible first
          | apply sound_endReq | apply sound_modReq | apply sound_bogRoom
      | split

theorem sound_liftEntries {x0 : State} {x1 : Nat} {x2 : List (Nat × Nat)} (h0 : Sound qq oo x0) : Sound qq oo (liftEntries x0 x1 x2) := by
  unfold liftEntries
  repeat' first
      | with_reducible assumption
      | (extract_lets +onlyGivenNames s1; refine sound_cut (p := Sound qq oo s1) ?_ ?_; subst s1; rotate_left; intro _; clear_value s1)
      | (extract_lets +onlyGivenNames s1; refine sound_cut (p := Sound qq oo s1.1) ?_ ?_; subst s1; rotate_left; intro _; clear_value s1)
      | (extract_lets +onlyGivenNames s1; clear_value s1)
      | split
      | with_reducible first
          | apply Sound.functions | apply Sound.clamps | apply Sound.sources | apply Sound.targets | apply Sound.log | apply Sound.layout
          | apply Sound.virtual | apply Sound.contexts | apply Sound.queue | apply Sound.sent | refine sound_mk ?_ ?_ ?_ ?_ ?_ ?_ ?_ ?_ ?_ ?_
      | simp only [id_eq]

theorem sound_promoteChunks {x0 : List Nat} {x1 : State} {x2 : Nat} (h1 : Sound qq oo x1) : Sound qq oo (promoteChunks x0 x1 x2).1 := by
  induction x0 generalizing x1 x2 with
  | nil =>
    unfold promoteChunks
    repeat' first
        | with_reducible assumption
        | (extract_lets +onlyGivenNames s1; refine sound_cut (p := Sound qq oo s1) ?_ ?_; subst s1; rotate_left; intro _; clear_value s1)
        | (extract_lets +onlyGivenNames s1; refine sound_cut (p := Sound qq oo s1.1) ?_ ?_; subst s1; rotate_left; intro _; clear_value s1)
        | (extract_lets +onlyGivenNames s1; clear_value s1)
        | with_reducible first
            | apply sound_freeRun | apply sound_liftEntries
        | (with_reducible apply sound_freeRun_eq <;> assumption)
        | split
        | with_reducible first
            | apply Sound.functions | apply Sound.clamps | apply Sound.sources | apply Sound.targets | apply Sound.log | apply Sound.layout
            | apply Sound.virtual | apply Sound.contexts | apply Sound.queue | apply Sound.sent | refine sound_mk ?_ ?_ ?_ ?_ ?_ ?_ ?_ ?_ ?_ ?_
        | simp only [id_eq]
  | cons a l ih =>
    unfold promoteChunks
    repeat' first
        | with_reducible assumption
        | (extract_lets +onlyGivenNames s1; refine sound_cut (p := Sound qq oo s1) ?_ ?_; subst s1; rotate_left; intro _; clear_value s1)
        | (extract_lets +onlyGivenNames s1; refine sound_cut (p := Sound qq oo s1.1) ?_ ?_; subst s1; rotate_left; intro _; clear_value s1)
        | (extract_lets +onlyGivenNames s1; clear_value s1)
        | with_reducible first
            | apply ih | apply sound_freeRun | apply sound_liftEntries
        | (with_reducible apply sound_freeRun_eq <;> assumption)
        | split
        | with_reducible first
            | apply Sound.functions | apply Sound.clamps | apply Sound.sources | apply Sound.targets | apply Sound.log | apply Sound.layout
            | apply Sound.virtual | apply Sound.contexts | apply Sound.queue | apply Sound.sent | refine sound_mk ?_ ?_ ?_ ?_ ?_ ?_ ?_ ?_ ?_ ?_
        | simp only [id_eq]

theorem sound_promoteChunks_eq {x0 : List Nat} {x1 : State} {x2 : Nat} {t : State} {r : _} (h1 : Sound qq oo x1)
    (e : promoteChunks x0 x1 x2 = (t, r)) : Sound qq oo t := by
  have h := @sound_promoteChunks qq oo x0 x1 x2 h1
  rw [e] at h
  exact h

theorem sound_turvesForStep {x0 : State} {x1 : Nat} {x2 : Req} (h0 : Sound qq oo x0) : Sound qq oo (turvesForStep x0 x1 x2).1 := by
  unfold turvesForStep
  repeat' first
      | with_reducible assumption
      | (extract_lets +onlyGivenNames s1; refine sound_cut (p := Sound qq oo s1) ?_ ?_; subst s1; rotate_left; intro _; clear_value s1)
      | (extract_lets +onlyGivenNames s1; refine sound_cut (p := Sound qq oo s1.1) ?_ ?_; subst s1; rotate_left; intro _; clear_value s1)
      | (extract_lets +onlyGivenNames s1; clear_value s1)
      | with_reducible first
          | apply sound_promoteChunks | apply sound_growTurves
      | (with_reducible apply sound_promoteChunks_eq <;> assumption)
      | (with_reducible apply sound_growTurves_eq <;> assumption)
      | split
      | simp only [id_eq]

theorem sound_turvesForStep_eq {x0 : State} {x1 : Nat} {x2 : Req} {t : State} {r : _} (h0 : Sound qq oo x0)
    (e : turvesForStep x0 x1 x2 = (t, r)) : Sound qq oo t := by
  have h := @sound_turvesForStep qq oo x0 x1 x2 h0
  rw [e] at h
  exact h

theorem sound_roomForStep {x0 : Nat} {x1 : State} {x2 : Nat} {x3 : Nat} (h1 : Sound qq oo x1) : Sound qq oo (roomForStep x0 x1 x2 x3) := by
  induction x0 generalizing x1 x2 x3 with
  | zero =>
    unfold roomForStep
    repeat' first
        | with_reducible assumption
        | (extract_lets +onlyGivenNames s1; refine sound_cut (p := Sound qq oo s1) ?_ ?_; subst s1; rotate_left; intro _; clear_value s1)
        | (extract_lets +onlyGivenNames s1; refine sound_cut (p := Sound qq oo s1.1) ?_ ?_; subst s1; rotate_left; intro _; clear_value s1)
        | (extract_lets +onlyGivenNames s1; clear_value s1)
        | with_reducible first
            | apply sound_turvesForStep | apply sound_parkLatest
        | (with_reducible apply sound_turvesForStep_eq <;> assumption)
        | split
        | with_reducible first
            | apply Sound.functions | apply Sound.clamps | apply Sound.sources | apply Sound.targets | apply Sound.log | apply Sound.layout
            | apply Sound.virtual | apply Sound.contexts | apply Sound.queue | apply Sound.sent | refine sound_mk ?_ ?_ ?_ ?_ ?_ ?_ ?_ ?_ ?_ ?_
        | simp only [id_eq]
  | succ n ih =>
    unfold roomForStep
    repeat' first
        | with_reducible assumption
        | (extract_lets +onlyGivenNames s1; refine sound_cut (p := Sound qq oo s1) ?_ ?_; subst s1; rotate_left; intro _; clear_value s1)
        | (extract_lets +onlyGivenNames s1; refine sound_cut (p := Sound qq oo s1.1) ?_ ?_; subst s1; rotate_left; intro _; clear_value s1)
        | (extract_lets +onlyGivenNames s1; clear_value s1)
        | with_reducible first
            | apply ih | apply sound_turvesForStep | apply sound_parkLatest
        | (with_reducible apply sound_turvesForStep_eq <;> assumption)
        | split
        | with_reducible first
            | apply Sound.functions | apply Sound.clamps | apply Sound.sources | apply Sound.targets | apply Sound.log | apply Sound.layout
            | apply Sound.virtual | apply Sound.contexts | apply Sound.queue | apply Sound.sent | refine sound_mk ?_ ?_ ?_ ?_ ?_ ?_ ?_ ?_ ?_ ?_
        | simp only [id_eq]

theorem sound_unparkChunks {x0 : List Nat} {x1 : State} {x2 : Nat} (h1 : Sound qq oo x1) : Sound qq oo (unparkChunks x0 x1 x2).1 := by
  induction x0 generalizing x1 x2 with
  | nil =>
    unfold unparkChunks
    repeat' first
        | with_reducible assumption
  | cons a l ih =>
    unfold unparkChunks
    repeat' first
        | with_reducible first
            | assumption | apply ih
        | (extract_lets +onlyGivenNames s1; refine sound_cut (p := Sound qq oo s1.1) ?_ ?_; subst s1; rotate_left; intro _; clear_value s1)
        | with_reducible first
            | apply sound_modReq | apply sound_freeRun
        | split

theorem sound_unparkChunks_eq {x0 : List Nat} {x1 : State} {x2 : Nat} {t : State} {r : _} (h1 : Sound qq oo x1)
    (e : unparkChunks x0 x1 x2 = (t, r)) : Sound qq oo t := by
  have h := @sound_unparkChunks qq oo x0 x1 x2 h1
  rw [e] at h
  exact h

theorem sound_rejoinParked {x0 : Nat} {x1 : State} {x2 : Nat} (h1 : Sound qq oo x1) : Sound qq oo (rejoinParked x0 x1 x2) := by
  induction x0 generalizing x1 x2 with
  | zero =>
    unfold rejoinParked
    repeat' first
        | with_reducible assumption
  | succ n ih =>
    unfold rejoinParked
    repeat' first
        | with_reducible first
            | assumption | apply ih
        | (extract_lets +onlyGivenNames s1; refine sound_cut (p := Sound qq oo s1.1) ?_ ?_; subst s1; rotate_left; intro _; clear_value s1)
        | (extract_lets +onlyGivenNames s1; clear_value s1)
        | with_reducible first
            | apply sound_modReq | apply sound_unparkChunks
        | split

theorem sound_ashStep {x0 : State} {x1 : List (Req × List Nat)} (h0 : Sound qq oo x0) : Sound qq oo (ashStep x0 x1) := by
  unfold ashStep
  repeat' first
      | with_reducible assumption
      | with_reducible first
          | apply sound_settled | apply sound_ashTurves | refine sound_foldl ?_ (fun _ _ _ => ?_)

theorem sound_execDecodeStep {x0 : Nat} {x1 : Nat} {x2 : List (Nat × Nat)} {x3 : State} (h3 : Sound qq oo x3) : NSound qq oo (execDecodeStep x0 x1 x2 x3) := by
  unfold execDecodeStep
  show Sound qq oo _
  repeat' first
      | with_reducible assumption
      | (extract_lets +onlyGivenNames s1; refine sound_cut (p := Sound qq oo s1) ?_ ?_; subst s1; rotate_left; intro _; clear_value s1)
      | (extract_lets +onlyGivenNames s1; refine sound_cut (p := Sound qq oo s1.1) ?_ ?_; subst s1; rotate_left; intro _; clear_value s1)
      | (extract_lets +onlyGivenNames s1; clear_value s1)
      | with_reducible first
          | apply sound_rejoinParked | apply sound_lostModel | apply sound_roomForStep | apply sound_settled | apply sound_ashStep
          | apply sound_servingWork | refine sound_foldl ?_ (fun _ _ _ => ?_)
      | split
      | with_reducible first
          | apply Sound.functions | apply Sound.clamps | apply Sound.sources | apply Sound.targets | apply Sound.log | apply Sound.layout
          | apply Sound.virtual | apply Sound.contexts | apply Sound.queue | apply Sound.sent | refine sound_mk ?_ ?_ ?_ ?_ ?_ ?_ ?_ ?_ ?_ ?_
      | simp only [id_eq]

theorem sound_slotReq {x0 : Nat} {x1 : State} {x2 : Nat × Option Nat} (h1 : Sound qq oo x1) : Sound qq oo (slotReq x0 x1 x2) := by
  unfold slotReq
  repeat' first
      | with_reducible first
          | assumption | apply sound_modReq
      | split

theorem sound_execCommitSlot {x0 : Nat} {x1 : State} (h1 : Sound qq oo x1) : NSound qq oo (execCommitSlot x0 x1) := by
  unfold execCommitSlot
  show Sound qq oo _
  repeat' first
      | with_reducible assumption
      | (extract_lets +onlyGivenNames s1; refine sound_cut (p := Sound qq oo s1) ?_ ?_; subst s1; rotate_left; intro _; clear_value s1)
      | (extract_lets +onlyGivenNames s1; refine sound_cut (p := Sound qq oo s1.1) ?_ ?_; subst s1; rotate_left; intro _; clear_value s1)
      | (extract_lets +onlyGivenNames s1; clear_value s1)
      | with_reducible first
          | apply sound_slotReq | apply sound_modCmd | refine sound_foldl ?_ (fun _ _ _ => ?_)
      | split
      | with_reducible first
          | apply Sound.functions | apply Sound.clamps | apply Sound.sources | apply Sound.targets | apply Sound.log | apply Sound.layout
          | apply Sound.virtual | apply Sound.contexts | apply Sound.queue | apply Sound.sent | refine sound_mk ?_ ?_ ?_ ?_ ?_ ?_ ?_ ?_ ?_ ?_
      | simp only [id_eq]

theorem sound_publish {x0 : State} {x1 : Nat} (h0 : Sound qq oo x0) : Sound qq oo (publish x0 x1) := by
  unfold publish
  repeat' first
      | with_reducible first
          | assumption | apply sound_endReq | apply sound_putToken | apply sound_modReq
      | split

theorem sound_commitStep {x0 : State} {x1 : Handle} (h0 : Sound qq oo x0) : Sound qq oo (commitStep x0 x1) := by
  unfold commitStep
  repeat' first
      | with_reducible assumption
      | (extract_lets +onlyGivenNames s1; refine sound_cut (p := Sound qq oo s1) ?_ ?_; subst s1; rotate_left; intro _; clear_value s1)
      | (extract_lets +onlyGivenNames s1; clear_value s1)
      | with_reducible first
          | apply sound_publish | apply sound_insertBlocks | refine sound_foldl ?_ (fun _ _ _ => ?_)
      | split
      | with_reducible first
          | apply Sound.functions | apply Sound.clamps | apply Sound.sources | apply Sound.targets | apply Sound.log | apply Sound.layout
          | apply Sound.virtual | apply Sound.contexts | apply Sound.queue | apply Sound.sent | refine sound_mk ?_ ?_ ?_ ?_ ?_ ?_ ?_ ?_ ?_ ?_

theorem sound_commitPrefill {x0 : State} {x1 : Nat} {x2 : Nat} {x3 : Nat} {x4 : Nat} {x5 : Option (Option Nat)} (h0 : Sound qq oo x0) :
    Sound qq oo (commitPrefill x0 x1 x2 x3 x4 x5) := by
  unfold commitPrefill
  repeat' first
      | with_reducible assumption
      | (extract_lets +onlyGivenNames s1; refine sound_cut (p := Sound qq oo s1) ?_ ?_; subst s1; rotate_left; intro _; clear_value s1)
      | (extract_lets +onlyGivenNames s1; clear_value s1)
      | with_reducible first
          | apply sound_publish | apply sound_insertBlocks | apply sound_endReq | apply sound_modReq
      | split

theorem sound_acceptOffer_eq {x0 : State} {x1 : Req} {t : State} {r : Handle} (h0 : Sound qq oo x0)
    (e : acceptOffer x0 x1 = some (t, r)) : Sound qq oo t := by
  have h1 : Sound qq oo (takeSlot x0 x1.handle) := sound_takeSlot h0
  have key : ∀ y, acceptOffer x0 x1 = some y → Sound qq oo y.1 := by
    intro y hy
    unfold acceptOffer at hy
    dsimp only at hy
    split at hy
    · injection hy with hy
      subst hy
      exact sound_servingCmd (sound_modClamp (sound_growTurves (sound_shareBlocks
        (sound_mk h1.queue h1.sent h1.functions h1.clamps h1.sources h1.targets h1.log h1.layout h1.virtual h1.contexts))))
    · cases hy
  exact key _ e

theorem sound_askTurves {x0 : State} {x1 : Handle} {x2 : Req} (h0 : Sound qq oo x0) : Sound qq oo (askTurves x0 x1 x2) := by
  unfold askTurves
  repeat' first
      | with_reducible assumption | (extract_lets +onlyGivenNames s1; clear_value s1)
      | with_reducible first
          | apply sound_issueToken | refine sound_foldl ?_ (fun _ _ _ => ?_)
      | split

theorem sound_settleHandover {x0 : State} {x1 : Handle} (h0 : Sound qq oo x0) : Sound qq oo (settleHandover x0 x1) := by
  unfold settleHandover
  repeat' first
      | with_reducible assumption | (extract_lets +onlyGivenNames s1; clear_value s1) | with_reducible apply sound_modCmd | split

theorem sound_failHandover {x0 : State} {x1 : Nat} {x2 : Nat} (h0 : Sound qq oo x0) : Sound qq oo (failHandover x0 x1 x2) := by
  unfold failHandover
  repeat' first
      | with_reducible first
          | assumption | apply sound_dropOffered | apply sound_dropReqCommands | apply sound_endReq | apply sound_settled

theorem sound_startHandover {x0 : State} {x1 : Handle} {x2 : Req} (h0 : Sound qq oo x0) : Sound qq oo (startHandover x0 x1 x2) := by
  unfold startHandover
  repeat' first
      | with_reducible assumption | (extract_lets +onlyGivenNames s1; clear_value s1)
      | with_reducible first
          | apply sound_failHandover | apply sound_settleHandover | apply sound_sendMsg | apply sound_modCmd
      | refine sound_acceptOffer_eq ?_ (by assumption) | split

theorem sound_execServingHandover {x0 : TurfWork} {x1 : State} (h1 : Sound qq oo x1) : NSound qq oo (execServingHandover x0 x1) := by
  unfold execServingHandover
  show Sound qq oo _
  repeat' first
      | with_reducible assumption
      | (extract_lets +onlyGivenNames s1; refine sound_cut (p := Sound qq oo s1) ?_ ?_; subst s1; rotate_left; intro _; clear_value s1)
      | (extract_lets +onlyGivenNames s1; refine sound_cut (p := Sound qq oo s1.1) ?_ ?_; subst s1; rotate_left; intro _; clear_value s1)
      | (extract_lets +onlyGivenNames s1; clear_value s1)
      | with_reducible first
          | apply sound_settled | apply sound_ashTurves | apply sound_servingCmd | apply sound_startHandover
      | (with_reducible apply sound_servingCmd_eq <;> assumption)
      | split
      | with_reducible first
          | apply Sound.functions | apply Sound.clamps | apply Sound.sources | apply Sound.targets | apply Sound.log | apply Sound.layout
          | apply Sound.virtual | apply Sound.contexts | apply Sound.queue | apply Sound.sent | refine sound_mk ?_ ?_ ?_ ?_ ?_ ?_ ?_ ?_ ?_ ?_

theorem sound_takeOffer {x0 : Msg} {x1 : State} (h1 : Sound qq oo x1) : Sound qq oo (takeOffer x0 x1) := by
  unfold takeOffer
  dsimp only
  repeat' first
      | with_reducible first
          | assumption | apply sound_settleHandover | apply sound_askTurves | apply sound_sendMsg
      | refine sound_acceptOffer_eq ?_ (by assumption) | split

theorem sound_readyHandover {x0 : Msg} {x1 : State} (h1 : Sound qq oo x1) : Sound qq oo (readyHandover x0 x1) := by
  unfold readyHandover
  repeat' first
      | with_reducible assumption
      | (extract_lets +onlyGivenNames s1; refine sound_cut (p := Sound qq oo s1) ?_ ?_; subst s1; rotate_left; intro _; clear_value s1)
      | (extract_lets +onlyGivenNames s1; refine sound_cut (p := Sound qq oo s1.1) ?_ ?_; subst s1; rotate_left; intro _; clear_value s1)
      | (extract_lets +onlyGivenNames s1; clear_value s1)
      | with_reducible first
          | apply sound_modCmd | apply sound_countTraffic | apply sound_sendMsg
      | split
      | with_reducible first
          | apply Sound.functions | apply Sound.clamps | apply Sound.sources | apply Sound.targets | apply Sound.log | apply Sound.layout
          | apply Sound.virtual | apply Sound.contexts | apply Sound.queue | apply Sound.sent | refine sound_mk ?_ ?_ ?_ ?_ ?_ ?_ ?_ ?_ ?_ ?_
      | simp only [id_eq]

theorem sound_confirmHandover {x0 : Msg} {x1 : State} (h1 : Sound qq oo x1) : Sound qq oo (confirmHandover x0 x1) := by
  unfold confirmHandover
  repeat' first
      | with_reducible assumption
      | (extract_lets +onlyGivenNames s1; refine sound_cut (p := Sound qq oo s1) ?_ ?_; subst s1; rotate_left; intro _; clear_value s1)
      | with_reducible apply sound_modCmd | split

theorem sound_declineHandover {x0 : Msg} {x1 : State} (h1 : Sound qq oo x1) : Sound qq oo (declineHandover x0 x1) := by
  unfold declineHandover
  repeat' first
      | with_reducible first
          | assumption | apply sound_failHandover
      | split

theorem sound_abortHandover {x0 : Msg} {x1 : State} (h1 : Sound qq oo x1) : Sound qq oo (abortHandover x0 x1) := by
  unfold abortHandover
  repeat' first
      | with_reducible first
          | assumption | apply sound_dropOffered | apply sound_dropReqCommands
      | split

theorem sound_reopenHandover {x0 : Msg} {x1 : State} (h1 : Sound qq oo x1) : Sound qq oo (reopenHandover x0 x1) := by
  unfold reopenHandover
  repeat' first
      | with_reducible assumption | (extract_lets +onlyGivenNames s1; clear_value s1) | with_reducible apply sound_askTurves | split
      | with_reducible first
          | apply Sound.functions | apply Sound.clamps | apply Sound.sources | apply Sound.targets | apply Sound.log | apply Sound.layout
          | apply Sound.virtual | apply Sound.contexts | apply Sound.queue | apply Sound.sent | refine sound_mk ?_ ?_ ?_ ?_ ?_ ?_ ?_ ?_ ?_ ?_

theorem sound_commitReceived {x0 : State} {x1 : Handle} {x2 : Req} (h0 : Sound qq oo x0) : Sound qq oo (commitReceived x0 x1 x2) := by
  unfold commitReceived
  repeat' first
      | with_reducible assumption
      | (extract_lets +onlyGivenNames s1; refine sound_cut (p := Sound qq oo s1) ?_ ?_; subst s1; rotate_left; intro _; clear_value s1)
      | (extract_lets +onlyGivenNames s1; clear_value s1)
      | with_reducible first
          | apply sound_publish | apply sound_insertBlocks | apply sound_modReq
      | split
      | with_reducible first
          | apply Sound.functions | apply Sound.clamps | apply Sound.sources | apply Sound.targets | apply Sound.log | apply Sound.layout
          | apply Sound.virtual | apply Sound.contexts | apply Sound.queue | apply Sound.sent | refine sound_mk ?_ ?_ ?_ ?_ ?_ ?_ ?_ ?_ ?_ ?_

theorem sound_commitSent {x0 : State} {x1 : Req} (h0 : Sound qq oo x0) : Sound qq oo (commitSent x0 x1) := by
  unfold commitSent
  repeat' first
      | with_reducible assumption
      | (extract_lets +onlyGivenNames s1; refine sound_cut (p := Sound qq oo s1) ?_ ?_; subst s1; rotate_left; intro _; clear_value s1)
      | with_reducible first
          | apply sound_freeVersions | apply sound_releaseTurves | apply sound_modReq | apply sound_endCmd

theorem sound_confirmReceived {x0 : State} {x1 : Handle} {x2 : Req} (h0 : Sound qq oo x0) : Sound qq oo (confirmReceived x0 x1 x2) := by
  unfold confirmReceived
  repeat' first
      | with_reducible assumption | (extract_lets +onlyGivenNames s1; clear_value s1)
      | with_reducible first
          | apply sound_confirmHandover | apply sound_sendMsg
      | split

theorem sound_forwardCancel {x0 : State} {x1 : Handle} {x2 : Req} (h0 : Sound qq oo x0) : Sound qq oo (forwardCancel x0 x1 x2) := by
  unfold forwardCancel
  repeat' first
      | with_reducible assumption
      | (extract_lets +onlyGivenNames s1; refine sound_cut (p := Sound qq oo s1.1) ?_ ?_; subst s1; rotate_left; intro _; clear_value s1)
      | (extract_lets +onlyGivenNames s1; clear_value s1)
      | with_reducible first
          | apply sound_finish | apply sound_sendMsg | apply sound_modCmd | apply sound_cancelReq
      | split

theorem sound_takeCancelMsg {x0 : Msg} {x1 : State} (h1 : Sound qq oo x1) : Sound qq oo (takeCancelMsg x0 x1) := by
  unfold takeCancelMsg
  repeat' first
      | with_reducible assumption
      | (extract_lets +onlyGivenNames s1; refine sound_cut (p := Sound qq oo s1.1) ?_ ?_; subst s1; rotate_left; intro _; clear_value s1)
      | with_reducible first
          | apply sound_finish | apply sound_settled | apply sound_sendMsg | apply sound_cancelReq
      | split

theorem sound_execFlueOffer {x0 : Msg} {x1 : State} (h1 : Sound qq oo x1) : NSound qq oo (execFlueOffer x0 x1) := by
  unfold execFlueOffer
  show Sound qq oo _
  repeat' first
      | with_reducible first
          | assumption | apply sound_takeOffer | refine sound_taking ?_ (fun _ _ => ?_)

theorem sound_execFlueCancel {x0 : Msg} {x1 : State} (h1 : Sound qq oo x1) : NSound qq oo (execFlueCancel x0 x1) := by
  unfold execFlueCancel
  show Sound qq oo _
  repeat' first
      | with_reducible first
          | assumption | apply sound_takeCancelMsg | refine sound_taking ?_ (fun _ _ => ?_)

/-! ## FlueRows -/

theorem sound_closeWait {x0 : State} {x1 : Handle} (h0 : Sound qq oo x0) : Sound qq oo (closeWait x0 x1) := by
  unfold closeWait
  repeat' first
      | with_reducible assumption
      | (extract_lets +onlyGivenNames s1; refine sound_cut (p := Sound qq oo s1) ?_ ?_; subst s1; rotate_left; intro _; clear_value s1)
      | with_reducible first
          | apply sound_failHandover | apply sound_abandonHandover | apply sound_finish | apply sound_sendMsg
          | refine sound_foldl ?_ (fun _ _ _ => ?_)
      | split

theorem sound_closeWaits {x0 : State} (h0 : Sound qq oo x0) : Sound qq oo (closeWaits x0) :=
  sound_foldl h0 fun _ _ h => sound_closeWait h

theorem sound_execFlueReady {x0 : Msg} {x1 : State} (h1 : Sound qq oo x1) : NSound qq oo (execFlueReady x0 x1) := by
  unfold execFlueReady
  show Sound qq oo _
  repeat' first
      | with_reducible first
          | assumption | apply sound_readyHandover | apply sound_takeReady | refine sound_taking ?_ (fun _ _ => ?_) | apply sound_closeWaits
      | split

theorem sound_execFlueWithdraw {x0 : Msg} {x1 : State} (h1 : Sound qq oo x1) : NSound qq oo (execFlueWithdraw x0 x1) := by
  unfold execFlueWithdraw
  show Sound qq oo _
  repeat' first
      | with_reducible first
          | assumption | apply sound_takeWithdraw | refine sound_taking ?_ (fun _ _ => ?_)

theorem sound_landData {x0 : Msg} {x1 : State} (h1 : Sound qq oo x1) : Sound qq oo (landData x0 x1) := by
  unfold landData
  repeat' first
      | with_reducible assumption
      | (extract_lets +onlyGivenNames s1; refine sound_cut (p := Sound qq oo s1) ?_ ?_; subst s1; rotate_left; intro _; clear_value s1)
      | with_reducible first
          | apply sound_settleHandover | apply sound_askTurves | apply sound_takeData | apply sound_askAll | apply sound_dropOffered
      | split

theorem sound_execFlueData {x0 : Msg} {x1 : State} (h1 : Sound qq oo x1) : NSound qq oo (execFlueData x0 x1) := by
  unfold execFlueData
  show Sound qq oo _
  repeat' first
      | with_reducible first
          | assumption | apply sound_landData | refine sound_taking ?_ (fun _ _ => ?_) | apply sound_closeWaits

theorem sound_execFlueRefuse {x0 : Msg} {x1 : State} (h1 : Sound qq oo x1) : NSound qq oo (execFlueRefuse x0 x1) := by
  unfold execFlueRefuse
  show Sound qq oo _
  repeat' first
      | with_reducible first
          | assumption | refine sound_taking ?_ (fun _ _ => ?_)
      | simp only [id_eq]

theorem sound_execFlueReopen {x0 : Msg} {x1 : State} (h1 : Sound qq oo x1) : NSound qq oo (execFlueReopen x0 x1) := by
  unfold execFlueReopen
  show Sound qq oo _
  repeat' first
      | with_reducible first
          | assumption | apply sound_reopenHandover | apply sound_takeReopen | refine sound_taking ?_ (fun _ _ => ?_)
      | split

theorem sound_execFlueConfirm {x0 : Msg} {x1 : State} (h1 : Sound qq oo x1) : NSound qq oo (execFlueConfirm x0 x1) := by
  unfold execFlueConfirm
  show Sound qq oo _
  repeat' first
      | with_reducible first
          | assumption | apply sound_confirmHandover | apply sound_takeConfirm | refine sound_taking ?_ (fun _ _ => ?_)
      | split

theorem sound_execFlueAbort {x0 : Msg} {x1 : State} (h1 : Sound qq oo x1) : NSound qq oo (execFlueAbort x0 x1) := by
  unfold execFlueAbort
  show Sound qq oo _
  repeat' first
      | with_reducible first
          | assumption | apply sound_abortHandover | apply sound_takeAbort | refine sound_taking ?_ (fun _ _ => ?_)
      | split

theorem sound_execFlueDecline {x0 : Msg} {x1 : State} (h1 : Sound qq oo x1) : NSound qq oo (execFlueDecline x0 x1) := by
  unfold execFlueDecline
  show Sound qq oo _
  repeat' first
      | with_reducible first
          | assumption | apply sound_declineHandover | apply sound_takeDecline | refine sound_taking ?_ (fun _ _ => ?_)
      | split

theorem sound_execFlueFlag {x0 : Msg} {x1 : State} (h1 : Sound qq oo x1) : NSound qq oo (execFlueFlag x0 x1) := by
  unfold execFlueFlag
  show Sound qq oo _
  repeat' first
      | with_reducible first
          | assumption | apply sound_takeFlag | refine sound_taking ?_ (fun _ _ => ?_)

theorem sound_execFlagAnswer {x0 : Msg} {x1 : State} (h1 : Sound qq oo x1) : NSound qq oo (execFlagAnswer x0 x1) := by
  unfold execFlagAnswer
  show Sound qq oo _
  repeat' first
      | with_reducible first
          | assumption | apply sound_takeFlagAnswer | refine sound_taking ?_ (fun _ _ => ?_)

theorem sound_execTransferTimeout {x0 : Handle} {x1 : State} (h1 : Sound qq oo x1) : NSound qq oo (execTransferTimeout x0 x1) :=
  sound_closeWait h1

/-! ## IntegrityOps -/

theorem sound_modErr {x0 : State} {x1 : Spot} {x2 : ChanErr → ChanErr} (h0 : Sound qq oo x0) : Sound qq oo (modErr x0 x1 x2) := by
  unfold modErr
  repeat' first
      | with_reducible assumption | (extract_lets +onlyGivenNames s1; clear_value s1) | split
      | with_reducible first
          | apply Sound.functions | apply Sound.clamps | apply Sound.sources | apply Sound.targets | apply Sound.log | apply Sound.layout
          | apply Sound.virtual | apply Sound.contexts | apply Sound.queue | apply Sound.sent | refine sound_mk ?_ ?_ ?_ ?_ ?_ ?_ ?_ ?_ ?_ ?_

theorem sound_startListWrite {x0 : State} (h0 : Sound qq oo x0) : Sound qq oo (startListWrite x0) := by
  unfold startListWrite
  repeat' first
      | with_reducible assumption | (extract_lets +onlyGivenNames s1; clear_value s1) | split
      | with_reducible first
          | apply Sound.functions | apply Sound.clamps | apply Sound.sources | apply Sound.targets | apply Sound.log | apply Sound.layout
          | apply Sound.virtual | apply Sound.contexts | apply Sound.queue | apply Sound.sent | refine sound_mk ?_ ?_ ?_ ?_ ?_ ?_ ?_ ?_ ?_ ?_

theorem sound_retirePage {x0 : State} {x1 : Spot} {x2 : Nat} (h0 : Sound qq oo x0) : Sound qq oo (retirePage x0 x1 x2) := by
  unfold retirePage
  repeat' first
      | with_reducible assumption
      | (extract_lets +onlyGivenNames s1; refine sound_cut (p := Sound qq oo s1) ?_ ?_; subst s1; rotate_left; intro _; clear_value s1)
      | (extract_lets +onlyGivenNames s1; clear_value s1)
      | with_reducible first
          | apply sound_startListWrite | apply sound_modErr | apply sound_raise
      | split
      | with_reducible first
          | apply Sound.functions | apply Sound.clamps | apply Sound.sources | apply Sound.targets | apply Sound.log | apply Sound.layout
          | apply Sound.virtual | apply Sound.contexts | apply Sound.queue | apply Sound.sent | refine sound_mk ?_ ?_ ?_ ?_ ?_ ?_ ?_ ?_ ?_ ?_

theorem sound_takeEntry {x0 : State} {x1 : Spot} {x2 : Nat} (h0 : Sound qq oo x0) : Sound qq oo (takeEntry x0 x1 x2) := by
  unfold takeEntry
  repeat' first
      | with_reducible assumption
      | (extract_lets +onlyGivenNames s1; refine sound_cut (p := Sound qq oo s1) ?_ ?_; subst s1; rotate_left; intro _; clear_value s1)
      | (extract_lets +onlyGivenNames s1; clear_value s1)
      | with_reducible first
          | apply sound_retirePage | apply sound_modErr | apply sound_raise
      | split
      | with_reducible first
          | apply Sound.functions | apply Sound.clamps | apply Sound.sources | apply Sound.targets | apply Sound.log | apply Sound.layout
          | apply Sound.virtual | apply Sound.contexts | apply Sound.queue | apply Sound.sent | refine sound_mk ?_ ?_ ?_ ?_ ?_ ?_ ?_ ?_ ?_ ?_

theorem sound_correctedBurst {x0 : State} {x1 : Spot} {x2 : Nat} {x3 : Bool} (h0 : Sound qq oo x0) : Sound qq oo (correctedBurst x0 x1 x2 x3) := by
  unfold correctedBurst
  repeat' first
      | with_reducible assumption
      | (extract_lets +onlyGivenNames s1; refine sound_cut (p := Sound qq oo s1) ?_ ?_; subst s1; rotate_left; intro _; clear_value s1)
      | with_reducible first
          | apply sound_takeEntry | apply sound_modErr
      | split
      | with_reducible first
          | apply Sound.functions | apply Sound.clamps | apply Sound.sources | apply Sound.targets | apply Sound.log | apply Sound.layout
          | apply Sound.virtual | apply Sound.contexts | apply Sound.queue | apply Sound.sent | refine sound_mk ?_ ?_ ?_ ?_ ?_ ?_ ?_ ?_ ?_ ?_

theorem sound_uncorrectableBurst {x0 : State} {x1 : Spot} {x2 : Nat} (h0 : Sound qq oo x0) : Sound qq oo (uncorrectableBurst x0 x1 x2) := by
  unfold uncorrectableBurst
  repeat' first
      | with_reducible assumption
      | (extract_lets +onlyGivenNames s1; refine sound_cut (p := Sound qq oo s1) ?_ ?_; subst s1; rotate_left; intro _; clear_value s1)
      | with_reducible first
          | apply sound_takeEntry | apply Sound.functions | apply Sound.clamps | apply Sound.sources | apply Sound.targets | apply Sound.log
          | apply Sound.layout | apply Sound.virtual | apply Sound.contexts | apply Sound.queue | apply Sound.sent
          | refine sound_mk ?_ ?_ ?_ ?_ ?_ ?_ ?_ ?_ ?_ ?_

theorem sound_storedRead {x0 : State} {x1 : Option Loc} {x2 : MemErr} (h0 : Sound qq oo x0) : Sound qq oo (storedRead x0 x1 x2).1 := by
  unfold storedRead
  repeat' first
      | with_reducible assumption
      | with_reducible first
          | apply sound_correctedBurst | apply sound_uncorrectableBurst
      | split
      | with_reducible first
          | apply Sound.functions | apply Sound.clamps | apply Sound.sources | apply Sound.targets | apply Sound.log | apply Sound.layout
          | apply Sound.virtual | apply Sound.contexts | apply Sound.queue | apply Sound.sent | refine sound_mk ?_ ?_ ?_ ?_ ?_ ?_ ?_ ?_ ?_ ?_

theorem sound_storedRead_eq {x0 : State} {x1 : Option Loc} {x2 : MemErr} {t : State} {r : _} (h0 : Sound qq oo x0)
    (e : storedRead x0 x1 x2 = (t, r)) : Sound qq oo t := by
  have h := @sound_storedRead qq oo x0 x1 x2 h0
  rw [e] at h
  exact h

/-! ## Slane -/

theorem sound_slaneFault {x0 : State} {x1 : Handle} {x2 : Nat} (h0 : Sound qq oo x0) : Sound qq oo (slaneFault x0 x1 x2) := by
  unfold slaneFault
  repeat' first
      | with_reducible assumption | (extract_lets +onlyGivenNames s1; clear_value s1) | with_reducible apply sound_finish

theorem sound_hostFault {x0 : State} {x1 : Handle} {x2 : Nat} {x3 : Nat} {x4 : Nat} (h0 : Sound qq oo x0) :
    Sound qq oo (hostFault x0 x1 x2 x3 x4) := by
  unfold hostFault
  repeat' first
      | with_reducible first
          | assumption | apply sound_finish

theorem sound_noteRun {x0 : State} {x1 : Cmd} {x2 : Handle} {x3 : Bool} {x4 : Nat} {x5 : Nat} (h0 : Sound qq oo x0) : Sound qq oo (noteRun x0 x1 x2 x3 x4 x5) := by
  unfold noteRun
  repeat' first
      | with_reducible assumption
      | with_reducible first
          | apply sound_servedRun
      | split
      | with_reducible first
          | apply Sound.functions | apply Sound.clamps | apply Sound.sources | apply Sound.targets | apply Sound.log | apply Sound.layout
          | apply Sound.virtual | apply Sound.contexts | apply Sound.queue | apply Sound.sent | refine sound_mk ?_ ?_ ?_ ?_ ?_ ?_ ?_ ?_ ?_ ?_

theorem sound_noteElems {x0 : State} {x1 : Cmd} {x2 : Handle} {x3 : Nat} {x4 : Nat} (h0 : Sound qq oo x0) : Sound qq oo (noteElems x0 x1 x2 x3 x4) := by
  unfold noteElems
  repeat' first
      | with_reducible assumption
      | (extract_lets +onlyGivenNames s1; refine sound_cut (p := Sound qq oo s1) ?_ ?_; subst s1; rotate_left; intro _; clear_value s1)
      | (extract_lets +onlyGivenNames s1; clear_value s1)
      | with_reducible first
          | apply sound_noteRun
      | split
      | with_reducible first
          | apply Sound.functions | apply Sound.clamps | apply Sound.sources | apply Sound.targets | apply Sound.log | apply Sound.layout
          | apply Sound.virtual | apply Sound.contexts | apply Sound.queue | apply Sound.sent | refine sound_mk ?_ ?_ ?_ ?_ ?_ ?_ ?_ ?_ ?_ ?_

theorem sound_writeElems {x0 : State} {x1 : Handle} {x2 : Handle} {x3 : Nat} {x4 : List Nat} (h0 : Sound qq oo x0) :
    Sound qq oo (writeElems x0 x1 x2 x3 x4) := by
  unfold writeElems
  repeat' first
      | with_reducible assumption | (extract_lets +onlyGivenNames s1; clear_value s1) | with_reducible apply sound_writeShadow | split

theorem sound_writeValues {x0 : State} {x1 : Handle} {x2 : Tensor} {x3 : Nat} {x4 : List Num} (h0 : Sound qq oo x0) :
    Sound qq oo (writeValues x0 x1 x2 x3 x4) := by
  unfold writeValues
  repeat' first
      | with_reducible assumption
      | (extract_lets +onlyGivenNames s1; refine sound_cut (p := Sound qq oo s1) ?_ ?_; subst s1; rotate_left; intro _; clear_value s1)
      | (extract_lets +onlyGivenNames s1; clear_value s1)
      | with_reducible first
          | apply sound_writeElems | apply sound_writeShadow
      | split

theorem sound_moveCopy {x0 : State} {x1 : Cmd} {x2 : Handle} {x3 : Handle} {x4 : Nat} {x5 : Nat} {x6 : Nat} (h0 : Sound qq oo x0) : MSound qq oo (moveCopy x0 x1 x2 x3 x4 x5 x6) := by
  unfold moveCopy
  repeat' first
      | with_reducible assumption
      | (extract_lets +onlyGivenNames s1; refine sound_cut (p := Sound qq oo s1) ?_ ?_; subst s1; rotate_left; intro _; clear_value s1)
      | (extract_lets +onlyGivenNames s1; refine sound_cut (p := Sound qq oo s1.1) ?_ ?_; subst s1; rotate_left; intro _; clear_value s1)
      | (extract_lets +onlyGivenNames s1; clear_value s1)
      | with_reducible first
          | apply msound_bad | apply msound_outside | apply msound_foreign | apply msound_waits | apply msound_moved | apply msound_done
          | apply sound_noteElems | apply sound_writeShadow | apply sound_writeElems | apply sound_writeValues | apply prefix_append
      | split
      | with_reducible first
          | apply Sound.functions | apply Sound.clamps | apply Sound.sources | apply Sound.targets | apply Sound.log | apply Sound.layout
          | apply Sound.virtual | apply Sound.contexts | apply Sound.queue | apply Sound.sent | refine sound_mk ?_ ?_ ?_ ?_ ?_ ?_ ?_ ?_ ?_ ?_

theorem sound_moveFill {x0 : State} {x1 : Cmd} {x2 : Handle} {x3 : Nat} {x4 : Nat} {x5 : List Byte} (h0 : Sound qq oo x0) :
    MSound qq oo (moveFill x0 x1 x2 x3 x4 x5) := by
  unfold moveFill
  repeat' first
      | with_reducible assumption | exact msound_outside
      | with_reducible first
          | refine msound_done ?_ | apply sound_writeShadow
      | split

theorem sound_gatherRows {x0 : Cmd} {x1 : Handle} {x2 : Handle} {x3 : Nat} {x4 : List (Nat × Nat)} {x5 : State} (h5 : Sound qq oo x5) : MSound qq oo (gatherRows x0 x1 x2 x3 x4 x5) := by
  induction x4 generalizing x0 x1 x2 x3 x5 with
  | nil =>
    unfold gatherRows
    repeat' first
        | with_reducible assumption
        | with_reducible first
            | apply msound_bad | apply msound_outside | apply msound_foreign | apply msound_waits | apply msound_moved | apply msound_done
            | apply sound_writeShadow | apply sound_noteRun | apply prefix_append
        | split
        | with_reducible first
            | apply Sound.functions | apply Sound.clamps | apply Sound.sources | apply Sound.targets | apply Sound.log | apply Sound.layout
            | apply Sound.virtual | apply Sound.contexts | apply Sound.queue | apply Sound.sent | refine sound_mk ?_ ?_ ?_ ?_ ?_ ?_ ?_ ?_ ?_ ?_
  | cons a l ih =>
    unfold gatherRows
    repeat' first
        | with_reducible assumption
        | with_reducible first
            | apply msound_bad | apply msound_outside | apply msound_foreign | apply msound_waits | apply msound_moved | apply msound_done | apply ih
            | apply sound_writeShadow | apply sound_noteRun | apply prefix_append
        | split
        | with_reducible first
            | apply Sound.functions | apply Sound.clamps | apply Sound.sources | apply Sound.targets | apply Sound.log | apply Sound.layout
            | apply Sound.virtual | apply Sound.contexts | apply Sound.queue | apply Sound.sent | refine sound_mk ?_ ?_ ?_ ?_ ?_ ?_ ?_ ?_ ?_ ?_

theorem sound_moveGather {x0 : State} {x1 : Cmd} {x2 : Handle} {x3 : Handle} {x4 : Handle} {x5 : Nat} {x6 : Nat} (h0 : Sound qq oo x0) : MSound qq oo (moveGather x0 x1 x2 x3 x4 x5 x6) := by
  unfold moveGather
  repeat' first
      | with_reducible assumption
      | with_reducible first
          | apply msound_bad | apply msound_outside | apply msound_foreign | apply msound_waits | apply msound_moved | apply msound_done
          | apply sound_gatherRows | apply sound_noteRun | apply prefix_append
      | refine msound_use ?_ (by assumption)
      | split
      | with_reducible first
          | apply Sound.functions | apply Sound.clamps | apply Sound.sources | apply Sound.targets | apply Sound.log | apply Sound.layout
          | apply Sound.virtual | apply Sound.contexts | apply Sound.queue | apply Sound.sent | refine sound_mk ?_ ?_ ?_ ?_ ?_ ?_ ?_ ?_ ?_ ?_

theorem msound_readForHost {s : State} {c : Cmd} {t : Handle} {off len plane fmt : Nat} {m : Moved}
    (e : readForHost s c t off len plane fmt = .error m) : MSound qq oo m := by
  unfold readForHost at e
  repeat' first
      | contradiction | (injection e with e; subst e; first | exact msound_moved | trivial) | split at e

theorem sound_pumpHost {x0 : Nat} {x1 : State} (h1 : Sound qq oo x1) : Sound qq oo (pumpHost x0 x1) := by
  induction x0 generalizing x1 with
  | zero =>
    unfold pumpHost
    repeat' first
        | with_reducible assumption
        | (extract_lets +onlyGivenNames s1; refine sound_cut (p := Sound qq oo s1) ?_ ?_; subst s1; rotate_left; intro _; clear_value s1)
        | (extract_lets +onlyGivenNames s1; refine sound_cut (p := Sound qq oo s1.1) ?_ ?_; subst s1; rotate_left; intro _; clear_value s1)
        | (extract_lets +onlyGivenNames s1; clear_value s1)
        | with_reducible first
            | apply sound_modCmd | apply sound_emit
        | split
        | with_reducible first
            | apply Sound.functions | apply Sound.clamps | apply Sound.sources | apply Sound.targets | apply Sound.log | apply Sound.layout
            | apply Sound.virtual | apply Sound.contexts | apply Sound.queue | apply Sound.sent | refine sound_mk ?_ ?_ ?_ ?_ ?_ ?_ ?_ ?_ ?_ ?_
  | succ n ih =>
    unfold pumpHost
    repeat' first
        | with_reducible assumption
        | (extract_lets +onlyGivenNames s1; refine sound_cut (p := Sound qq oo s1) ?_ ?_; subst s1; rotate_left; intro _; clear_value s1)
        | (extract_lets +onlyGivenNames s1; refine sound_cut (p := Sound qq oo s1.1) ?_ ?_; subst s1; rotate_left; intro _; clear_value s1)
        | (extract_lets +onlyGivenNames s1; clear_value s1)
        | with_reducible first
            | apply ih | apply sound_modCmd | apply sound_emit
        | split
        | with_reducible first
            | apply Sound.functions | apply Sound.clamps | apply Sound.sources | apply Sound.targets | apply Sound.log | apply Sound.layout
            | apply Sound.virtual | apply Sound.contexts | apply Sound.queue | apply Sound.sent | refine sound_mk ?_ ?_ ?_ ?_ ?_ ?_ ?_ ?_ ?_ ?_

theorem sound_askHost {x0 : State} {x1 : Handle} {x2 : Nat} {x3 : Nat} (h0 : Sound qq oo x0) : Sound qq oo (askHost x0 x1 x2 x3) := by
  unfold askHost
  repeat' first
      | with_reducible assumption
      | with_reducible first
          | apply sound_hostFault | apply sound_pumpHost | apply sound_modCmd
      | split
      | with_reducible first
          | apply Sound.functions | apply Sound.clamps | apply Sound.sources | apply Sound.targets | apply Sound.log | apply Sound.layout
          | apply Sound.virtual | apply Sound.contexts | apply Sound.queue | apply Sound.sent | refine sound_mk ?_ ?_ ?_ ?_ ?_ ?_ ?_ ?_ ?_ ?_

theorem sound_startWrite {x0 : State} {x1 : Cmd} {x2 : Handle} {x3 : Nat} {x4 : Nat} {x5 : Nat} {x6 : Nat} {x7 : Nat} (h0 : Sound qq oo x0) :
    Sound qq oo (startWrite x0 x1 x2 x3 x4 x5 x6 x7) := by
  unfold startWrite
  repeat' first
      | with_reducible assumption | (extract_lets +onlyGivenNames s1; clear_value s1)
      | with_reducible first
          | apply sound_askHost | apply sound_hostFault
      | split

theorem sound_endWrite {x0 : State} {x1 : Cmd} (h0 : Sound qq oo x0) : Sound qq oo (endWrite x0 x1) := by
  unfold endWrite
  repeat' first
      | with_reducible assumption | (extract_lets +onlyGivenNames s1; clear_value s1)
      | with_reducible first
          | apply sound_writeValues | apply sound_writeShadow
      | split

theorem sound_doneNow {x0 : State} {x1 : Handle} (h0 : Sound qq oo x0) : Sound qq oo (doneNow x0 x1) := by
  unfold doneNow
  repeat' first
      | with_reducible first
          | assumption | apply sound_modCmd

theorem sound_spoilRead {x0 : State} {x1 : Cmd} {x2 : Handle} {x3 : Nat} (h0 : Sound qq oo x0) : Sound qq oo (spoilRead x0 x1 x2 x3) := by
  unfold spoilRead
  repeat' first
      | with_reducible assumption
      | with_reducible first
          | apply sound_modCmd | apply sound_spoilSod
      | with_reducible first
          | apply Sound.functions | apply Sound.clamps | apply Sound.sources | apply Sound.targets | apply Sound.log | apply Sound.layout
          | apply Sound.virtual | apply Sound.contexts | apply Sound.queue | apply Sound.sent | refine sound_mk ?_ ?_ ?_ ?_ ?_ ?_ ?_ ?_ ?_ ?_

theorem sound_haltSlane {x0 : State} {x1 : Handle} {x2 : Handle} {x3 : Nat} (h0 : Sound qq oo x0) : Sound qq oo (haltSlane x0 x1 x2 x3) := by
  unfold haltSlane
  repeat' first
      | with_reducible assumption
      | (extract_lets +onlyGivenNames s1; refine sound_cut (p := Sound qq oo s1) ?_ ?_; subst s1; rotate_left; intro _; clear_value s1)
      | (extract_lets +onlyGivenNames s1; refine sound_cut (p := Sound qq oo s1.1) ?_ ?_; subst s1; rotate_left; intro _; clear_value s1)
      | (extract_lets +onlyGivenNames s1; clear_value s1)
      | with_reducible first
          | apply sound_modCmd | apply sound_spoilRead | apply sound_settled | apply sound_raise
      | split
      | with_reducible first
          | apply Sound.functions | apply Sound.clamps | apply Sound.sources | apply Sound.targets | apply Sound.log | apply Sound.layout
          | apply Sound.virtual | apply Sound.contexts | apply Sound.queue | apply Sound.sent | refine sound_mk ?_ ?_ ?_ ?_ ?_ ?_ ?_ ?_ ?_ ?_

theorem sound_afterMove {x0 : State} {x1 : Handle} {x2 : Moved} {x3 : Bool} (h0 : Sound qq oo x0) (hm : MSound qq oo x2) :
    Sound qq oo (afterMove x0 x1 x2 x3) := by
  cases x2 with
  | done s => exact sound_doneNow hm
  | waits => exact h0
  | outside off =>
    dsimp only [afterMove]
    split
    · exact sound_hostFault h0
    · exact sound_slaneFault h0
  | foreign k => exact sound_foreignFault h0
  | bad t k =>
    dsimp only [afterMove]
    repeat' first
        | with_reducible first
            | assumption | apply sound_finish | apply sound_spoilRead | apply sound_haltSlane
        | split

theorem sound_noteRead {x0 : State} {x1 : Cmd} {x2 : Handle} {x3 : Nat} {x4 : Nat} {x5 : Nat} {x6 : Nat} (h0 : Sound qq oo x0) : Sound qq oo (noteRead x0 x1 x2 x3 x4 x5 x6) := by
  unfold noteRead
  repeat' first
      | with_reducible assumption
      | with_reducible first
          | apply sound_noteElems | apply sound_noteRun
      | split

theorem sound_runSlane {x0 : State} {x1 : Handle} (h0 : Sound qq oo x0) : Sound qq oo (runSlane x0 x1) := by
  unfold runSlane
  repeat' first
      | with_reducible first
          | assumption | refine sound_afterMove ?_ ?_
      | exact msound_readForHost (by assumption)
      | with_reducible first
          | apply sound_doneNow | apply sound_startWrite | apply sound_moveGather | apply sound_moveFill | apply sound_moveCopy | apply sound_noteRead
          | apply sound_modCmd
      | split

theorem sound_serveSlane {x0 : State} {x1 : Handle} (h0 : Sound qq oo x0) : Sound qq oo (serveSlane x0 x1) := by
  unfold serveSlane
  repeat' first
      | with_reducible assumption
      | with_reducible first
          | apply sound_runSlane
      | split
      | with_reducible first
          | apply Sound.functions | apply Sound.clamps | apply Sound.sources | apply Sound.targets | apply Sound.log | apply Sound.layout
          | apply Sound.virtual | apply Sound.contexts | apply Sound.queue | apply Sound.sent | refine sound_mk ?_ ?_ ?_ ?_ ?_ ?_ ?_ ?_ ?_ ?_

theorem sound_abortSlane {x0 : State} {x1 : Handle} (h0 : Sound qq oo x0) : Sound qq oo (abortSlane x0 x1) := by
  unfold abortSlane
  repeat' first
      | with_reducible first
          | assumption | apply sound_finish

theorem sound_execSlaneHaltTimeout {x0 : Handle} {x1 : State} (h1 : Sound qq oo x1) : NSound qq oo (execSlaneHaltTimeout x0 x1) := by
  unfold execSlaneHaltTimeout
  show Sound qq oo _
  repeat' first
      | with_reducible first
          | assumption | apply sound_abortSlane
      | split

end Sys2Proof.Machine
end

