-- ==== Sys2Proof/Laws/SoundSched.lean ====
section
/-!
SUPPORT. What every operation of the machine keeps (`Sound`): scheduling, commits and the decisions of packets.
-/
namespace Sys2Proof.Machine

open Sys2Proof

variable {qq : List Instr} {oo : List Out}

/-! ## Sched -/

theorem sound_moveCore {x0 : State} {x1 : Nat} {x2 : Nat} (h0 : Sound qq oo x0) : Sound qq oo (moveCore x0 x1 x2) := by
  unfold moveCore
  repeat' first
      | with_reducible assumption
      | (extract_lets +onlyGivenNames s1; refine sound_cut (p := Sound qq oo s1) ?_ ?_; subst s1; rotate_left; intro _; clear_value s1)
      | (extract_lets +onlyGivenNames s1; clear_value s1)
      | with_reducible first
          | apply sound_killTile | apply sound_modCore
      | split
      | with_reducible first
          | apply Sound.functions | apply Sound.clamps | apply Sound.sources | apply Sound.targets | apply Sound.log | apply Sound.layout
          | apply Sound.virtual | apply Sound.contexts | apply Sound.queue | apply Sound.sent | refine sound_mk ?_ ?_ ?_ ?_ ?_ ?_ ?_ ?_ ?_ ?_

theorem sound_bringCores {x0 : State} {x1 : List Nat} {x2 : List (Nat × Nat)} {x3 : Bool} {x4 : Nat} {x5 : Nat} (h0 : Sound qq oo x0) :
    Sound qq oo (bringCores x0 x1 x2 x3 x4 x5) := by
  induction x5 generalizing x0 x1 x2 x3 x4 with
  | zero =>
    unfold bringCores
    repeat' first
        | with_reducible assumption
  | succ n ih =>
    unfold bringCores
    repeat' first
        | with_reducible first
            | assumption | apply ih | apply sound_moveCore
        | split

theorem sound_assignCores {x0 : State} {x1 : Nat} {x2 : Bool} (h0 : Sound qq oo x0) : Sound qq oo (assignCores x0 x1 x2) := by
  unfold assignCores
  repeat' first
      | with_reducible assumption | (extract_lets +onlyGivenNames s1; clear_value s1)
      | with_reducible first
          | apply sound_bringCores | refine sound_foldl ?_ (fun _ _ _ => ?_)

theorem sound_stopChan {x0 : State} {x1 : Nat} (h0 : Sound qq oo x0) : Sound qq oo (stopChan x0 x1) := by
  unfold stopChan
  repeat' first
      | with_reducible first
          | assumption | apply sound_stopUnit | refine sound_foldl ?_ (fun _ _ _ => ?_)

theorem sound_assignChans {x0 : State} {x1 : Nat} (h0 : Sound qq oo x0) : Sound qq oo (assignChans x0 x1) := by
  unfold assignChans
  repeat' first
      | with_reducible assumption | (extract_lets +onlyGivenNames s1; clear_value s1)
      | with_reducible first
          | apply sound_stopChan | refine sound_foldl ?_ (fun _ _ _ => ?_)

theorem sound_takeSlane {x0 : State} {x1 : Nat} (h0 : Sound qq oo x0) : Sound qq oo (takeSlane x0 x1) := by
  unfold takeSlane
  repeat' first
      | with_reducible assumption
      | (extract_lets +onlyGivenNames s1; refine sound_cut (p := Sound qq oo s1) ?_ ?_; subst s1; rotate_left; intro _; clear_value s1)
      | (extract_lets +onlyGivenNames s1; clear_value s1)
      | with_reducible first
          | apply sound_charge | apply sound_killCmd
      | split
      | with_reducible first
          | apply Sound.functions | apply Sound.clamps | apply Sound.sources | apply Sound.targets | apply Sound.log | apply Sound.layout
          | apply Sound.virtual | apply Sound.contexts | apply Sound.queue | apply Sound.sent | refine sound_mk ?_ ?_ ?_ ?_ ?_ ?_ ?_ ?_ ?_ ?_

theorem sound_assignSlane {x0 : State} {x1 : Nat} (h0 : Sound qq oo x0) : Sound qq oo (assignSlane x0 x1) := by
  unfold assignSlane
  repeat' first
      | with_reducible assumption
      | (extract_lets +onlyGivenNames s1; refine sound_cut (p := Sound qq oo s1) ?_ ?_; subst s1; rotate_left; intro _; clear_value s1)
      | (extract_lets +onlyGivenNames s1; refine sound_cut (p := Sound qq oo s1.1) ?_ ?_; subst s1; rotate_left; intro _; clear_value s1)
      | (extract_lets +onlyGivenNames s1; clear_value s1)
      | with_reducible first
          | apply sound_takeSlane | refine sound_foldl ?_ (fun _ _ _ => ?_)

theorem sound_abandonSwitches {x0 : State} {x1 : Nat} (h0 : Sound qq oo x0) : Sound qq oo (abandonSwitches x0 x1) := by
  unfold abandonSwitches
  repeat' first
      | with_reducible assumption
      | (extract_lets +onlyGivenNames s1; refine sound_cut (p := Sound qq oo s1) ?_ ?_; subst s1; rotate_left; intro _; clear_value s1)
      | (extract_lets +onlyGivenNames s1; refine sound_cut (p := Sound qq oo s1.1) ?_ ?_; subst s1; rotate_left; intro _; clear_value s1)
      | (extract_lets +onlyGivenNames s1; clear_value s1)
      | with_reducible first
          | apply Sound.functions | apply Sound.clamps | apply Sound.sources | apply Sound.targets | apply Sound.log | apply Sound.layout
          | apply Sound.virtual | apply Sound.contexts | apply Sound.queue | apply Sound.sent | refine sound_mk ?_ ?_ ?_ ?_ ?_ ?_ ?_ ?_ ?_ ?_

theorem sound_assignAll {x0 : State} {x1 : Nat} (h0 : Sound qq oo x0) : Sound qq oo (assignAll x0 x1) := by
  unfold assignAll
  repeat' first
      | with_reducible assumption
      | with_reducible first
          | apply sound_fillCores | apply sound_assignSlane | apply sound_assignChans | apply sound_assignCores | apply sound_abandonSwitches

theorem sound_execSliceBoundary {x0 : Nat} {x1 : State} (h1 : Sound qq oo x1) : NSound qq oo (execSliceBoundary x0 x1) := by
  unfold execSliceBoundary
  show Sound qq oo _
  repeat' first
      | with_reducible assumption
      | (extract_lets +onlyGivenNames s1; refine sound_cut (p := Sound qq oo s1) ?_ ?_; subst s1; rotate_left; intro _; clear_value s1)
      | (extract_lets +onlyGivenNames s1; clear_value s1)
      | with_reducible first
          | apply sound_settled | apply sound_assignAll | apply sound_modClamp
      | split
      | with_reducible first
          | apply Sound.functions | apply Sound.clamps | apply Sound.sources | apply Sound.targets | apply Sound.log | apply Sound.layout
          | apply Sound.virtual | apply Sound.contexts | apply Sound.queue | apply Sound.sent | refine sound_mk ?_ ?_ ?_ ?_ ?_ ?_ ?_ ?_ ?_ ?_

theorem sound_execCoreSwitchDone {x0 : Nat} {x1 : Nat} {x2 : State} (h2 : Sound qq oo x2) : NSound qq oo (execCoreSwitchDone x0 x1 x2) := by
  unfold execCoreSwitchDone
  show Sound qq oo _
  repeat' first
      | with_reducible first
          | assumption | apply sound_fillCores | apply sound_modCore | apply sound_discard
      | split

theorem sound_execAccountingPeriodEnd {x0 : State} (h0 : Sound qq oo x0) : NSound qq oo (execAccountingPeriodEnd x0) := by
  unfold execAccountingPeriodEnd
  show Sound qq oo _
  repeat' first
      | with_reducible assumption | rw [List.length_map] | refine rising_map (fun _ => rfl) ?_ | split | simp only [id_eq]
      | with_reducible first
          | apply Sound.functions | apply Sound.clamps | apply Sound.sources | apply Sound.targets | apply Sound.log | apply Sound.layout
          | apply Sound.virtual | apply Sound.contexts | apply Sound.queue | apply Sound.sent | refine sound_mk ?_ ?_ ?_ ?_ ?_ ?_ ?_ ?_ ?_ ?_

theorem sound_dealTiles {x0 : State} {x1 : Handle} {x2 : Nat} (h0 : Sound qq oo x0) : Sound qq oo (dealTiles x0 x1 x2) := by
  unfold dealTiles
  repeat' first
      | with_reducible assumption | (extract_lets +onlyGivenNames s1; clear_value s1)
      | with_reducible first
          | apply Sound.functions | apply Sound.clamps | apply Sound.sources | apply Sound.targets | apply Sound.log | apply Sound.layout
          | apply Sound.virtual | apply Sound.contexts | apply Sound.queue | apply Sound.sent | refine sound_mk ?_ ?_ ?_ ?_ ?_ ?_ ?_ ?_ ?_ ?_

theorem sound_inbankShadows {x0 : List (Handle × Nat)} {x1 : List Loc} {x2 : State} {x3 : Handle} (h2 : Sound qq oo x2) :
    OSound qq oo (inbankShadows x0 x1 x2 x3) := by
  induction x0 generalizing x1 x2 with
  | nil => unfold inbankShadows; exact osound_some h2
  | cons a l ih =>
    cases x1 with
    | nil => unfold inbankShadows; exact osound_none
    | cons b m =>
      unfold inbankShadows
      dsimp only
      repeat' first
          | exact osound_none
          | with_reducible first
              | apply ih | apply sound_openAt | apply sound_modCmd | apply sound_checkSeeds | assumption
          | split

theorem sound_enterRun {x0 : State} {x1 : Handle} {x2 : List (Handle × Nat)} (h0 : Sound qq oo x0) : Sound qq oo (enterRun x0 x1 x2) := by
  unfold enterRun
  repeat' first
      | with_reducible assumption
      | (extract_lets +onlyGivenNames s1; refine sound_cut (p := Sound qq oo s1) ?_ ?_; subst s1; rotate_left; intro _; clear_value s1)
      | (extract_lets +onlyGivenNames s1; refine sound_cut (p := Sound qq oo s1.1) ?_ ?_; subst s1; rotate_left; intro _; clear_value s1)
      | (extract_lets +onlyGivenNames s1; clear_value s1)
      | with_reducible first
          | apply sound_modCmd
      | split
      | with_reducible first
          | apply Sound.functions | apply Sound.clamps | apply Sound.sources | apply Sound.targets | apply Sound.log | apply Sound.layout
          | apply Sound.virtual | apply Sound.contexts | apply Sound.queue | apply Sound.sent | refine sound_mk ?_ ?_ ?_ ?_ ?_ ?_ ?_ ?_ ?_ ?_

theorem sound_startWork {x0 : State} {x1 : Handle} {x2 : List Loc} (h0 : Sound qq oo x0) : OSound qq oo (startWork x0 x1 x2) := by
  unfold startWork
  repeat' first
      | with_reducible assumption
      | (extract_lets +onlyGivenNames s1; refine sound_cut (p := Sound qq oo s1) ?_ ?_; subst s1; rotate_left; intro _; clear_value s1)
      | exact osound_none
      | with_reducible first
          | refine osound_some ?_ | apply sound_dataError | apply sound_modCmd
      | refine osound_use (sound_inbankShadows ?_) (by assumption) | split

theorem sound_arrive {x0 : State} {x1 : Handle} (h0 : Sound qq oo x0) : Sound qq oo (arrive x0 x1) := by
  unfold arrive
  repeat' first
      | with_reducible assumption
      | (extract_lets +onlyGivenNames s1; refine sound_cut (p := Sound qq oo s1) ?_ ?_; subst s1; rotate_left; intro _; clear_value s1)
      | (extract_lets +onlyGivenNames s1; refine sound_cut (p := Sound qq oo s1.1) ?_ ?_; subst s1; rotate_left; intro _; clear_value s1)
      | (extract_lets +onlyGivenNames s1; clear_value s1)
      | with_reducible first
          | apply sound_assignCores | apply sound_dealTiles | apply sound_assignChans | apply sound_fillCores | apply sound_assignSlane
      | split
      | with_reducible first
          | apply Sound.functions | apply Sound.clamps | apply Sound.sources | apply Sound.targets | apply Sound.log | apply Sound.layout
          | apply Sound.virtual | apply Sound.contexts | apply Sound.queue | apply Sound.sent | refine sound_mk ?_ ?_ ?_ ?_ ?_ ?_ ?_ ?_ ?_ ?_

theorem sound_rerunServing {x0 : State} {x1 : Cmd} (h0 : Sound qq oo x0) : Sound qq oo (rerunServing x0 x1) := by
  unfold rerunServing
  repeat' first
      | with_reducible first
          | assumption | apply sound_startHandover | apply sound_settleHandover | apply sound_askTurves | apply sound_doneNow
      | split

theorem sound_beginWork {x0 : State} {x1 : Handle} {x2 : Work} {x3 : List Loc} {x4 : Cmd} (h0 : Sound qq oo x0) : Sound qq oo (beginWork x0 x1 x2 x3 x4) := by
  unfold beginWork
  repeat' first
      | with_reducible assumption
      | with_reducible first
          | apply sound_startWork | apply sound_arrive | apply sound_startFlue | apply sound_rerunServing | apply sound_serveSlane
          | apply sound_doneNow
      | refine osound_use ?_ (by assumption)
      | split
      | with_reducible first
          | apply Sound.functions | apply Sound.clamps | apply Sound.sources | apply Sound.targets | apply Sound.log | apply Sound.layout
          | apply Sound.virtual | apply Sound.contexts | apply Sound.queue | apply Sound.sent | refine sound_mk ?_ ?_ ?_ ?_ ?_ ?_ ?_ ?_ ?_ ?_

theorem sound_execRunPhaseStart {x0 : Handle} {x1 : RunChoice} {x2 : State} (h2 : Sound qq oo x2) : NSound qq oo (execRunPhaseStart x0 x1 x2) := by
  unfold execRunPhaseStart
  show Sound qq oo _
  repeat' first
      | with_reducible assumption
      | (extract_lets +onlyGivenNames s1; refine sound_cut (p := Sound qq oo s1) ?_ ?_; subst s1; rotate_left; intro _; clear_value s1)
      | (extract_lets +onlyGivenNames s1; clear_value s1)
      | with_reducible first
          | apply sound_serveSlane | apply sound_finish | apply sound_enterRun | apply sound_beginWork
      | split
      | with_reducible first
          | apply Sound.functions | apply Sound.clamps | apply Sound.sources | apply Sound.targets | apply Sound.log | apply Sound.layout
          | apply Sound.virtual | apply Sound.contexts | apply Sound.queue | apply Sound.sent | refine sound_mk ?_ ?_ ?_ ?_ ?_ ?_ ?_ ?_ ?_ ?_

theorem sound_promote {x0 : State} {x1 : Handle} {x2 : Nat} {x3 : Loc} (h0 : Sound qq oo x0) : OSound qq oo (promote x0 x1 x2 x3) := by
  unfold promote
  repeat' first
      | with_reducible assumption | exact osound_none
      | with_reducible first
          | refine osound_some ?_ | apply sound_makeAsh | apply sound_openAt | apply sound_modTensor | apply sound_gather
      | split

theorem sound_promoteAll {x0 : List (Handle × Nat)} {x1 : List Loc} {x2 : State} (h2 : Sound qq oo x2) :
    OSound qq oo (promoteAll x0 x1 x2) := by
  induction x0 generalizing x1 x2 with
  | nil => unfold promoteAll; exact osound_some h2
  | cons a l ih =>
    cases x1 with
    | nil => unfold promoteAll; exact osound_some h2
    | cons b m =>
      unfold promoteAll
      intro t ht
      obtain ⟨u, hu, hv⟩ := Option.bind_eq_some_iff.1 ht
      exact ih (osound_use (sound_promote h2) hu) t hv

theorem sound_execSodPromotion {x0 : Handle} {x1 : List Loc} {x2 : State} (h2 : Sound qq oo x2) : NSound qq oo (execSodPromotion x0 x1 x2) := by
  unfold execSodPromotion
  show Sound qq oo _
  repeat' first
      | with_reducible assumption | (extract_lets +onlyGivenNames s1; clear_value s1)
      | with_reducible first
          | apply sound_settled | apply sound_modCmd
      | refine osound_use (sound_promoteAll ?_) (by assumption) | split

theorem sound_execWaitTimeout {x0 : Handle} {x1 : State} (h1 : Sound qq oo x1) : NSound qq oo (execWaitTimeout x0 x1) := by
  unfold execWaitTimeout
  show Sound qq oo _
  repeat' first
      | with_reducible assumption | (extract_lets +onlyGivenNames s1; clear_value s1)
      | with_reducible first
          | apply sound_endReq | apply sound_finish | apply sound_settled
      | split | simp only [id_eq]
      | with_reducible first
          | apply Sound.functions | apply Sound.clamps | apply Sound.sources | apply Sound.targets | apply Sound.log | apply Sound.layout
          | apply Sound.virtual | apply Sound.contexts | apply Sound.queue | apply Sound.sent | refine sound_mk ?_ ?_ ?_ ?_ ?_ ?_ ?_ ?_ ?_ ?_

theorem sound_breakCycle {x0 : State} {x1 : Nat} (h0 : Sound qq oo x0) : Sound qq oo (breakCycle x0 x1) := by
  unfold breakCycle
  repeat' first
      | with_reducible first
          | assumption | apply sound_endCmd | apply sound_putRec | refine sound_foldl ?_ (fun _ _ _ => ?_)
      | split

theorem sound_checkDeadlock {x0 : State} {x1 : Nat} (h0 : Sound qq oo x0) : Sound qq oo (checkDeadlock x0 x1) := by
  unfold checkDeadlock
  repeat' first
      | with_reducible first
          | assumption | apply sound_breakCycle | apply sound_finish | refine sound_foldl ?_ (fun _ _ _ => ?_)
      | split

theorem sound_execDeadlockCheck {x0 : State} (h0 : Sound qq oo x0) : NSound qq oo (execDeadlockCheck x0) := by
  unfold execDeadlockCheck
  show Sound qq oo _
  repeat' first
      | with_reducible first
          | assumption | apply sound_checkDeadlock | apply sound_settled | refine sound_foldl ?_ (fun _ _ _ => ?_)
      | split

theorem sound_killClamp {x0 : State} {x1 : Nat} (h0 : Sound qq oo x0) : Sound qq oo (killClamp x0 x1) := by
  unfold killClamp
  repeat' first
      | with_reducible assumption
      | (extract_lets +onlyGivenNames s1; refine sound_cut (p := Sound qq oo s1) ?_ ?_; subst s1; rotate_left; intro _; clear_value s1)
      | (extract_lets +onlyGivenNames s1; refine sound_cut (p := Sound qq oo s1.1) ?_ ?_; subst s1; rotate_left; intro _; clear_value s1)
      | (extract_lets +onlyGivenNames s1; clear_value s1)
      | with_reducible first
          | apply sound_abandonSwitches | apply sound_killCmd | apply sound_modCore | refine sound_foldl ?_ (fun _ _ _ => ?_)
      | with_reducible first
          | apply Sound.functions | apply Sound.clamps | apply Sound.sources | apply Sound.targets | apply Sound.log | apply Sound.layout
          | apply Sound.virtual | apply Sound.contexts | apply Sound.queue | apply Sound.sent | refine sound_mk ?_ ?_ ?_ ?_ ?_ ?_ ?_ ?_ ?_ ?_

theorem sound_execDrainLimitExpiry {x0 : Nat} {x1 : State} (h1 : Sound qq oo x1) : NSound qq oo (execDrainLimitExpiry x0 x1) := by
  unfold execDrainLimitExpiry
  show Sound qq oo _
  repeat' first
      | with_reducible first
          | assumption | apply sound_killClamp | apply sound_settled | apply sound_modClamp
      | split

theorem sound_endClamp {x0 : State} {x1 : Nat} (h0 : Sound qq oo x0) : Sound qq oo (endClamp x0 x1) := by
  unfold endClamp
  repeat' first
      | with_reducible assumption
      | (extract_lets +onlyGivenNames s1; refine sound_cut (p := Sound qq oo s1) ?_ ?_; subst s1; rotate_left; intro _; clear_value s1)
      | (extract_lets +onlyGivenNames s1; clear_value s1)
      | with_reducible first
          | apply sound_endContext | apply sound_settled | apply sound_dropSlot | apply sound_modClamp | apply sound_cancelReq
          | refine sound_foldl ?_ (fun _ _ _ => ?_) | apply Sound.functions | apply Sound.clamps | apply Sound.sources | apply Sound.targets
          | apply Sound.log | apply Sound.layout | apply Sound.virtual | apply Sound.contexts | apply Sound.queue | apply Sound.sent
          | refine sound_mk ?_ ?_ ?_ ?_ ?_ ?_ ?_ ?_ ?_ ?_

theorem sound_beginClampReset {x0 : State} {x1 : Nat} (h0 : Sound qq oo x0) : Sound qq oo (beginClampReset x0 x1) := by
  unfold beginClampReset
  repeat' first
      | with_reducible assumption
      | (extract_lets +onlyGivenNames s1; refine sound_cut (p := Sound qq oo s1) ?_ ?_; subst s1; rotate_left; intro _; clear_value s1)
      | with_reducible first
          | apply sound_endClamp | apply sound_killClamp | apply sound_settled | apply sound_modClamp
      | split

theorem sound_execClampStopped {x0 : Nat} {x1 : State} (h1 : Sound qq oo x1) : NSound qq oo (execClampStopped x0 x1) := by
  unfold execClampStopped
  show Sound qq oo _
  repeat' first
      | with_reducible assumption
      | (extract_lets +onlyGivenNames s1; refine sound_cut (p := Sound qq oo s1) ?_ ?_; subst s1; rotate_left; intro _; clear_value s1)
      | (extract_lets +onlyGivenNames s1; clear_value s1)
      | with_reducible first
          | apply sound_beginClampReset | apply sound_endClamp | apply sound_finish | apply sound_modClamp
      | split
      | with_reducible first
          | apply Sound.functions | apply Sound.clamps | apply Sound.sources | apply Sound.targets | apply Sound.log | apply Sound.layout
          | apply Sound.virtual | apply Sound.contexts | apply Sound.queue | apply Sound.sent | refine sound_mk ?_ ?_ ?_ ?_ ?_ ?_ ?_ ?_ ?_ ?_

theorem sound_execTileCommit {x0 : Nat} {x1 : Nat} {x2 : State} (h2 : Sound qq oo x2) : NSound qq oo (execTileCommit x0 x1 x2) := by
  unfold execTileCommit
  show Sound qq oo _
  repeat' first
      | with_reducible assumption
      | (extract_lets +onlyGivenNames s1; refine sound_cut (p := Sound qq oo s1) ?_ ?_; subst s1; rotate_left; intro _; clear_value s1)
      | (extract_lets +onlyGivenNames s1; clear_value s1)
      | with_reducible first
          | apply sound_writeShadow | apply sound_finish | apply sound_modTile | apply sound_modCmd | refine sound_foldl ?_ (fun _ _ _ => ?_)
      | split

theorem sound_execTileCommitDone {x0 : Nat} {x1 : Nat} {x2 : State} (h2 : Sound qq oo x2) : NSound qq oo (execTileCommitDone x0 x1 x2) := by
  unfold execTileCommitDone
  show Sound qq oo _
  repeat' first
      | with_reducible assumption
      | (extract_lets +onlyGivenNames s1; refine sound_cut (p := Sound qq oo s1) ?_ ?_; subst s1; rotate_left; intro _; clear_value s1)
      | (extract_lets +onlyGivenNames s1; refine sound_cut (p := Sound qq oo s1.1) ?_ ?_; subst s1; rotate_left; intro _; clear_value s1)
      | (extract_lets +onlyGivenNames s1; clear_value s1)
      | with_reducible first
          | apply sound_discardIn | apply sound_charge | apply sound_modCore | apply sound_settled | apply sound_markDone | apply sound_modCmd
      | split
      | with_reducible first
          | apply Sound.functions | apply Sound.clamps | apply Sound.sources | apply Sound.targets | apply Sound.log | apply Sound.layout
          | apply Sound.virtual | apply Sound.contexts | apply Sound.queue | apply Sound.sent | refine sound_mk ?_ ?_ ?_ ?_ ?_ ?_ ?_ ?_ ?_ ?_

/-! ## ClampOps -/

theorem sound_moveOff {x0 : State} {x1 : Handle × Nat} (h0 : Sound qq oo x0) : Sound qq oo (moveOff x0 x1) := by
  unfold moveOff
  repeat' first
      | with_reducible assumption
      | (extract_lets +onlyGivenNames s1; refine sound_cut (p := Sound qq oo s1) ?_ ?_; subst s1; rotate_left; intro _; clear_value s1)
      | (extract_lets +onlyGivenNames s1; refine sound_cut (p := Sound qq oo s1.1) ?_ ?_; subst s1; rotate_left; intro _; clear_value s1)
      | (extract_lets +onlyGivenNames s1; clear_value s1)
      | with_reducible first
          | apply sound_checkSeeds | apply sound_modTensor
      | with_reducible first
          | apply Sound.functions | apply Sound.clamps | apply Sound.sources | apply Sound.targets | apply Sound.log | apply Sound.layout
          | apply Sound.virtual | apply Sound.contexts | apply Sound.queue | apply Sound.sent | refine sound_mk ?_ ?_ ?_ ?_ ?_ ?_ ?_ ?_ ?_ ?_

theorem sound_moveKept {x0 : State} {x1 : Nat} {x2 : Clamp} (h0 : Sound qq oo x0) : Sound qq oo (moveKept x0 x1 x2) := by
  unfold moveKept
  repeat' first
      | with_reducible assumption
      | (extract_lets +onlyGivenNames s1; refine sound_cut (p := Sound qq oo s1) ?_ ?_; subst s1; rotate_left; intro _; clear_value s1)
      | (extract_lets +onlyGivenNames s1; refine sound_cut (p := Sound qq oo s1.1) ?_ ?_; subst s1; rotate_left; intro _; clear_value s1)
      | (extract_lets +onlyGivenNames s1; clear_value s1)
      | split
      | with_reducible first
          | apply Sound.functions | apply Sound.clamps | apply Sound.sources | apply Sound.targets | apply Sound.log | apply Sound.layout
          | apply Sound.virtual | apply Sound.contexts | apply Sound.queue | apply Sound.sent | refine sound_mk ?_ ?_ ?_ ?_ ?_ ?_ ?_ ?_ ?_ ?_

theorem sound_moveSods {x0 : State} {x1 : Nat} {x2 : Clamp} (h0 : Sound qq oo x0) : Sound qq oo (moveSods x0 x1 x2) := by
  unfold moveSods
  repeat' first
      | with_reducible assumption
      | with_reducible first
          | apply sound_moveOff | apply sound_moveKept | refine sound_foldl ?_ (fun _ _ _ => ?_)

theorem sound_newLayout {x0 : State} (h0 : Sound qq oo x0) : Sound qq oo (newLayout x0) := by
  unfold newLayout
  repeat' first
      | with_reducible first
          | assumption | exact gen_lt | apply Sound.functions | apply Sound.clamps | apply Sound.sources | apply Sound.targets | apply Sound.log
          | apply Sound.virtual | apply Sound.contexts | apply Sound.queue | apply Sound.sent | refine sound_mk ?_ ?_ ?_ ?_ ?_ ?_ ?_ ?_ ?_ ?_

theorem sound_configureNow {x0 : State} {x1 : Nat} {x2 : List Byte} (h0 : Sound qq oo x0) : Sound qq oo (configureNow x0 x1 x2) := by
  unfold configureNow
  repeat' first
      | with_reducible assumption
      | (extract_lets +onlyGivenNames s1; refine sound_cut (p := Sound qq oo s1) ?_ ?_; subst s1; rotate_left; intro _; clear_value s1)
      | (extract_lets +onlyGivenNames s1; clear_value s1)
      | with_reducible first
          | apply sound_newLayout | apply sound_modClamp | apply sound_moveSods | apply prefix_append
      | with_reducible first
          | apply Sound.functions | apply Sound.clamps | apply Sound.sources | apply Sound.targets | apply Sound.log | apply Sound.layout
          | apply Sound.virtual | apply Sound.contexts | apply Sound.queue | apply Sound.sent | refine sound_mk ?_ ?_ ?_ ?_ ?_ ?_ ?_ ?_ ?_ ?_

/-! ## Stripes -/

theorem sound_updateStripe {x0 : State} {x1 : List Shadow} {x2 : Handle} {x3 : State} {x4 : Nat} {x5 : Option Loc} (h0 : Sound qq oo x0) (h3 : Sound qq oo x3) : Sound qq oo (updateStripe x0 x1 x2 x3 x4 x5) := by
  unfold updateStripe
  repeat' first
      | with_reducible assumption
      | (extract_lets +onlyGivenNames s1; refine sound_cut (p := Sound qq oo s1) ?_ ?_; subst s1; rotate_left; intro _; clear_value s1)
      | (extract_lets +onlyGivenNames s1; refine sound_cut (p := Sound qq oo s1.1) ?_ ?_; subst s1; rotate_left; intro _; clear_value s1)
      | (extract_lets +onlyGivenNames s1; clear_value s1)
      | with_reducible first
          | apply sound_modTensor
      | split
      | with_reducible first
          | apply Sound.functions | apply Sound.clamps | apply Sound.sources | apply Sound.targets | apply Sound.log | apply Sound.layout
          | apply Sound.virtual | apply Sound.contexts | apply Sound.queue | apply Sound.sent | refine sound_mk ?_ ?_ ?_ ?_ ?_ ?_ ?_ ?_ ?_ ?_

theorem sound_updateStripes {x0 : State} {x1 : List Shadow} {x2 : List Loc} {x3 : State} (h0 : Sound qq oo x0) (h3 : Sound qq oo x3) : Sound qq oo (updateStripes x0 x1 x2 x3) := by
  unfold updateStripes
  repeat' first
      | with_reducible assumption
      | (extract_lets +onlyGivenNames s1; refine sound_cut (p := Sound qq oo s1) ?_ ?_; subst s1; rotate_left; intro _; clear_value s1)
      | (extract_lets +onlyGivenNames s1; refine sound_cut (p := Sound qq oo s1.1) ?_ ?_; subst s1; rotate_left; intro _; clear_value s1)
      | (extract_lets +onlyGivenNames s1; clear_value s1)
      | with_reducible first
          | apply sound_updateStripe | refine sound_foldl ?_ (fun _ _ _ => ?_)

/-! ## EmberExec -/

theorem sound_overwriteSod {x0 : State} {x1 : Handle} {x2 : Nat} {x3 : Memory} (h0 : Sound qq oo x0) : Sound qq oo (overwriteSod x0 x1 x2 x3) := by
  unfold overwriteSod
  repeat' first
      | with_reducible first
          | assumption | apply sound_modTensor

theorem sound_writeRow {x0 : State} {x1 : Nat} {x2 : Nat} {x3 : Nat} {x4 : Nat} {x5 : Memory} (h0 : Sound qq oo x0) : Sound qq oo (writeRow x0 x1 x2 x3 x4 x5) := by
  unfold writeRow
  repeat' first
      | with_reducible assumption
      | (extract_lets +onlyGivenNames s1; refine sound_cut (p := Sound qq oo s1) ?_ ?_; subst s1; rotate_left; intro _; clear_value s1)
      | (extract_lets +onlyGivenNames s1; refine sound_cut (p := Sound qq oo s1.1) ?_ ?_; subst s1; rotate_left; intro _; clear_value s1)
      | (extract_lets +onlyGivenNames s1; clear_value s1)
      | with_reducible first
          | apply sound_overwriteSod | apply sound_openAt | apply sound_modChan
      | split
      | with_reducible first
          | apply Sound.functions | apply Sound.clamps | apply Sound.sources | apply Sound.targets | apply Sound.log | apply Sound.layout
          | apply Sound.virtual | apply Sound.contexts | apply Sound.queue | apply Sound.sent | refine sound_mk ?_ ?_ ?_ ?_ ?_ ?_ ?_ ?_ ?_ ?_

theorem sound_applyRows {x0 : ECtx} {x1 : EUnit} {x2 : State} {x3 : List (Nat × List Byte)} (h2 : Sound qq oo x2) : Sound qq oo (applyRows x0 x1 x2 x3) := by
  unfold applyRows
  repeat' first
      | with_reducible assumption
      | (extract_lets +onlyGivenNames s1; refine sound_cut (p := Sound qq oo s1) ?_ ?_; subst s1; rotate_left; intro _; clear_value s1)
      | (extract_lets +onlyGivenNames s1; refine sound_cut (p := Sound qq oo s1.1) ?_ ?_; subst s1; rotate_left; intro _; clear_value s1)
      | (extract_lets +onlyGivenNames s1; refine sound_cut (p := s1.vfEnabled = s1.vfEnabled) rfl ?_; intro _; subst s1)
      | (extract_lets +onlyGivenNames s1; clear_value s1)
      | with_reducible first
          | apply sound_writeRow | refine sound_foldl ?_ (fun _ _ _ => ?_)
      | split
      | with_reducible first
          | apply Sound.functions | apply Sound.clamps | apply Sound.sources | apply Sound.targets | apply Sound.log | apply Sound.layout
          | apply Sound.virtual | apply Sound.contexts | apply Sound.queue | apply Sound.sent | refine sound_mk ?_ ?_ ?_ ?_ ?_ ?_ ?_ ?_ ?_ ?_

theorem sound_emberIssue {x0 : Nat} {x1 : EBody} {x2 : State} {x3 : Nat} {x4 : Nat} {x5 : Nat} (h2 : Sound qq oo x2) : Sound qq oo (emberIssue x0 x1 x2 x3 x4 x5) := by
  unfold emberIssue
  repeat' first
      | with_reducible assumption
      | (extract_lets +onlyGivenNames s1; refine sound_cut (p := Sound qq oo s1) ?_ ?_; subst s1; rotate_left; intro _; clear_value s1)
      | (extract_lets +onlyGivenNames s1; refine sound_cut (p := Sound qq oo s1.1) ?_ ?_; subst s1; rotate_left; intro _; clear_value s1)
      | (extract_lets +onlyGivenNames s1; clear_value s1)
      | with_reducible first
          | apply sound_unitFault | apply sound_foreignFault | apply sound_dataError | apply sound_applyRows | apply sound_modCmd
          | apply sound_setUnit
      | split
      | with_reducible first
          | apply Sound.functions | apply Sound.clamps | apply Sound.sources | apply Sound.targets | apply Sound.log | apply Sound.layout
          | apply Sound.virtual | apply Sound.contexts | apply Sound.queue | apply Sound.sent | refine sound_mk ?_ ?_ ?_ ?_ ?_ ?_ ?_ ?_ ?_ ?_

theorem sound_partDone {x0 : State} {x1 : Nat} {x2 : Nat} {x3 : Nat} {x4 : Handle} {x5 : Nat} {x6 : EUnit} (h0 : Sound qq oo x0) :
    Sound qq oo (partDone x0 x1 x2 x3 x4 x5 x6) := by
  unfold partDone
  repeat' first
      | with_reducible assumption
      | (extract_lets +onlyGivenNames s1; refine sound_cut (p := Sound qq oo s1) ?_ ?_; subst s1; rotate_left; intro _; clear_value s1)
      | with_reducible first
          | apply sound_chargeChan | apply sound_markDone | apply sound_setUnit | apply sound_modCmd
      | split

theorem sound_emberEndOp {x0 : State} {x1 : Nat} {x2 : Nat} {x3 : Nat} {x4 : MemErr} (h0 : Sound qq oo x0) :
    Sound qq oo (emberEndOp x0 x1 x2 x3 x4) := by
  unfold emberEndOp
  repeat' first
      | with_reducible assumption
      | (extract_lets +onlyGivenNames s1; refine sound_cut (p := Sound qq oo s1.1) ?_ ?_; subst s1; rotate_left; intro _; clear_value s1)
      | (extract_lets +onlyGivenNames s1; clear_value s1)
      | with_reducible first
          | apply sound_partDone | apply sound_emberIssue | apply sound_dataError
      | split

theorem sound_execEmberNop {x0 : Nat} {x1 : Nat} {x2 : Nat} {x3 : State} (h3 : Sound qq oo x3) : NSound qq oo (execEmberNop x0 x1 x2 x3) := by
  unfold execEmberNop
  show Sound qq oo _
  repeat' first
      | with_reducible first
          | assumption | apply sound_emberIssue

theorem sound_execEmberEnd {x0 : Nat} {x1 : Nat} {x2 : Nat} {x3 : MemErr} {x4 : State} (h4 : Sound qq oo x4) :
    NSound qq oo (execEmberEnd x0 x1 x2 x3 x4) := by
  unfold execEmberEnd
  show Sound qq oo _
  repeat' first
      | with_reducible first
          | assumption | apply sound_emberEndOp

theorem sound_execEmberYield {x0 : Nat} {x1 : Nat} {x2 : Nat} {x3 : State} (h3 : Sound qq oo x3) : NSound qq oo (execEmberYield x0 x1 x2 x3) := by
  unfold execEmberYield
  show Sound qq oo _
  repeat' first
      | with_reducible first
          | assumption | apply sound_emberIssue

theorem sound_execEmberLoop {x0 : Nat} {x1 : Nat} {x2 : Nat} {x3 : State} (h3 : Sound qq oo x3) : NSound qq oo (execEmberLoop x0 x1 x2 x3) := by
  unfold execEmberLoop
  show Sound qq oo _
  repeat' first
      | with_reducible first
          | assumption | apply sound_emberIssue

theorem sound_execEmberFence {x0 : Nat} {x1 : Nat} {x2 : Nat} {x3 : State} (h3 : Sound qq oo x3) : NSound qq oo (execEmberFence x0 x1 x2 x3) := by
  unfold execEmberFence
  show Sound qq oo _
  repeat' first
      | with_reducible first
          | assumption | apply sound_emberIssue

theorem sound_execSeta {x0 : Nat} {x1 : Nat} {x2 : Nat} {x3 : State} (h3 : Sound qq oo x3) : NSound qq oo (execSeta x0 x1 x2 x3) := by
  unfold execSeta
  show Sound qq oo _
  repeat' first
      | with_reducible first
          | assumption | apply sound_emberIssue

theorem sound_execAdda {x0 : Nat} {x1 : Nat} {x2 : Nat} {x3 : State} (h3 : Sound qq oo x3) : NSound qq oo (execAdda x0 x1 x2 x3) := by
  unfold execAdda
  show Sound qq oo _
  repeat' first
      | with_reducible first
          | assumption | apply sound_emberIssue

theorem sound_execSetb {x0 : Nat} {x1 : Nat} {x2 : Nat} {x3 : State} (h3 : Sound qq oo x3) : NSound qq oo (execSetb x0 x1 x2 x3) := by
  unfold execSetb
  show Sound qq oo _
  repeat' first
      | with_reducible first
          | assumption | apply sound_emberIssue

theorem sound_execSetf {x0 : Nat} {x1 : Nat} {x2 : Nat} {x3 : State} (h3 : Sound qq oo x3) : NSound qq oo (execSetf x0 x1 x2 x3) := by
  unfold execSetf
  show Sound qq oo _
  repeat' first
      | with_reducible first
          | assumption | apply sound_emberIssue

theorem sound_execTset {x0 : Nat} {x1 : Nat} {x2 : Nat} {x3 : State} (h3 : Sound qq oo x3) : NSound qq oo (execTset x0 x1 x2 x3) := by
  unfold execTset
  show Sound qq oo _
  repeat' first
      | with_reducible first
          | assumption | apply sound_emberIssue

theorem sound_execLdv {x0 : Nat} {x1 : Nat} {x2 : Nat} {x3 : State} (h3 : Sound qq oo x3) : NSound qq oo (execLdv x0 x1 x2 x3) := by
  unfold execLdv
  show Sound qq oo _
  repeat' first
      | with_reducible first
          | assumption | apply sound_emberIssue

theorem sound_execStv {x0 : Nat} {x1 : Nat} {x2 : Nat} {x3 : State} (h3 : Sound qq oo x3) : NSound qq oo (execStv x0 x1 x2 x3) := by
  unfold execStv
  show Sound qq oo _
  repeat' first
      | with_reducible first
          | assumption | apply sound_emberIssue

theorem sound_execShv {x0 : Nat} {x1 : Nat} {x2 : Nat} {x3 : State} (h3 : Sound qq oo x3) : NSound qq oo (execShv x0 x1 x2 x3) := by
  unfold execShv
  show Sound qq oo _
  repeat' first
      | with_reducible first
          | assumption | apply sound_emberIssue

theorem sound_execStrm {x0 : Nat} {x1 : Nat} {x2 : Nat} {x3 : State} (h3 : Sound qq oo x3) : NSound qq oo (execStrm x0 x1 x2 x3) := by
  unfold execStrm
  show Sound qq oo _
  repeat' first
      | with_reducible first
          | assumption | apply sound_emberIssue

theorem sound_execDq {x0 : Nat} {x1 : Nat} {x2 : Nat} {x3 : State} (h3 : Sound qq oo x3) : NSound qq oo (execDq x0 x1 x2 x3) := by
  unfold execDq
  show Sound qq oo _
  repeat' first
      | with_reducible first
          | assumption | apply sound_emberIssue

theorem sound_execMac {x0 : Nat} {x1 : Nat} {x2 : Nat} {x3 : State} (h3 : Sound qq oo x3) : NSound qq oo (execMac x0 x1 x2 x3) := by
  unfold execMac
  show Sound qq oo _
  repeat' first
      | with_reducible first
          | assumption | apply sound_emberIssue

theorem sound_execAsc {x0 : Nat} {x1 : Nat} {x2 : Nat} {x3 : State} (h3 : Sound qq oo x3) : NSound qq oo (execAsc x0 x1 x2 x3) := by
  unfold execAsc
  show Sound qq oo _
  repeat' first
      | with_reducible first
          | assumption | apply sound_emberIssue

theorem sound_execAsm {x0 : Nat} {x1 : Nat} {x2 : Nat} {x3 : State} (h3 : Sound qq oo x3) : NSound qq oo (execAsm x0 x1 x2 x3) := by
  unfold execAsm
  show Sound qq oo _
  repeat' first
      | with_reducible first
          | assumption | apply sound_emberIssue

theorem sound_execAvg {x0 : Nat} {x1 : Nat} {x2 : Nat} {x3 : State} (h3 : Sound qq oo x3) : NSound qq oo (execAvg x0 x1 x2 x3) := by
  unfold execAvg
  show Sound qq oo _
  repeat' first
      | with_reducible first
          | assumption | apply sound_emberIssue

theorem sound_execAcl {x0 : Nat} {x1 : Nat} {x2 : Nat} {x3 : State} (h3 : Sound qq oo x3) : NSound qq oo (execAcl x0 x1 x2 x3) := by
  unfold execAcl
  show Sound qq oo _
  repeat' first
      | with_reducible first
          | assumption | apply sound_emberIssue

theorem sound_execAfl {x0 : Nat} {x1 : Nat} {x2 : Nat} {x3 : State} (h3 : Sound qq oo x3) : NSound qq oo (execAfl x0 x1 x2 x3) := by
  unfold execAfl
  show Sound qq oo _
  repeat' first
      | with_reducible first
          | assumption | apply sound_emberIssue

theorem sound_execAsl {x0 : Nat} {x1 : Nat} {x2 : Nat} {x3 : State} (h3 : Sound qq oo x3) : NSound qq oo (execAsl x0 x1 x2 x3) := by
  unfold execAsl
  show Sound qq oo _
  repeat' first
      | with_reducible first
          | assumption | apply sound_emberIssue

/-! ## Commit -/

theorem sound_libraryCommit {x0 : State} {x1 : Work} (h0 : Sound qq oo x0) : Sound qq oo (libraryCommit x0 x1) := by
  unfold libraryCommit
  repeat' first
      | with_reducible assumption | (extract_lets +onlyGivenNames s1; clear_value s1) | with_reducible apply sound_freeVersions | split
      | with_reducible first
          | apply Sound.functions | apply Sound.clamps | apply Sound.sources | apply Sound.targets | apply Sound.log | apply Sound.layout
          | apply Sound.virtual | apply Sound.contexts | apply Sound.queue | apply Sound.sent | refine sound_mk ?_ ?_ ?_ ?_ ?_ ?_ ?_ ?_ ?_ ?_

theorem sound_writeRows {x0 : State} {x1 : Nat} {x2 : Nat} {x3 : Nat} {x4 : Nat} {x5 : Nat} {x6 : Memory} (h0 : Sound qq oo x0) : Sound qq oo (writeRows x0 x1 x2 x3 x4 x5 x6) := by
  unfold writeRows
  repeat' first
      | with_reducible assumption
      | with_reducible first
          | apply sound_writeRow | refine sound_foldl ?_ (fun _ _ _ => ?_)

theorem sound_leaveBankView {x0 : State} {x1 : Nat} {x2 : Nat} (h0 : Sound qq oo x0) : Sound qq oo (leaveBankView x0 x1 x2) := by
  unfold leaveBankView
  repeat' first
      | with_reducible assumption
      | (extract_lets +onlyGivenNames s1; refine sound_cut (p := Sound qq oo s1) ?_ ?_; subst s1; rotate_left; intro _; clear_value s1)
      | (extract_lets +onlyGivenNames s1; clear_value s1)
      | with_reducible first
          | apply sound_modChan | apply sound_endCmd | refine sound_foldl ?_ (fun _ _ _ => ?_) | apply Sound.functions | apply Sound.clamps
          | apply Sound.sources | apply Sound.targets | apply Sound.log | apply Sound.layout | apply Sound.virtual | apply Sound.contexts
          | apply Sound.queue | apply Sound.sent | refine sound_mk ?_ ?_ ?_ ?_ ?_ ?_ ?_ ?_ ?_ ?_

theorem sound_enterBankView {x0 : State} {x1 : Nat} {x2 : Nat} (h0 : Sound qq oo x0) : Sound qq oo (enterBankView x0 x1 x2) := by
  unfold enterBankView
  repeat' first
      | with_reducible first
          | assumption | apply sound_modChan

theorem sound_confirmAll {x0 : State} {x1 : Cmd} (h0 : Sound qq oo x0) : Sound qq oo (confirmAll x0 x1) := by
  unfold confirmAll
  repeat' first
      | with_reducible assumption
      | with_reducible first
          | apply sound_dropTaken | apply sound_withdrawTokens | apply sound_confirmReceived | apply sound_confirmTag
          | refine sound_foldl ?_ (fun _ _ _ => ?_)
      | split
      | with_reducible first
          | apply Sound.functions | apply Sound.clamps | apply Sound.sources | apply Sound.targets | apply Sound.log | apply Sound.layout
          | apply Sound.virtual | apply Sound.contexts | apply Sound.queue | apply Sound.sent | refine sound_mk ?_ ?_ ?_ ?_ ?_ ?_ ?_ ?_ ?_ ?_

theorem sound_commitFlip {x0 : State} {x1 : Cmd} {x2 : List Loc} (h0 : Sound qq oo x0) : Sound qq oo (commitFlip x0 x1 x2) := by
  unfold commitFlip
  repeat' first
      | with_reducible assumption
      | (extract_lets +onlyGivenNames s1; refine sound_cut (p := Sound qq oo s1) ?_ ?_; subst s1; rotate_left; intro _; clear_value s1)
      | with_reducible first
          | apply sound_enterBankView | apply sound_leaveBankView | apply sound_writeRows | apply sound_libraryCommit | apply sound_updateStripes
          | apply sound_destroyTensor | apply sound_flipShadows
      | split

theorem sound_commitFlags {x0 : State} {x1 : Cmd} (h0 : Sound qq oo x0) : Sound qq oo (commitFlags x0 x1) := by
  unfold commitFlags
  repeat' first
      | with_reducible first
          | assumption | apply sound_applyFlag | refine sound_foldl ?_ (fun _ _ _ => ?_)

theorem sound_commitServing {x0 : State} {x1 : Cmd} (h0 : Sound qq oo x0) : Sound qq oo (commitServing x0 x1) := by
  unfold commitServing
  repeat' first
      | with_reducible first
          | assumption | apply sound_commitSent | apply sound_commitReceived | apply sound_commitPrefill | apply sound_commitStep
      | split

theorem sound_commitHost {x0 : State} {x1 : Cmd} (h0 : Sound qq oo x0) : Sound qq oo (commitHost x0 x1) := by
  unfold commitHost
  repeat' first
      | with_reducible assumption
      | (extract_lets +onlyGivenNames s1; refine sound_cut (p := Sound qq oo s1) ?_ ?_; subst s1; rotate_left; intro _; clear_value s1)
      | (extract_lets +onlyGivenNames s1; clear_value s1)
      | with_reducible first
          | apply sound_endCmd | apply sound_hostPut
      | split
      | with_reducible first
          | apply Sound.functions | apply Sound.clamps | apply Sound.sources | apply Sound.targets | apply Sound.log | apply Sound.layout
          | apply Sound.virtual | apply Sound.contexts | apply Sound.queue | apply Sound.sent | refine sound_mk ?_ ?_ ?_ ?_ ?_ ?_ ?_ ?_ ?_ ?_

theorem sound_commitFlue {x0 : State} {x1 : Cmd} (h0 : Sound qq oo x0) : Sound qq oo (commitFlue x0 x1) := by
  unfold commitFlue
  repeat' first
      | with_reducible assumption
      | (extract_lets +onlyGivenNames s1; refine sound_cut (p := Sound qq oo s1) ?_ ?_; subst s1; rotate_left; intro _; clear_value s1)
      | (extract_lets +onlyGivenNames s1; refine sound_cut (p := Sound qq oo s1.1) ?_ ?_; subst s1; rotate_left; intro _; clear_value s1)
      | (extract_lets +onlyGivenNames s1; clear_value s1)
      | with_reducible first
          | apply sound_leaveQueue | apply sound_modCmd | apply sound_sendMsg | apply sound_endCmd | apply sound_commitHost
      | split
      | with_reducible first
          | apply Sound.functions | apply Sound.clamps | apply Sound.sources | apply Sound.targets | apply Sound.log | apply Sound.layout
          | apply Sound.virtual | apply Sound.contexts | apply Sound.queue | apply Sound.sent | refine sound_mk ?_ ?_ ?_ ?_ ?_ ?_ ?_ ?_ ?_ ?_

theorem sound_chargeSlane {x0 : State} {x1 : Cmd} (h0 : Sound qq oo x0) : Sound qq oo (chargeSlane x0 x1) := by
  unfold chargeSlane
  repeat' first
      | with_reducible first
          | assumption | apply sound_charge
      | split

theorem sound_configureLate {x0 : State} {x1 : Handle} {x2 : Nat} {x3 : List Byte} (h0 : Sound qq oo x0) : Sound qq oo (configureLate x0 x1 x2 x3) := by
  unfold configureLate
  repeat' first
      | with_reducible assumption
      | with_reducible first
          | apply sound_finish | apply sound_configureNow
      | split

theorem sound_commitNow {x0 : State} {x1 : Cmd} {x2 : List Loc} (h0 : Sound qq oo x0) : Sound qq oo (commitNow x0 x1 x2) := by
  unfold commitNow
  repeat' first
      | with_reducible assumption
      | (extract_lets +onlyGivenNames s1; refine sound_cut (p := Sound qq oo s1) ?_ ?_; subst s1; rotate_left; intro _; clear_value s1)
      | with_reducible first
          | apply sound_chargeSlane | apply sound_commitFlue | apply sound_commitServing | apply sound_commitFlags | apply sound_commitFlip
          | apply sound_confirmAll | apply sound_modCmd

theorem sound_execCommandCommit {x0 : Handle} {x1 : List Loc} {x2 : State} (h2 : Sound qq oo x2) : NSound qq oo (execCommandCommit x0 x1 x2) := by
  unfold execCommandCommit
  show Sound qq oo _
  repeat' first
      | with_reducible assumption
      | (extract_lets +onlyGivenNames s1; refine sound_cut (p := Sound qq oo s1) ?_ ?_; subst s1; rotate_left; intro _; clear_value s1)
      | (extract_lets +onlyGivenNames s1; refine sound_cut (p := Sound qq oo s1.1) ?_ ?_; subst s1; rotate_left; intro _; clear_value s1)
      | (extract_lets +onlyGivenNames s1; clear_value s1)
      | with_reducible first
          | apply sound_configureLate | apply sound_makeAsh | apply sound_finish | apply sound_settled | apply sound_askAll | apply sound_commitNow
          | refine sound_foldl ?_ (fun _ _ _ => ?_)
      | split
      | with_reducible first
          | apply Sound.functions | apply Sound.clamps | apply Sound.sources | apply Sound.targets | apply Sound.log | apply Sound.layout
          | apply Sound.virtual | apply Sound.contexts | apply Sound.queue | apply Sound.sent | refine sound_mk ?_ ?_ ?_ ?_ ?_ ?_ ?_ ?_ ?_ ?_

/-! ## Session -/

theorem sound_decideContextNop {x0 : State} {x1 : Sender} {x2 : Packet} (h0 : Sound qq oo x0) : VSound qq oo (decideContextNop x0 x1 x2) := by
  unfold decideContextNop
  repeat' first
      | with_reducible first
          | assumption | refine vsound_ok (fun _ _ => ?_)
      | simp only [id_eq]

theorem sound_decideContextCreate {x0 : State} {x1 : Sender} {x2 : Packet} (h0 : Sound qq oo x0) : VSound qq oo (decideContextCreate x0 x1 x2) := by
  unfold decideContextCreate
  repeat' first
      | with_reducible assumption | (extract_lets +onlyGivenNames s1; clear_value s1)
      | with_reducible first
          | refine vsound_unless ?_ | exact vsound_refuse | refine vsound_ok (fun _ _ => ?_) | apply rising_tset
      | split
      | with_reducible first
          | apply Sound.functions | apply Sound.clamps | apply Sound.sources | apply Sound.targets | apply Sound.log | apply Sound.layout
          | apply Sound.virtual | apply Sound.contexts | apply Sound.queue | apply Sound.sent | refine sound_mk ?_ ?_ ?_ ?_ ?_ ?_ ?_ ?_ ?_ ?_

theorem sound_decideContextDestroy {x0 : State} {x1 : Sender} {x2 : Packet} (h0 : Sound qq oo x0) : VSound qq oo (decideContextDestroy x0 x1 x2) := by
  unfold decideContextDestroy
  repeat' first
      | with_reducible assumption | (extract_lets +onlyGivenNames s1; clear_value s1)
      | with_reducible first
          | refine vsound_unless ?_ | refine vsound_ok (fun _ _ => ?_) | apply sound_endContext | apply sound_settled

theorem sound_decideContextSet {x0 : State} {x1 : Sender} {x2 : Packet} (h0 : Sound qq oo x0) : VSound qq oo (decideContextSet x0 x1 x2) := by
  unfold decideContextSet
  repeat' first
      | with_reducible assumption | (extract_lets +onlyGivenNames s1; clear_value s1)
      | with_reducible first
          | refine vsound_unless ?_ | refine vsound_ok (fun _ _ => ?_) | apply sound_modCtx

theorem sound_decideCommandQuery {x0 : State} {x1 : Sender} {x2 : Packet} (h0 : Sound qq oo x0) : VSound qq oo (decideCommandQuery x0 x1 x2) := by
  unfold decideCommandQuery
  repeat' first
      | with_reducible assumption | (extract_lets +onlyGivenNames s1; clear_value s1)
      | with_reducible first
          | refine vsound_unless ?_ | exact vsound_refuse | refine vsound_ok (fun _ _ => ?_)
      | split | simp only [id_eq]

theorem sound_takeCancel {x0 : State} {x1 : Handle} (h0 : Sound qq oo x0) : Sound qq oo (takeCancel x0 x1).1 := by
  unfold takeCancel
  repeat' first
      | with_reducible first
          | assumption | apply sound_endCmd | apply sound_cancelReq
      | split

theorem sound_takeCancel_eq {x0 : State} {x1 : Handle} {t : State} {r : _} (h0 : Sound qq oo x0)
    (e : takeCancel x0 x1 = (t, r)) : Sound qq oo t := by
  have h := @sound_takeCancel qq oo x0 x1 h0
  rw [e] at h
  exact h

theorem sound_decideCommandCancel {x0 : State} {x1 : Sender} {x2 : Packet} (h0 : Sound qq oo x0) : VSound qq oo (decideCommandCancel x0 x1 x2) := by
  unfold decideCommandCancel
  repeat' first
      | with_reducible assumption
      | (extract_lets +onlyGivenNames s1; refine sound_cut (p := Sound qq oo s1.1) ?_ ?_; subst s1; rotate_left; intro _; clear_value s1)
      | (extract_lets +onlyGivenNames s1; clear_value s1)
      | with_reducible first
          | refine sound_acceptCmd (fun _ _ _ => ?_) | apply sound_finish | apply sound_takeCancel

theorem sound_decideQueueResume {x0 : State} {x1 : Sender} {x2 : Packet} (h0 : Sound qq oo x0) : VSound qq oo (decideQueueResume x0 x1 x2) := by
  unfold decideQueueResume
  repeat' first
      | with_reducible assumption | (extract_lets +onlyGivenNames s1; clear_value s1)
      | with_reducible first
          | refine vsound_unless ?_ | refine vsound_ok (fun _ _ => ?_) | apply sound_settled | apply sound_modCtx

theorem sound_decideQueueFlush {x0 : State} {x1 : Sender} {x2 : Packet} (h0 : Sound qq oo x0) : VSound qq oo (decideQueueFlush x0 x1 x2) := by
  unfold decideQueueFlush
  repeat' first
      | with_reducible assumption
      | (extract_lets +onlyGivenNames s1; refine sound_cut (p := Sound qq oo s1) ?_ ?_; subst s1; rotate_left; intro _; clear_value s1)
      | (extract_lets +onlyGivenNames s1; clear_value s1)
      | with_reducible first
          | refine vsound_unless ?_ | refine vsound_ok (fun _ _ => ?_) | apply sound_settled | apply sound_endCmd | apply sound_modCtx
          | refine sound_foldl ?_ (fun _ _ _ => ?_)

theorem sound_decideFlagWrite {x0 : State} {x1 : Sender} {x2 : Packet} (h0 : Sound qq oo x0) : VSound qq oo (decideFlagWrite x0 x1 x2) := by
  unfold decideFlagWrite
  repeat' first
      | with_reducible assumption | (extract_lets +onlyGivenNames s1; clear_value s1) | with_reducible apply sound_queueCmd

theorem sound_decideFlagRead {x0 : State} {x1 : Sender} {x2 : Packet} (h0 : Sound qq oo x0) : VSound qq oo (decideFlagRead x0 x1 x2) := by
  unfold decideFlagRead
  repeat' first
      | with_reducible assumption | (extract_lets +onlyGivenNames s1; clear_value s1)
      | with_reducible first
          | refine vsound_unless ?_ | refine vsound_ok (fun _ _ => ?_)
      | simp only [id_eq]

/-! ## LaunchCmd -/

theorem sound_imageFinds {x0 : State} {x1 : Handle} (h0 : Sound qq oo x0) : Sound qq oo (imageFinds x0 x1) := by
  unfold imageFinds
  repeat' first
      | with_reducible first
          | assumption | apply sound_makeAsh | refine sound_foldl ?_ (fun _ _ _ => ?_)
      | split

theorem sound_decideProgramLaunch {x0 : State} {x1 : Sender} {x2 : Packet} (h0 : Sound qq oo x0) : VSound qq oo (decideProgramLaunch x0 x1 x2) := by
  unfold decideProgramLaunch
  repeat' first
      | with_reducible assumption
      | (extract_lets +onlyGivenNames s1; refine sound_cut (p := VSound qq oo s1) ?_ ?_; subst s1; rotate_left; intro _; clear_value s1)
      | (extract_lets +onlyGivenNames s1; clear_value s1)
      | with_reducible first
          | exact vsound_refuse | apply sound_imageFinds | apply sound_queueCmd
      | exact vsound_readParamTensor (by assumption) | (have hv := ‹VSound qq oo _›; refine hv _ ?_; clear hv) | split
      | with_reducible refine vsound_mk (fun _ _ => ?_)

theorem sound_decideInbankLaunch {x0 : State} {x1 : Sender} {x2 : Packet} (h0 : Sound qq oo x0) : VSound qq oo (decideInbankLaunch x0 x1 x2) := by
  unfold decideInbankLaunch
  repeat' first
      | with_reducible assumption | (extract_lets +onlyGivenNames s1; clear_value s1)
      | with_reducible first
          | exact vsound_refuse | apply sound_queueCmd
      | exact vsound_readParamTensor (by assumption) | split

theorem sound_retrySlane {x0 : State} {x1 : Handle} (h0 : Sound qq oo x0) : Sound qq oo (retrySlane x0 x1) := by
  unfold retrySlane
  repeat' first
      | with_reducible assumption | (extract_lets +onlyGivenNames s1; clear_value s1)
      | with_reducible first
          | apply sound_runSlane | apply sound_settled
      | split
      | with_reducible first
          | apply Sound.functions | apply Sound.clamps | apply Sound.sources | apply Sound.targets | apply Sound.log | apply Sound.layout
          | apply Sound.virtual | apply Sound.contexts | apply Sound.queue | apply Sound.sent | refine sound_mk ?_ ?_ ?_ ?_ ?_ ?_ ?_ ?_ ?_ ?_

theorem sound_decideSlaneResume {x0 : State} {x1 : Sender} {x2 : Packet} (h0 : Sound qq oo x0) : VSound qq oo (decideSlaneResume x0 x1 x2) := by
  unfold decideSlaneResume
  repeat' first
      | with_reducible assumption | (extract_lets +onlyGivenNames s1; clear_value s1)
      | with_reducible first
          | apply sound_retrySlane | apply sound_abortSlane | refine sound_acceptCmd (fun _ _ _ => ?_) | apply sound_finish
      | split

/-! ## FlueCmd -/

theorem sound_decideFlueSend {x0 : State} {x1 : Sender} {x2 : Packet} (h0 : Sound qq oo x0) : VSound qq oo (decideFlueSend x0 x1 x2) := by
  unfold decideFlueSend
  repeat' first
      | with_reducible assumption | (extract_lets +onlyGivenNames s1; clear_value s1) | with_reducible apply sound_queueCmd

theorem sound_decideFlueReceive {x0 : State} {x1 : Sender} {x2 : Packet} (h0 : Sound qq oo x0) : VSound qq oo (decideFlueReceive x0 x1 x2) := by
  unfold decideFlueReceive
  repeat' first
      | with_reducible assumption | (extract_lets +onlyGivenNames s1; clear_value s1) | with_reducible apply sound_queueCmd

theorem sound_decideFlueFlagSet {x0 : State} {x1 : Sender} {x2 : Packet} (h0 : Sound qq oo x0) : VSound qq oo (decideFlueFlagSet x0 x1 x2) := by
  unfold decideFlueFlagSet
  repeat' first
      | with_reducible assumption | (extract_lets +onlyGivenNames s1; clear_value s1) | with_reducible apply sound_queueCmd

theorem sound_decideFlueReduce {x0 : State} {x1 : Sender} {x2 : Packet} (h0 : Sound qq oo x0) : VSound qq oo (decideFlueReduce x0 x1 x2) := by
  unfold decideFlueReduce
  repeat' first
      | with_reducible assumption | (extract_lets +onlyGivenNames s1; clear_value s1) | with_reducible apply sound_queueCmd

theorem sound_decideFluePortStatus {x0 : State} {x1 : Sender} {x2 : Packet} (h0 : Sound qq oo x0) : VSound qq oo (decideFluePortStatus x0 x1 x2) := by
  unfold decideFluePortStatus
  repeat' first
      | with_reducible first
          | assumption | refine vsound_ok (fun _ _ => ?_)
      | simp only [id_eq]

/-! ## ServingCmd -/

theorem sound_decideGenerate {x0 : State} {x1 : Sender} {x2 : Packet} (h0 : Sound qq oo x0) : VSound qq oo (decideGenerate x0 x1 x2) := by
  unfold decideGenerate
  repeat' first
      | with_reducible assumption | (extract_lets +onlyGivenNames s1; clear_value s1)
      | with_reducible first
          | exact vsound_refuse | apply sound_addReq | refine sound_acceptCmd (fun _ _ _ => ?_)
      | exact vsound_readParamTensor (by assumption) | split

theorem sound_decideRequestCancel {x0 : State} {x1 : Sender} {x2 : Packet} (h0 : Sound qq oo x0) : VSound qq oo (decideRequestCancel x0 x1 x2) := by
  unfold decideRequestCancel
  repeat' first
      | with_reducible assumption
      | (extract_lets +onlyGivenNames s1; refine sound_cut (p := Sound qq oo s1.1) ?_ ?_; subst s1; rotate_left; intro _; clear_value s1)
      | (extract_lets +onlyGivenNames s1; clear_value s1)
      | with_reducible first
          | exact vsound_refuse | apply sound_forwardCancel | refine sound_acceptCmd (fun _ _ _ => ?_) | apply sound_finish | apply sound_cancelReq
      | split

theorem sound_decideRequestQuery {x0 : State} {x1 : Sender} {x2 : Packet} (h0 : Sound qq oo x0) : VSound qq oo (decideRequestQuery x0 x1 x2) := by
  unfold decideRequestQuery
  repeat' first
      | with_reducible first
          | assumption | refine vsound_unless ?_ | exact vsound_refuse | refine vsound_ok (fun _ _ => ?_)
      | split | simp only [id_eq]

theorem sound_decideModelRegister {x0 : State} {x1 : Sender} {x2 : Packet} (h0 : Sound qq oo x0) : VSound qq oo (decideModelRegister x0 x1 x2) := by
  unfold decideModelRegister
  repeat' first
      | with_reducible assumption | (extract_lets +onlyGivenNames s1; clear_value s1)
      | with_reducible first
          | refine sound_acceptCmd (fun _ _ _ => ?_) | apply sound_finish | apply Sound.functions | apply Sound.clamps | apply Sound.sources
          | apply Sound.targets | apply Sound.log | apply Sound.layout | apply Sound.virtual | apply Sound.contexts | apply Sound.queue
          | apply Sound.sent | refine sound_mk ?_ ?_ ?_ ?_ ?_ ?_ ?_ ?_ ?_ ?_

theorem sound_decideModelRetire {x0 : State} {x1 : Sender} {x2 : Packet} (h0 : Sound qq oo x0) : VSound qq oo (decideModelRetire x0 x1 x2) := by
  unfold decideModelRetire
  repeat' first
      | with_reducible assumption | (extract_lets +onlyGivenNames s1; clear_value s1)
      | with_reducible first
          | refine sound_acceptCmd (fun _ _ _ => ?_) | apply Sound.functions | apply Sound.clamps | apply Sound.sources | apply Sound.targets
          | apply Sound.log | apply Sound.layout | apply Sound.virtual | apply Sound.contexts | apply Sound.queue | apply Sound.sent
          | refine sound_mk ?_ ?_ ?_ ?_ ?_ ?_ ?_ ?_ ?_ ?_

theorem sound_decideShavingLoad {x0 : State} {x1 : Sender} {x2 : Packet} (h0 : Sound qq oo x0) : VSound qq oo (decideShavingLoad x0 x1 x2) := by
  unfold decideShavingLoad
  repeat' first
      | with_reducible assumption | (extract_lets +onlyGivenNames s1; clear_value s1)
      | with_reducible first
          | refine sound_acceptCmd (fun _ _ _ => ?_) | apply sound_finish | apply Sound.functions | apply Sound.clamps | apply Sound.sources
          | apply Sound.targets | apply Sound.log | apply Sound.layout | apply Sound.virtual | apply Sound.contexts | apply Sound.queue
          | apply Sound.sent | refine sound_mk ?_ ?_ ?_ ?_ ?_ ?_ ?_ ?_ ?_ ?_

theorem sound_endReplaces {x0 : State} {x1 : Nat} {x2 : Nat} {x3 : Nat} (h0 : Sound qq oo x0) : Sound qq oo (endReplaces x0 x1 x2 x3) := by
  unfold endReplaces
  repeat' first
      | with_reducible first
          | assumption | apply sound_endCmd | refine sound_foldl ?_ (fun _ _ _ => ?_)

theorem sound_decideShavingReplace {x0 : State} {x1 : Sender} {x2 : Packet} (h0 : Sound qq oo x0) : VSound qq oo (decideShavingReplace x0 x1 x2) := by
  unfold decideShavingReplace
  repeat' first
      | with_reducible assumption
      | (extract_lets +onlyGivenNames s1; refine sound_cut (p := VSound qq oo s1) ?_ ?_; subst s1; rotate_left; intro _; clear_value s1)
      | (extract_lets +onlyGivenNames s1; clear_value s1)
      | with_reducible first
          | apply sound_endReplaces | refine sound_acceptCmd (fun _ _ _ => ?_) | apply sound_modCmd
      | (have hv := ‹VSound qq oo _›; refine hv _ ?_; clear hv) | split
      | with_reducible first
          | refine vsound_mk (fun _ _ => ?_) | apply Sound.functions | apply Sound.clamps | apply Sound.sources | apply Sound.targets
          | apply Sound.log | apply Sound.layout | apply Sound.virtual | apply Sound.contexts | apply Sound.queue | apply Sound.sent
          | refine sound_mk ?_ ?_ ?_ ?_ ?_ ?_ ?_ ?_ ?_ ?_

theorem sound_decideShavingRetire {x0 : State} {x1 : Sender} {x2 : Packet} (h0 : Sound qq oo x0) : VSound qq oo (decideShavingRetire x0 x1 x2) := by
  unfold decideShavingRetire
  repeat' first
      | with_reducible assumption
      | (extract_lets +onlyGivenNames s1; refine sound_cut (p := Sound qq oo s1) ?_ ?_; subst s1; rotate_left; intro _; clear_value s1)
      | (extract_lets +onlyGivenNames s1; refine sound_cut (p := Sound qq oo s1.1) ?_ ?_; subst s1; rotate_left; intro _; clear_value s1)
      | (extract_lets +onlyGivenNames s1; refine sound_cut (p := VSound qq oo s1) ?_ ?_; subst s1; rotate_left; intro _; clear_value s1)
      | (extract_lets +onlyGivenNames s1; clear_value s1)
      | with_reducible first
          | refine vsound_unless ?_ | refine vsound_ok (fun _ _ => ?_) | apply vsound_refuse | refine sound_acceptCmd (fun _ _ _ => ?_)
          | apply sound_freeVersions
      | with_reducible first
          | apply Sound.functions | apply Sound.clamps | apply Sound.sources | apply Sound.targets | apply Sound.log | apply Sound.layout
          | apply Sound.virtual | apply Sound.contexts | apply Sound.queue | apply Sound.sent | refine sound_mk ?_ ?_ ?_ ?_ ?_ ?_ ?_ ?_ ?_ ?_

theorem sound_decideServingConfigure {x0 : State} {x1 : Sender} {x2 : Packet} (h0 : Sound qq oo x0) :
    VSound qq oo (decideServingConfigure x0 x1 x2) := by
  unfold decideServingConfigure
  repeat' first
      | with_reducible assumption
      | (extract_lets +onlyGivenNames s1; refine sound_cut (p := Sound qq oo s1) ?_ ?_; subst s1; rotate_left; intro _; clear_value s1)
      | (extract_lets +onlyGivenNames s1; clear_value s1)
      | with_reducible first
          | refine vsound_unless ?_ | refine vsound_ok (fun _ _ => ?_) | apply sound_modClamp | apply sound_modCtx | apply rising_tset | exact gen_lt
      | split
      | with_reducible first
          | apply Sound.functions | apply Sound.clamps | apply Sound.sources | apply Sound.targets | apply Sound.log | apply Sound.layout
          | apply Sound.virtual | apply Sound.contexts | apply Sound.queue | apply Sound.sent | refine sound_mk ?_ ?_ ?_ ?_ ?_ ?_ ?_ ?_ ?_ ?_

theorem sound_decideSharingGroupSet {x0 : State} {x1 : Sender} {x2 : Packet} (_h0 : Sound qq oo x0) :
    VSound qq oo (decideSharingGroupSet x0 x1 x2) := by
  unfold decideSharingGroupSet
  refine vsound_unless (vsound_ok fun s h => ?_)
  refine sound_mk h.queue h.sent h.functions h.clamps h.sources h.targets h.log gen_lt h.virtual (rising_map (fun e => ?_) h.contexts)
  dsimp only
  repeat' split
  all_goals rfl

theorem sound_decideServingReplyEnable {x0 : State} {x1 : Sender} {x2 : Packet} (h0 : Sound qq oo x0) :
    VSound qq oo (decideServingReplyEnable x0 x1 x2) := by
  unfold decideServingReplyEnable
  repeat' first
      | with_reducible assumption | (extract_lets +onlyGivenNames s1; clear_value s1)
      | with_reducible first
          | refine vsound_unless ?_ | refine vsound_ok (fun _ _ => ?_) | apply sound_modCtx

/-! ## ClampCmd -/

theorem sound_decideClampConfigure {x0 : State} {x1 : Sender} {x2 : Packet} (h0 : Sound qq oo x0) : VSound qq oo (decideClampConfigure x0 x1 x2) := by
  unfold decideClampConfigure
  repeat' first
      | with_reducible assumption
      | (extract_lets +onlyGivenNames s1; refine sound_cut (p := Sound qq oo s1) ?_ ?_; subst s1; rotate_left; intro _; clear_value s1)
      | (extract_lets +onlyGivenNames s1; refine sound_cut (p := Sound qq oo s1.1) ?_ ?_; subst s1; rotate_left; intro _; clear_value s1)
      | (extract_lets +onlyGivenNames s1; refine sound_cut (p := VSound qq oo s1) ?_ ?_; subst s1; rotate_left; intro _; clear_value s1)
      | (extract_lets +onlyGivenNames s1; clear_value s1)
      | with_reducible first
          | refine vsound_unless ?_ | refine vsound_ok (fun _ _ => ?_) | apply vsound_refuse | refine sound_acceptCmd (fun _ _ _ => ?_)
          | apply sound_finish | apply sound_modClamp | apply sound_configureNow
      | split
      | with_reducible first
          | apply Sound.functions | apply Sound.clamps | apply Sound.sources | apply Sound.targets | apply Sound.log | apply Sound.layout
          | apply Sound.virtual | apply Sound.contexts | apply Sound.queue | apply Sound.sent | refine sound_mk ?_ ?_ ?_ ?_ ?_ ?_ ?_ ?_ ?_ ?_

theorem sound_decideClampStart {x0 : State} {x1 : Sender} {x2 : Packet} (h0 : Sound qq oo x0) : VSound qq oo (decideClampStart x0 x1 x2) := by
  unfold decideClampStart
  repeat' first
      | with_reducible assumption | (extract_lets +onlyGivenNames s1; clear_value s1)
      | with_reducible first
          | refine vsound_unless ?_ | refine vsound_ok (fun _ _ => ?_) | apply sound_settled | apply sound_modClamp

theorem sound_decideClampStop {x0 : State} {x1 : Sender} {x2 : Packet} (h0 : Sound qq oo x0) : VSound qq oo (decideClampStop x0 x1 x2) := by
  unfold decideClampStop
  repeat' first
      | with_reducible assumption
      | (extract_lets +onlyGivenNames s1; refine sound_cut (p := Sound qq oo s1) ?_ ?_; subst s1; rotate_left; intro _; clear_value s1)
      | (extract_lets +onlyGivenNames s1; refine sound_cut (p := Sound qq oo s1.1) ?_ ?_; subst s1; rotate_left; intro _; clear_value s1)
      | (extract_lets +onlyGivenNames s1; refine sound_cut (p := VSound qq oo s1) ?_ ?_; subst s1; rotate_left; intro _; clear_value s1)
      | (extract_lets +onlyGivenNames s1; clear_value s1)
      | with_reducible first
          | refine vsound_unless ?_ | refine vsound_ok (fun _ _ => ?_) | apply vsound_refuse | refine sound_acceptCmd (fun _ _ _ => ?_)
          | apply sound_modClamp | apply sound_settled | apply sound_killClamp | apply sound_abandonSwitches
      | split
      | with_reducible first
          | apply Sound.functions | apply Sound.clamps | apply Sound.sources | apply Sound.targets | apply Sound.log | apply Sound.layout
          | apply Sound.virtual | apply Sound.contexts | apply Sound.queue | apply Sound.sent | refine sound_mk ?_ ?_ ?_ ?_ ?_ ?_ ?_ ?_ ?_ ?_

theorem sound_decideClampDelete {x0 : State} {x1 : Sender} {x2 : Packet} (h0 : Sound qq oo x0) : VSound qq oo (decideClampDelete x0 x1 x2) := by
  unfold decideClampDelete
  repeat' first
      | with_reducible assumption | (extract_lets +onlyGivenNames s1; clear_value s1)
      | with_reducible first
          | refine vsound_unless ?_ | refine vsound_ok (fun _ _ => ?_) | apply sound_newLayout | apply sound_modClamp

theorem sound_decideClampAssign {x0 : State} {x1 : Sender} {x2 : Packet} (h0 : Sound qq oo x0) : VSound qq oo (decideClampAssign x0 x1 x2) := by
  unfold decideClampAssign
  repeat' first
      | with_reducible assumption | (extract_lets +onlyGivenNames s1; clear_value s1)
      | with_reducible first
          | refine vsound_unless ?_ | refine vsound_ok (fun _ _ => ?_) | apply sound_newLayout | apply sound_modClamp

theorem sound_decideClampQuery {x0 : State} {x1 : Sender} {x2 : Packet} (h0 : Sound qq oo x0) : VSound qq oo (decideClampQuery x0 x1 x2) := by
  unfold decideClampQuery
  repeat' first
      | with_reducible assumption | (extract_lets +onlyGivenNames s1; clear_value s1)
      | with_reducible first
          | refine vsound_unless ?_ | refine vsound_ok (fun _ _ => ?_)
      | simp only [id_eq]

/-! ## Manage -/

theorem sound_decideTelemetryRead {x0 : State} {x1 : Sender} {x2 : Packet} (h0 : Sound qq oo x0) : VSound qq oo (decideTelemetryRead x0 x1 x2) := by
  unfold decideTelemetryRead
  repeat' first
      | with_reducible assumption | (extract_lets +onlyGivenNames s1; clear_value s1)
      | with_reducible first
          | refine sound_acceptCmd (fun _ _ _ => ?_) | apply sound_modCmd

theorem sound_decideCounterSelect {x0 : State} {x1 : Sender} {x2 : Packet} (h0 : Sound qq oo x0) : VSound qq oo (decideCounterSelect x0 x1 x2) := by
  unfold decideCounterSelect
  repeat' first
      | with_reducible assumption | (extract_lets +onlyGivenNames s1; refine sound_cut (p := s1.sources = s1.sources) rfl ?_; intro _; subst s1)
      | (extract_lets +onlyGivenNames s1; clear_value s1)
      | with_reducible first
          | refine vsound_unless ?_ | refine vsound_ok (fun _ _ => ?_)
      | simp only [id_eq]
      | with_reducible first
          | apply Sound.functions | apply Sound.clamps | apply Sound.sources | apply Sound.targets | apply Sound.log | apply Sound.layout
          | apply Sound.virtual | apply Sound.contexts | apply Sound.queue | apply Sound.sent | refine sound_mk ?_ ?_ ?_ ?_ ?_ ?_ ?_ ?_ ?_ ?_

theorem sound_decideEventRoute {x0 : State} {x1 : Sender} {x2 : Packet} (h0 : Sound qq oo x0) : VSound qq oo (decideEventRoute x0 x1 x2) := by
  unfold decideEventRoute
  repeat' first
      | with_reducible assumption | (extract_lets +onlyGivenNames s1; clear_value s1)
      | with_reducible first
          | refine vsound_unless ?_ | refine vsound_ok (fun _ _ => ?_) | apply sound_reassess | apply sound_modSrc

theorem sound_decidePowerCapSet {x0 : State} {x1 : Sender} {x2 : Packet} (h0 : Sound qq oo x0) : VSound qq oo (decidePowerCapSet x0 x1 x2) := by
  unfold decidePowerCapSet
  repeat' first
      | with_reducible assumption
      | (extract_lets +onlyGivenNames s1; refine sound_cut (p := Sound qq oo s1) ?_ ?_; subst s1; rotate_left; intro _; clear_value s1)
      | (extract_lets +onlyGivenNames s1; clear_value s1)
      | with_reducible first
          | refine sound_acceptCmd (fun _ _ _ => ?_) | apply sound_modCmd | apply Sound.functions | apply Sound.clamps | apply Sound.sources
          | apply Sound.targets | apply Sound.log | apply Sound.layout | apply Sound.virtual | apply Sound.contexts | apply Sound.queue
          | apply Sound.sent | refine sound_mk ?_ ?_ ?_ ?_ ?_ ?_ ?_ ?_ ?_ ?_

theorem sound_decideScrubSet {x0 : State} {x1 : Sender} {x2 : Packet} (h0 : Sound qq oo x0) : VSound qq oo (decideScrubSet x0 x1 x2) := by
  unfold decideScrubSet
  repeat' first
      | with_reducible assumption | (extract_lets +onlyGivenNames s1; clear_value s1)
      | with_reducible first
          | refine vsound_unless ?_ | refine vsound_ok (fun _ _ => ?_) | apply Sound.functions | apply Sound.clamps | apply Sound.sources
          | apply Sound.targets | apply Sound.log | apply Sound.layout | apply Sound.virtual | apply Sound.contexts | apply Sound.queue
          | apply Sound.sent | refine sound_mk ?_ ?_ ?_ ?_ ?_ ?_ ?_ ?_ ?_ ?_

theorem sound_eraseRecord {x0 : State} {x1 : Work} (h0 : Sound qq oo x0) : Sound qq oo (eraseRecord x0 x1) := by
  unfold eraseRecord
  repeat' first
      | with_reducible assumption | (extract_lets +onlyGivenNames s1; clear_value s1) | split
      | with_reducible first
          | apply Sound.functions | apply Sound.clamps | apply Sound.sources | apply Sound.targets | apply Sound.log | apply Sound.layout
          | apply Sound.virtual | apply Sound.contexts | apply Sound.queue | apply Sound.sent | refine sound_mk ?_ ?_ ?_ ?_ ?_ ?_ ?_ ?_ ?_ ?_

theorem sound_startNv {x0 : State} {x1 : Handle} (h0 : Sound qq oo x0) : Sound qq oo (startNv x0 x1) := by
  unfold startNv
  repeat' first
      | with_reducible assumption
      | (extract_lets +onlyGivenNames s1; refine sound_cut (p := Sound qq oo s1) ?_ ?_; subst s1; rotate_left; intro _; clear_value s1)
      | (extract_lets +onlyGivenNames s1; clear_value s1)
      | with_reducible first
          | apply sound_eraseRecord | apply sound_finish | apply sound_modCmd
      | split
      | with_reducible first
          | apply Sound.functions | apply Sound.clamps | apply Sound.sources | apply Sound.targets | apply Sound.log | apply Sound.layout
          | apply Sound.virtual | apply Sound.contexts | apply Sound.queue | apply Sound.sent | refine sound_mk ?_ ?_ ?_ ?_ ?_ ?_ ?_ ?_ ?_ ?_

theorem sound_nextNv {x0 : State} (h0 : Sound qq oo x0) : Sound qq oo (nextNv x0) := by
  unfold nextNv
  repeat' first
      | with_reducible assumption | (extract_lets +onlyGivenNames s1; clear_value s1)
      | with_reducible first
          | apply sound_startNv | apply sound_startListWrite
      | split
      | with_reducible first
          | apply Sound.functions | apply Sound.clamps | apply Sound.sources | apply Sound.targets | apply Sound.log | apply Sound.layout
          | apply Sound.virtual | apply Sound.contexts | apply Sound.queue | apply Sound.sent | refine sound_mk ?_ ?_ ?_ ?_ ?_ ?_ ?_ ?_ ?_ ?_

theorem sound_decideFwStage {x0 : State} {x1 : Sender} {x2 : Packet} (h0 : Sound qq oo x0) : VSound qq oo (decideFwStage x0 x1 x2) := by
  unfold decideFwStage
  repeat' first
      | with_reducible assumption
      | (extract_lets +onlyGivenNames s1; refine sound_cut (p := Sound qq oo s1.1) ?_ ?_; subst s1; rotate_left; intro _; clear_value s1)
      | (extract_lets +onlyGivenNames s1; clear_value s1)
      | with_reducible first
          | apply sound_startNv | refine sound_acceptCmd (fun _ _ _ => ?_) | apply sound_finish | apply sound_checkSods
      | split

theorem sound_decideFwActivate {x0 : State} {x1 : Sender} {x2 : Packet} (h0 : Sound qq oo x0) : VSound qq oo (decideFwActivate x0 x1 x2) := by
  unfold decideFwActivate
  repeat' first
      | with_reducible assumption | (extract_lets +onlyGivenNames s1; clear_value s1)
      | with_reducible first
          | apply sound_startNv | refine sound_acceptCmd (fun _ _ _ => ?_)

theorem sound_decideKeyRevoke {x0 : State} {x1 : Sender} {x2 : Packet} (h0 : Sound qq oo x0) : VSound qq oo (decideKeyRevoke x0 x1 x2) := by
  unfold decideKeyRevoke
  repeat' first
      | with_reducible assumption | (extract_lets +onlyGivenNames s1; clear_value s1)
      | with_reducible first
          | apply sound_startNv | refine sound_acceptCmd (fun _ _ _ => ?_)

theorem sound_decideRepairCommit {x0 : State} {x1 : Sender} {x2 : Packet} (h0 : Sound qq oo x0) : VSound qq oo (decideRepairCommit x0 x1 x2) := by
  unfold decideRepairCommit
  repeat' first
      | with_reducible assumption | (extract_lets +onlyGivenNames s1; clear_value s1)
      | with_reducible first
          | exact vsound_refuse | apply sound_startNv | refine sound_acceptCmd (fun _ _ _ => ?_)
      | exact vsound_readParamTensor (by assumption) | split

theorem sound_wipe {x0 : Nat} {x1 : State} (h1 : Sound qq oo x1) : Sound qq oo (wipe x0 x1) := by
  unfold wipe
  repeat' first
      | with_reducible assumption
      | (extract_lets +onlyGivenNames s1; refine sound_cut (p := Sound qq oo s1) ?_ ?_; subst s1; rotate_left; intro _; clear_value s1)
      | (extract_lets +onlyGivenNames s1; refine sound_cut (p := s1.sources = s1.sources) rfl ?_; intro _; subst s1)
      | (extract_lets +onlyGivenNames s1; clear_value s1)
      | with_reducible first
          | apply sound_endContext | apply sound_destroyTensor | apply sound_releaseTensors | apply sound_dropSlot | apply sound_cancelReq
      | exact log_nil | with_reducible refine sound_foldl ?_ (fun _ _ _ => ?_) | simp only [id_eq]
      | with_reducible first
          | apply Sound.functions | apply Sound.clamps | apply Sound.sources | apply Sound.targets | apply Sound.layout | apply Sound.virtual
          | apply Sound.contexts | apply Sound.queue | apply Sound.sent | refine sound_mk ?_ ?_ ?_ ?_ ?_ ?_ ?_ ?_ ?_ ?_

theorem sound_decideDebugUnlock {x0 : State} {x1 : Sender} {x2 : Packet} (h0 : Sound qq oo x0) : VSound qq oo (decideDebugUnlock x0 x1 x2) := by
  unfold decideDebugUnlock
  repeat' first
      | with_reducible assumption
      | (extract_lets +onlyGivenNames s1; refine sound_cut (p := Sound qq oo s1) ?_ ?_; subst s1; rotate_left; intro _; clear_value s1)
      | (extract_lets +onlyGivenNames s1; clear_value s1)
      | with_reducible first
          | apply sound_wipe | refine sound_acceptCmd (fun _ _ _ => ?_) | apply sound_finish | apply sound_modCmd
      | exact vsound_readParamTensor (by assumption) | split
      | with_reducible first
          | apply Sound.functions | apply Sound.clamps | apply Sound.sources | apply Sound.targets | apply Sound.log | apply Sound.layout
          | apply Sound.virtual | apply Sound.contexts | apply Sound.queue | apply Sound.sent | refine sound_mk ?_ ?_ ?_ ?_ ?_ ?_ ?_ ?_ ?_ ?_

theorem sound_endDebug {x0 : State} (h0 : Sound qq oo x0) : Sound qq oo (endDebug x0) := by
  unfold endDebug
  repeat' first
      | with_reducible assumption
      | (extract_lets +onlyGivenNames s1; refine sound_cut (p := Sound qq oo s1) ?_ ?_; subst s1; rotate_left; intro _; clear_value s1)
      | (extract_lets +onlyGivenNames s1; refine sound_cut (p := s1.sources = s1.sources) rfl ?_; intro _; subst s1)
      | with_reducible first
          | apply sound_leaveBankView | apply sound_endCmd
      | refine rising_map (fun _ => rfl) ?_ | with_reducible refine sound_foldl ?_ (fun _ _ _ => ?_) | simp only [id_eq]
      | with_reducible first
          | apply Sound.functions | apply Sound.clamps | apply Sound.sources | apply Sound.targets | apply Sound.log | apply Sound.layout
          | apply Sound.virtual | apply Sound.contexts | apply Sound.queue | apply Sound.sent | refine sound_mk ?_ ?_ ?_ ?_ ?_ ?_ ?_ ?_ ?_ ?_

theorem sound_decideDebugLock {x0 : State} {x1 : Sender} {x2 : Packet} (h0 : Sound qq oo x0) : VSound qq oo (decideDebugLock x0 x1 x2) := by
  unfold decideDebugLock
  repeat' first
      | with_reducible assumption
      | (extract_lets +onlyGivenNames s1; refine sound_cut (p := Sound qq oo s1) ?_ ?_; subst s1; rotate_left; intro _; clear_value s1)
      | (extract_lets +onlyGivenNames s1; clear_value s1)
      | with_reducible first
          | apply sound_endDebug | apply sound_wipe | refine sound_acceptCmd (fun _ _ _ => ?_) | apply sound_finish | apply sound_modCmd
      | split
      | with_reducible first
          | apply Sound.functions | apply Sound.clamps | apply Sound.sources | apply Sound.targets | apply Sound.log | apply Sound.layout
          | apply Sound.virtual | apply Sound.contexts | apply Sound.queue | apply Sound.sent | refine sound_mk ?_ ?_ ?_ ?_ ?_ ?_ ?_ ?_ ?_ ?_

/-! ## DebugCmd -/

theorem sound_decideDbgBreakSet {x0 : State} {x1 : Sender} {x2 : Packet} (h0 : Sound qq oo x0) : VSound qq oo (decideDbgBreakSet x0 x1 x2) := by
  unfold decideDbgBreakSet
  repeat' first
      | with_reducible assumption | (extract_lets +onlyGivenNames s1; clear_value s1)
      | with_reducible first
          | refine vsound_unless ?_ | refine vsound_ok (fun _ _ => ?_) | apply sound_modCtx

theorem sound_decideDbgBreakClear {x0 : State} {x1 : Sender} {x2 : Packet} (h0 : Sound qq oo x0) : VSound qq oo (decideDbgBreakClear x0 x1 x2) := by
  unfold decideDbgBreakClear
  repeat' first
      | with_reducible assumption | (extract_lets +onlyGivenNames s1; clear_value s1)
      | with_reducible first
          | refine vsound_unless ?_ | refine vsound_ok (fun _ _ => ?_) | apply sound_modCtx

theorem sound_decideDbgTileControl {x0 : State} {x1 : Sender} {x2 : Packet} (h0 : Sound qq oo x0) : VSound qq oo (decideDbgTileControl x0 x1 x2) := by
  unfold decideDbgTileControl
  repeat' first
      | with_reducible assumption | (extract_lets +onlyGivenNames s1; clear_value s1)
      | with_reducible first
          | refine vsound_unless ?_ | exact vsound_refuse | refine vsound_ok (fun _ _ => ?_) | apply sound_modTile
      | split

theorem sound_decideDbgRead {x0 : State} {x1 : Sender} {x2 : Packet} (h0 : Sound qq oo x0) : VSound qq oo (decideDbgRead x0 x1 x2) := by
  unfold decideDbgRead
  repeat' first
      | with_reducible assumption | (extract_lets +onlyGivenNames s1; clear_value s1)
      | with_reducible first
          | refine sound_acceptCmd (fun _ _ _ => ?_) | apply sound_modCmd

theorem sound_decideDbgBankView {x0 : State} {x1 : Sender} {x2 : Packet} (h0 : Sound qq oo x0) : VSound qq oo (decideDbgBankView x0 x1 x2) := by
  unfold decideDbgBankView
  repeat' first
      | with_reducible assumption | (extract_lets +onlyGivenNames s1; clear_value s1)
      | with_reducible first
          | refine sound_acceptCmd (fun _ _ _ => ?_) | apply sound_modCmd

theorem sound_decideDbgBankWrite {x0 : State} {x1 : Sender} {x2 : Packet} (h0 : Sound qq oo x0) : VSound qq oo (decideDbgBankWrite x0 x1 x2) := by
  unfold decideDbgBankWrite
  repeat' first
      | with_reducible assumption | (extract_lets +onlyGivenNames s1; clear_value s1)
      | with_reducible first
          | apply sound_askHost | refine sound_acceptCmd (fun _ _ _ => ?_)

end Sys2Proof.Machine
end

