-- ==== Sys2Proof/Laws/SoundPackets.lean ====
section
/-!
SUPPORT. What every operation of the machine keeps (`Sound`): resets, registers, links and memory integrity.
-/
namespace Sys2Proof.Machine

open Sys2Proof

variable {qq : List Instr} {oo : List Out}

/-! ## ResetUp -/

theorem sound_fundamental {x0 : State} (h0 : Sound qq oo x0) : Sound qq oo (fundamental x0) := by
  unfold fundamental
  repeat' first
      | with_reducible assumption | exact rising_nil | with_reducible exact gen_zero | rw [List.length_replicate] | with_reducible exact Nat.zero_le _
      | exact log_nil
      | with_reducible first
          | apply Sound.queue | apply Sound.sent | refine sound_mk ?_ ?_ ?_ ?_ ?_ ?_ ?_ ?_ ?_ ?_

theorem sound_beginTests {x0 : State} (h0 : Sound qq oo x0) : Sound qq oo (beginTests x0) := by
  unfold beginTests
  repeat' first
      | with_reducible assumption | (extract_lets +onlyGivenNames s1; refine sound_cut (p := s1.vfEnabled = s1.vfEnabled) rfl ?_; intro _; subst s1)
      | (extract_lets +onlyGivenNames s1; clear_value s1) | with_reducible apply sound_emit | simp only [id_eq]
      | with_reducible first
          | apply Sound.functions | apply Sound.clamps | apply Sound.sources | apply Sound.targets | apply Sound.log | apply Sound.layout
          | apply Sound.virtual | apply Sound.contexts | apply Sound.queue | apply Sound.sent | refine sound_mk ?_ ?_ ?_ ?_ ?_ ?_ ?_ ?_ ?_ ?_

theorem sound_warmNow {x0 : State} {x1 : Bool} (h0 : Sound qq oo x0) : Sound qq oo (warmNow x0 x1) := by
  unfold warmNow
  repeat' first
      | with_reducible assumption
      | (extract_lets +onlyGivenNames s1; refine sound_cut (p := Sound qq oo s1) ?_ ?_; subst s1; rotate_left; intro _; clear_value s1)
      | (extract_lets +onlyGivenNames s1; refine sound_cut (p := s1.vfEnabled = s1.vfEnabled) rfl ?_; intro _; subst s1)
      | (extract_lets +onlyGivenNames s1; clear_value s1)
      | with_reducible first
          | apply sound_beginTests | apply sound_fundamental
      | simp only [id_eq]
      | with_reducible first
          | apply Sound.functions | apply Sound.clamps | apply Sound.sources | apply Sound.targets | apply Sound.log | apply Sound.layout
          | apply Sound.virtual | apply Sound.contexts | apply Sound.queue | apply Sound.sent | refine sound_mk ?_ ?_ ?_ ?_ ?_ ?_ ?_ ?_ ?_ ?_

theorem sound_warm {x0 : State} {x1 : Bool} (h0 : Sound qq oo x0) : Sound qq oo (warm x0 x1) := by
  unfold warm
  repeat' first
      | with_reducible assumption | (extract_lets +onlyGivenNames s1; refine sound_cut (p := s1.vfEnabled = s1.vfEnabled) rfl ?_; intro _; subst s1)
      | with_reducible apply sound_warmNow | split | simp only [id_eq]
      | with_reducible first
          | apply Sound.functions | apply Sound.clamps | apply Sound.sources | apply Sound.targets | apply Sound.log | apply Sound.layout
          | apply Sound.virtual | apply Sound.contexts | apply Sound.queue | apply Sound.sent | refine sound_mk ?_ ?_ ?_ ?_ ?_ ?_ ?_ ?_ ?_ ?_

theorem sound_resetTarget {x0 : State} {x1 : Nat} (h0 : Sound qq oo x0) : Sound qq oo (resetTarget x0 x1) := by
  unfold resetTarget
  repeat' first
      | with_reducible assumption
      | (extract_lets +onlyGivenNames s1; refine sound_cut (p := Sound qq oo s1) ?_ ?_; subst s1; rotate_left; intro _; clear_value s1)
      | (extract_lets +onlyGivenNames s1; clear_value s1)
      | with_reducible first
          | apply sound_reassess | apply sound_modTgt | apply sound_modSrc | refine sound_foldl ?_ (fun _ _ _ => ?_)

theorem sound_endSpdm {x0 : State} {x1 : Nat} (h0 : Sound qq oo x0) : Sound qq oo (endSpdm x0 x1) := by
  unfold endSpdm
  repeat' first
      | with_reducible assumption | (extract_lets +onlyGivenNames s1; clear_value s1) | split
      | with_reducible first
          | apply Sound.functions | apply Sound.clamps | apply Sound.sources | apply Sound.targets | apply Sound.log | apply Sound.layout
          | apply Sound.virtual | apply Sound.contexts | apply Sound.queue | apply Sound.sent | refine sound_mk ?_ ?_ ?_ ?_ ?_ ?_ ?_ ?_ ?_ ?_

theorem sound_resetFunction {x0 : State} {x1 : Nat} (h0 : Sound qq oo x0) : Sound qq oo (resetFunction x0 x1) := by
  unfold resetFunction
  repeat' first
      | with_reducible assumption
      | (extract_lets +onlyGivenNames s1; refine sound_cut (p := Sound qq oo s1) ?_ ?_; subst s1; rotate_left; intro _; clear_value s1)
      | with_reducible first
          | apply sound_endSpdm | apply sound_resetTarget | apply sound_endContext | apply sound_settled | apply sound_modFn
          | refine sound_foldl ?_ (fun _ _ _ => ?_)

theorem sound_setVfs {x0 : State} {x1 : Nat} (hn : x1 ≤ 63) (h0 : Sound qq oo x0) : Sound qq oo (setVfs x0 x1) := by
  have h : Sound qq oo (((List.range 64).filter fun f => decide (x1 < f ∧ f ≤ x0.rst.vfEnabled)).foldl resetFunction x0) :=
    sound_foldl h0 fun _ _ h => sound_resetFunction h
  exact sound_mk h.queue h.sent h.functions h.clamps h.sources h.targets h.log h.layout hn h.contexts

theorem sound_execFunctionLevelReset {x0 : Nat} {x1 : State} (h1 : Sound qq oo x1) : NSound qq oo (execFunctionLevelReset x0 x1) := by
  unfold execFunctionLevelReset
  show Sound qq oo _
  repeat' first
      | with_reducible first
          | assumption | refine sound_setVfs ?_ ?_ | exact Nat.zero_le _ | apply sound_resetFunction
      | split

theorem sound_execVfEnable {x0 : Nat} {x1 : State} (h1 : Sound qq oo x1) : NSound qq oo (execVfEnable x0 x1) := by
  unfold execVfEnable
  show Sound qq oo _
  repeat' first
      | with_reducible first
          | assumption | refine sound_setVfs ?_ ?_ | exact Nat.min_le_right _ _
      | split

theorem sound_askClampReset {x0 : State} {x1 : Nat} (h0 : Sound qq oo x0) : Sound qq oo (askClampReset x0 x1) := by
  unfold askClampReset
  repeat' first
      | with_reducible assumption | (extract_lets +onlyGivenNames s1; clear_value s1)
      | with_reducible first
          | apply sound_beginClampReset | apply sound_modClamp
      | split

theorem sound_execWarmReset {x0 : Nat} {x1 : Nat} {x2 : State} (h2 : Sound qq oo x2) : NSound qq oo (execWarmReset x0 x1 x2) := by
  unfold execWarmReset
  show Sound qq oo _
  repeat' first
      | with_reducible first
          | assumption | apply sound_warm
      | split

theorem sound_execClampReset {x0 : Nat} {x1 : Nat} {x2 : Nat} {x3 : State} (h3 : Sound qq oo x3) : NSound qq oo (execClampReset x0 x1 x2 x3) := by
  unfold execClampReset
  show Sound qq oo _
  repeat' first
      | with_reducible first
          | assumption | apply sound_askClampReset
      | split

theorem sound_execClampResetDone {x0 : Nat} {x1 : State} (h1 : Sound qq oo x1) : NSound qq oo (execClampResetDone x0 x1) := by
  unfold execClampResetDone
  show Sound qq oo _
  repeat' first
      | with_reducible assumption
      | (extract_lets +onlyGivenNames s1; refine sound_cut (p := Sound qq oo s1) ?_ ?_; subst s1; rotate_left; intro _; clear_value s1)
      | with_reducible first
          | apply sound_newLayout | apply sound_raise | apply sound_modClamp
      | split

theorem sound_advance13 {x0 : State} (h0 : Sound qq oo x0) : Sound qq oo (advance13 x0) := by
  unfold advance13
  repeat' first
      | with_reducible assumption
      | (extract_lets +onlyGivenNames s1; refine sound_cut (p := Sound qq oo s1) ?_ ?_; subst s1; rotate_left; intro _; clear_value s1)
      | (extract_lets +onlyGivenNames s1; refine sound_cut (p := s1.vfEnabled = s1.vfEnabled) rfl ?_; intro _; subst s1)
      | (extract_lets +onlyGivenNames s1; clear_value s1) | split | simp only [id_eq]
      | with_reducible first
          | apply Sound.functions | apply Sound.clamps | apply Sound.sources | apply Sound.targets | apply Sound.log | apply Sound.layout
          | apply Sound.virtual | apply Sound.contexts | apply Sound.queue | apply Sound.sent | refine sound_mk ?_ ?_ ?_ ?_ ?_ ?_ ?_ ?_ ?_ ?_

theorem sound_withReady {x0 : State} {x1 : Nat} (h0 : Sound qq oo x0) : Sound qq oo (withReady x0 x1) := by
  unfold withReady
  repeat' first
      | with_reducible assumption
      | (extract_lets +onlyGivenNames s1; refine sound_cut (p := Sound qq oo s1) ?_ ?_; subst s1; rotate_left; intro _; clear_value s1)
      | (extract_lets +onlyGivenNames s1; refine sound_cut (p := s1.vfEnabled = s1.vfEnabled) rfl ?_; intro _; subst s1)
      | with_reducible first
          | apply sound_advance13 | apply sound_setReady
      | simp only [id_eq]
      | with_reducible first
          | apply Sound.functions | apply Sound.clamps | apply Sound.sources | apply Sound.targets | apply Sound.log | apply Sound.layout
          | apply Sound.virtual | apply Sound.contexts | apply Sound.queue | apply Sound.sent | refine sound_mk ?_ ?_ ?_ ?_ ?_ ?_ ?_ ?_ ?_ ?_

theorem sound_withFailed {x0 : State} {x1 : Nat} (h0 : Sound qq oo x0) : Sound qq oo (withFailed x0 x1) := by
  unfold withFailed
  repeat' first
      | with_reducible assumption
      | (extract_lets +onlyGivenNames s1; refine sound_cut (p := Sound qq oo s1) ?_ ?_; subst s1; rotate_left; intro _; clear_value s1)
      | (extract_lets +onlyGivenNames s1; refine sound_cut (p := s1.vfEnabled = s1.vfEnabled) rfl ?_; intro _; subst s1)
      | with_reducible first
          | apply sound_advance13 | apply sound_setReady
      | simp only [id_eq]
      | with_reducible first
          | apply Sound.functions | apply Sound.clamps | apply Sound.sources | apply Sound.targets | apply Sound.log | apply Sound.layout
          | apply Sound.virtual | apply Sound.contexts | apply Sound.queue | apply Sound.sent | refine sound_mk ?_ ?_ ?_ ?_ ?_ ?_ ?_ ?_ ?_ ?_

theorem sound_setBootError {x0 : State} {x1 : Nat} (h0 : Sound qq oo x0) : Sound qq oo (setBootError x0 x1) := by
  unfold setBootError
  repeat' first
      | with_reducible assumption | (extract_lets +onlyGivenNames s1; refine sound_cut (p := s1.vfEnabled = s1.vfEnabled) rfl ?_; intro _; subst s1)
      | simp only [id_eq]
      | with_reducible first
          | apply Sound.functions | apply Sound.clamps | apply Sound.sources | apply Sound.targets | apply Sound.log | apply Sound.layout
          | apply Sound.virtual | apply Sound.contexts | apply Sound.queue | apply Sound.sent | refine sound_mk ?_ ?_ ?_ ?_ ?_ ?_ ?_ ?_ ?_ ?_

theorem sound_beginServing {x0 : State} (h0 : Sound qq oo x0) : Sound qq oo (beginServing x0) := by
  unfold beginServing
  repeat' first
      | with_reducible assumption | (extract_lets +onlyGivenNames s1; refine sound_cut (p := s1.vfEnabled = s1.vfEnabled) rfl ?_; intro _; subst s1)
      | split | simp only [id_eq]
      | with_reducible first
          | apply Sound.functions | apply Sound.clamps | apply Sound.sources | apply Sound.targets | apply Sound.log | apply Sound.layout
          | apply Sound.virtual | apply Sound.contexts | apply Sound.queue | apply Sound.sent | refine sound_mk ?_ ?_ ?_ ?_ ?_ ?_ ?_ ?_ ?_ ?_

theorem sound_trainChans {x0 : State} {x1 : Nat} {x2 : BitVec 32} (h0 : Sound qq oo x0) : Sound qq oo (trainChans x0 x1 x2) := by
  unfold trainChans
  repeat' first
      | with_reducible first
          | assumption | apply sound_modChan | refine sound_foldl ?_ (fun _ _ _ => ?_)
      | split

theorem sound_stepDone {x0 : State} {x1 : StartStep} (h0 : Sound qq oo x0) : Sound qq oo (stepDone x0 x1) := by
  unfold stepDone
  repeat' first
      | with_reducible assumption
      | (extract_lets +onlyGivenNames s1; refine sound_cut (p := Sound qq oo s1) ?_ ?_; subst s1; rotate_left; intro _; clear_value s1)
      | (extract_lets +onlyGivenNames s1; refine sound_cut (p := s1.vfEnabled = s1.vfEnabled) rfl ?_; intro _; subst s1)
      | (extract_lets +onlyGivenNames s1; clear_value s1)
      | with_reducible first
          | apply sound_trainChans | apply sound_beginServing | apply sound_setBootError | apply sound_withReady | apply sound_emit
      | split | simp only [id_eq]
      | with_reducible first
          | apply Sound.functions | apply Sound.clamps | apply Sound.sources | apply Sound.targets | apply Sound.log | apply Sound.layout
          | apply Sound.virtual | apply Sound.contexts | apply Sound.queue | apply Sound.sent | refine sound_mk ?_ ?_ ?_ ?_ ?_ ?_ ?_ ?_ ?_ ?_

theorem sound_execStartupStepDone {x0 : StartStep} {x1 : State} (h1 : Sound qq oo x1) : NSound qq oo (execStartupStepDone x0 x1) := by
  unfold execStartupStepDone
  show Sound qq oo _
  repeat' first
      | with_reducible first
          | assumption | apply sound_stepDone | apply sound_settled
      | split

theorem sound_withLost {x0 : State} {x1 : Nat} {x2 : Nat} (h0 : Sound qq oo x0) : Sound qq oo (withLost x0 x1 x2) := by
  unfold withLost
  repeat' first
      | with_reducible assumption
      | (extract_lets +onlyGivenNames s1; refine sound_cut (p := Sound qq oo s1) ?_ ?_; subst s1; rotate_left; intro _; clear_value s1)
      | (extract_lets +onlyGivenNames s1; refine sound_cut (p := Sound qq oo s1.1) ?_ ?_; subst s1; rotate_left; intro _; clear_value s1)
      | (extract_lets +onlyGivenNames s1; refine sound_cut (p := s1.vfEnabled = s1.vfEnabled) rfl ?_; intro _; subst s1)
      | (extract_lets +onlyGivenNames s1; clear_value s1)
      | with_reducible first
          | apply sound_advance13 | apply sound_setReady
      | with_reducible first
          | apply Sound.functions | apply Sound.clamps | apply Sound.sources | apply Sound.targets | apply Sound.log | apply Sound.layout
          | apply Sound.virtual | apply Sound.contexts | apply Sound.queue | apply Sound.sent | refine sound_mk ?_ ?_ ?_ ?_ ?_ ?_ ?_ ?_ ?_ ?_

theorem sound_failDie {x0 : State} {x1 : Nat} (h0 : Sound qq oo x0) : Sound qq oo (failDie x0 x1) := by
  unfold failDie
  repeat' first
      | with_reducible assumption
      | (extract_lets +onlyGivenNames s1; refine sound_cut (p := Sound qq oo s1) ?_ ?_; subst s1; rotate_left; intro _; clear_value s1)
      | (extract_lets +onlyGivenNames s1; refine sound_cut (p := s1.vfEnabled = s1.vfEnabled) rfl ?_; intro _; subst s1)
      | (extract_lets +onlyGivenNames s1; clear_value s1) | with_reducible apply sound_withLost | simp only [id_eq]
      | with_reducible first
          | apply Sound.functions | apply Sound.clamps | apply Sound.sources | apply Sound.targets | apply Sound.log | apply Sound.layout
          | apply Sound.virtual | apply Sound.contexts | apply Sound.queue | apply Sound.sent | refine sound_mk ?_ ?_ ?_ ?_ ?_ ?_ ?_ ?_ ?_ ?_
  exact h0.virtual

theorem sound_stepFailed {x0 : State} {x1 : StartStep} (h0 : Sound qq oo x0) : Sound qq oo (stepFailed x0 x1) := by
  unfold stepFailed
  repeat' first
      | with_reducible assumption
      | with_reducible first
          | apply sound_withFailed | apply sound_setBootError | apply sound_failDie | apply sound_withReady
      | split
      | with_reducible first
          | apply Sound.functions | apply Sound.clamps | apply Sound.sources | apply Sound.targets | apply Sound.log | apply Sound.layout
          | apply Sound.virtual | apply Sound.contexts | apply Sound.queue | apply Sound.sent | refine sound_mk ?_ ?_ ?_ ?_ ?_ ?_ ?_ ?_ ?_ ?_

theorem sound_execStartupStepLimit {x0 : StartStep} {x1 : State} (h1 : Sound qq oo x1) : NSound qq oo (execStartupStepLimit x0 x1) := by
  unfold execStartupStepLimit
  show Sound qq oo _
  repeat' first
      | with_reducible first
          | assumption | apply sound_stepFailed
      | split

theorem sound_release {x0 : State} {x1 : List Byte} (h0 : Sound qq oo x0) : Sound qq oo (release x0 x1) := by
  unfold release
  repeat' first
      | with_reducible assumption | (extract_lets +onlyGivenNames s1; refine sound_cut (p := s1.vfEnabled = s1.vfEnabled) rfl ?_; intro _; subst s1)
      | (extract_lets +onlyGivenNames s1; clear_value s1) | simp only [id_eq]
      | with_reducible first
          | apply Sound.functions | apply Sound.clamps | apply Sound.sources | apply Sound.targets | apply Sound.log | apply Sound.layout
          | apply Sound.virtual | apply Sound.contexts | apply Sound.queue | apply Sound.sent | refine sound_mk ?_ ?_ ?_ ?_ ?_ ?_ ?_ ?_ ?_ ?_

theorem sound_execPerstAssert {x0 : State} (h0 : Sound qq oo x0) : NSound qq oo (execPerstAssert x0) := by
  unfold execPerstAssert
  show Sound qq oo _
  repeat' first
      | with_reducible assumption | (extract_lets +onlyGivenNames s1; refine sound_cut (p := s1.vfEnabled = s1.vfEnabled) rfl ?_; intro _; subst s1)
      | with_reducible apply sound_fundamental | simp only [id_eq]
      | with_reducible first
          | apply Sound.functions | apply Sound.clamps | apply Sound.sources | apply Sound.targets | apply Sound.log | apply Sound.layout
          | apply Sound.virtual | apply Sound.contexts | apply Sound.queue | apply Sound.sent | refine sound_mk ?_ ?_ ?_ ?_ ?_ ?_ ?_ ?_ ?_ ?_

theorem sound_execPerstRelease {x0 : Bool} {x1 : Bool} {x2 : List Byte} {x3 : State} (h3 : Sound qq oo x3) :
    NSound qq oo (execPerstRelease x0 x1 x2 x3) := by
  unfold execPerstRelease
  show Sound qq oo _
  repeat' first
      | with_reducible assumption | (extract_lets +onlyGivenNames s1; refine sound_cut (p := s1.vfEnabled = s1.vfEnabled) rfl ?_; intro _; subst s1)
      | (extract_lets +onlyGivenNames s1; clear_value s1) | with_reducible apply sound_release | split | simp only [id_eq]
      | with_reducible first
          | apply Sound.functions | apply Sound.clamps | apply Sound.sources | apply Sound.targets | apply Sound.log | apply Sound.layout
          | apply Sound.virtual | apply Sound.contexts | apply Sound.queue | apply Sound.sent | refine sound_mk ?_ ?_ ?_ ?_ ?_ ?_ ?_ ?_ ?_ ?_

theorem sound_execRefclkLoss {x0 : State} (h0 : Sound qq oo x0) : NSound qq oo (execRefclkLoss x0) := by
  unfold execRefclkLoss
  show Sound qq oo _
  repeat' first
      | with_reducible assumption | (extract_lets +onlyGivenNames s1; refine sound_cut (p := s1.vfEnabled = s1.vfEnabled) rfl ?_; intro _; subst s1)
      | with_reducible apply sound_fundamental | simp only [id_eq]
      | with_reducible first
          | apply Sound.functions | apply Sound.clamps | apply Sound.sources | apply Sound.targets | apply Sound.log | apply Sound.layout
          | apply Sound.virtual | apply Sound.contexts | apply Sound.queue | apply Sound.sent | refine sound_mk ?_ ?_ ?_ ?_ ?_ ?_ ?_ ?_ ?_ ?_

theorem sound_execRefclkReturn {x0 : State} (h0 : Sound qq oo x0) : NSound qq oo (execRefclkReturn x0) := by
  unfold execRefclkReturn
  show Sound qq oo _
  repeat' first
      | with_reducible assumption | (extract_lets +onlyGivenNames s1; refine sound_cut (p := s1.vfEnabled = s1.vfEnabled) rfl ?_; intro _; subst s1)
      | simp only [id_eq]
      | with_reducible first
          | apply Sound.functions | apply Sound.clamps | apply Sound.sources | apply Sound.targets | apply Sound.log | apply Sound.layout
          | apply Sound.virtual | apply Sound.contexts | apply Sound.queue | apply Sound.sent | refine sound_mk ?_ ?_ ?_ ?_ ?_ ?_ ?_ ?_ ?_ ?_

theorem sound_execRootPllLock {x0 : State} (h0 : Sound qq oo x0) : NSound qq oo (execRootPllLock x0) := by
  unfold execRootPllLock
  show Sound qq oo _
  repeat' first
      | with_reducible assumption | (extract_lets +onlyGivenNames s1; refine sound_cut (p := s1.vfEnabled = s1.vfEnabled) rfl ?_; intro _; subst s1)
      | with_reducible apply sound_beginTests | split | simp only [id_eq]
      | with_reducible first
          | apply Sound.functions | apply Sound.clamps | apply Sound.sources | apply Sound.targets | apply Sound.log | apply Sound.layout
          | apply Sound.virtual | apply Sound.contexts | apply Sound.queue | apply Sound.sent | refine sound_mk ?_ ?_ ?_ ?_ ?_ ?_ ?_ ?_ ?_ ?_

theorem sound_execPowerOn {x0 : State} (h0 : Sound qq oo x0) : NSound qq oo (execPowerOn x0) := by
  unfold execPowerOn
  show Sound qq oo _
  repeat' first
      | with_reducible assumption
      | (extract_lets +onlyGivenNames s1; refine sound_cut (p := Sound qq oo s1) ?_ ?_; subst s1; rotate_left; intro _; clear_value s1)
      | with_reducible first
          | apply sound_fundamental | exact Nat.zero_le _ | apply Sound.functions | apply Sound.clamps | apply Sound.sources | apply Sound.targets
          | apply Sound.log | apply Sound.layout | apply Sound.contexts | apply Sound.queue | apply Sound.sent
          | refine sound_mk ?_ ?_ ?_ ?_ ?_ ?_ ?_ ?_ ?_ ?_

theorem sound_execHostLinkDown {x0 : State} (h0 : Sound qq oo x0) : NSound qq oo (execHostLinkDown x0) := by
  unfold execHostLinkDown
  show Sound qq oo _
  repeat' first
      | with_reducible assumption
      | (extract_lets +onlyGivenNames s1; refine sound_cut (p := Sound qq oo s1) ?_ ?_; subst s1; rotate_left; intro _; clear_value s1)
      | (extract_lets +onlyGivenNames s1; refine sound_cut (p := s1.vfEnabled = s1.vfEnabled) rfl ?_; intro _; subst s1)
      | with_reducible first
          | apply sound_hostFault | apply sound_readyOff | refine sound_foldl ?_ (fun _ _ _ => ?_)
      | split | simp only [id_eq]
      | with_reducible first
          | apply Sound.functions | apply Sound.clamps | apply Sound.sources | apply Sound.targets | apply Sound.log | apply Sound.layout
          | apply Sound.virtual | apply Sound.contexts | apply Sound.queue | apply Sound.sent | refine sound_mk ?_ ?_ ?_ ?_ ?_ ?_ ?_ ?_ ?_ ?_

theorem sound_execWatchdogService {x0 : State} (h0 : Sound qq oo x0) : NSound qq oo (execWatchdogService x0) := by
  unfold execWatchdogService
  show Sound qq oo _
  repeat' first
      | with_reducible assumption | (extract_lets +onlyGivenNames s1; refine sound_cut (p := s1.vfEnabled = s1.vfEnabled) rfl ?_; intro _; subst s1)
      | split | simp only [id_eq]
      | with_reducible first
          | apply Sound.functions | apply Sound.clamps | apply Sound.sources | apply Sound.targets | apply Sound.log | apply Sound.layout
          | apply Sound.virtual | apply Sound.contexts | apply Sound.queue | apply Sound.sent | refine sound_mk ?_ ?_ ?_ ?_ ?_ ?_ ?_ ?_ ?_ ?_

theorem sound_execWatchdogExpiry {x0 : State} (h0 : Sound qq oo x0) : NSound qq oo (execWatchdogExpiry x0) := by
  unfold execWatchdogExpiry
  show Sound qq oo _
  repeat' first
      | with_reducible first
          | assumption | apply sound_warm
      | split

/-! ## FlueLink -/

theorem sound_sendRoute {x0 : State} {x1 : Nat} (h0 : Sound qq oo x0) : Sound qq oo (sendRoute x0 x1) := by
  unfold sendRoute
  repeat' first
      | with_reducible first
          | assumption | apply sound_sendOn

theorem sound_putPair {x0 : State} {x1 : Nat} {x2 : Pair} (h0 : Sound qq oo x0) : Sound qq oo (putPair x0 x1 x2) := by
  unfold putPair
  repeat' first
      | with_reducible assumption | (extract_lets +onlyGivenNames s1; clear_value s1)
      | with_reducible first
          | apply Sound.functions | apply Sound.clamps | apply Sound.sources | apply Sound.targets | apply Sound.log | apply Sound.layout
          | apply Sound.virtual | apply Sound.contexts | apply Sound.queue | apply Sound.sent | refine sound_mk ?_ ?_ ?_ ?_ ?_ ?_ ?_ ?_ ?_ ?_

theorem sound_meet {x0 : State} {x1 : Nat} (h0 : Sound qq oo x0) : Sound qq oo (meet x0 x1) := by
  unfold meet
  repeat' first
      | with_reducible assumption
      | (extract_lets +onlyGivenNames s1; refine sound_cut (p := Sound qq oo s1) ?_ ?_; subst s1; rotate_left; intro _; clear_value s1)
      | (extract_lets +onlyGivenNames s1; clear_value s1)
      | with_reducible first
          | apply sound_putPair | apply sound_sendOn
      | split

theorem sound_dropPartner {x0 : State} {x1 : Nat} (h0 : Sound qq oo x0) : Sound qq oo (dropPartner x0 x1) := by
  unfold dropPartner
  repeat' first
      | with_reducible assumption | (extract_lets +onlyGivenNames s1; clear_value s1)
      | with_reducible first
          | apply Sound.functions | apply Sound.clamps | apply Sound.sources | apply Sound.targets | apply Sound.log | apply Sound.layout
          | apply Sound.virtual | apply Sound.contexts | apply Sound.queue | apply Sound.sent | refine sound_mk ?_ ?_ ?_ ?_ ?_ ?_ ?_ ?_ ?_ ?_

theorem sound_endLive {x0 : State} {x1 : Nat} (h0 : Sound qq oo x0) : Sound qq oo (endLive x0 x1) := by
  unfold endLive
  repeat' first
      | with_reducible assumption
      | (extract_lets +onlyGivenNames s1; refine sound_cut (p := Sound qq oo s1) ?_ ?_; subst s1; rotate_left; intro _; clear_value s1)
      | (extract_lets +onlyGivenNames s1; clear_value s1)
      | with_reducible first
          | apply sound_dropPartner | apply sound_failHandover | apply sound_reapContext | apply sound_dropOffered | apply sound_dropReqCommands
          | apply sound_settled | apply sound_endCmd | refine sound_foldl ?_ (fun _ _ _ => ?_)

theorem sound_losePair {x0 : State} {x1 : Nat} {x2 : Nat} (h0 : Sound qq oo x0) : Sound qq oo (losePair x0 x1 x2) := by
  unfold losePair
  repeat' first
      | with_reducible assumption
      | (extract_lets +onlyGivenNames s1; refine sound_cut (p := Sound qq oo s1) ?_ ?_; subst s1; rotate_left; intro _; clear_value s1)
      | with_reducible first
          | apply sound_endLive | apply sound_putPair | apply sound_raise
      | split

theorem sound_loseAndMeet {x0 : State} {x1 : Nat} {x2 : Nat} (h0 : Sound qq oo x0) : Sound qq oo (loseAndMeet x0 x1 x2) := by
  unfold loseAndMeet
  repeat' first
      | with_reducible first
          | assumption | apply sound_losePair | apply sound_meet

theorem sound_portGone {x0 : State} {x1 : Nat} {x2 : PortState} {x3 : Nat} (h0 : Sound qq oo x0) : Sound qq oo (portGone x0 x1 x2 x3) := by
  unfold portGone
  repeat' first
      | with_reducible assumption
      | (extract_lets +onlyGivenNames s1; refine sound_cut (p := Sound qq oo s1) ?_ ?_; subst s1; rotate_left; intro _; clear_value s1)
      | (extract_lets +onlyGivenNames s1; clear_value s1)
      | with_reducible first
          | apply sound_loseAndMeet | apply sound_modPort | refine sound_foldl ?_ (fun _ _ _ => ?_)
      | simp only [id_eq]
      | with_reducible first
          | apply Sound.functions | apply Sound.clamps | apply Sound.sources | apply Sound.targets | apply Sound.log | apply Sound.layout
          | apply Sound.virtual | apply Sound.contexts | apply Sound.queue | apply Sound.sent | refine sound_mk ?_ ?_ ?_ ?_ ?_ ?_ ?_ ?_ ?_ ?_

theorem sound_portDown {x0 : State} {x1 : Nat} (h0 : Sound qq oo x0) : Sound qq oo (portDown x0 x1) := by
  unfold portDown
  repeat' first
      | with_reducible first
          | assumption | apply sound_portGone | apply sound_readyOff

theorem sound_portRetire {x0 : State} {x1 : Nat} (h0 : Sound qq oo x0) : Sound qq oo (portRetire x0 x1) := by
  unfold portRetire
  repeat' first
      | with_reducible assumption | (extract_lets +onlyGivenNames s1; clear_value s1)
      | with_reducible first
          | apply sound_portGone | apply sound_setReady

theorem sound_announce {x0 : State} {x1 : Nat} (h0 : Sound qq oo x0) : Sound qq oo (announce x0 x1) := by
  unfold announce
  repeat' first
      | with_reducible first
          | assumption | apply sound_sendRoute | apply sound_readyOn
      | split

theorem sound_resend {x0 : State} {x1 : Nat} (h0 : Sound qq oo x0) : Sound qq oo (resend x0 x1) := by
  unfold resend
  repeat' first
      | with_reducible first
          | assumption | apply sound_emit | refine sound_foldl ?_ (fun _ _ _ => ?_)

theorem sound_pump {x0 : State} {x1 : Nat} (h0 : Sound qq oo x0) : Sound qq oo (pump x0 x1) := by
  unfold pump
  repeat' first
      | with_reducible first
          | assumption | apply sound_pumpPort

theorem sound_startRetrain {x0 : State} {x1 : Nat} {x2 : List Nat} {x3 : Bool} (h0 : Sound qq oo x0) : Sound qq oo (startRetrain x0 x1 x2 x3) := by
  unfold startRetrain
  repeat' first
      | with_reducible assumption
      | (extract_lets +onlyGivenNames s1; refine sound_cut (p := Sound qq oo s1) ?_ ?_; subst s1; rotate_left; intro _; clear_value s1)
      | (extract_lets +onlyGivenNames s1; clear_value s1)
      | with_reducible first
          | apply sound_sendFrame | apply sound_modPort | apply sound_readyOff
      | split

theorem sound_badFrame {x0 : State} {x1 : Nat} (h0 : Sound qq oo x0) : Sound qq oo (badFrame x0 x1) := by
  unfold badFrame
  repeat' first
      | with_reducible assumption
      | (extract_lets +onlyGivenNames s1; refine sound_cut (p := Sound qq oo s1) ?_ ?_; subst s1; rotate_left; intro _; clear_value s1)
      | (extract_lets +onlyGivenNames s1; clear_value s1)
      | with_reducible first
          | apply sound_sendFrame | apply sound_modPort
      | split

theorem sound_frameAt {x0 : State} {x1 : Nat} {x2 : Frame} {x3 : State → State} (h0 : Sound qq oo x0)
    (hf : ∀ s, Sound qq oo s → Sound qq oo (x3 s)) : Sound qq oo (frameAt x0 x1 x2 x3) := by
  unfold frameAt
  split
  · exact h0
  · split
    · exact sound_badFrame h0
    · exact hf _ (sound_pump (sound_modPort h0))

theorem sound_execFlueIdle {x0 : Nat} {x1 : Frame} {x2 : State} (h2 : Sound qq oo x2) : NSound qq oo (execFlueIdle x0 x1 x2) := by
  unfold execFlueIdle
  show Sound qq oo _
  repeat' first
      | with_reducible first
          | assumption | refine sound_frameAt ?_ (fun _ _ => ?_)
      | simp only [id_eq]

theorem sound_acceptFlit {x0 : Nat} {x1 : Nat} {x2 : State} (h2 : Sound qq oo x2) : Sound qq oo (acceptFlit x0 x1 x2) := by
  unfold acceptFlit
  repeat' first
      | with_reducible first
          | assumption | apply sound_modPort
      | split

theorem sound_execFlueFlit {x0 : Nat} {x1 : Frame} {x2 : State} (h2 : Sound qq oo x2) : NSound qq oo (execFlueFlit x0 x1 x2) := by
  unfold execFlueFlit
  show Sound qq oo _
  repeat' first
      | with_reducible first
          | assumption | apply sound_acceptFlit | refine sound_frameAt ?_ (fun _ _ => ?_)

theorem sound_takeReplay {x0 : Nat} {x1 : Nat} {x2 : State} (h2 : Sound qq oo x2) : Sound qq oo (takeReplay x0 x1 x2) := by
  unfold takeReplay
  repeat' first
      | with_reducible assumption
      | (extract_lets +onlyGivenNames s1; refine sound_cut (p := Sound qq oo s1) ?_ ?_; subst s1; rotate_left; intro _; clear_value s1)
      | (extract_lets +onlyGivenNames s1; clear_value s1)
      | with_reducible first
          | apply sound_startRetrain | apply sound_resend | apply sound_modPort | apply sound_gather
      | split

theorem sound_execReplayRequest {x0 : Nat} {x1 : Frame} {x2 : State} (h2 : Sound qq oo x2) : NSound qq oo (execReplayRequest x0 x1 x2) := by
  unfold execReplayRequest
  show Sound qq oo _
  repeat' first
      | with_reducible first
          | assumption | apply sound_takeReplay | refine sound_frameAt ?_ (fun _ _ => ?_)

theorem sound_execRetrainRequest {x0 : Nat} {x1 : Frame} {x2 : State} (h2 : Sound qq oo x2) : NSound qq oo (execRetrainRequest x0 x1 x2) := by
  unfold execRetrainRequest
  show Sound qq oo _
  repeat' first
      | with_reducible first
          | assumption | refine sound_frameAt ?_ (fun _ _ => ?_) | apply sound_startRetrain

theorem sound_execLaneLockLoss {x0 : Nat} {x1 : Nat} {x2 : State} (h2 : Sound qq oo x2) : NSound qq oo (execLaneLockLoss x0 x1 x2) := by
  unfold execLaneLockLoss
  show Sound qq oo _
  repeat' first
      | with_reducible first
          | assumption | apply sound_startRetrain
      | split

theorem sound_execFecWindowEnd {x0 : Nat} {x1 : List Nat} {x2 : State} (h2 : Sound qq oo x2) : NSound qq oo (execFecWindowEnd x0 x1 x2) := by
  unfold execFecWindowEnd
  show Sound qq oo _
  repeat' first
      | with_reducible assumption
      | (extract_lets +onlyGivenNames s1; refine sound_cut (p := Sound qq oo s1) ?_ ?_; subst s1; rotate_left; intro _; clear_value s1)
      | (extract_lets +onlyGivenNames s1; clear_value s1)
      | with_reducible first
          | apply sound_modPort | apply sound_startRetrain
      | split
      | with_reducible first
          | apply Sound.functions | apply Sound.clamps | apply Sound.sources | apply Sound.targets | apply Sound.log | apply Sound.layout
          | apply Sound.virtual | apply Sound.contexts | apply Sound.queue | apply Sound.sent | refine sound_mk ?_ ?_ ?_ ?_ ?_ ?_ ?_ ?_ ?_ ?_

theorem sound_execRetrainDone {x0 : Nat} {x1 : List Nat} {x2 : Nat} {x3 : State} (h3 : Sound qq oo x3) :
    NSound qq oo (execRetrainDone x0 x1 x2 x3) := by
  unfold execRetrainDone
  show Sound qq oo _
  repeat' first
      | with_reducible assumption
      | (extract_lets +onlyGivenNames s1; refine sound_cut (p := Sound qq oo s1) ?_ ?_; subst s1; rotate_left; intro _; clear_value s1)
      | (extract_lets +onlyGivenNames s1; clear_value s1)
      | with_reducible first
          | apply sound_pump | apply sound_resend | apply sound_announce | apply sound_portRetire | apply sound_modPort | apply sound_readyOn
      | split

theorem sound_execRetrainAttemptEnd {x0 : Nat} {x1 : List Nat} {x2 : State} (h2 : Sound qq oo x2) :
    NSound qq oo (execRetrainAttemptEnd x0 x1 x2) := by
  unfold execRetrainAttemptEnd
  show Sound qq oo _
  repeat' first
      | with_reducible first
          | assumption | apply sound_portRetire | apply sound_portDown | apply sound_modPort
      | split

theorem sound_execTrainingAttempt {x0 : Nat} {x1 : State} (h1 : Sound qq oo x1) : NSound qq oo (execTrainingAttempt x0 x1) := by
  unfold execTrainingAttempt
  show Sound qq oo _
  repeat' first
      | with_reducible first
          | assumption | apply sound_modPort
      | split

theorem sound_standPair {x0 : State} {x1 : Nat} {x2 : Nat} {x3 : Nat} (h0 : Sound qq oo x0) : Sound qq oo (standPair x0 x1 x2 x3) := by
  unfold standPair
  repeat' first
      | with_reducible assumption | (extract_lets +onlyGivenNames s1; clear_value s1) | with_reducible apply sound_putPair

theorem sound_noteReach {x0 : State} {x1 : Nat} {x2 : Nat} (h0 : Sound qq oo x0) : Sound qq oo (noteReach x0 x1 x2) := by
  unfold noteReach
  repeat' first
      | with_reducible first
          | assumption | apply sound_modPort

theorem sound_execFlueHello {x0 : Msg} {x1 : State} (h1 : Sound qq oo x1) : NSound qq oo (execFlueHello x0 x1) := by
  unfold execFlueHello
  show Sound qq oo _
  repeat' first
      | with_reducible assumption
      | (extract_lets +onlyGivenNames s1; refine sound_cut (p := Sound qq oo s1) ?_ ?_; subst s1; rotate_left; intro _; clear_value s1)
      | with_reducible first
          | apply sound_noteReach | apply sound_standPair | apply sound_losePair | apply sound_meet
      | split

theorem sound_execFlueProbe {x0 : Msg} {x1 : State} (h1 : Sound qq oo x1) : NSound qq oo (execFlueProbe x0 x1) := by
  unfold execFlueProbe
  show Sound qq oo _
  repeat' first
      | with_reducible first
          | assumption | refine sound_taking ?_ (fun _ _ => ?_)
      | simp only [id_eq]

theorem sound_meetListed {x0 : List Nat} {x1 : State} {x2 : Nat} (h1 : Sound qq oo x1) : Sound qq oo (meetListed x0 x1 x2) := by
  unfold meetListed
  repeat' first
      | with_reducible first
          | assumption | apply sound_meet
      | split

theorem sound_execFlueRoute {x0 : Msg} {x1 : State} (h1 : Sound qq oo x1) : NSound qq oo (execFlueRoute x0 x1) := by
  unfold execFlueRoute
  show Sound qq oo _
  repeat' first
      | with_reducible assumption | (extract_lets +onlyGivenNames s1; clear_value s1)
      | with_reducible first
          | apply sound_meetListed | apply sound_modPort | refine sound_foldl ?_ (fun _ _ _ => ?_)
      | split

theorem sound_execFlueUnreachable {x0 : Msg} {x1 : State} (h1 : Sound qq oo x1) : NSound qq oo (execFlueUnreachable x0 x1) := by
  unfold execFlueUnreachable
  show Sound qq oo _
  repeat' first
      | with_reducible first
          | assumption | apply sound_losePair | refine sound_taking ?_ (fun _ _ => ?_)

theorem sound_execProbeDue {x0 : Nat} {x1 : State} (h1 : Sound qq oo x1) : NSound qq oo (execProbeDue x0 x1) := by
  unfold execProbeDue
  show Sound qq oo _
  repeat' first
      | with_reducible first
          | assumption | apply sound_sendMsg
      | split

theorem sound_execPairSilenceTimeout {x0 : Nat} {x1 : State} (h1 : Sound qq oo x1) : NSound qq oo (execPairSilenceTimeout x0 x1) := by
  unfold execPairSilenceTimeout
  show Sound qq oo _
  repeat' first
      | with_reducible first
          | assumption | apply sound_loseAndMeet
      | split

theorem sound_writeModuleId {x0 : State} {x1 : Nat} (h0 : Sound qq oo x0) : Sound qq oo (writeModuleId x0 x1) := by
  unfold writeModuleId
  repeat' first
      | with_reducible assumption
      | (extract_lets +onlyGivenNames s1; refine sound_cut (p := Sound qq oo s1) ?_ ?_; subst s1; rotate_left; intro _; clear_value s1)
      | (extract_lets +onlyGivenNames s1; clear_value s1)
      | with_reducible first
          | apply sound_announce | apply sound_meet | refine sound_foldl ?_ (fun _ _ _ => ?_)
      | split
      | with_reducible first
          | apply Sound.functions | apply Sound.clamps | apply Sound.sources | apply Sound.targets | apply Sound.log | apply Sound.layout
          | apply Sound.virtual | apply Sound.contexts | apply Sound.queue | apply Sound.sent | refine sound_mk ?_ ?_ ?_ ?_ ?_ ?_ ?_ ?_ ?_ ?_

/-! ## HostPort -/

theorem sound_takeHostData {x0 : State} {x1 : Cmd} {x2 : Nat} {x3 : List Byte} (h0 : Sound qq oo x0) : Sound qq oo (takeHostData x0 x1 x2 x3) := by
  unfold takeHostData
  repeat' first
      | with_reducible assumption
      | (extract_lets +onlyGivenNames s1; refine sound_cut (p := Sound qq oo s1) ?_ ?_; subst s1; rotate_left; intro _; clear_value s1)
      | (extract_lets +onlyGivenNames s1; refine sound_cut (p := Sound qq oo s1.1) ?_ ?_; subst s1; rotate_left; intro _; clear_value s1)
      | (extract_lets +onlyGivenNames s1; clear_value s1)
      | with_reducible first
          | apply sound_pumpHost | apply sound_modCmd | apply sound_gather | apply sound_doneNow | apply sound_endWrite
      | split
      | with_reducible first
          | apply Sound.functions | apply Sound.clamps | apply Sound.sources | apply Sound.targets | apply Sound.log | apply Sound.layout
          | apply Sound.virtual | apply Sound.contexts | apply Sound.queue | apply Sound.sent | refine sound_mk ?_ ?_ ?_ ?_ ?_ ?_ ?_ ?_ ?_ ?_

theorem sound_execHostReadCompletion {x0 : Handle} {x1 : Nat} {x2 : HostRead} {x3 : State} (h3 : Sound qq oo x3) :
    NSound qq oo (execHostReadCompletion x0 x1 x2 x3) := by
  unfold execHostReadCompletion
  show Sound qq oo _
  repeat' first
      | with_reducible assumption | (extract_lets +onlyGivenNames s1; clear_value s1)
      | with_reducible first
          | apply sound_takeHostData | apply sound_hostFault
      | split

theorem sound_execCompletionTimeout {x0 : Handle} {x1 : State} (h1 : Sound qq oo x1) : NSound qq oo (execCompletionTimeout x0 x1) := by
  unfold execCompletionTimeout
  show Sound qq oo _
  repeat' first
      | with_reducible first
          | assumption | apply sound_hostFault
      | split

theorem sound_execTlpIntegrityFailure {x0 : Nat} {x1 : State} (h1 : Sound qq oo x1) : NSound qq oo (execTlpIntegrityFailure x0 x1) := by
  unfold execTlpIntegrityFailure
  show Sound qq oo _
  repeat' first
      | with_reducible assumption | (extract_lets +onlyGivenNames s1; clear_value s1) | with_reducible apply sound_raise | split
      | with_reducible first
          | apply Sound.functions | apply Sound.clamps | apply Sound.sources | apply Sound.targets | apply Sound.log | apply Sound.layout
          | apply Sound.virtual | apply Sound.contexts | apply Sound.queue | apply Sound.sent | refine sound_mk ?_ ?_ ?_ ?_ ?_ ?_ ?_ ?_ ?_ ?_

/-! ## Integrity -/

theorem sound_pageLeft {x0 : State} {x1 : Loc} (h0 : Sound qq oo x0) : Sound qq oo (pageLeft x0 x1) := by
  unfold pageLeft
  repeat' first
      | with_reducible first
          | assumption | apply sound_modErr | refine sound_foldl ?_ (fun _ _ _ => ?_)
      | split

theorem sound_serveSod {x0 : Traffic} {x1 : Handle} {x2 : Nat} {x3 : State} {x4 : Option Loc} (h3 : Sound qq oo x3) : Sound qq oo (serveSod x0 x1 x2 x3 x4) := by
  unfold serveSod
  repeat' first
      | with_reducible assumption
      | with_reducible first
          | apply sound_serveBursts | refine sound_foldl ?_ (fun _ _ _ => ?_)
      | split
      | with_reducible first
          | apply Sound.functions | apply Sound.clamps | apply Sound.sources | apply Sound.targets | apply Sound.log | apply Sound.layout
          | apply Sound.virtual | apply Sound.contexts | apply Sound.queue | apply Sound.sent | refine sound_mk ?_ ?_ ?_ ?_ ?_ ?_ ?_ ?_ ?_ ?_

theorem sound_copySod {x0 : State} {x1 : Tensor} {x2 : Nat} {x3 : Option Loc} {x4 : Option Loc} (h0 : Sound qq oo x0) : Sound qq oo (copySod x0 x1 x2 x3 x4) := by
  unfold copySod
  repeat' first
      | with_reducible assumption
      | with_reducible first
          | apply sound_countTraffic | apply sound_serveSod

theorem sound_execSodMigration {x0 : Handle} {x1 : Nat} {x2 : Loc} {x3 : MemErr} {x4 : State} (h4 : Sound qq oo x4) : NSound qq oo (execSodMigration x0 x1 x2 x3 x4) := by
  unfold execSodMigration
  show Sound qq oo _
  repeat' first
      | with_reducible assumption
      | (extract_lets +onlyGivenNames s1; refine sound_cut (p := Sound qq oo s1) ?_ ?_; subst s1; rotate_left; intro _; clear_value s1)
      | (extract_lets +onlyGivenNames s1; refine sound_cut (p := Sound qq oo s1.1) ?_ ?_; subst s1; rotate_left; intro _; clear_value s1)
      | (extract_lets +onlyGivenNames s1; clear_value s1)
      | with_reducible first
          | apply sound_storedRead | apply sound_settled | apply sound_makeAsh | apply sound_modTensor | apply sound_copySod | apply sound_openAt
          | apply sound_gather | apply sound_pageLeft
      | (with_reducible apply sound_storedRead_eq <;> assumption)
      | split
      | with_reducible first
          | apply Sound.functions | apply Sound.clamps | apply Sound.sources | apply Sound.targets | apply Sound.log | apply Sound.layout
          | apply Sound.virtual | apply Sound.contexts | apply Sound.queue | apply Sound.sent | refine sound_mk ?_ ?_ ?_ ?_ ?_ ?_ ?_ ?_ ?_ ?_

theorem sound_parityAsh {x0 : State} {x1 : Handle} {x2 : Nat} (h0 : Sound qq oo x0) : Sound qq oo (parityAsh x0 x1 x2) := by
  unfold parityAsh
  repeat' first
      | with_reducible first
          | assumption | apply sound_modTensor

theorem sound_spoilMember {x0 : Handle} {x1 : Nat} {x2 : State} {x3 : Nat} (h2 : Sound qq oo x2) : Sound qq oo (spoilMember x0 x1 x2 x3) := by
  unfold spoilMember
  repeat' first
      | with_reducible first
          | assumption | apply sound_parityAsh | apply sound_makeAsh
      | split

theorem sound_placeRebuilt {x0 : State} {x1 : Handle} {x2 : Nat} {x3 : Sod} (h0 : Sound qq oo x0) : Sound qq oo (placeRebuilt x0 x1 x2 x3) := by
  unfold placeRebuilt
  repeat' first
      | with_reducible assumption
      | (extract_lets +onlyGivenNames s1; refine sound_cut (p := Sound qq oo s1) ?_ ?_; subst s1; rotate_left; intro _; clear_value s1)
      | (extract_lets +onlyGivenNames s1; clear_value s1)
      | with_reducible first
          | apply sound_modTensor | apply Sound.functions | apply Sound.clamps | apply Sound.sources | apply Sound.targets | apply Sound.log
          | apply Sound.layout | apply Sound.virtual | apply Sound.contexts | apply Sound.queue | apply Sound.sent
          | refine sound_mk ?_ ?_ ?_ ?_ ?_ ?_ ?_ ?_ ?_ ?_

theorem sound_rebuildData {x0 : State} {x1 : Tensor} {x2 : Nat} {x3 : Loc} {x4 : List Nat} (h0 : Sound qq oo x0) :
    Sound qq oo (rebuildData x0 x1 x2 x3 x4) := by
  unfold rebuildData
  repeat' first
      | with_reducible assumption | (extract_lets +onlyGivenNames s1; clear_value s1)
      | with_reducible first
          | apply sound_placeRebuilt | apply sound_spoilMember | apply sound_loseStripe | apply sound_settled | apply sound_openAt
      | split

theorem sound_rebuildParity {x0 : State} {x1 : Tensor} {x2 : Nat} {x3 : Loc} {x4 : List Nat} (h0 : Sound qq oo x0) : Sound qq oo (rebuildParity x0 x1 x2 x3 x4) := by
  unfold rebuildParity
  repeat' first
      | with_reducible assumption
      | with_reducible first
          | apply sound_settled | apply sound_loseStripe | apply sound_spoilMember | apply sound_modTensor
      | split
      | with_reducible first
          | apply Sound.functions | apply Sound.clamps | apply Sound.sources | apply Sound.targets | apply Sound.log | apply Sound.layout
          | apply Sound.virtual | apply Sound.contexts | apply Sound.queue | apply Sound.sent | refine sound_mk ?_ ?_ ?_ ?_ ?_ ?_ ?_ ?_ ?_ ?_

theorem sound_execSodRebuild {x0 : Handle} {x1 : Nat} {x2 : Loc} {x3 : List Nat} {x4 : State} (h4 : Sound qq oo x4) :
    NSound qq oo (execSodRebuild x0 x1 x2 x3 x4) := by
  unfold execSodRebuild
  show Sound qq oo _
  repeat' first
      | with_reducible assumption | (extract_lets +onlyGivenNames s1; clear_value s1)
      | with_reducible first
          | apply sound_rebuildParity | apply sound_rebuildData
      | split

theorem sound_execScrubPassStart {x0 : State} (h0 : Sound qq oo x0) : NSound qq oo (execScrubPassStart x0) := by
  unfold execScrubPassStart
  show Sound qq oo _
  repeat' first
      | with_reducible assumption | (extract_lets +onlyGivenNames s1; clear_value s1) | split
      | with_reducible first
          | apply Sound.functions | apply Sound.clamps | apply Sound.sources | apply Sound.targets | apply Sound.log | apply Sound.layout
          | apply Sound.virtual | apply Sound.contexts | apply Sound.queue | apply Sound.sent | refine sound_mk ?_ ?_ ?_ ?_ ?_ ?_ ?_ ?_ ?_ ?_

theorem sound_patrolTraffic {x0 : State} {x1 : Loc} {x2 : Nat} (h0 : Sound qq oo x0) : Sound qq oo (patrolTraffic x0 x1 x2) := by
  unfold patrolTraffic
  repeat' first
      | with_reducible assumption
      | with_reducible first
          | apply sound_serveBursts | refine sound_foldl ?_ (fun _ _ _ => ?_)
      | split

theorem sound_patrolDone {x0 : State} {x1 : Loc} (h0 : Sound qq oo x0) : Sound qq oo (patrolDone x0 x1) := by
  unfold patrolDone
  repeat' first
      | with_reducible assumption
      | with_reducible first
          | refine sound_foldl ?_ (fun _ _ _ => ?_)
      | with_reducible first
          | apply Sound.functions | apply Sound.clamps | apply Sound.sources | apply Sound.targets | apply Sound.log | apply Sound.layout
          | apply Sound.virtual | apply Sound.contexts | apply Sound.queue | apply Sound.sent | refine sound_mk ?_ ?_ ?_ ?_ ?_ ?_ ?_ ?_ ?_ ?_

theorem sound_patrolAsh {x0 : State} {x1 : Loc} (h0 : Sound qq oo x0) : Sound qq oo (patrolAsh x0 x1) := by
  unfold patrolAsh
  repeat' first
      | with_reducible first
          | assumption | apply sound_makeAsh | apply sound_settled
      | split

theorem sound_patrolPage {x0 : State} {x1 : Loc} {x2 : Spot} {x3 : MemErr} (h0 : Sound qq oo x0) : Sound qq oo (patrolPage x0 x1 x2 x3) := by
  unfold patrolPage
  repeat' first
      | with_reducible assumption
      | (extract_lets +onlyGivenNames s1; refine sound_cut (p := Sound qq oo s1) ?_ ?_; subst s1; rotate_left; intro _; clear_value s1)
      | (extract_lets +onlyGivenNames s1; refine sound_cut (p := Sound qq oo s1.1) ?_ ?_; subst s1; rotate_left; intro _; clear_value s1)
      | (extract_lets +onlyGivenNames s1; refine sound_cut (p := s1.vfEnabled = s1.vfEnabled) rfl ?_; intro _; subst s1)
      | (extract_lets +onlyGivenNames s1; clear_value s1)
      | with_reducible first
          | apply sound_patrolDone | apply sound_patrolTraffic | apply sound_patrolAsh | apply sound_correctedBurst | apply sound_uncorrectableBurst
      | split
      | with_reducible first
          | apply Sound.functions | apply Sound.clamps | apply Sound.sources | apply Sound.targets | apply Sound.log | apply Sound.layout
          | apply Sound.virtual | apply Sound.contexts | apply Sound.queue | apply Sound.sent | refine sound_mk ?_ ?_ ?_ ?_ ?_ ?_ ?_ ?_ ?_ ?_

theorem sound_patrolTags {x0 : State} {x1 : Nat} {x2 : Nat} {x3 : Nat} {x4 : Nat} {x5 : MemErr} (h0 : Sound qq oo x0) : Sound qq oo (patrolTags x0 x1 x2 x3 x4 x5) := by
  unfold patrolTags
  repeat' first
      | with_reducible assumption
      | (extract_lets +onlyGivenNames s1; refine sound_cut (p := Sound qq oo s1) ?_ ?_; subst s1; rotate_left; intro _; clear_value s1)
      | (extract_lets +onlyGivenNames s1; refine sound_cut (p := Sound qq oo s1.1) ?_ ?_; subst s1; rotate_left; intro _; clear_value s1)
      | (extract_lets +onlyGivenNames s1; clear_value s1)
      | with_reducible first
          | apply sound_patrolTraffic | apply sound_modErr | apply sound_patrolAsh | refine sound_foldl ?_ (fun _ _ _ => ?_)
      | split
      | with_reducible first
          | apply Sound.functions | apply Sound.clamps | apply Sound.sources | apply Sound.targets | apply Sound.log | apply Sound.layout
          | apply Sound.virtual | apply Sound.contexts | apply Sound.queue | apply Sound.sent | refine sound_mk ?_ ?_ ?_ ?_ ?_ ?_ ?_ ?_ ?_ ?_

theorem sound_execPatrolRead {x0 : PatrolTarget} {x1 : MemErr} {x2 : State} (h2 : Sound qq oo x2) : NSound qq oo (execPatrolRead x0 x1 x2) := by
  unfold execPatrolRead
  show Sound qq oo _
  repeat' first
      | with_reducible first
          | assumption | apply sound_patrolPage | apply sound_patrolTags
      | split

theorem sound_scrubLate {x0 : State} {x1 : Nat} (h0 : Sound qq oo x0) : Sound qq oo (scrubLate x0 x1) := by
  unfold scrubLate
  repeat' first
      | with_reducible assumption | (extract_lets +onlyGivenNames s1; clear_value s1) | with_reducible apply sound_raise

theorem sound_readOnDie {x0 : State} (h0 : Sound qq oo x0) : Sound qq oo (readOnDie x0) := by
  unfold readOnDie
  repeat' first
      | with_reducible assumption
      | (extract_lets +onlyGivenNames s1; refine sound_cut (p := Sound qq oo s1) ?_ ?_; subst s1; rotate_left; intro _; clear_value s1)
      | with_reducible first
          | apply sound_modErr | refine sound_foldl ?_ (fun _ _ _ => ?_) | apply Sound.functions | apply Sound.clamps | apply Sound.sources
          | apply Sound.targets | apply Sound.log | apply Sound.layout | apply Sound.virtual | apply Sound.contexts | apply Sound.queue
          | apply Sound.sent | refine sound_mk ?_ ?_ ?_ ?_ ?_ ?_ ?_ ?_ ?_ ?_

theorem sound_execScrubPassEnd {x0 : List Nat} {x1 : State} (h1 : Sound qq oo x1) : NSound qq oo (execScrubPassEnd x0 x1) := by
  unfold execScrubPassEnd
  show Sound qq oo _
  repeat' first
      | with_reducible assumption
      | (extract_lets +onlyGivenNames s1; refine sound_cut (p := Sound qq oo s1) ?_ ?_; subst s1; rotate_left; intro _; clear_value s1)
      | (extract_lets +onlyGivenNames s1; clear_value s1)
      | with_reducible first
          | apply sound_readOnDie | apply sound_scrubLate | refine sound_foldl ?_ (fun _ _ _ => ?_)
      | split
      | with_reducible first
          | apply Sound.functions | apply Sound.clamps | apply Sound.sources | apply Sound.targets | apply Sound.log | apply Sound.layout
          | apply Sound.virtual | apply Sound.contexts | apply Sound.queue | apply Sound.sent | refine sound_mk ?_ ?_ ?_ ?_ ?_ ?_ ?_ ?_ ?_ ?_

theorem sound_ashRecord {x0 : State} {x1 : AshWindow} (h0 : Sound qq oo x0) : Sound qq oo (ashRecord x0 x1) := by
  unfold ashRecord
  repeat' first
      | with_reducible assumption
      | with_reducible first
          | apply sound_eventRecord

theorem sound_execAshWindowEnd {x0 : State} (h0 : Sound qq oo x0) : NSound qq oo (execAshWindowEnd x0) := by
  unfold execAshWindowEnd
  have h : Sound qq oo ((x0.store.ashWindows.filter (ashEnded x0)).foldl ashRecord x0) := sound_foldl h0 fun _ _ h => sound_ashRecord h
  exact sound_mk h.queue h.sent h.functions h.clamps h.sources h.targets h.log h.layout h.virtual h.contexts

theorem sound_execCounterWindowEnd {x0 : State} (h0 : Sound qq oo x0) : NSound qq oo (execCounterWindowEnd x0) := by
  unfold execCounterWindowEnd
  show Sound qq oo _
  repeat' first
      | with_reducible assumption
      | (extract_lets +onlyGivenNames s1; refine sound_cut (p := Sound qq oo s1) ?_ ?_; subst s1; rotate_left; intro _; clear_value s1)
      | (extract_lets +onlyGivenNames s1; refine sound_cut (p := Sound qq oo s1.1) ?_ ?_; subst s1; rotate_left; intro _; clear_value s1)
      | (extract_lets +onlyGivenNames s1; refine sound_cut (p := s1.sources = s1.sources) rfl ?_; intro _; subst s1)
      | (extract_lets +onlyGivenNames s1; clear_value s1)
      | split
      | with_reducible first
          | apply Sound.functions | apply Sound.clamps | apply Sound.sources | apply Sound.targets | apply Sound.log | apply Sound.layout
          | apply Sound.virtual | apply Sound.contexts | apply Sound.queue | apply Sound.sent | refine sound_mk ?_ ?_ ?_ ?_ ?_ ?_ ?_ ?_ ?_ ?_

end Sys2Proof.Machine
end

