-- ==== Sys2Proof/Laws/SoundBlock.lean ====
section
/-!
SUPPORT. What every operation of the machine keeps (`Sound`): the rows of cores, packets, registers, power and pins.
-/
namespace Sys2Proof.Machine

open Sys2Proof

variable {qq : List Instr} {oo : List Out}

/-! ## KilnAccess -/

theorem sound_issueAcc {x0 : Nat} {x1 : AccBody} {x2 : State} {x3 : Nat} {x4 : Nat} (h2 : Sound qq oo x2)
    (hf : ∀ s t c l e, Sound qq oo s → Sound qq oo (x1 s t c l e)) : Sound qq oo (issueAcc x0 x1 x2 x3 x4) := by
  unfold issueAcc
  repeat' first
      | with_reducible first
          | assumption | apply sound_accFault | apply sound_fetchError | apply sound_fetchForeign | apply hf
      | split

theorem sound_accSetcnt {x0 : State} {x1 : Tile} {x2 : Cmd} {x3 : Launch} {x4 : Entry} (h0 : Sound qq oo x0) :
    Sound qq oo (accSetcnt x0 x1 x2 x3 x4) := by
  unfold accSetcnt
  repeat' first
      | with_reducible assumption | (extract_lets +onlyGivenNames s1; clear_value s1) | with_reducible apply sound_retired

theorem sound_accCntadd {x0 : State} {x1 : Tile} {x2 : Cmd} {x3 : Launch} {x4 : Entry} (h0 : Sound qq oo x0) :
    Sound qq oo (accCntadd x0 x1 x2 x3 x4) := by
  unfold accCntadd
  repeat' first
      | with_reducible assumption | (extract_lets +onlyGivenNames s1; clear_value s1) | with_reducible apply sound_retired

theorem sound_accEnd {x0 : State} {x1 : Tile} {x2 : Cmd} {x3 : Launch} {x4 : Entry} (h0 : Sound qq oo x0) : Sound qq oo (accEnd x0 x1 x2 x3 x4) := by
  unfold accEnd
  repeat' first
      | with_reducible assumption | (extract_lets +onlyGivenNames s1; clear_value s1)
      | with_reducible first
          | apply sound_retired | apply sound_exeFault
      | split

theorem sound_accessFault {x0 : State} {x1 : Tile} {x2 : Nat} {x3 : Nat} {x4 : Int} (h0 : Sound qq oo x0) :
    Sound qq oo (accessFault x0 x1 x2 x3 x4) := by
  unfold accessFault
  repeat' first
      | with_reducible assumption
      | (extract_lets +onlyGivenNames s1; refine sound_cut (p := Sound qq oo s1) ?_ ?_; subst s1; rotate_left; intro _; clear_value s1)
      | with_reducible first
          | apply sound_accFault | apply sound_internalEvent
      | split

theorem sound_genMarker {x0 : State} {x1 : Tile} {x2 : Nest} (h0 : Sound qq oo x0) : Sound qq oo (genMarker x0 x1 x2) := by
  unfold genMarker
  repeat' first
      | with_reducible assumption | (extract_lets +onlyGivenNames s1; clear_value s1) | with_reducible apply sound_retired

theorem sound_genLoad {x0 : State} {x1 : Tile} {x2 : Cmd} {x3 : Launch} {x4 : Nest} (h0 : Sound qq oo x0) : Sound qq oo (genLoad x0 x1 x2 x3 x4) := by
  unfold genLoad
  repeat' first
      | with_reducible assumption
      | (extract_lets +onlyGivenNames s1; refine sound_cut (p := Sound qq oo s1) ?_ ?_; subst s1; rotate_left; intro _; clear_value s1)
      | (extract_lets +onlyGivenNames s1; refine sound_cut (p := Sound qq oo s1.1) ?_ ?_; subst s1; rotate_left; intro _; clear_value s1)
      | (extract_lets +onlyGivenNames s1; clear_value s1)
      | with_reducible first
          | apply sound_genMarker | apply sound_accessFault | apply sound_modTile | apply sound_retired
      | split
      | with_reducible first
          | apply Sound.functions | apply Sound.clamps | apply Sound.sources | apply Sound.targets | apply Sound.log | apply Sound.layout
          | apply Sound.virtual | apply Sound.contexts | apply Sound.queue | apply Sound.sent | refine sound_mk ?_ ?_ ?_ ?_ ?_ ?_ ?_ ?_ ?_ ?_

theorem sound_pumpLoads {x0 : Nat} {x1 : State} {x2 : Nat} {x3 : Nat} (h1 : Sound qq oo x1) : Sound qq oo (pumpLoads x0 x1 x2 x3) := by
  induction x0 generalizing x1 x2 x3 with
  | zero =>
    unfold pumpLoads
    repeat' first
        | with_reducible assumption
  | succ n ih =>
    unfold pumpLoads
    repeat' first
        | with_reducible first
            | assumption | apply ih | apply sound_genLoad | apply sound_accFault
        | split

theorem sound_tokensFor {x0 : State} {x1 : Nat} {x2 : Nat} (h0 : Sound qq oo x0) : Sound qq oo (tokensFor x0 x1 x2) := by
  unfold tokensFor
  repeat' first
      | with_reducible first
          | assumption | apply sound_issueTokens | refine sound_foldl ?_ (fun _ _ _ => ?_)
      | split | simp only [id_eq]

theorem sound_accLoad {x0 : State} {x1 : Tile} {x2 : Cmd} {x3 : Launch} {x4 : Entry} (h0 : Sound qq oo x0) :
    Sound qq oo (accLoad x0 x1 x2 x3 x4) := by
  unfold accLoad
  repeat' first
      | with_reducible assumption | (extract_lets +onlyGivenNames s1; clear_value s1)
      | with_reducible first
          | apply sound_accFault | apply sound_modTile
      | split

theorem sound_answerReq {x0 : State} {x1 : Tile} {x2 : Nat} {x3 : List Byte} (h0 : Sound qq oo x0) : Sound qq oo (answerReq x0 x1 x2 x3) := by
  unfold answerReq
  repeat' first
      | with_reducible first
          | assumption | apply sound_modTile

theorem sound_windowReturn {x0 : State} {x1 : Tile} {x2 : Cmd} {x3 : InbankBlock} {x4 : Nat} {x5 : LoadReq} (h0 : Sound qq oo x0) : Sound qq oo (windowReturn x0 x1 x2 x3 x4 x5) := by
  unfold windowReturn
  repeat' first
      | with_reducible assumption
      | (extract_lets +onlyGivenNames s1; refine sound_cut (p := Sound qq oo s1) ?_ ?_; subst s1; rotate_left; intro _; clear_value s1)
      | (extract_lets +onlyGivenNames s1; refine sound_cut (p := Sound qq oo s1.1) ?_ ?_; subst s1; rotate_left; intro _; clear_value s1)
      | (extract_lets +onlyGivenNames s1; refine sound_cut (p := s1.vfEnabled = s1.vfEnabled) rfl ?_; intro _; subst s1)
      | (extract_lets +onlyGivenNames s1; clear_value s1)
      | with_reducible first
          | apply sound_answerReq | apply sound_windowBurst | apply sound_accFault | apply sound_modTile
      | refine wsound_use ?_ (by assumption)
      | split
      | with_reducible first
          | apply Sound.functions | apply Sound.clamps | apply Sound.sources | apply Sound.targets | apply Sound.log | apply Sound.layout
          | apply Sound.virtual | apply Sound.contexts | apply Sound.queue | apply Sound.sent | refine sound_mk ?_ ?_ ?_ ?_ ?_ ?_ ?_ ?_ ?_ ?_

theorem sound_loadReturn {x0 : State} {x1 : Tile} {x2 : Cmd} {x3 : Launch} {x4 : Nat} {x5 : MemErr} (h0 : Sound qq oo x0) : Sound qq oo (loadReturn x0 x1 x2 x3 x4 x5) := by
  unfold loadReturn
  repeat' first
      | with_reducible assumption
      | (extract_lets +onlyGivenNames s1; refine sound_cut (p := Sound qq oo s1) ?_ ?_; subst s1; rotate_left; intro _; clear_value s1)
      | (extract_lets +onlyGivenNames s1; refine sound_cut (p := Sound qq oo s1.1) ?_ ?_; subst s1; rotate_left; intro _; clear_value s1)
      | (extract_lets +onlyGivenNames s1; refine sound_cut (p := s1.vfEnabled = s1.vfEnabled) rfl ?_; intro _; subst s1)
      | (extract_lets +onlyGivenNames s1; clear_value s1)
      | with_reducible first
          | apply sound_answerReq | apply sound_accFault | apply sound_windowReturn | apply sound_storedRead | apply sound_dataError
          | apply sound_servedRun
      | (with_reducible apply sound_storedRead_eq <;> assumption)
      | split
      | with_reducible first
          | apply Sound.functions | apply Sound.clamps | apply Sound.sources | apply Sound.targets | apply Sound.log | apply Sound.layout
          | apply Sound.virtual | apply Sound.contexts | apply Sound.queue | apply Sound.sent | refine sound_mk ?_ ?_ ?_ ?_ ?_ ?_ ?_ ?_ ?_ ?_

theorem sound_genStore {x0 : State} {x1 : Tile} {x2 : Cmd} {x3 : Launch} {x4 : Nest} (h0 : Sound qq oo x0) : OSound qq oo (genStore x0 x1 x2 x3 x4) := by
  unfold genStore
  dsimp only
  repeat' first
      | with_reducible first
          | assumption | apply osound_none | apply osound_some | apply sound_accessFault | apply sound_windowBurst | apply sound_retired
          | apply sound_accFault | apply sound_modTile
      | split
      | refine wsound_use ?_ (by assumption)

theorem sound_pumpStores {x0 : Nat} {x1 : State} {x2 : Nat} {x3 : Nat} (h1 : Sound qq oo x1) : Sound qq oo (pumpStores x0 x1 x2 x3) := by
  induction x0 generalizing x1 x2 x3 with
  | zero =>
    unfold pumpStores
    repeat' first
        | with_reducible assumption
        | with_reducible first
            | apply sound_genStore | apply sound_accFault
        | refine osound_use ?_ (by assumption)
        | split
        | with_reducible first
            | apply Sound.functions | apply Sound.clamps | apply Sound.sources | apply Sound.targets | apply Sound.log | apply Sound.layout
            | apply Sound.virtual | apply Sound.contexts | apply Sound.queue | apply Sound.sent | refine sound_mk ?_ ?_ ?_ ?_ ?_ ?_ ?_ ?_ ?_ ?_
  | succ n ih =>
    unfold pumpStores
    repeat' first
        | with_reducible assumption
        | with_reducible first
            | apply ih | apply sound_genStore | apply sound_accFault
        | refine osound_use ?_ (by assumption)
        | split
        | with_reducible first
            | apply Sound.functions | apply Sound.clamps | apply Sound.sources | apply Sound.targets | apply Sound.log | apply Sound.layout
            | apply Sound.virtual | apply Sound.contexts | apply Sound.queue | apply Sound.sent | refine sound_mk ?_ ?_ ?_ ?_ ?_ ?_ ?_ ?_ ?_ ?_

theorem sound_accStore {x0 : State} {x1 : Tile} {x2 : Cmd} {x3 : Launch} {x4 : Entry} (h0 : Sound qq oo x0) :
    Sound qq oo (accStore x0 x1 x2 x3 x4) := by
  unfold accStore
  repeat' first
      | with_reducible assumption | (extract_lets +onlyGivenNames s1; clear_value s1)
      | with_reducible first
          | apply sound_retired | apply sound_accFault | apply sound_modTile
      | split

theorem sound_pumped {x0 : State} {x1 : Nat} {x2 : Nat} (h0 : Sound qq oo x0) : Sound qq oo (pumped x0 x1 x2) := by
  unfold pumped
  repeat' first
      | with_reducible assumption
      | (extract_lets +onlyGivenNames s1; refine sound_cut (p := Sound qq oo s1) ?_ ?_; subst s1; rotate_left; intro _; clear_value s1)
      | (extract_lets +onlyGivenNames s1; clear_value s1)
      | with_reducible first
          | apply sound_pumpStores | apply sound_hopelessNow | apply sound_tokensFor | apply sound_pumpLoads

theorem sound_execLoadDataReturn {x0 : Nat} {x1 : Nat} {x2 : Nat} {x3 : MemErr} {x4 : State} (h4 : Sound qq oo x4) :
    NSound qq oo (execLoadDataReturn x0 x1 x2 x3 x4) := by
  unfold execLoadDataReturn
  show Sound qq oo _
  repeat' first
      | with_reducible assumption
      | (extract_lets +onlyGivenNames s1; refine sound_cut (p := Sound qq oo s1) ?_ ?_; subst s1; rotate_left; intro _; clear_value s1)
      | with_reducible first
          | apply sound_pumped | apply sound_loadReturn
      | split

theorem sound_execAccessLoad {x0 : Nat} {x1 : Nat} {x2 : State} (h2 : Sound qq oo x2) : NSound qq oo (execAccessLoad x0 x1 x2) := by
  unfold execAccessLoad
  show Sound qq oo _
  repeat' first
      | with_reducible assumption
      | with_reducible first
          | apply sound_pumped | refine sound_issueAcc ?_ (fun _ _ _ _ _ _ => ?_) | apply sound_accLoad

theorem sound_execAccessStore {x0 : Nat} {x1 : Nat} {x2 : State} (h2 : Sound qq oo x2) : NSound qq oo (execAccessStore x0 x1 x2) := by
  unfold execAccessStore
  show Sound qq oo _
  repeat' first
      | with_reducible assumption
      | with_reducible first
          | apply sound_pumped | refine sound_issueAcc ?_ (fun _ _ _ _ _ _ => ?_) | apply sound_accStore

theorem sound_execSetcnt {x0 : Nat} {x1 : Nat} {x2 : State} (h2 : Sound qq oo x2) : NSound qq oo (execSetcnt x0 x1 x2) := by
  unfold execSetcnt
  show Sound qq oo _
  repeat' first
      | with_reducible assumption
      | with_reducible first
          | refine sound_issueAcc ?_ (fun _ _ _ _ _ _ => ?_) | apply sound_accSetcnt

theorem sound_execCntadd {x0 : Nat} {x1 : Nat} {x2 : State} (h2 : Sound qq oo x2) : NSound qq oo (execCntadd x0 x1 x2) := by
  unfold execCntadd
  show Sound qq oo _
  repeat' first
      | with_reducible assumption
      | with_reducible first
          | refine sound_issueAcc ?_ (fun _ _ _ _ _ _ => ?_) | apply sound_accCntadd

theorem sound_execAccessEnd {x0 : Nat} {x1 : Nat} {x2 : State} (h2 : Sound qq oo x2) : NSound qq oo (execAccessEnd x0 x1 x2) := by
  unfold execAccessEnd
  show Sound qq oo _
  repeat' first
      | with_reducible assumption
      | with_reducible first
          | apply sound_hopelessNow | refine sound_issueAcc ?_ (fun _ _ _ _ _ _ => ?_) | apply sound_accEnd

theorem sound_triggerRow {x0 : State} {x1 : Handle} {x2 : Nat} {x3 : Nat} {x4 : Nat} {x5 : Option (List Byte)} (h0 : Sound qq oo x0) : Sound qq oo (triggerRow x0 x1 x2 x3 x4 x5) := by
  unfold triggerRow
  repeat' first
      | with_reducible assumption
      | (extract_lets +onlyGivenNames s1; refine sound_cut (p := Sound qq oo s1) ?_ ?_; subst s1; rotate_left; intro _; clear_value s1)
      | (extract_lets +onlyGivenNames s1; refine sound_cut (p := Sound qq oo s1.1) ?_ ?_; subst s1; rotate_left; intro _; clear_value s1)
      | (extract_lets +onlyGivenNames s1; clear_value s1)
      | with_reducible first
          | apply sound_windowReturn | apply sound_windowAccess | apply sound_finish
      | refine wsound_use ?_ (by assumption)
      | split
      | with_reducible first
          | apply Sound.functions | apply Sound.clamps | apply Sound.sources | apply Sound.targets | apply Sound.log | apply Sound.layout
          | apply Sound.virtual | apply Sound.contexts | apply Sound.queue | apply Sound.sent | refine sound_mk ?_ ?_ ?_ ?_ ?_ ?_ ?_ ?_ ?_ ?_

theorem sound_execTrigVreg {x0 : Handle} {x1 : Nat} {x2 : Nat} {x3 : Option (List Byte)} {x4 : State} (h4 : Sound qq oo x4) :
    NSound qq oo (execTrigVreg x0 x1 x2 x3 x4) := by
  unfold execTrigVreg
  show Sound qq oo _
  repeat' first
      | with_reducible first
          | assumption | apply sound_triggerRow

theorem sound_execTrigBbuf {x0 : Handle} {x1 : Nat} {x2 : Nat} {x3 : Option (List Byte)} {x4 : State} (h4 : Sound qq oo x4) :
    NSound qq oo (execTrigBbuf x0 x1 x2 x3 x4) := by
  unfold execTrigBbuf
  show Sound qq oo _
  repeat' first
      | with_reducible first
          | assumption | apply sound_triggerRow

theorem sound_execTrigUstore {x0 : Handle} {x1 : Nat} {x2 : Nat} {x3 : Option (List Byte)} {x4 : State} (h4 : Sound qq oo x4) :
    NSound qq oo (execTrigUstore x0 x1 x2 x3 x4) := by
  unfold execTrigUstore
  show Sound qq oo _
  repeat' first
      | with_reducible first
          | assumption | apply sound_triggerRow

theorem sound_execTrigArg {x0 : Handle} {x1 : Nat} {x2 : Nat} {x3 : Option (List Byte)} {x4 : State} (h4 : Sound qq oo x4) :
    NSound qq oo (execTrigArg x0 x1 x2 x3 x4) := by
  unfold execTrigArg
  show Sound qq oo _
  repeat' first
      | with_reducible first
          | assumption | apply sound_triggerRow

theorem sound_execTrigCmd {x0 : Handle} {x1 : Nat} {x2 : Nat} {x3 : Option (List Byte)} {x4 : State} (h4 : Sound qq oo x4) :
    NSound qq oo (execTrigCmd x0 x1 x2 x3 x4) := by
  unfold execTrigCmd
  show Sound qq oo _
  repeat' first
      | with_reducible first
          | assumption | apply sound_triggerRow

theorem sound_execTrigWait {x0 : Handle} {x1 : Nat} {x2 : Nat} {x3 : Option (List Byte)} {x4 : State} (h4 : Sound qq oo x4) :
    NSound qq oo (execTrigWait x0 x1 x2 x3 x4) := by
  unfold execTrigWait
  show Sound qq oo _
  repeat' first
      | with_reducible first
          | assumption | apply sound_triggerRow

/-! ## KilnRows -/

theorem sound_countRows {x0 : State} {x1 : Nat} {x2 : Nat} {x3 : State} (h0 : Sound qq oo x0) (h3 : Sound qq oo x3) :
    Sound qq oo (countRows x0 x1 x2 x3) := by
  unfold countRows
  repeat' first
      | with_reducible first
          | assumption | apply sound_gather
      | split

theorem sound_execDelay {x0 : Nat} {x1 : Nat} {x2 : State} (h2 : Sound qq oo x2) : NSound qq oo (execDelay x0 x1 x2) := by
  unfold execDelay
  show Sound qq oo _
  repeat' first
      | with_reducible first
          | assumption | apply sound_pumped | apply sound_issueExec

theorem sound_execSetReg {x0 : Nat} {x1 : Nat} {x2 : State} (h2 : Sound qq oo x2) : NSound qq oo (execSetReg x0 x1 x2) := by
  unfold execSetReg
  show Sound qq oo _
  repeat' first
      | with_reducible first
          | assumption | apply sound_pumped | apply sound_issueExec

theorem sound_execExecLoop {x0 : Nat} {x1 : Nat} {x2 : State} (h2 : Sound qq oo x2) : NSound qq oo (execExecLoop x0 x1 x2) := by
  unfold execExecLoop
  show Sound qq oo _
  repeat' first
      | with_reducible first
          | assumption | apply sound_pumped | apply sound_issueExec

theorem sound_execBeos {x0 : Nat} {x1 : Nat} {x2 : State} (h2 : Sound qq oo x2) : NSound qq oo (execBeos x0 x1 x2) := by
  unfold execBeos
  show Sound qq oo _
  repeat' first
      | with_reducible first
          | assumption | apply sound_pumped | apply sound_issueExec

theorem sound_execExecTag {x0 : Nat} {x1 : Nat} {x2 : State} (h2 : Sound qq oo x2) : NSound qq oo (execExecTag x0 x1 x2) := by
  unfold execExecTag
  show Sound qq oo _
  repeat' first
      | with_reducible first
          | assumption | apply sound_pumped | apply sound_issueExec

theorem sound_execExecEnd {x0 : Nat} {x1 : Nat} {x2 : State} (h2 : Sound qq oo x2) : NSound qq oo (execExecEnd x0 x1 x2) := by
  unfold execExecEnd
  show Sound qq oo _
  repeat' first
      | with_reducible first
          | assumption | apply sound_pumped | apply sound_issueExec

theorem sound_execTld {x0 : Nat} {x1 : Nat} {x2 : State} (h2 : Sound qq oo x2) : NSound qq oo (execTld x0 x1 x2) := by
  unfold execTld
  show Sound qq oo _
  repeat' first
      | with_reducible first
          | assumption | apply sound_pumped | apply sound_issueExec

theorem sound_execMma {x0 : Nat} {x1 : Nat} {x2 : State} (h2 : Sound qq oo x2) : NSound qq oo (execMma x0 x1 x2) := by
  unfold execMma
  show Sound qq oo _
  repeat' first
      | with_reducible first
          | assumption | apply sound_countRows | apply sound_pumped | apply sound_issueExec

theorem sound_execTfl {x0 : Nat} {x1 : Nat} {x2 : State} (h2 : Sound qq oo x2) : NSound qq oo (execTfl x0 x1 x2) := by
  unfold execTfl
  show Sound qq oo _
  repeat' first
      | with_reducible first
          | assumption | apply sound_pumped | apply sound_issueExec

theorem sound_execVadd {x0 : Nat} {x1 : Nat} {x2 : State} (h2 : Sound qq oo x2) : NSound qq oo (execVadd x0 x1 x2) := by
  unfold execVadd
  show Sound qq oo _
  repeat' first
      | with_reducible first
          | assumption | apply sound_pumped | apply sound_issueExec

theorem sound_execVsub {x0 : Nat} {x1 : Nat} {x2 : State} (h2 : Sound qq oo x2) : NSound qq oo (execVsub x0 x1 x2) := by
  unfold execVsub
  show Sound qq oo _
  repeat' first
      | with_reducible first
          | assumption | apply sound_pumped | apply sound_issueExec

theorem sound_execVmul {x0 : Nat} {x1 : Nat} {x2 : State} (h2 : Sound qq oo x2) : NSound qq oo (execVmul x0 x1 x2) := by
  unfold execVmul
  show Sound qq oo _
  repeat' first
      | with_reducible first
          | assumption | apply sound_pumped | apply sound_issueExec

theorem sound_execVfma {x0 : Nat} {x1 : Nat} {x2 : State} (h2 : Sound qq oo x2) : NSound qq oo (execVfma x0 x1 x2) := by
  unfold execVfma
  show Sound qq oo _
  repeat' first
      | with_reducible first
          | assumption | apply sound_pumped | apply sound_issueExec

theorem sound_execVmin {x0 : Nat} {x1 : Nat} {x2 : State} (h2 : Sound qq oo x2) : NSound qq oo (execVmin x0 x1 x2) := by
  unfold execVmin
  show Sound qq oo _
  repeat' first
      | with_reducible first
          | assumption | apply sound_pumped | apply sound_issueExec

theorem sound_execVmax {x0 : Nat} {x1 : Nat} {x2 : State} (h2 : Sound qq oo x2) : NSound qq oo (execVmax x0 x1 x2) := by
  unfold execVmax
  show Sound qq oo _
  repeat' first
      | with_reducible first
          | assumption | apply sound_pumped | apply sound_issueExec

theorem sound_execVcmp {x0 : Nat} {x1 : Nat} {x2 : State} (h2 : Sound qq oo x2) : NSound qq oo (execVcmp x0 x1 x2) := by
  unfold execVcmp
  show Sound qq oo _
  repeat' first
      | with_reducible first
          | assumption | apply sound_pumped | apply sound_issueExec

theorem sound_execVsel {x0 : Nat} {x1 : Nat} {x2 : State} (h2 : Sound qq oo x2) : NSound qq oo (execVsel x0 x1 x2) := by
  unfold execVsel
  show Sound qq oo _
  repeat' first
      | with_reducible first
          | assumption | apply sound_pumped | apply sound_issueExec

theorem sound_execVfn {x0 : Nat} {x1 : Nat} {x2 : State} (h2 : Sound qq oo x2) : NSound qq oo (execVfn x0 x1 x2) := by
  unfold execVfn
  show Sound qq oo _
  repeat' first
      | with_reducible first
          | assumption | apply sound_pumped | apply sound_issueExec

theorem sound_execVchs {x0 : Nat} {x1 : Nat} {x2 : State} (h2 : Sound qq oo x2) : NSound qq oo (execVchs x0 x1 x2) := by
  unfold execVchs
  show Sound qq oo _
  repeat' first
      | with_reducible first
          | assumption | apply sound_pumped | apply sound_issueExec

theorem sound_execVsmx {x0 : Nat} {x1 : Nat} {x2 : State} (h2 : Sound qq oo x2) : NSound qq oo (execVsmx x0 x1 x2) := by
  unfold execVsmx
  show Sound qq oo _
  repeat' first
      | with_reducible first
          | assumption | apply sound_pumped | apply sound_issueExec

theorem sound_execVmrg {x0 : Nat} {x1 : Nat} {x2 : State} (h2 : Sound qq oo x2) : NSound qq oo (execVmrg x0 x1 x2) := by
  unfold execVmrg
  show Sound qq oo _
  repeat' first
      | with_reducible first
          | assumption | apply sound_pumped | apply sound_issueExec

theorem sound_execVcvt {x0 : Nat} {x1 : Nat} {x2 : State} (h2 : Sound qq oo x2) : NSound qq oo (execVcvt x0 x1 x2) := by
  unfold execVcvt
  show Sound qq oo _
  repeat' first
      | with_reducible first
          | assumption | apply sound_pumped | apply sound_issueExec

theorem sound_execVmov {x0 : Nat} {x1 : Nat} {x2 : State} (h2 : Sound qq oo x2) : NSound qq oo (execVmov x0 x1 x2) := by
  unfold execVmov
  show Sound qq oo _
  repeat' first
      | with_reducible first
          | assumption | apply sound_pumped | apply sound_issueExec

theorem sound_execVbc {x0 : Nat} {x1 : Nat} {x2 : State} (h2 : Sound qq oo x2) : NSound qq oo (execVbc x0 x1 x2) := by
  unfold execVbc
  show Sound qq oo _
  repeat' first
      | with_reducible first
          | assumption | apply sound_pumped | apply sound_issueExec

theorem sound_execQpop {x0 : Nat} {x1 : Nat} {x2 : State} (h2 : Sound qq oo x2) : NSound qq oo (execQpop x0 x1 x2) := by
  unfold execQpop
  show Sound qq oo _
  repeat' first
      | with_reducible first
          | assumption | apply sound_pumped | apply sound_issueExec

theorem sound_execQpush {x0 : Nat} {x1 : Nat} {x2 : State} (h2 : Sound qq oo x2) : NSound qq oo (execQpush x0 x1 x2) := by
  unfold execQpush
  show Sound qq oo _
  repeat' first
      | with_reducible first
          | assumption | apply sound_pumped | apply sound_issueExec

/-! ## TensorCmd -/

theorem sound_decideTensorCreate {x0 : State} {x1 : Sender} {x2 : Packet} (h0 : Sound qq oo x0) : VSound qq oo (decideTensorCreate x0 x1 x2) := by
  unfold decideTensorCreate
  repeat' first
      | with_reducible assumption
      | (extract_lets +onlyGivenNames s1; refine sound_cut (p := Sound qq oo s1) ?_ ?_; subst s1; rotate_left; intro _; clear_value s1)
      | (extract_lets +onlyGivenNames s1; clear_value s1)
      | with_reducible first
          | refine vsound_unless ?_ | apply sound_takeSlot | apply sound_putRec | apply sound_modCtx | refine vsound_mk (fun _ _ => ?_)
          | apply Sound.functions | apply Sound.clamps | apply Sound.sources | apply Sound.targets | apply Sound.log | apply Sound.layout
          | apply Sound.virtual | apply Sound.contexts | apply Sound.queue | apply Sound.sent | refine sound_mk ?_ ?_ ?_ ?_ ?_ ?_ ?_ ?_ ?_ ?_

theorem sound_decideTensorDestroy {x0 : State} {x1 : Sender} {x2 : Packet} (h0 : Sound qq oo x0) : VSound qq oo (decideTensorDestroy x0 x1 x2) := by
  unfold decideTensorDestroy
  repeat' first
      | with_reducible assumption | (extract_lets +onlyGivenNames s1; clear_value s1) | with_reducible apply sound_queueCmd

theorem sound_decideTensorGrant {x0 : State} {x1 : Sender} {x2 : Packet} (h0 : Sound qq oo x0) : VSound qq oo (decideTensorGrant x0 x1 x2) := by
  unfold decideTensorGrant
  repeat' first
      | with_reducible assumption | (extract_lets +onlyGivenNames s1; clear_value s1)
      | with_reducible first
          | refine vsound_unless ?_ | refine vsound_ok (fun _ _ => ?_) | apply sound_modTensor

theorem sound_decideTensorRevoke {x0 : State} {x1 : Sender} {x2 : Packet} (h0 : Sound qq oo x0) : VSound qq oo (decideTensorRevoke x0 x1 x2) := by
  unfold decideTensorRevoke
  repeat' first
      | with_reducible assumption | (extract_lets +onlyGivenNames s1; clear_value s1)
      | with_reducible first
          | refine vsound_unless ?_ | refine vsound_ok (fun _ _ => ?_) | apply sound_modTensor

theorem sound_decideTensorRead {x0 : State} {x1 : Sender} {x2 : Packet} (h0 : Sound qq oo x0) : VSound qq oo (decideTensorRead x0 x1 x2) := by
  unfold decideTensorRead
  repeat' first
      | with_reducible assumption | (extract_lets +onlyGivenNames s1; clear_value s1) | with_reducible apply sound_queueCmd

theorem sound_decideTensorWrite {x0 : State} {x1 : Sender} {x2 : Packet} (h0 : Sound qq oo x0) : VSound qq oo (decideTensorWrite x0 x1 x2) := by
  unfold decideTensorWrite
  repeat' first
      | with_reducible assumption | (extract_lets +onlyGivenNames s1; clear_value s1) | with_reducible apply sound_queueCmd

theorem sound_decideTensorCopy {x0 : State} {x1 : Sender} {x2 : Packet} (h0 : Sound qq oo x0) : VSound qq oo (decideTensorCopy x0 x1 x2) := by
  unfold decideTensorCopy
  repeat' first
      | with_reducible assumption | (extract_lets +onlyGivenNames s1; clear_value s1) | with_reducible apply sound_queueCmd

theorem sound_decideTensorFill {x0 : State} {x1 : Sender} {x2 : Packet} (h0 : Sound qq oo x0) : VSound qq oo (decideTensorFill x0 x1 x2) := by
  unfold decideTensorFill
  repeat' first
      | with_reducible assumption | (extract_lets +onlyGivenNames s1; clear_value s1) | with_reducible apply sound_queueCmd

theorem sound_decideTensorGather {x0 : State} {x1 : Sender} {x2 : Packet} (h0 : Sound qq oo x0) : VSound qq oo (decideTensorGather x0 x1 x2) := by
  unfold decideTensorGather
  repeat' first
      | with_reducible assumption | (extract_lets +onlyGivenNames s1; clear_value s1) | with_reducible apply sound_queueCmd

theorem sound_decideTensorInfo {x0 : State} {x1 : Sender} {x2 : Packet} (h0 : Sound qq oo x0) : VSound qq oo (decideTensorInfo x0 x1 x2) := by
  unfold decideTensorInfo
  repeat' first
      | with_reducible assumption | (extract_lets +onlyGivenNames s1; clear_value s1)
      | with_reducible first
          | refine vsound_unless ?_ | exact vsound_refuse | refine vsound_ok (fun _ _ => ?_)
      | split | simp only [id_eq]

theorem sound_decideShardSetCreate {x0 : State} {x1 : Sender} {x2 : Packet} (h0 : Sound qq oo x0) : VSound qq oo (decideShardSetCreate x0 x1 x2) := by
  unfold decideShardSetCreate
  repeat' first
      | with_reducible assumption
      | (extract_lets +onlyGivenNames s1; refine sound_cut (p := Sound qq oo s1) ?_ ?_; subst s1; rotate_left; intro _; clear_value s1)
      | (extract_lets +onlyGivenNames s1; clear_value s1)
      | with_reducible first
          | refine vsound_unless ?_ | apply sound_takeSlot | refine vsound_mk (fun _ _ => ?_) | apply Sound.functions | apply Sound.clamps
          | apply Sound.sources | apply Sound.targets | apply Sound.log | apply Sound.layout | apply Sound.virtual | apply Sound.contexts
          | apply Sound.queue | apply Sound.sent | refine sound_mk ?_ ?_ ?_ ?_ ?_ ?_ ?_ ?_ ?_ ?_

theorem sound_decideShardSetDestroy {x0 : State} {x1 : Sender} {x2 : Packet} (h0 : Sound qq oo x0) :
    VSound qq oo (decideShardSetDestroy x0 x1 x2) := by
  unfold decideShardSetDestroy
  repeat' first
      | with_reducible assumption | (extract_lets +onlyGivenNames s1; clear_value s1)
      | with_reducible first
          | refine vsound_unless ?_ | refine vsound_ok (fun _ _ => ?_) | apply sound_dropSlot | apply Sound.functions | apply Sound.clamps
          | apply Sound.sources | apply Sound.targets | apply Sound.log | apply Sound.layout | apply Sound.virtual | apply Sound.contexts
          | apply Sound.queue | apply Sound.sent | refine sound_mk ?_ ?_ ?_ ?_ ?_ ?_ ?_ ?_ ?_ ?_

/-! ## Packets -/

theorem sound_decideOp {x0 : Nat} {x1 : State} {x2 : Sender} {x3 : Packet} (h1 : Sound qq oo x1) : VSound qq oo (decideOp x0 x1 x2 x3) := by
  unfold decideOp
  repeat' first
      | with_reducible first
          | assumption | exact vsound_refuse | apply sound_decideDbgBankWrite | apply sound_decideDbgBankView | apply sound_decideDbgRead
          | apply sound_decideDbgTileControl | apply sound_decideDbgBreakClear | apply sound_decideDbgBreakSet | apply sound_decideDebugLock
          | apply sound_decideDebugUnlock | apply sound_decideRepairCommit | apply sound_decideKeyRevoke | apply sound_decideFwActivate
          | apply sound_decideFwStage | apply sound_decideScrubSet | apply sound_decidePowerCapSet | apply sound_decideEventRoute
          | apply sound_decideCounterSelect | apply sound_decideTelemetryRead | apply sound_decideClampQuery | apply sound_decideClampAssign
          | apply sound_decideClampDelete | apply sound_decideClampStop | apply sound_decideClampStart | apply sound_decideClampConfigure
          | apply sound_decideFluePortStatus | apply sound_decideFlueReduce | apply sound_decideFlueFlagSet | apply sound_decideFlueReceive
          | apply sound_decideFlueSend | apply sound_decideServingReplyEnable | apply sound_decideSharingGroupSet | apply sound_decideServingConfigure
          | apply sound_decideShavingRetire | apply sound_decideShavingReplace | apply sound_decideShavingLoad | apply sound_decideModelRetire
          | apply sound_decideModelRegister | apply sound_decideRequestQuery | apply sound_decideRequestCancel | apply sound_decideGenerate
          | apply sound_decideSlaneResume | apply sound_decideInbankLaunch | apply sound_decideProgramLaunch | apply sound_decideShardSetDestroy
          | apply sound_decideShardSetCreate | apply sound_decideTensorInfo | apply sound_decideTensorGather | apply sound_decideTensorFill
          | apply sound_decideTensorCopy | apply sound_decideTensorWrite | apply sound_decideTensorRead | apply sound_decideTensorRevoke
          | apply sound_decideTensorGrant | apply sound_decideTensorDestroy | apply sound_decideTensorCreate | apply sound_decideFlagRead
          | apply sound_decideFlagWrite | apply sound_decideQueueFlush | apply sound_decideQueueResume | apply sound_decideCommandCancel
          | apply sound_decideCommandQuery | apply sound_decideContextSet | apply sound_decideContextDestroy | apply sound_decideContextCreate
          | apply sound_decideContextNop
      | split

theorem vsound_seqTest {x0 : List Seen} {x1 : Option Nat} {x2 : Nat} {v : Verdict} (e : seqTest x0 x1 x2 = some v) : VSound qq oo v := by
  unfold seqTest at e
  repeat' first
      | contradiction | (injection e with e; subst e; exact fun _ h => h) | split at e

theorem sound_judge {x0 : State} {x1 : Sender} {x2 : Nat} {x3 : Packet} (h0 : Sound qq oo x0) : VSound qq oo (judge x0 x1 x2 x3) := by
  unfold judge
  repeat' first
      | with_reducible first
          | assumption | exact vsound_refuse | apply sound_decideOp
      | split | with_reducible refine vsound_mk (fun _ _ => ?_) | simp only [id_eq]

theorem sound_bootAnswer {x0 : State} {x1 : Nat} {x2 : Packet} {x3 : Verdict} (h0 : Sound qq oo x0) : Sound qq oo (bootAnswer x0 x1 x2 x3) := by
  unfold bootAnswer
  repeat' first
      | with_reducible first
          | assumption | apply sound_modFn

theorem sound_ringAnswer {x0 : State} {x1 : Nat} {x2 : Packet} {x3 : Verdict} (h0 : Sound qq oo x0) : Sound qq oo (ringAnswer x0 x1 x2 x3) := by
  unfold ringAnswer
  repeat' first
      | with_reducible first
          | assumption | apply sound_putRec

theorem sound_decideBoot {x0 : State} {x1 : Taken} {x2 : Bool} (h0 : Sound qq oo x0) : Sound qq oo (decideBoot x0 x1 x2) := by
  unfold decideBoot
  extract_lets p f q v r
  have hv : VSound qq oo v := by
    subst v
    split
    · exact vsound_mk fun _ h => h
    · split
      · exact vsound_seqTest (by assumption)
      · split
        · exact vsound_refuse
        · exact sound_judge h0
  exact hv _ (sound_modFn (sound_bootAnswer h0))

theorem sound_packetCredit {x0 : State} {x1 : Nat} {x2 : SeqState} {x3 : Packet} (h0 : Sound qq oo x0) : Sound qq oo (packetCredit x0 x1 x2 x3) := by
  unfold packetCredit
  repeat' first
      | with_reducible first
          | assumption | apply sound_rejoin | apply sound_takeCredit
      | split

theorem sound_judgeRing {x0 : State} {x1 : Sender} {x2 : Nat} {x3 : Packet} {x4 : SeqState} {x5 : Bool} (h0 : Sound qq oo x0) :
    VSound qq oo (judgeRing x0 x1 x2 x3 x4 x5) := by
  unfold judgeRing
  split
  · exact vsound_seqTest (by assumption)
  · split
    · exact vsound_refuse
    · dsimp only
      split
      · exact vsound_refuse
      · split
        · exact vsound_mk fun _ h => h
        · exact sound_judge h0

theorem sound_decideRing {x0 : State} {x1 : Nat} {x2 : Ctx} {x3 : Taken} {x4 : Bool} (h0 : Sound qq oo x0) :
    Sound qq oo (decideRing x0 x1 x2 x3 x4) := by
  unfold decideRing
  repeat' first
      | with_reducible assumption
      | (extract_lets +onlyGivenNames s1; refine sound_cut (p := VSound qq oo s1) ?_ ?_; subst s1; rotate_left; intro _; clear_value s1)
      | (extract_lets +onlyGivenNames s1; refine sound_cut (p := Sound qq oo s1) ?_ ?_; subst s1; rotate_left; intro _; clear_value s1)
      | (extract_lets +onlyGivenNames s1; clear_value s1)
      | with_reducible first
          | apply sound_judgeRing | apply sound_packetCredit | apply sound_ringAnswer | apply sound_bootAnswer | apply sound_modCtx
      | (have hv := ‹VSound qq oo _›; refine hv _ ?_; clear hv) | split | with_reducible refine vsound_mk (fun _ _ => ?_) | simp only [id_eq]

theorem sound_drainBoot {x0 : Nat} {x1 : State} {x2 : Nat} (h1 : Sound qq oo x1) : Sound qq oo (drainBoot x0 x1 x2) := by
  induction x0 generalizing x1 x2 with
  | zero =>
    unfold drainBoot
    repeat' first
        | with_reducible assumption
  | succ n ih =>
    unfold drainBoot
    repeat' first
        | with_reducible first
            | assumption | apply ih | apply sound_decideBoot | apply sound_modFn
        | split

theorem sound_drainRing {x0 : Nat} {x1 : State} {x2 : Nat} (h1 : Sound qq oo x1) : Sound qq oo (drainRing x0 x1 x2) := by
  induction x0 generalizing x1 x2 with
  | zero =>
    unfold drainRing
    repeat' first
        | with_reducible assumption
  | succ n ih =>
    unfold drainRing
    repeat' first
        | with_reducible first
            | assumption | apply ih | apply sound_decideRing | apply sound_modCtx
        | split

theorem sound_countDrop {x0 : State} {x1 : Nat} (h0 : Sound qq oo x0) : Sound qq oo (countDrop x0 x1) := by
  unfold countDrop
  repeat' first
      | with_reducible first
          | assumption | apply sound_modFn

theorem sound_takePacket {x0 : Nat} {x1 : Packet} {x2 : State} (h2 : Sound qq oo x2) : Sound qq oo (takePacket x0 x1 x2) := by
  unfold takePacket
  repeat' first
      | with_reducible assumption
      | (extract_lets +onlyGivenNames s1; refine sound_cut (p := Sound qq oo s1) ?_ ?_; subst s1; rotate_left; intro _; clear_value s1)
      | (extract_lets +onlyGivenNames s1; clear_value s1)
      | with_reducible first
          | apply sound_countDrop | apply sound_drainRing | apply sound_drainBoot | apply sound_modCtx | apply sound_modFn
      | split

theorem sound_releaseBoot {x0 : State} {x1 : Nat} {x2 : Nat → Bool} (h0 : Sound qq oo x0) : Sound qq oo (releaseBoot x0 x1 x2) := by
  unfold releaseBoot
  repeat' first
      | with_reducible first
          | assumption | apply sound_drainBoot | apply sound_modFn
      | split

theorem sound_releaseRing {x0 : State} {x1 : Nat} {x2 : Nat → Bool} (h0 : Sound qq oo x0) : Sound qq oo (releaseRing x0 x1 x2) := by
  unfold releaseRing
  repeat' first
      | with_reducible first
          | assumption | apply sound_drainRing | apply sound_modCtx
      | split

theorem sound_execFirmwareDeadline {x0 : Nat} {x1 : Bool} {x2 : Nat} {x3 : State} (h3 : Sound qq oo x3) :
    NSound qq oo (execFirmwareDeadline x0 x1 x2 x3) := by
  unfold execFirmwareDeadline
  show Sound qq oo _
  repeat' first
      | with_reducible first
          | assumption | apply sound_releaseRing | apply sound_releaseBoot
      | split

theorem sound_execFirmwareDecision {x0 : Nat} {x1 : Bool} {x2 : Nat} {x3 : State} (h3 : Sound qq oo x3) :
    NSound qq oo (execFirmwareDecision x0 x1 x2 x3) := by
  unfold execFirmwareDecision
  show Sound qq oo _
  repeat' first
      | with_reducible first
          | assumption | apply sound_releaseRing | apply sound_releaseBoot
      | split

theorem sound_execCoalesceTimeout {x0 : Nat} {x1 : State} (h1 : Sound qq oo x1) : NSound qq oo (execCoalesceTimeout x0 x1) := by
  unfold execCoalesceTimeout
  show Sound qq oo _
  repeat' first
      | with_reducible first
          | assumption | apply sound_modCtx | apply sound_emit
      | split

theorem sound_execContextNop {x0 : Packet} {x1 : State} (h1 : Sound qq oo x1) : NSound qq oo (execContextNop x0 x1) := by
  unfold execContextNop
  show Sound qq oo _
  repeat' first
      | with_reducible first
          | assumption | apply sound_takePacket

theorem sound_execContextCreate {x0 : Packet} {x1 : State} (h1 : Sound qq oo x1) : NSound qq oo (execContextCreate x0 x1) := by
  unfold execContextCreate
  show Sound qq oo _
  repeat' first
      | with_reducible first
          | assumption | apply sound_takePacket

theorem sound_execContextDestroy {x0 : Packet} {x1 : State} (h1 : Sound qq oo x1) : NSound qq oo (execContextDestroy x0 x1) := by
  unfold execContextDestroy
  show Sound qq oo _
  repeat' first
      | with_reducible first
          | assumption | apply sound_takePacket

theorem sound_execContextSet {x0 : Packet} {x1 : State} (h1 : Sound qq oo x1) : NSound qq oo (execContextSet x0 x1) := by
  unfold execContextSet
  show Sound qq oo _
  repeat' first
      | with_reducible first
          | assumption | apply sound_takePacket

theorem sound_execCommandQuery {x0 : Packet} {x1 : State} (h1 : Sound qq oo x1) : NSound qq oo (execCommandQuery x0 x1) := by
  unfold execCommandQuery
  show Sound qq oo _
  repeat' first
      | with_reducible first
          | assumption | apply sound_takePacket

theorem sound_execCommandCancel {x0 : Packet} {x1 : State} (h1 : Sound qq oo x1) : NSound qq oo (execCommandCancel x0 x1) := by
  unfold execCommandCancel
  show Sound qq oo _
  repeat' first
      | with_reducible first
          | assumption | apply sound_takePacket

theorem sound_execQueueResume {x0 : Packet} {x1 : State} (h1 : Sound qq oo x1) : NSound qq oo (execQueueResume x0 x1) := by
  unfold execQueueResume
  show Sound qq oo _
  repeat' first
      | with_reducible first
          | assumption | apply sound_takePacket

theorem sound_execQueueFlush {x0 : Packet} {x1 : State} (h1 : Sound qq oo x1) : NSound qq oo (execQueueFlush x0 x1) := by
  unfold execQueueFlush
  show Sound qq oo _
  repeat' first
      | with_reducible first
          | assumption | apply sound_takePacket

theorem sound_execFlagWrite {x0 : Packet} {x1 : State} (h1 : Sound qq oo x1) : NSound qq oo (execFlagWrite x0 x1) := by
  unfold execFlagWrite
  show Sound qq oo _
  repeat' first
      | with_reducible first
          | assumption | apply sound_takePacket

theorem sound_execFlagRead {x0 : Packet} {x1 : State} (h1 : Sound qq oo x1) : NSound qq oo (execFlagRead x0 x1) := by
  unfold execFlagRead
  show Sound qq oo _
  repeat' first
      | with_reducible first
          | assumption | apply sound_takePacket

theorem sound_execTensorCreate {x0 : Packet} {x1 : State} (h1 : Sound qq oo x1) : NSound qq oo (execTensorCreate x0 x1) := by
  unfold execTensorCreate
  show Sound qq oo _
  repeat' first
      | with_reducible first
          | assumption | apply sound_takePacket

theorem sound_execTensorDestroy {x0 : Packet} {x1 : State} (h1 : Sound qq oo x1) : NSound qq oo (execTensorDestroy x0 x1) := by
  unfold execTensorDestroy
  show Sound qq oo _
  repeat' first
      | with_reducible first
          | assumption | apply sound_takePacket

theorem sound_execTensorGrant {x0 : Packet} {x1 : State} (h1 : Sound qq oo x1) : NSound qq oo (execTensorGrant x0 x1) := by
  unfold execTensorGrant
  show Sound qq oo _
  repeat' first
      | with_reducible first
          | assumption | apply sound_takePacket

theorem sound_execTensorRevoke {x0 : Packet} {x1 : State} (h1 : Sound qq oo x1) : NSound qq oo (execTensorRevoke x0 x1) := by
  unfold execTensorRevoke
  show Sound qq oo _
  repeat' first
      | with_reducible first
          | assumption | apply sound_takePacket

theorem sound_execTensorRead {x0 : Packet} {x1 : State} (h1 : Sound qq oo x1) : NSound qq oo (execTensorRead x0 x1) := by
  unfold execTensorRead
  show Sound qq oo _
  repeat' first
      | with_reducible first
          | assumption | apply sound_takePacket

theorem sound_execTensorWrite {x0 : Packet} {x1 : State} (h1 : Sound qq oo x1) : NSound qq oo (execTensorWrite x0 x1) := by
  unfold execTensorWrite
  show Sound qq oo _
  repeat' first
      | with_reducible first
          | assumption | apply sound_takePacket

theorem sound_execTensorCopy {x0 : Packet} {x1 : State} (h1 : Sound qq oo x1) : NSound qq oo (execTensorCopy x0 x1) := by
  unfold execTensorCopy
  show Sound qq oo _
  repeat' first
      | with_reducible first
          | assumption | apply sound_takePacket

theorem sound_execTensorFill {x0 : Packet} {x1 : State} (h1 : Sound qq oo x1) : NSound qq oo (execTensorFill x0 x1) := by
  unfold execTensorFill
  show Sound qq oo _
  repeat' first
      | with_reducible first
          | assumption | apply sound_takePacket

theorem sound_execTensorGather {x0 : Packet} {x1 : State} (h1 : Sound qq oo x1) : NSound qq oo (execTensorGather x0 x1) := by
  unfold execTensorGather
  show Sound qq oo _
  repeat' first
      | with_reducible first
          | assumption | apply sound_takePacket

theorem sound_execTensorInfo {x0 : Packet} {x1 : State} (h1 : Sound qq oo x1) : NSound qq oo (execTensorInfo x0 x1) := by
  unfold execTensorInfo
  show Sound qq oo _
  repeat' first
      | with_reducible first
          | assumption | apply sound_takePacket

theorem sound_execShardSetCreate {x0 : Packet} {x1 : State} (h1 : Sound qq oo x1) : NSound qq oo (execShardSetCreate x0 x1) := by
  unfold execShardSetCreate
  show Sound qq oo _
  repeat' first
      | with_reducible first
          | assumption | apply sound_takePacket

theorem sound_execShardSetDestroy {x0 : Packet} {x1 : State} (h1 : Sound qq oo x1) : NSound qq oo (execShardSetDestroy x0 x1) := by
  unfold execShardSetDestroy
  show Sound qq oo _
  repeat' first
      | with_reducible first
          | assumption | apply sound_takePacket

theorem sound_execProgramLaunch {x0 : Packet} {x1 : State} (h1 : Sound qq oo x1) : NSound qq oo (execProgramLaunch x0 x1) := by
  unfold execProgramLaunch
  show Sound qq oo _
  repeat' first
      | with_reducible first
          | assumption | apply sound_takePacket

theorem sound_execInbankLaunch {x0 : Packet} {x1 : State} (h1 : Sound qq oo x1) : NSound qq oo (execInbankLaunch x0 x1) := by
  unfold execInbankLaunch
  show Sound qq oo _
  repeat' first
      | with_reducible first
          | assumption | apply sound_takePacket

theorem sound_execSlaneResume {x0 : Packet} {x1 : State} (h1 : Sound qq oo x1) : NSound qq oo (execSlaneResume x0 x1) := by
  unfold execSlaneResume
  show Sound qq oo _
  repeat' first
      | with_reducible first
          | assumption | apply sound_takePacket

theorem sound_execGenerate {x0 : Packet} {x1 : State} (h1 : Sound qq oo x1) : NSound qq oo (execGenerate x0 x1) := by
  unfold execGenerate
  show Sound qq oo _
  repeat' first
      | with_reducible first
          | assumption | apply sound_takePacket

theorem sound_execRequestCancel {x0 : Packet} {x1 : State} (h1 : Sound qq oo x1) : NSound qq oo (execRequestCancel x0 x1) := by
  unfold execRequestCancel
  show Sound qq oo _
  repeat' first
      | with_reducible first
          | assumption | apply sound_takePacket

theorem sound_execModelRegister {x0 : Packet} {x1 : State} (h1 : Sound qq oo x1) : NSound qq oo (execModelRegister x0 x1) := by
  unfold execModelRegister
  show Sound qq oo _
  repeat' first
      | with_reducible first
          | assumption | apply sound_takePacket

theorem sound_execModelRetire {x0 : Packet} {x1 : State} (h1 : Sound qq oo x1) : NSound qq oo (execModelRetire x0 x1) := by
  unfold execModelRetire
  show Sound qq oo _
  repeat' first
      | with_reducible first
          | assumption | apply sound_takePacket

theorem sound_execShavingLoad {x0 : Packet} {x1 : State} (h1 : Sound qq oo x1) : NSound qq oo (execShavingLoad x0 x1) := by
  unfold execShavingLoad
  show Sound qq oo _
  repeat' first
      | with_reducible first
          | assumption | apply sound_takePacket

theorem sound_execShavingReplace {x0 : Packet} {x1 : State} (h1 : Sound qq oo x1) : NSound qq oo (execShavingReplace x0 x1) := by
  unfold execShavingReplace
  show Sound qq oo _
  repeat' first
      | with_reducible first
          | assumption | apply sound_takePacket

theorem sound_execShavingRetire {x0 : Packet} {x1 : State} (h1 : Sound qq oo x1) : NSound qq oo (execShavingRetire x0 x1) := by
  unfold execShavingRetire
  show Sound qq oo _
  repeat' first
      | with_reducible first
          | assumption | apply sound_takePacket

theorem sound_execServingConfigure {x0 : Packet} {x1 : State} (h1 : Sound qq oo x1) : NSound qq oo (execServingConfigure x0 x1) := by
  unfold execServingConfigure
  show Sound qq oo _
  repeat' first
      | with_reducible first
          | assumption | apply sound_takePacket

theorem sound_execSharingGroupSet {x0 : Packet} {x1 : State} (h1 : Sound qq oo x1) : NSound qq oo (execSharingGroupSet x0 x1) := by
  unfold execSharingGroupSet
  show Sound qq oo _
  repeat' first
      | with_reducible first
          | assumption | apply sound_takePacket

theorem sound_execServingReplyEnable {x0 : Packet} {x1 : State} (h1 : Sound qq oo x1) : NSound qq oo (execServingReplyEnable x0 x1) := by
  unfold execServingReplyEnable
  show Sound qq oo _
  repeat' first
      | with_reducible first
          | assumption | apply sound_takePacket

theorem sound_execRequestQuery {x0 : Packet} {x1 : State} (h1 : Sound qq oo x1) : NSound qq oo (execRequestQuery x0 x1) := by
  unfold execRequestQuery
  show Sound qq oo _
  repeat' first
      | with_reducible first
          | assumption | apply sound_takePacket

theorem sound_execFlueSend {x0 : Packet} {x1 : State} (h1 : Sound qq oo x1) : NSound qq oo (execFlueSend x0 x1) := by
  unfold execFlueSend
  show Sound qq oo _
  repeat' first
      | with_reducible first
          | assumption | apply sound_takePacket

theorem sound_execFlueReceive {x0 : Packet} {x1 : State} (h1 : Sound qq oo x1) : NSound qq oo (execFlueReceive x0 x1) := by
  unfold execFlueReceive
  show Sound qq oo _
  repeat' first
      | with_reducible first
          | assumption | apply sound_takePacket

theorem sound_execFlueFlagSet {x0 : Packet} {x1 : State} (h1 : Sound qq oo x1) : NSound qq oo (execFlueFlagSet x0 x1) := by
  unfold execFlueFlagSet
  show Sound qq oo _
  repeat' first
      | with_reducible first
          | assumption | apply sound_takePacket

theorem sound_execFlueReduce {x0 : Packet} {x1 : State} (h1 : Sound qq oo x1) : NSound qq oo (execFlueReduce x0 x1) := by
  unfold execFlueReduce
  show Sound qq oo _
  repeat' first
      | with_reducible first
          | assumption | apply sound_takePacket

theorem sound_execFluePortStatus {x0 : Packet} {x1 : State} (h1 : Sound qq oo x1) : NSound qq oo (execFluePortStatus x0 x1) := by
  unfold execFluePortStatus
  show Sound qq oo _
  repeat' first
      | with_reducible first
          | assumption | apply sound_takePacket

theorem sound_execClampConfigure {x0 : Packet} {x1 : State} (h1 : Sound qq oo x1) : NSound qq oo (execClampConfigure x0 x1) := by
  unfold execClampConfigure
  show Sound qq oo _
  repeat' first
      | with_reducible first
          | assumption | apply sound_takePacket

theorem sound_execClampStart {x0 : Packet} {x1 : State} (h1 : Sound qq oo x1) : NSound qq oo (execClampStart x0 x1) := by
  unfold execClampStart
  show Sound qq oo _
  repeat' first
      | with_reducible first
          | assumption | apply sound_takePacket

theorem sound_execClampStop {x0 : Packet} {x1 : State} (h1 : Sound qq oo x1) : NSound qq oo (execClampStop x0 x1) := by
  unfold execClampStop
  show Sound qq oo _
  repeat' first
      | with_reducible first
          | assumption | apply sound_takePacket

theorem sound_execClampDelete {x0 : Packet} {x1 : State} (h1 : Sound qq oo x1) : NSound qq oo (execClampDelete x0 x1) := by
  unfold execClampDelete
  show Sound qq oo _
  repeat' first
      | with_reducible first
          | assumption | apply sound_takePacket

theorem sound_execClampAssign {x0 : Packet} {x1 : State} (h1 : Sound qq oo x1) : NSound qq oo (execClampAssign x0 x1) := by
  unfold execClampAssign
  show Sound qq oo _
  repeat' first
      | with_reducible first
          | assumption | apply sound_takePacket

theorem sound_execClampQuery {x0 : Packet} {x1 : State} (h1 : Sound qq oo x1) : NSound qq oo (execClampQuery x0 x1) := by
  unfold execClampQuery
  show Sound qq oo _
  repeat' first
      | with_reducible first
          | assumption | apply sound_takePacket

theorem sound_execTelemetryRead {x0 : Packet} {x1 : State} (h1 : Sound qq oo x1) : NSound qq oo (execTelemetryRead x0 x1) := by
  unfold execTelemetryRead
  show Sound qq oo _
  repeat' first
      | with_reducible first
          | assumption | apply sound_takePacket

theorem sound_execCounterSelect {x0 : Packet} {x1 : State} (h1 : Sound qq oo x1) : NSound qq oo (execCounterSelect x0 x1) := by
  unfold execCounterSelect
  show Sound qq oo _
  repeat' first
      | with_reducible first
          | assumption | apply sound_takePacket

theorem sound_execEventRoute {x0 : Packet} {x1 : State} (h1 : Sound qq oo x1) : NSound qq oo (execEventRoute x0 x1) := by
  unfold execEventRoute
  show Sound qq oo _
  repeat' first
      | with_reducible first
          | assumption | apply sound_takePacket

theorem sound_execPowerCapSet {x0 : Packet} {x1 : State} (h1 : Sound qq oo x1) : NSound qq oo (execPowerCapSet x0 x1) := by
  unfold execPowerCapSet
  show Sound qq oo _
  repeat' first
      | with_reducible first
          | assumption | apply sound_takePacket

theorem sound_execScrubSet {x0 : Packet} {x1 : State} (h1 : Sound qq oo x1) : NSound qq oo (execScrubSet x0 x1) := by
  unfold execScrubSet
  show Sound qq oo _
  repeat' first
      | with_reducible first
          | assumption | apply sound_takePacket

theorem sound_execFwStage {x0 : Packet} {x1 : State} (h1 : Sound qq oo x1) : NSound qq oo (execFwStage x0 x1) := by
  unfold execFwStage
  show Sound qq oo _
  repeat' first
      | with_reducible first
          | assumption | apply sound_takePacket

theorem sound_execFwActivate {x0 : Packet} {x1 : State} (h1 : Sound qq oo x1) : NSound qq oo (execFwActivate x0 x1) := by
  unfold execFwActivate
  show Sound qq oo _
  repeat' first
      | with_reducible first
          | assumption | apply sound_takePacket

theorem sound_execKeyRevoke {x0 : Packet} {x1 : State} (h1 : Sound qq oo x1) : NSound qq oo (execKeyRevoke x0 x1) := by
  unfold execKeyRevoke
  show Sound qq oo _
  repeat' first
      | with_reducible first
          | assumption | apply sound_takePacket

theorem sound_execDebugUnlock {x0 : Packet} {x1 : State} (h1 : Sound qq oo x1) : NSound qq oo (execDebugUnlock x0 x1) := by
  unfold execDebugUnlock
  show Sound qq oo _
  repeat' first
      | with_reducible first
          | assumption | apply sound_takePacket

theorem sound_execDebugLock {x0 : Packet} {x1 : State} (h1 : Sound qq oo x1) : NSound qq oo (execDebugLock x0 x1) := by
  unfold execDebugLock
  show Sound qq oo _
  repeat' first
      | with_reducible first
          | assumption | apply sound_takePacket

theorem sound_execRepairCommit {x0 : Packet} {x1 : State} (h1 : Sound qq oo x1) : NSound qq oo (execRepairCommit x0 x1) := by
  unfold execRepairCommit
  show Sound qq oo _
  repeat' first
      | with_reducible first
          | assumption | apply sound_takePacket

theorem sound_execDbgBreakSet {x0 : Packet} {x1 : State} (h1 : Sound qq oo x1) : NSound qq oo (execDbgBreakSet x0 x1) := by
  unfold execDbgBreakSet
  show Sound qq oo _
  repeat' first
      | with_reducible first
          | assumption | apply sound_takePacket

theorem sound_execDbgBreakClear {x0 : Packet} {x1 : State} (h1 : Sound qq oo x1) : NSound qq oo (execDbgBreakClear x0 x1) := by
  unfold execDbgBreakClear
  show Sound qq oo _
  repeat' first
      | with_reducible first
          | assumption | apply sound_takePacket

theorem sound_execDbgTileControl {x0 : Packet} {x1 : State} (h1 : Sound qq oo x1) : NSound qq oo (execDbgTileControl x0 x1) := by
  unfold execDbgTileControl
  show Sound qq oo _
  repeat' first
      | with_reducible first
          | assumption | apply sound_takePacket

theorem sound_execDbgRead {x0 : Packet} {x1 : State} (h1 : Sound qq oo x1) : NSound qq oo (execDbgRead x0 x1) := by
  unfold execDbgRead
  show Sound qq oo _
  repeat' first
      | with_reducible first
          | assumption | apply sound_takePacket

theorem sound_execDbgBankView {x0 : Packet} {x1 : State} (h1 : Sound qq oo x1) : NSound qq oo (execDbgBankView x0 x1) := by
  unfold execDbgBankView
  show Sound qq oo _
  repeat' first
      | with_reducible first
          | assumption | apply sound_takePacket

theorem sound_execDbgBankWrite {x0 : Packet} {x1 : State} (h1 : Sound qq oo x1) : NSound qq oo (execDbgBankWrite x0 x1) := by
  unfold execDbgBankWrite
  show Sound qq oo _
  repeat' first
      | with_reducible first
          | assumption | apply sound_takePacket

/-! ## Mmio -/

theorem sound_claimRead {x0 : State} {x1 : Nat} {x2 : Bool} (h0 : Sound qq oo x0) : Sound qq oo (claimRead x0 x1 x2).1 := by
  unfold claimRead
  repeat' first
      | with_reducible assumption
      | (extract_lets +onlyGivenNames s1; refine sound_cut (p := Sound qq oo s1) ?_ ?_; subst s1; rotate_left; intro _; clear_value s1)
      | (extract_lets +onlyGivenNames s1; clear_value s1)
      | with_reducible first
          | apply sound_reassess | apply sound_modTgt | apply sound_modSrc
      | split

theorem sound_claimRead_eq {x0 : State} {x1 : Nat} {x2 : Bool} {t : State} {r : _} (h0 : Sound qq oo x0)
    (e : claimRead x0 x1 x2 = (t, r)) : Sound qq oo t := by
  have h := @sound_claimRead qq oo x0 x1 x2 h0
  rw [e] at h
  exact h

theorem sound_execEvtClaimRead {x0 : Nat} {x1 : Nat} {x2 : Bool} {x3 : State} (h3 : Sound qq oo x3) :
    NSound qq oo (execEvtClaimRead x0 x1 x2 x3) := by
  unfold execEvtClaimRead
  show Sound qq oo _
  repeat' first
      | with_reducible assumption
      | (extract_lets +onlyGivenNames s1; refine sound_cut (p := Sound qq oo s1.1) ?_ ?_; subst s1; rotate_left; intro _; clear_value s1)
      | with_reducible first
          | apply sound_emit | apply sound_claimRead
      | split

theorem sound_complete {x0 : State} {x1 : Nat} {x2 : Nat} (h0 : Sound qq oo x0) : Sound qq oo (complete x0 x1 x2) := by
  unfold complete
  repeat' first
      | with_reducible assumption
      | (extract_lets +onlyGivenNames s1; refine sound_cut (p := Sound qq oo s1) ?_ ?_; subst s1; rotate_left; intro _; clear_value s1)
      | (extract_lets +onlyGivenNames s1; clear_value s1)
      | with_reducible first
          | apply sound_reassess | apply sound_modTgt | apply sound_modSrc | apply sound_emit
      | split

theorem sound_execEvtClaimWrite {x0 : Nat} {x1 : Nat} {x2 : Nat} {x3 : State} (h3 : Sound qq oo x3) :
    NSound qq oo (execEvtClaimWrite x0 x1 x2 x3) := by
  unfold execEvtClaimWrite
  show Sound qq oo _
  repeat' first
      | with_reducible first
          | assumption | apply sound_complete
      | split

theorem sound_setThreshold {x0 : State} {x1 : Nat} {x2 : Nat} (h0 : Sound qq oo x0) : Sound qq oo (setThreshold x0 x1 x2) := by
  unfold setThreshold
  repeat' first
      | with_reducible first
          | assumption | apply sound_reassess | apply sound_modTgt

theorem sound_execEvtThresholdWrite {x0 : Nat} {x1 : Nat} {x2 : Nat} {x3 : State} (h3 : Sound qq oo x3) :
    NSound qq oo (execEvtThresholdWrite x0 x1 x2 x3) := by
  unfold execEvtThresholdWrite
  show Sound qq oo _
  repeat' first
      | with_reducible first
          | assumption | apply sound_setThreshold
      | split

theorem sound_writeMask {x0 : State} {x1 : Nat} {x2 : Bool} (h0 : Sound qq oo x0) : Sound qq oo (writeMask x0 x1 x2) := by
  unfold writeMask
  repeat' first
      | with_reducible first
          | assumption | apply sound_modSrc

theorem sound_execEvtMaskWrite {x0 : Nat} {x1 : Nat} {x2 : Bool} {x3 : State} (h3 : Sound qq oo x3) :
    NSound qq oo (execEvtMaskWrite x0 x1 x2 x3) := by
  unfold execEvtMaskWrite
  show Sound qq oo _
  repeat' first
      | with_reducible first
          | assumption | apply sound_writeMask
      | split

theorem sound_execMaskEffect {x0 : Nat} {x1 : State} (h1 : Sound qq oo x1) : NSound qq oo (execMaskEffect x0 x1) := by
  unfold execMaskEffect
  show Sound qq oo _
  repeat' first
      | with_reducible assumption | (extract_lets +onlyGivenNames s1; clear_value s1)
      | with_reducible first
          | apply sound_reassess | apply sound_modSrc
      | split

theorem sound_writeReset {x0 : State} {x1 : Nat} (h0 : Sound qq oo x0) : Sound qq oo (writeReset x0 x1) := by
  unfold writeReset
  repeat' first
      | with_reducible first
          | assumption | apply sound_askClampReset | apply sound_warm | refine sound_foldl ?_ (fun _ _ _ => ?_)
      | split

theorem sound_writeSmoulder {x0 : State} {x1 : Nat} (h0 : Sound qq oo x0) : Sound qq oo (writeSmoulder x0 x1) := by
  unfold writeSmoulder
  have h := sound_wakeUnits (x1 := ~~~(BitVec.ofNat 32 x1)) h0
  extract_lets en s
  have hs : Sound qq oo s := h
  clear_value s
  repeat' first
      | with_reducible assumption
      | with_reducible first
          | apply Sound.functions | apply Sound.clamps | apply Sound.sources | apply Sound.targets | apply Sound.log | apply Sound.layout
          | apply Sound.virtual | apply Sound.contexts | apply Sound.queue | apply Sound.sent | refine sound_mk ?_ ?_ ?_ ?_ ?_ ?_ ?_ ?_ ?_ ?_

theorem sound_writeReg {x0 : State} {x1 : Nat} {x2 : Reg} {x3 : Nat} {x4 : Bool} {x5 : Bool} (h0 : Sound qq oo x0) :
    Sound qq oo (writeReg x0 x1 x2 x3 x4 x5) := by
  unfold writeReg
  repeat' first
      | with_reducible assumption | (extract_lets +onlyGivenNames s1; refine sound_cut (p := s1.vfEnabled = s1.vfEnabled) rfl ?_; intro _; subst s1)
      | (extract_lets +onlyGivenNames s1; clear_value s1)
      | with_reducible first
          | apply sound_writeSmoulder | apply sound_writeReset | apply sound_writeMask | apply sound_setThreshold | apply sound_complete
          | apply sound_writeModuleId | apply sound_modPort | apply sound_modTgt | apply sound_modFn
      | split | simp only [id_eq]
      | with_reducible first
          | apply Sound.functions | apply Sound.clamps | apply Sound.sources | apply Sound.targets | apply Sound.log | apply Sound.layout
          | apply Sound.virtual | apply Sound.contexts | apply Sound.queue | apply Sound.sent | refine sound_mk ?_ ?_ ?_ ?_ ?_ ?_ ?_ ?_ ?_ ?_

theorem sound_countMiss {x0 : State} {x1 : Nat} (h0 : Sound qq oo x0) : Sound qq oo (countMiss x0 x1) := by
  unfold countMiss
  repeat' first
      | with_reducible first
          | assumption | apply sound_modFn

theorem sound_judgeSlot {x0 : State} {x1 : Nat} {x2 : Bool} {x3 : Nat} {x4 : List Byte} {x5 : Choice} (h0 : Sound qq oo x0) :
    Sound qq oo (judgeSlot x0 x1 x2 x3 x4 x5) := by
  unfold judgeSlot
  repeat' first
      | with_reducible first
          | assumption | apply sound_countMiss | apply sound_takePacket
      | split

theorem sound_writeBoot {x0 : State} {x1 : Nat} {x2 : Nat} {x3 : List Byte} {x4 : Choice} (h0 : Sound qq oo x0) :
    Sound qq oo (writeBoot x0 x1 x2 x3 x4) := by
  unfold writeBoot
  repeat' first
      | with_reducible assumption
      | (extract_lets +onlyGivenNames s1; refine sound_cut (p := Sound qq oo s1) ?_ ?_; subst s1; rotate_left; intro _; clear_value s1)
      | (extract_lets +onlyGivenNames s1; clear_value s1)
      | with_reducible first
          | apply sound_judgeSlot | apply sound_modFn
      | split

theorem sound_bar0Write {x0 : State} {x1 : Nat} {x2 : Nat} {x3 : List Byte} {x4 : Choice} (h0 : Sound qq oo x0) :
    Sound qq oo (bar0Write x0 x1 x2 x3 x4) := by
  unfold bar0Write
  repeat' first
      | with_reducible assumption | (extract_lets +onlyGivenNames s1; clear_value s1)
      | with_reducible first
          | apply sound_writeBoot | apply sound_writeReg
      | split

theorem sound_writePiece {x0 : Nat} {x1 : Nat} {x2 : Choice} {x3 : State} {x4 : Nat × Nat × List Byte} (h3 : Sound qq oo x3) :
    Sound qq oo (writePiece x0 x1 x2 x3 x4) := by
  unfold writePiece
  repeat' first
      | with_reducible assumption
      | (extract_lets +onlyGivenNames s1; refine sound_cut (p := Sound qq oo s1) ?_ ?_; subst s1; rotate_left; intro _; clear_value s1)
      | (extract_lets +onlyGivenNames s1; clear_value s1)
      | with_reducible first
          | apply sound_judgeSlot | apply sound_modCtx
      | split

theorem sound_bar2Write {x0 : State} {x1 : Nat} {x2 : Nat} {x3 : List Byte} {x4 : Choice} (h0 : Sound qq oo x0) :
    Sound qq oo (bar2Write x0 x1 x2 x3 x4) := by
  unfold bar2Write
  repeat' first
      | with_reducible first
          | assumption | apply sound_writePiece | apply sound_countDrop | refine sound_foldl ?_ (fun _ _ _ => ?_)
      | split

theorem sound_execRegisterWrite {x0 : Nat} {x1 : Nat} {x2 : Nat} {x3 : List Byte} {x4 : Choice} {x5 : State} (h5 : Sound qq oo x5) :
    NSound qq oo (execRegisterWrite x0 x1 x2 x3 x4 x5) := by
  unfold execRegisterWrite
  show Sound qq oo _
  repeat' first
      | with_reducible first
          | assumption | apply sound_bar2Write | apply sound_bar0Write
      | split

theorem sound_execNirSealMissClear {x0 : Nat} {x1 : Nat} {x2 : State} (h2 : Sound qq oo x2) : NSound qq oo (execNirSealMissClear x0 x1 x2) := by
  unfold execNirSealMissClear
  show Sound qq oo _
  repeat' first
      | with_reducible first
          | assumption | apply sound_modFn
      | split

theorem sound_execNirDropCountClear {x0 : Nat} {x1 : Nat} {x2 : State} (h2 : Sound qq oo x2) : NSound qq oo (execNirDropCountClear x0 x1 x2) := by
  unfold execNirDropCountClear
  show Sound qq oo _
  repeat' first
      | with_reducible first
          | assumption | apply sound_modFn
      | split

theorem sound_execRw1cClear {x0 : Nat} {x1 : Nat} {x2 : List Byte} {x3 : State} (h3 : Sound qq oo x3) : NSound qq oo (execRw1cClear x0 x1 x2 x3) := by
  unfold execRw1cClear
  show Sound qq oo _
  repeat' first
      | with_reducible first
          | assumption | apply sound_bar0Write
      | split

theorem sound_execTimeReadLatch {x0 : Nat} {x1 : State} (h1 : Sound qq oo x1) : NSound qq oo (execTimeReadLatch x0 x1) := by
  unfold execTimeReadLatch
  show Sound qq oo _
  repeat' first
      | with_reducible first
          | assumption | apply sound_modFn | apply sound_emit
      | split

theorem sound_execModuleIdLock {x0 : Nat} {x1 : Nat} {x2 : State} (h2 : Sound qq oo x2) : NSound qq oo (execModuleIdLock x0 x1 x2) := by
  unfold execModuleIdLock
  show Sound qq oo _
  repeat' first
      | with_reducible first
          | assumption | apply sound_writeModuleId
      | split

theorem sound_execPwrSmoulderWrite {x0 : Nat} {x1 : Nat} {x2 : State} (h2 : Sound qq oo x2) : NSound qq oo (execPwrSmoulderWrite x0 x1 x2) := by
  unfold execPwrSmoulderWrite
  show Sound qq oo _
  repeat' first
      | with_reducible first
          | assumption | apply sound_writeSmoulder
      | split

theorem sound_rewriteReg {x0 : State} {x1 : Option Reg} (h0 : Sound qq oo x0) : Sound qq oo (rewriteReg x0 x1) := by
  unfold rewriteReg
  repeat' first
      | with_reducible assumption
      | (extract_lets +onlyGivenNames s1; refine sound_cut (p := Sound qq oo s1) ?_ ?_; subst s1; rotate_left; intro _; clear_value s1)
      | (extract_lets +onlyGivenNames s1; clear_value s1)
      | with_reducible first
          | apply sound_setThreshold | apply sound_reassess | apply sound_modSrc
      | split
      | with_reducible first
          | apply Sound.functions | apply Sound.clamps | apply Sound.sources | apply Sound.targets | apply Sound.log | apply Sound.layout
          | apply Sound.virtual | apply Sound.contexts | apply Sound.queue | apply Sound.sent | refine sound_mk ?_ ?_ ?_ ?_ ?_ ?_ ?_ ?_ ?_ ?_

theorem sound_execPoisonedCompletion {x0 : Nat} {x1 : Nat} {x2 : Nat} {x3 : State} (h3 : Sound qq oo x3) :
    NSound qq oo (execPoisonedCompletion x0 x1 x2 x3) := by
  unfold execPoisonedCompletion
  show Sound qq oo _
  repeat' first
      | with_reducible first
          | assumption | apply sound_rewriteReg | apply sound_internalEvent | apply sound_emit
      | split

/-! ## Thermal -/

theorem sound_restart {x0 : State} (h0 : Sound qq oo x0) : Sound qq oo (restart x0) := by
  unfold restart
  repeat' first
      | with_reducible assumption
      | (extract_lets +onlyGivenNames s1; refine sound_cut (p := Sound qq oo s1) ?_ ?_; subst s1; rotate_left; intro _; clear_value s1)
      | with_reducible first
          | apply sound_release | apply sound_fundamental
      | split
      | with_reducible first
          | apply Sound.functions | apply Sound.clamps | apply Sound.sources | apply Sound.targets | apply Sound.log | apply Sound.layout
          | apply Sound.virtual | apply Sound.contexts | apply Sound.queue | apply Sound.sent | refine sound_mk ?_ ?_ ?_ ?_ ?_ ?_ ?_ ?_ ?_ ?_

theorem sound_execVcoreCollapse {x0 : State} (h0 : Sound qq oo x0) : NSound qq oo (execVcoreCollapse x0) := by
  unfold execVcoreCollapse
  show Sound qq oo _
  repeat' first
      | with_reducible first
          | assumption | apply sound_restart

theorem sound_execVstbyLow {x0 : State} (h0 : Sound qq oo x0) : NSound qq oo (execVstbyLow x0) := by
  unfold execVstbyLow
  show Sound qq oo _
  repeat' first
      | with_reducible first
          | assumption | apply sound_restart

theorem sound_execPowerCycle {x0 : State} (h0 : Sound qq oo x0) : NSound qq oo (execPowerCycle x0) := by
  unfold execPowerCycle
  show Sound qq oo _
  repeat' first
      | with_reducible assumption | (extract_lets +onlyGivenNames s1; clear_value s1)
      | with_reducible first
          | apply sound_restart | apply Sound.functions | apply Sound.clamps | apply Sound.sources | apply Sound.targets | apply Sound.log
          | apply Sound.layout | apply Sound.virtual | apply Sound.contexts | apply Sound.queue | apply Sound.sent
          | refine sound_mk ?_ ?_ ?_ ?_ ?_ ?_ ?_ ?_ ?_ ?_

theorem sound_redeal {x0 : State} {x1 : Handle} {x2 : List Nat} (h0 : Sound qq oo x0) : Sound qq oo (redeal x0 x1 x2) := by
  unfold redeal
  repeat' first
      | with_reducible assumption | (extract_lets +onlyGivenNames s1; clear_value s1)
      | with_reducible first
          | apply Sound.functions | apply Sound.clamps | apply Sound.sources | apply Sound.targets | apply Sound.log | apply Sound.layout
          | apply Sound.virtual | apply Sound.contexts | apply Sound.queue | apply Sound.sent | refine sound_mk ?_ ?_ ?_ ?_ ?_ ?_ ?_ ?_ ?_ ?_

theorem sound_dropDie {x0 : State} {x1 : Nat} (h0 : Sound qq oo x0) : Sound qq oo (dropDie x0 x1) := by
  unfold dropDie
  repeat' first
      | with_reducible assumption
      | (extract_lets +onlyGivenNames s1; refine sound_cut (p := Sound qq oo s1) ?_ ?_; subst s1; rotate_left; intro _; clear_value s1)
      | (extract_lets +onlyGivenNames s1; clear_value s1)
      | with_reducible first
          | apply sound_redeal | apply sound_killTile | refine sound_foldl ?_ (fun _ _ _ => ?_) | apply Sound.functions | apply Sound.clamps
          | apply Sound.sources | apply Sound.targets | apply Sound.log | apply Sound.layout | apply Sound.virtual | apply Sound.contexts
          | apply Sound.queue | apply Sound.sent | refine sound_mk ?_ ?_ ?_ ?_ ?_ ?_ ?_ ?_ ?_ ?_

theorem sound_dropStack {x0 : State} {x1 : Nat} (h0 : Sound qq oo x0) : Sound qq oo (dropStack x0 x1) := by
  unfold dropStack
  repeat' first
      | with_reducible assumption
      | (extract_lets +onlyGivenNames s1; refine sound_cut (p := Sound qq oo s1) ?_ ?_; subst s1; rotate_left; intro _; clear_value s1)
      | with_reducible first
          | apply sound_leaveBankView | apply sound_stopChan | apply sound_requestMemory | refine sound_foldl ?_ (fun _ _ _ => ?_)
      | split

theorem sound_endHot {x0 : State} (h0 : Sound qq oo x0) : Sound qq oo (endHot x0) := by
  unfold endHot
  repeat' first
      | with_reducible first
          | assumption | apply sound_killCmd | apply sound_settled | apply sound_endCmd | refine sound_foldl ?_ (fun _ _ _ => ?_)
      | split

theorem sound_takeOut {x0 : State} {x1 : Nat} (h0 : Sound qq oo x0) : Sound qq oo (takeOut x0 x1) := by
  unfold takeOut
  repeat' first
      | with_reducible assumption
      | (extract_lets +onlyGivenNames s1; refine sound_cut (p := Sound qq oo s1) ?_ ?_; subst s1; rotate_left; intro _; clear_value s1)
      | (extract_lets +onlyGivenNames s1; clear_value s1)
      | with_reducible first
          | apply sound_endHot | apply sound_dropStack | apply sound_dropDie | apply sound_readyOff | apply sound_raise
      | split
      | with_reducible first
          | apply Sound.functions | apply Sound.clamps | apply Sound.sources | apply Sound.targets | apply Sound.log | apply Sound.layout
          | apply Sound.virtual | apply Sound.contexts | apply Sound.queue | apply Sound.sent | refine sound_mk ?_ ?_ ?_ ?_ ?_ ?_ ?_ ?_ ?_ ?_

theorem sound_giveBack {x0 : State} {x1 : Nat} (h0 : Sound qq oo x0) : Sound qq oo (giveBack x0 x1) := by
  unfold giveBack
  repeat' first
      | with_reducible assumption
      | (extract_lets +onlyGivenNames s1; refine sound_cut (p := Sound qq oo s1) ?_ ?_; subst s1; rotate_left; intro _; clear_value s1)
      | (extract_lets +onlyGivenNames s1; refine sound_cut (p := s1.vfEnabled = s1.vfEnabled) rfl ?_; intro _; subst s1)
      | (extract_lets +onlyGivenNames s1; clear_value s1) | with_reducible apply sound_readyOn | split | simp only [id_eq]
      | with_reducible first
          | apply Sound.functions | apply Sound.clamps | apply Sound.sources | apply Sound.targets | apply Sound.log | apply Sound.layout
          | apply Sound.virtual | apply Sound.contexts | apply Sound.queue | apply Sound.sent | refine sound_mk ?_ ?_ ?_ ?_ ?_ ?_ ?_ ?_ ?_ ?_

theorem sound_serveSensor {x0 : State} {x1 : Nat} (h0 : Sound qq oo x0) : Sound qq oo (serveSensor x0 x1) := by
  unfold serveSensor
  repeat' first
      | with_reducible assumption | (extract_lets +onlyGivenNames s1; clear_value s1)
      | with_reducible first
          | apply sound_giveBack | apply sound_takeOut
      | split

theorem sound_quenchNow {x0 : State} {x1 : Nat} (h0 : Sound qq oo x0) : Sound qq oo (quenchNow x0 x1) := by
  unfold quenchNow
  repeat' first
      | with_reducible assumption
      | (extract_lets +onlyGivenNames s1; refine sound_cut (p := Sound qq oo s1) ?_ ?_; subst s1; rotate_left; intro _; clear_value s1)
      | (extract_lets +onlyGivenNames s1; clear_value s1)
      | with_reducible first
          | apply sound_fundamental | apply Sound.functions | apply Sound.clamps | apply Sound.sources | apply Sound.targets | apply Sound.log
          | apply Sound.layout | apply Sound.virtual | apply Sound.contexts | apply Sound.queue | apply Sound.sent
          | refine sound_mk ?_ ?_ ?_ ?_ ?_ ?_ ?_ ?_ ?_ ?_

theorem sound_quenchedSample {x0 : State} (h0 : Sound qq oo x0) : Sound qq oo (quenchedSample x0) := by
  unfold quenchedSample
  repeat' first
      | with_reducible assumption | (extract_lets +onlyGivenNames s1; clear_value s1) | with_reducible apply sound_restart | split
      | with_reducible first
          | apply Sound.functions | apply Sound.clamps | apply Sound.sources | apply Sound.targets | apply Sound.log | apply Sound.layout
          | apply Sound.virtual | apply Sound.contexts | apply Sound.queue | apply Sound.sent | refine sound_mk ?_ ?_ ?_ ?_ ?_ ?_ ?_ ?_ ?_ ?_

theorem sound_execThermalSample {x0 : List Reading} {x1 : State} (h1 : Sound qq oo x1) : NSound qq oo (execThermalSample x0 x1) := by
  unfold execThermalSample
  show Sound qq oo _
  repeat' first
      | with_reducible assumption
      | (extract_lets +onlyGivenNames s1; refine sound_cut (p := Sound qq oo s1) ?_ ?_; subst s1; rotate_left; intro _; clear_value s1)
      | (extract_lets +onlyGivenNames s1; refine sound_cut (p := s1.vfEnabled = s1.vfEnabled) rfl ?_; intro _; subst s1)
      | (extract_lets +onlyGivenNames s1; clear_value s1)
      | with_reducible first
          | apply sound_quenchedSample | apply sound_quenchNow | apply sound_settled | apply sound_serveSensor
          | refine sound_foldl ?_ (fun _ _ _ => ?_)
      | split
      | with_reducible first
          | apply Sound.functions | apply Sound.clamps | apply Sound.sources | apply Sound.targets | apply Sound.log | apply Sound.layout
          | apply Sound.virtual | apply Sound.contexts | apply Sound.queue | apply Sound.sent | refine sound_mk ?_ ?_ ?_ ?_ ?_ ?_ ?_ ?_ ?_ ?_

theorem sound_stopNv {x0 : State} (h0 : Sound qq oo x0) : Sound qq oo (stopNv x0) := by
  unfold stopNv
  repeat' first
      | with_reducible assumption
      | (extract_lets +onlyGivenNames s1; refine sound_cut (p := Sound qq oo s1) ?_ ?_; subst s1; rotate_left; intro _; clear_value s1)
      | (extract_lets +onlyGivenNames s1; clear_value s1) | with_reducible apply sound_finish | split
      | with_reducible first
          | apply Sound.functions | apply Sound.clamps | apply Sound.sources | apply Sound.targets | apply Sound.log | apply Sound.layout
          | apply Sound.virtual | apply Sound.contexts | apply Sound.queue | apply Sound.sent | refine sound_mk ?_ ?_ ?_ ?_ ?_ ?_ ?_ ?_ ?_ ?_

theorem sound_holdNv {x0 : State} (h0 : Sound qq oo x0) : Sound qq oo (holdNv x0) := by
  unfold holdNv
  repeat' first
      | with_reducible assumption
      | (extract_lets +onlyGivenNames s1; refine sound_cut (p := Sound qq oo s1) ?_ ?_; subst s1; rotate_left; intro _; clear_value s1)
      | with_reducible first
          | apply sound_stopNv | apply sound_warmNow | apply sound_finish | refine sound_foldl ?_ (fun _ _ _ => ?_)
      | split

theorem sound_beginSag {x0 : State} {x1 : SagCause} {x2 : List Byte} {x3 : List Byte} (h0 : Sound qq oo x0) : Sound qq oo (beginSag x0 x1 x2 x3) := by
  unfold beginSag
  repeat' first
      | with_reducible assumption
      | (extract_lets +onlyGivenNames s1; refine sound_cut (p := Sound qq oo s1) ?_ ?_; subst s1; rotate_left; intro _; clear_value s1)
      | (extract_lets +onlyGivenNames s1; clear_value s1)
      | with_reducible first
          | apply sound_holdNv | apply sound_raise
      | split
      | with_reducible first
          | apply Sound.functions | apply Sound.clamps | apply Sound.sources | apply Sound.targets | apply Sound.log | apply Sound.layout
          | apply Sound.virtual | apply Sound.contexts | apply Sound.queue | apply Sound.sent | refine sound_mk ?_ ?_ ?_ ?_ ?_ ?_ ?_ ?_ ?_ ?_

theorem sound_execSupplySag {x0 : SagCause} {x1 : Nat} {x2 : Nat} {x3 : State} (h3 : Sound qq oo x3) : NSound qq oo (execSupplySag x0 x1 x2 x3) := by
  unfold execSupplySag
  show Sound qq oo _
  repeat' first
      | with_reducible first
          | assumption | apply sound_beginSag
      | split

theorem sound_execStretchEnd {x0 : State} (h0 : Sound qq oo x0) : NSound qq oo (execStretchEnd x0) := by
  unfold execStretchEnd
  show Sound qq oo _
  repeat' first
      | with_reducible assumption | (extract_lets +onlyGivenNames s1; clear_value s1) | split
      | with_reducible first
          | apply Sound.functions | apply Sound.clamps | apply Sound.sources | apply Sound.targets | apply Sound.log | apply Sound.layout
          | apply Sound.virtual | apply Sound.contexts | apply Sound.queue | apply Sound.sent | refine sound_mk ?_ ?_ ?_ ?_ ?_ ?_ ?_ ?_ ?_ ?_

theorem sound_execNvHoldEnd {x0 : State} (h0 : Sound qq oo x0) : NSound qq oo (execNvHoldEnd x0) := by
  unfold execNvHoldEnd
  show Sound qq oo _
  repeat' first
      | with_reducible assumption | (extract_lets +onlyGivenNames s1; clear_value s1) | with_reducible apply sound_nextNv | split
      | with_reducible first
          | apply Sound.functions | apply Sound.clamps | apply Sound.sources | apply Sound.targets | apply Sound.log | apply Sound.layout
          | apply Sound.virtual | apply Sound.contexts | apply Sound.queue | apply Sound.sent | refine sound_mk ?_ ?_ ?_ ?_ ?_ ?_ ?_ ?_ ?_ ?_

theorem sound_avsBadOne {x0 : State} {x1 : Nat} (h0 : Sound qq oo x0) : Sound qq oo (avsBadOne x0 x1) := by
  unfold avsBadOne
  repeat' first
      | with_reducible assumption
      | (extract_lets +onlyGivenNames s1; refine sound_cut (p := Sound qq oo s1) ?_ ?_; subst s1; rotate_left; intro _; clear_value s1)
      | (extract_lets +onlyGivenNames s1; clear_value s1)
      | with_reducible first
          | apply sound_beginSag | apply sound_raise
      | split
      | with_reducible first
          | apply Sound.functions | apply Sound.clamps | apply Sound.sources | apply Sound.targets | apply Sound.log | apply Sound.layout
          | apply Sound.virtual | apply Sound.contexts | apply Sound.queue | apply Sound.sent | refine sound_mk ?_ ?_ ?_ ?_ ?_ ?_ ?_ ?_ ?_ ?_

theorem sound_avsGoodOne {x0 : State} {x1 : Nat} {x2 : Nat} (h0 : Sound qq oo x0) : Sound qq oo (avsGoodOne x0 x1 x2) := by
  unfold avsGoodOne
  repeat' first
      | with_reducible assumption | (extract_lets +onlyGivenNames s1; clear_value s1)
      | with_reducible first
          | apply Sound.functions | apply Sound.clamps | apply Sound.sources | apply Sound.targets | apply Sound.log | apply Sound.layout
          | apply Sound.virtual | apply Sound.contexts | apply Sound.queue | apply Sound.sent | refine sound_mk ?_ ?_ ?_ ?_ ?_ ?_ ?_ ?_ ?_ ?_

theorem sound_avsZone {x0 : State} {x1 : Option Nat × Nat} (h0 : Sound qq oo x0) : Sound qq oo (avsZone x0 x1) := by
  unfold avsZone
  repeat' first
      | with_reducible first
          | assumption | apply sound_avsGoodOne | apply sound_avsBadOne
      | split

theorem sound_execAvsCurrentSample {x0 : List (Option Nat)} {x1 : State} (h1 : Sound qq oo x1) : NSound qq oo (execAvsCurrentSample x0 x1) := by
  unfold execAvsCurrentSample
  show Sound qq oo _
  repeat' first
      | with_reducible first
          | assumption | apply sound_avsZone | refine sound_foldl ?_ (fun _ _ _ => ?_)
      | split

theorem sound_railOne {x0 : State} {x1 : (Nat × Nat) × Nat} (h0 : Sound qq oo x0) : Sound qq oo (railOne x0 x1) := by
  unfold railOne
  repeat' first
      | with_reducible assumption
      | (extract_lets +onlyGivenNames s1; refine sound_cut (p := Sound qq oo s1) ?_ ?_; subst s1; rotate_left; intro _; clear_value s1)
      | (extract_lets +onlyGivenNames s1; clear_value s1)
      | with_reducible first
          | apply sound_beginSag | apply sound_raise
      | split
      | with_reducible first
          | apply Sound.functions | apply Sound.clamps | apply Sound.sources | apply Sound.targets | apply Sound.log | apply Sound.layout
          | apply Sound.virtual | apply Sound.contexts | apply Sound.queue | apply Sound.sent | refine sound_mk ?_ ?_ ?_ ?_ ?_ ?_ ?_ ?_ ?_ ?_

theorem sound_execAuxRailSample {x0 : List Nat} {x1 : List Nat} {x2 : State} (h2 : Sound qq oo x2) : NSound qq oo (execAuxRailSample x0 x1 x2) := by
  unfold execAuxRailSample
  show Sound qq oo _
  repeat' first
      | with_reducible assumption | (extract_lets +onlyGivenNames s1; clear_value s1)
      | with_reducible first
          | apply sound_railOne | refine sound_foldl ?_ (fun _ _ _ => ?_)
      | split
      | with_reducible first
          | apply Sound.functions | apply Sound.clamps | apply Sound.sources | apply Sound.targets | apply Sound.log | apply Sound.layout
          | apply Sound.virtual | apply Sound.contexts | apply Sound.queue | apply Sound.sent | refine sound_mk ?_ ?_ ?_ ?_ ?_ ?_ ?_ ?_ ?_ ?_

theorem sound_execSetpointStep {x0 : Nat} {x1 : State} (h1 : Sound qq oo x1) : NSound qq oo (execSetpointStep x0 x1) := by
  unfold execSetpointStep
  show Sound qq oo _
  repeat' first
      | with_reducible assumption | (extract_lets +onlyGivenNames s1; clear_value s1) | with_reducible apply sound_emit | split
      | with_reducible first
          | apply Sound.functions | apply Sound.clamps | apply Sound.sources | apply Sound.targets | apply Sound.log | apply Sound.layout
          | apply Sound.virtual | apply Sound.contexts | apply Sound.queue | apply Sound.sent | refine sound_mk ?_ ?_ ?_ ?_ ?_ ?_ ?_ ?_ ?_ ?_

theorem sound_execSetpointStepDone {x0 : State} (h0 : Sound qq oo x0) : NSound qq oo (execSetpointStepDone x0) := by
  unfold execSetpointStepDone
  show Sound qq oo _
  repeat' first
      | with_reducible assumption | (extract_lets +onlyGivenNames s1; clear_value s1)
      | with_reducible first
          | apply Sound.functions | apply Sound.clamps | apply Sound.sources | apply Sound.targets | apply Sound.log | apply Sound.layout
          | apply Sound.virtual | apply Sound.contexts | apply Sound.queue | apply Sound.sent | refine sound_mk ?_ ?_ ?_ ?_ ?_ ?_ ?_ ?_ ?_ ?_

theorem sound_execPowerWindowFast {x0 : Nat} {x1 : State} (h1 : Sound qq oo x1) : NSound qq oo (execPowerWindowFast x0 x1) := by
  unfold execPowerWindowFast
  show Sound qq oo _
  repeat' first
      | with_reducible assumption | (extract_lets +onlyGivenNames s1; clear_value s1) | split
      | with_reducible first
          | apply Sound.functions | apply Sound.clamps | apply Sound.sources | apply Sound.targets | apply Sound.log | apply Sound.layout
          | apply Sound.virtual | apply Sound.contexts | apply Sound.queue | apply Sound.sent | refine sound_mk ?_ ?_ ?_ ?_ ?_ ?_ ?_ ?_ ?_ ?_

theorem sound_endCaps {x0 : State} {x1 : List Handle} {x2 : Nat} (h0 : Sound qq oo x0) : Sound qq oo (endCaps x0 x1 x2) := by
  unfold endCaps
  repeat' first
      | with_reducible first
          | assumption | apply sound_finish | refine sound_foldl ?_ (fun _ _ _ => ?_)

theorem sound_clearAdvisory {x0 : State} (h0 : Sound qq oo x0) : Sound qq oo (clearAdvisory x0) := by
  unfold clearAdvisory
  repeat' first
      | with_reducible assumption
      | (extract_lets +onlyGivenNames s1; refine sound_cut (p := Sound qq oo s1) ?_ ?_; subst s1; rotate_left; intro _; clear_value s1)
      | (extract_lets +onlyGivenNames s1; clear_value s1)
      | with_reducible first
          | apply sound_endCaps | apply sound_raise | apply Sound.functions | apply Sound.clamps | apply Sound.sources | apply Sound.targets
          | apply Sound.log | apply Sound.layout | apply Sound.virtual | apply Sound.contexts | apply Sound.queue | apply Sound.sent
          | refine sound_mk ?_ ?_ ?_ ?_ ?_ ?_ ?_ ?_ ?_ ?_

theorem sound_enforce {x0 : State} (h0 : Sound qq oo x0) : Sound qq oo (enforce x0) := by
  unfold enforce
  repeat' first
      | with_reducible assumption
      | (extract_lets +onlyGivenNames s1; refine sound_cut (p := Sound qq oo s1) ?_ ?_; subst s1; rotate_left; intro _; clear_value s1)
      | (extract_lets +onlyGivenNames s1; clear_value s1) | with_reducible apply sound_clearAdvisory | split
      | with_reducible first
          | apply Sound.functions | apply Sound.clamps | apply Sound.sources | apply Sound.targets | apply Sound.log | apply Sound.layout
          | apply Sound.virtual | apply Sound.contexts | apply Sound.queue | apply Sound.sent | refine sound_mk ?_ ?_ ?_ ?_ ?_ ?_ ?_ ?_ ?_ ?_

theorem sound_adviseCap {x0 : State} (h0 : Sound qq oo x0) : Sound qq oo (adviseCap x0) := by
  unfold adviseCap
  repeat' first
      | with_reducible assumption | (extract_lets +onlyGivenNames s1; clear_value s1)
      | with_reducible first
          | apply sound_clearAdvisory | apply sound_raise
      | split
      | with_reducible first
          | apply Sound.functions | apply Sound.clamps | apply Sound.sources | apply Sound.targets | apply Sound.log | apply Sound.layout
          | apply Sound.virtual | apply Sound.contexts | apply Sound.queue | apply Sound.sent | refine sound_mk ?_ ?_ ?_ ?_ ?_ ?_ ?_ ?_ ?_ ?_

theorem sound_judgeCaps {x0 : State} (h0 : Sound qq oo x0) : Sound qq oo (judgeCaps x0) := by
  unfold judgeCaps
  repeat' first
      | with_reducible assumption | (extract_lets +onlyGivenNames s1; clear_value s1) | with_reducible apply sound_endCaps | split
      | with_reducible first
          | apply Sound.functions | apply Sound.clamps | apply Sound.sources | apply Sound.targets | apply Sound.log | apply Sound.layout
          | apply Sound.virtual | apply Sound.contexts | apply Sound.queue | apply Sound.sent | refine sound_mk ?_ ?_ ?_ ?_ ?_ ?_ ?_ ?_ ?_ ?_

theorem sound_execPowerWindow1ms {x0 : Nat} {x1 : State} (h1 : Sound qq oo x1) : NSound qq oo (execPowerWindow1ms x0 x1) := by
  unfold execPowerWindow1ms
  show Sound qq oo _
  repeat' first
      | with_reducible assumption
      | (extract_lets +onlyGivenNames s1; refine sound_cut (p := Sound qq oo s1) ?_ ?_; subst s1; rotate_left; intro _; clear_value s1)
      | (extract_lets +onlyGivenNames s1; clear_value s1)
      | with_reducible first
          | apply sound_judgeCaps | apply sound_adviseCap | apply sound_enforce
      | split
      | with_reducible first
          | apply Sound.functions | apply Sound.clamps | apply Sound.sources | apply Sound.targets | apply Sound.log | apply Sound.layout
          | apply Sound.virtual | apply Sound.contexts | apply Sound.queue | apply Sound.sent | refine sound_mk ?_ ?_ ?_ ?_ ?_ ?_ ?_ ?_ ?_ ?_

theorem sound_execGraceEnd {x0 : State} (h0 : Sound qq oo x0) : NSound qq oo (execGraceEnd x0) := by
  unfold execGraceEnd
  show Sound qq oo _
  repeat' first
      | with_reducible assumption | (extract_lets +onlyGivenNames s1; clear_value s1)
      | with_reducible first
          | apply sound_clearAdvisory | apply sound_endCaps
      | split
      | with_reducible first
          | apply Sound.functions | apply Sound.clamps | apply Sound.sources | apply Sound.targets | apply Sound.log | apply Sound.layout
          | apply Sound.virtual | apply Sound.contexts | apply Sound.queue | apply Sound.sent | refine sound_mk ?_ ?_ ?_ ?_ ?_ ?_ ?_ ?_ ?_ ?_

theorem sound_execSmoulderEntry {x0 : SmoulderUnit} {x1 : State} (h1 : Sound qq oo x1) : NSound qq oo (execSmoulderEntry x0 x1) := by
  unfold execSmoulderEntry
  show Sound qq oo _
  repeat' first
      | with_reducible assumption | (extract_lets +onlyGivenNames s1; clear_value s1) | split
      | with_reducible first
          | apply Sound.functions | apply Sound.clamps | apply Sound.sources | apply Sound.targets | apply Sound.log | apply Sound.layout
          | apply Sound.virtual | apply Sound.contexts | apply Sound.queue | apply Sound.sent | refine sound_mk ?_ ?_ ?_ ?_ ?_ ?_ ?_ ?_ ?_ ?_

theorem sound_loseEvent {x0 : State} {x1 : Nat} (h0 : Sound qq oo x0) : Sound qq oo (loseEvent x0 x1) := by
  unfold loseEvent
  repeat' first
      | with_reducible assumption | (extract_lets +onlyGivenNames s1; refine sound_cut (p := s1.vfEnabled = s1.vfEnabled) rfl ?_; intro _; subst s1)
      | simp only [id_eq]
      | with_reducible first
          | apply Sound.functions | apply Sound.clamps | apply Sound.sources | apply Sound.targets | apply Sound.log | apply Sound.layout
          | apply Sound.virtual | apply Sound.contexts | apply Sound.queue | apply Sound.sent | refine sound_mk ?_ ?_ ?_ ?_ ?_ ?_ ?_ ?_ ?_ ?_

theorem sound_execSmoulderWake {x0 : Nat} {x1 : State} (h1 : Sound qq oo x1) : NSound qq oo (execSmoulderWake x0 x1) := by
  unfold execSmoulderWake
  show Sound qq oo _
  repeat' first
      | with_reducible assumption | (extract_lets +onlyGivenNames s1; refine sound_cut (p := s1.vfEnabled = s1.vfEnabled) rfl ?_; intro _; subst s1)
      | (extract_lets +onlyGivenNames s1; clear_value s1) | with_reducible apply sound_wakeUnits | with_reducible apply sound_loseEvent | split | simp only [id_eq]
      | with_reducible first
          | apply Sound.functions | apply Sound.clamps | apply Sound.sources | apply Sound.targets | apply Sound.log | apply Sound.layout
          | apply Sound.virtual | apply Sound.contexts | apply Sound.queue | apply Sound.sent | refine sound_mk ?_ ?_ ?_ ?_ ?_ ?_ ?_ ?_ ?_ ?_

/-! ## Trust -/

theorem sound_writtenNv {x0 : State} {x1 : Work} (h0 : Sound qq oo x0) : Sound qq oo (writtenNv x0 x1) := by
  unfold writtenNv
  repeat' first
      | with_reducible assumption | (extract_lets +onlyGivenNames s1; clear_value s1) | split
      | with_reducible first
          | apply Sound.functions | apply Sound.clamps | apply Sound.sources | apply Sound.targets | apply Sound.log | apply Sound.layout
          | apply Sound.virtual | apply Sound.contexts | apply Sound.queue | apply Sound.sent | refine sound_mk ?_ ?_ ?_ ?_ ?_ ?_ ?_ ?_ ?_ ?_

theorem sound_endNv {x0 : State} {x1 : NvWrite} (h0 : Sound qq oo x0) : Sound qq oo (endNv x0 x1) := by
  unfold endNv
  repeat' first
      | with_reducible assumption
      | (extract_lets +onlyGivenNames s1; refine sound_cut (p := Sound qq oo s1) ?_ ?_; subst s1; rotate_left; intro _; clear_value s1)
      | (extract_lets +onlyGivenNames s1; clear_value s1)
      | with_reducible first
          | apply sound_writtenNv | apply sound_finish
      | split
      | with_reducible first
          | apply Sound.functions | apply Sound.clamps | apply Sound.sources | apply Sound.targets | apply Sound.log | apply Sound.layout
          | apply Sound.virtual | apply Sound.contexts | apply Sound.queue | apply Sound.sent | refine sound_mk ?_ ?_ ?_ ?_ ?_ ?_ ?_ ?_ ?_ ?_

theorem sound_execNvWriteDone {x0 : State} (h0 : Sound qq oo x0) : NSound qq oo (execNvWriteDone x0) := by
  unfold execNvWriteDone
  show Sound qq oo _
  repeat' first
      | with_reducible first
          | assumption | apply sound_endNv | apply sound_warmNow | apply sound_nextNv
      | split

theorem sound_execSvnBurn {x0 : State} (h0 : Sound qq oo x0) : NSound qq oo (execSvnBurn x0) := by
  unfold execSvnBurn
  show Sound qq oo _
  repeat' first
      | with_reducible assumption | (extract_lets +onlyGivenNames s1; clear_value s1) | split
      | with_reducible first
          | apply Sound.functions | apply Sound.clamps | apply Sound.sources | apply Sound.targets | apply Sound.log | apply Sound.layout
          | apply Sound.virtual | apply Sound.contexts | apply Sound.queue | apply Sound.sent | refine sound_mk ?_ ?_ ?_ ?_ ?_ ?_ ?_ ?_ ?_ ?_

theorem sound_execDebugTransitionDone {x0 : List Byte} {x1 : State} (h1 : Sound qq oo x1) : NSound qq oo (execDebugTransitionDone x0 x1) := by
  unfold execDebugTransitionDone
  show Sound qq oo _
  repeat' first
      | with_reducible assumption | (extract_lets +onlyGivenNames s1; clear_value s1) | with_reducible apply sound_finish | split
      | with_reducible first
          | apply Sound.functions | apply Sound.clamps | apply Sound.sources | apply Sound.targets | apply Sound.log | apply Sound.layout
          | apply Sound.virtual | apply Sound.contexts | apply Sound.queue | apply Sound.sent | refine sound_mk ?_ ?_ ?_ ?_ ?_ ?_ ?_ ?_ ?_ ?_

theorem sound_modSpdm {x0 : State} {x1 : Nat} {x2 : Spdm → Spdm} (h0 : Sound qq oo x0) : Sound qq oo (modSpdm x0 x1 x2) := by
  unfold modSpdm
  repeat' first
      | with_reducible assumption | (extract_lets +onlyGivenNames s1; clear_value s1)
      | with_reducible first
          | apply Sound.functions | apply Sound.clamps | apply Sound.sources | apply Sound.targets | apply Sound.log | apply Sound.layout
          | apply Sound.virtual | apply Sound.contexts | apply Sound.queue | apply Sound.sent | refine sound_mk ?_ ?_ ?_ ?_ ?_ ?_ ?_ ?_ ?_ ?_

theorem sound_spdmError {x0 : State} {x1 : Nat} {x2 : Nat} (h0 : Sound qq oo x0) : Sound qq oo (spdmError x0 x1 x2) := by
  unfold spdmError
  repeat' first
      | with_reducible first
          | assumption | apply sound_emit

theorem sound_respond {x0 : State} {x1 : Nat} {x2 : List Byte} {x3 : Nat} {x4 : List Byte} (h0 : Sound qq oo x0) :
    Sound qq oo (respond x0 x1 x2 x3 x4) := by
  unfold respond
  repeat' first
      | with_reducible first
          | assumption | apply sound_modSpdm | apply sound_emit

theorem sound_respondSigned {x0 : State} {x1 : Nat} {x2 : List Byte} {x3 : List Byte} {x4 : Nat} {x5 : List Byte} (h0 : Sound qq oo x0) :
    Sound qq oo (respondSigned x0 x1 x2 x3 x4 x5) := by
  unfold respondSigned
  repeat' first
      | with_reducible first
          | assumption | apply sound_respond

theorem sound_negotiated {x0 : State} {x1 : Nat} {x2 : State} (h0 : Sound qq oo x0) (h2 : Sound qq oo x2) : Sound qq oo (negotiated x0 x1 x2) := by
  unfold negotiated
  repeat' first
      | with_reducible first
          | assumption | apply sound_spdmError
      | split

theorem sound_execGetVersion {x0 : Nat} {x1 : List Byte} {x2 : List Byte} {x3 : State} (h3 : Sound qq oo x3) :
    NSound qq oo (execGetVersion x0 x1 x2 x3) := by
  unfold execGetVersion
  show Sound qq oo _
  repeat' first
      | with_reducible first
          | assumption | apply sound_respond | apply sound_modSpdm
      | split

theorem sound_execGetCapabilities {x0 : Nat} {x1 : List Byte} {x2 : List Byte} {x3 : State} (h3 : Sound qq oo x3) :
    NSound qq oo (execGetCapabilities x0 x1 x2 x3) := by
  unfold execGetCapabilities
  show Sound qq oo _
  repeat' first
      | with_reducible first
          | assumption | apply sound_respond | apply sound_spdmError | apply sound_modSpdm
      | split

theorem sound_execNegotiateAlgorithms {x0 : Nat} {x1 : List Byte} {x2 : List Byte} {x3 : State} (h3 : Sound qq oo x3) :
    NSound qq oo (execNegotiateAlgorithms x0 x1 x2 x3) := by
  unfold execNegotiateAlgorithms
  show Sound qq oo _
  repeat' first
      | with_reducible first
          | assumption | apply sound_respond | apply sound_spdmError | apply sound_modSpdm
      | split

theorem sound_execGetDigests {x0 : Nat} {x1 : List Byte} {x2 : List Byte} {x3 : State} (h3 : Sound qq oo x3) :
    NSound qq oo (execGetDigests x0 x1 x2 x3) := by
  unfold execGetDigests
  show Sound qq oo _
  repeat' first
      | with_reducible first
          | assumption | apply sound_negotiated | apply sound_respond

theorem sound_execGetCertificate {x0 : Nat} {x1 : List Byte} {x2 : List Byte} {x3 : State} (h3 : Sound qq oo x3) :
    NSound qq oo (execGetCertificate x0 x1 x2 x3) := by
  unfold execGetCertificate
  show Sound qq oo _
  repeat' first
      | with_reducible first
          | assumption | apply sound_negotiated | apply sound_respond | apply sound_spdmError
      | split

theorem sound_execGetMeasurements {x0 : Nat} {x1 : List Byte} {x2 : List Byte} {x3 : State} (h3 : Sound qq oo x3) :
    NSound qq oo (execGetMeasurements x0 x1 x2 x3) := by
  unfold execGetMeasurements
  show Sound qq oo _
  repeat' first
      | with_reducible assumption | (extract_lets +onlyGivenNames s1; clear_value s1)
      | with_reducible first
          | apply sound_negotiated | apply sound_respondSigned | apply sound_respond | apply sound_spdmError
      | split

theorem sound_execSpdmChallenge {x0 : Nat} {x1 : List Byte} {x2 : List Byte} {x3 : State} (h3 : Sound qq oo x3) :
    NSound qq oo (execSpdmChallenge x0 x1 x2 x3) := by
  unfold execSpdmChallenge
  show Sound qq oo _
  repeat' first
      | with_reducible first
          | assumption | apply sound_negotiated | apply sound_respondSigned | apply sound_spdmError
      | split

theorem sound_execKeyExchange {x0 : Nat} {x1 : List Byte} {x2 : List Byte} {x3 : State} (h3 : Sound qq oo x3) :
    NSound qq oo (execKeyExchange x0 x1 x2 x3) := by
  unfold execKeyExchange
  show Sound qq oo _
  repeat' first
      | with_reducible assumption | (extract_lets +onlyGivenNames s1; clear_value s1)
      | with_reducible first
          | apply sound_negotiated | apply sound_respondSigned | apply sound_spdmError | apply sound_modSpdm
      | split

theorem sound_inSession {x0 : State} {x1 : Nat} {x2 : List Byte} {x3 : Bool × List Byte → State} (h0 : Sound qq oo x0)
    (hf : ∀ e, Sound qq oo (x3 e)) : Sound qq oo (inSession x0 x1 x2 x3) := by
  unfold inSession
  split
  · exact h0
  · split
    · exact hf _
    · exact sound_spdmError h0

theorem sound_dropSession {x0 : State} {x1 : Nat} {x2 : Nat} (h0 : Sound qq oo x0) : Sound qq oo (dropSession x0 x1 x2) := by
  unfold dropSession
  repeat' first
      | with_reducible first
          | assumption | apply sound_modSpdm

theorem sound_modSession {x0 : State} {x1 : Nat} {x2 : Nat} {x3 : Bool × List Byte → Bool × List Byte} (h0 : Sound qq oo x0) :
    Sound qq oo (modSession x0 x1 x2 x3) := by
  unfold modSession
  repeat' first
      | with_reducible first
          | assumption | apply sound_modSpdm

theorem sound_execSpdmFinish {x0 : Nat} {x1 : List Byte} {x2 : List Byte} {x3 : State} (h3 : Sound qq oo x3) :
    NSound qq oo (execSpdmFinish x0 x1 x2 x3) := by
  unfold execSpdmFinish
  show Sound qq oo _
  repeat' first
      | with_reducible first
          | assumption | apply sound_modSession | apply sound_dropSession | refine sound_inSession ?_ (fun _ => ?_) | apply sound_spdmError
          | apply sound_emit
      | split

theorem sound_execEndSession {x0 : Nat} {x1 : List Byte} {x2 : List Byte} {x3 : State} (h3 : Sound qq oo x3) :
    NSound qq oo (execEndSession x0 x1 x2 x3) := by
  unfold execEndSession
  show Sound qq oo _
  repeat' first
      | with_reducible first
          | assumption | apply sound_dropSession | refine sound_inSession ?_ (fun _ => ?_) | apply sound_spdmError | apply sound_emit
      | split

theorem sound_execKeyUpdate {x0 : Nat} {x1 : List Byte} {x2 : List Byte} {x3 : State} (h3 : Sound qq oo x3) :
    NSound qq oo (execKeyUpdate x0 x1 x2 x3) := by
  unfold execKeyUpdate
  show Sound qq oo _
  repeat' first
      | with_reducible first
          | assumption | apply sound_modSession | refine sound_inSession ?_ (fun _ => ?_) | apply sound_spdmError | apply sound_emit
      | split

theorem sound_modIde {x0 : State} {x1 : Nat} {x2 : Ide → Ide} (h0 : Sound qq oo x0) : Sound qq oo (modIde x0 x1 x2) := by
  unfold modIde
  repeat' first
      | with_reducible assumption | (extract_lets +onlyGivenNames s1; clear_value s1)
      | with_reducible first
          | apply Sound.functions | apply Sound.clamps | apply Sound.sources | apply Sound.targets | apply Sound.log | apply Sound.layout
          | apply Sound.virtual | apply Sound.contexts | apply Sound.queue | apply Sound.sent | refine sound_mk ?_ ?_ ?_ ?_ ?_ ?_ ?_ ?_ ?_ ?_

theorem sound_programKey {x0 : State} {x1 : List Byte} (h0 : Sound qq oo x0) : Sound qq oo (programKey x0 x1) := by
  unfold programKey
  repeat' first
      | with_reducible assumption | (extract_lets +onlyGivenNames s1; clear_value s1) | with_reducible apply sound_modIde

theorem sound_execIdeKm {x0 : Nat} {x1 : List Byte} {x2 : List Byte} {x3 : State} (h3 : Sound qq oo x3) : NSound qq oo (execIdeKm x0 x1 x2 x3) := by
  unfold execIdeKm
  show Sound qq oo _
  repeat' first
      | with_reducible first
          | assumption | apply sound_programKey | apply sound_modIde | refine sound_inSession ?_ (fun _ => ?_) | apply sound_spdmError
          | apply sound_emit
      | split

theorem sound_execDoeDiscovery {x0 : Nat} {x1 : Nat} {x2 : State} (h2 : Sound qq oo x2) : NSound qq oo (execDoeDiscovery x0 x1 x2) := by
  unfold execDoeDiscovery
  show Sound qq oo _
  repeat' first
      | with_reducible first
          | assumption | apply sound_emit
      | split

/-! ## Sideband -/

theorem sound_jtagSelect {x0 : State} {x1 : JtagInstr} (h0 : Sound qq oo x0) : Sound qq oo (jtagSelect x0 x1) := by
  unfold jtagSelect
  repeat' first
      | with_reducible assumption | (extract_lets +onlyGivenNames s1; refine sound_cut (p := s1.sources = s1.sources) rfl ?_; intro _; subst s1)
      | simp only [id_eq]
      | with_reducible first
          | apply Sound.functions | apply Sound.clamps | apply Sound.sources | apply Sound.targets | apply Sound.log | apply Sound.layout
          | apply Sound.virtual | apply Sound.contexts | apply Sound.queue | apply Sound.sent | refine sound_mk ?_ ?_ ?_ ?_ ?_ ?_ ?_ ?_ ?_ ?_

theorem sound_execJtagBypass {x0 : State} (h0 : Sound qq oo x0) : NSound qq oo (execJtagBypass x0) := by
  unfold execJtagBypass
  show Sound qq oo _
  repeat' first
      | with_reducible first
          | assumption | apply sound_jtagSelect

theorem sound_execJtagIdcode {x0 : State} (h0 : Sound qq oo x0) : NSound qq oo (execJtagIdcode x0) := by
  unfold execJtagIdcode
  show Sound qq oo _
  repeat' first
      | with_reducible first
          | assumption | apply sound_jtagSelect | apply sound_emit

theorem sound_execSamplePreload {x0 : State} (h0 : Sound qq oo x0) : NSound qq oo (execSamplePreload x0) := by
  unfold execSamplePreload
  show Sound qq oo _
  repeat' first
      | with_reducible first
          | assumption | apply sound_jtagSelect

theorem sound_jtagPins {x0 : State} {x1 : JtagInstr} (h0 : Sound qq oo x0) : Sound qq oo (jtagPins x0 x1) := by
  unfold jtagPins
  repeat' first
      | with_reducible first
          | assumption | apply sound_jtagSelect

theorem sound_execJtagExtest {x0 : State} (h0 : Sound qq oo x0) : NSound qq oo (execJtagExtest x0) := by
  unfold execJtagExtest
  show Sound qq oo _
  repeat' first
      | with_reducible first
          | assumption | apply sound_jtagPins

theorem sound_execJtagHighz {x0 : State} (h0 : Sound qq oo x0) : NSound qq oo (execJtagHighz x0) := by
  unfold execJtagHighz
  show Sound qq oo _
  repeat' first
      | with_reducible first
          | assumption | apply sound_jtagPins

theorem sound_execDbgacc {x0 : State} (h0 : Sound qq oo x0) : NSound qq oo (execDbgacc x0) := by
  unfold execDbgacc
  show Sound qq oo _
  repeat' first
      | with_reducible first
          | assumption | apply sound_jtagSelect

theorem sound_execEntdaa {x0 : Nat} {x1 : State} (h1 : Sound qq oo x1) : NSound qq oo (execEntdaa x0 x1) := by
  unfold execEntdaa
  show Sound qq oo _
  repeat' first
      | with_reducible assumption | (extract_lets +onlyGivenNames s1; clear_value s1) | split
      | with_reducible first
          | apply Sound.functions | apply Sound.clamps | apply Sound.sources | apply Sound.targets | apply Sound.log | apply Sound.layout
          | apply Sound.virtual | apply Sound.contexts | apply Sound.queue | apply Sound.sent | refine sound_mk ?_ ?_ ?_ ?_ ?_ ?_ ?_ ?_ ?_ ?_

theorem sound_execSetdasa {x0 : Nat} {x1 : Nat} {x2 : State} (h2 : Sound qq oo x2) : NSound qq oo (execSetdasa x0 x1 x2) := by
  unfold execSetdasa
  show Sound qq oo _
  repeat' first
      | with_reducible assumption | (extract_lets +onlyGivenNames s1; clear_value s1) | split
      | with_reducible first
          | apply Sound.functions | apply Sound.clamps | apply Sound.sources | apply Sound.targets | apply Sound.log | apply Sound.layout
          | apply Sound.virtual | apply Sound.contexts | apply Sound.queue | apply Sound.sent | refine sound_mk ?_ ?_ ?_ ?_ ?_ ?_ ?_ ?_ ?_ ?_

theorem sound_execRstdaa {x0 : State} (h0 : Sound qq oo x0) : NSound qq oo (execRstdaa x0) := by
  unfold execRstdaa
  show Sound qq oo _
  repeat' first
      | with_reducible assumption | (extract_lets +onlyGivenNames s1; clear_value s1)
      | with_reducible first
          | apply Sound.functions | apply Sound.clamps | apply Sound.sources | apply Sound.targets | apply Sound.log | apply Sound.layout
          | apply Sound.virtual | apply Sound.contexts | apply Sound.queue | apply Sound.sent | refine sound_mk ?_ ?_ ?_ ?_ ?_ ?_ ?_ ?_ ?_ ?_

theorem sound_i3cAnswer {x0 : State} {x1 : List Byte} (h0 : Sound qq oo x0) : Sound qq oo (i3cAnswer x0 x1) := by
  unfold i3cAnswer
  repeat' first
      | with_reducible first
          | assumption | apply sound_emit
      | split

theorem sound_execGetpid {x0 : State} (h0 : Sound qq oo x0) : NSound qq oo (execGetpid x0) := by
  unfold execGetpid
  show Sound qq oo _
  repeat' first
      | with_reducible first
          | assumption | apply sound_i3cAnswer

theorem sound_execGetbcr {x0 : State} (h0 : Sound qq oo x0) : NSound qq oo (execGetbcr x0) := by
  unfold execGetbcr
  show Sound qq oo _
  repeat' first
      | with_reducible first
          | assumption | apply sound_i3cAnswer

theorem sound_execGetdcr {x0 : State} (h0 : Sound qq oo x0) : NSound qq oo (execGetdcr x0) := by
  unfold execGetdcr
  show Sound qq oo _
  repeat' first
      | with_reducible first
          | assumption | apply sound_i3cAnswer

theorem sound_execGetstatus {x0 : State} (h0 : Sound qq oo x0) : NSound qq oo (execGetstatus x0) := by
  unfold execGetstatus
  show Sound qq oo _
  repeat' first
      | with_reducible first
          | assumption | apply sound_i3cAnswer | apply Sound.functions | apply Sound.clamps | apply Sound.sources | apply Sound.targets
          | apply Sound.log | apply Sound.layout | apply Sound.virtual | apply Sound.contexts | apply Sound.queue | apply Sound.sent
          | refine sound_mk ?_ ?_ ?_ ?_ ?_ ?_ ?_ ?_ ?_ ?_

theorem sound_execI3cIndexWrite {x0 : List Byte} {x1 : State} (h1 : Sound qq oo x1) : NSound qq oo (execI3cIndexWrite x0 x1) := by
  unfold execI3cIndexWrite
  show Sound qq oo _
  repeat' first
      | with_reducible assumption | (extract_lets +onlyGivenNames s1; clear_value s1) | split
      | with_reducible first
          | apply Sound.functions | apply Sound.clamps | apply Sound.sources | apply Sound.targets | apply Sound.log | apply Sound.layout
          | apply Sound.virtual | apply Sound.contexts | apply Sound.queue | apply Sound.sent | refine sound_mk ?_ ?_ ?_ ?_ ?_ ?_ ?_ ?_ ?_ ?_

theorem sound_execI3cPrivateRead {x0 : State} (h0 : Sound qq oo x0) : NSound qq oo (execI3cPrivateRead x0) := by
  unfold execI3cPrivateRead
  show Sound qq oo _
  repeat' first
      | with_reducible first
          | assumption | apply sound_i3cAnswer

end Sys2Proof.Machine
end

