-- ==== Sys2Proof/Laws/Sound.lean ====
section
/-!
SUPPORT. What every operation of the machine keeps (`Sound`): every command.
-/
namespace Sys2Proof.Machine

open Sys2Proof

variable {qq : List Instr} {oo : List Out}

/-! ## Dispatch -/

theorem sound_exec (i : Instr) {s : State} (h : Sound qq oo s) : NSound qq oo (exec i s) := by
  cases i with
  | contextNop _ => exact sound_execContextNop h
  | contextCreate _ => exact sound_execContextCreate h
  | contextDestroy _ => exact sound_execContextDestroy h
  | contextSet _ => exact sound_execContextSet h
  | commandQuery _ => exact sound_execCommandQuery h
  | commandCancel _ => exact sound_execCommandCancel h
  | queueResume _ => exact sound_execQueueResume h
  | queueFlush _ => exact sound_execQueueFlush h
  | flagWrite _ => exact sound_execFlagWrite h
  | flagRead _ => exact sound_execFlagRead h
  | tensorCreate _ => exact sound_execTensorCreate h
  | tensorDestroy _ => exact sound_execTensorDestroy h
  | tensorGrant _ => exact sound_execTensorGrant h
  | tensorRevoke _ => exact sound_execTensorRevoke h
  | tensorRead _ => exact sound_execTensorRead h
  | tensorWrite _ => exact sound_execTensorWrite h
  | tensorCopy _ => exact sound_execTensorCopy h
  | tensorFill _ => exact sound_execTensorFill h
  | tensorGather _ => exact sound_execTensorGather h
  | tensorInfo _ => exact sound_execTensorInfo h
  | shardSetCreate _ => exact sound_execShardSetCreate h
  | shardSetDestroy _ => exact sound_execShardSetDestroy h
  | programLaunch _ => exact sound_execProgramLaunch h
  | inbankLaunch _ => exact sound_execInbankLaunch h
  | slaneResume _ => exact sound_execSlaneResume h
  | generate _ => exact sound_execGenerate h
  | requestCancel _ => exact sound_execRequestCancel h
  | modelRegister _ => exact sound_execModelRegister h
  | modelRetire _ => exact sound_execModelRetire h
  | shavingLoad _ => exact sound_execShavingLoad h
  | shavingReplace _ => exact sound_execShavingReplace h
  | shavingRetire _ => exact sound_execShavingRetire h
  | servingConfigure _ => exact sound_execServingConfigure h
  | sharingGroupSet _ => exact sound_execSharingGroupSet h
  | servingReplyEnable _ => exact sound_execServingReplyEnable h
  | requestQuery _ => exact sound_execRequestQuery h
  | flueSend _ => exact sound_execFlueSend h
  | flueReceive _ => exact sound_execFlueReceive h
  | flueFlagSet _ => exact sound_execFlueFlagSet h
  | flueReduce _ => exact sound_execFlueReduce h
  | fluePortStatus _ => exact sound_execFluePortStatus h
  | clampConfigure _ => exact sound_execClampConfigure h
  | clampStart _ => exact sound_execClampStart h
  | clampStop _ => exact sound_execClampStop h
  | clampDelete _ => exact sound_execClampDelete h
  | clampAssign _ => exact sound_execClampAssign h
  | clampQuery _ => exact sound_execClampQuery h
  | telemetryRead _ => exact sound_execTelemetryRead h
  | counterSelect _ => exact sound_execCounterSelect h
  | eventRoute _ => exact sound_execEventRoute h
  | powerCapSet _ => exact sound_execPowerCapSet h
  | scrubSet _ => exact sound_execScrubSet h
  | fwStage _ => exact sound_execFwStage h
  | fwActivate _ => exact sound_execFwActivate h
  | keyRevoke _ => exact sound_execKeyRevoke h
  | debugUnlock _ => exact sound_execDebugUnlock h
  | debugLock _ => exact sound_execDebugLock h
  | debugTransitionDone _ => exact sound_execDebugTransitionDone h
  | repairCommit _ => exact sound_execRepairCommit h
  | dbgBreakSet _ => exact sound_execDbgBreakSet h
  | dbgBreakClear _ => exact sound_execDbgBreakClear h
  | dbgTileControl _ => exact sound_execDbgTileControl h
  | dbgRead _ => exact sound_execDbgRead h
  | dbgBankView _ => exact sound_execDbgBankView h
  | dbgBankWrite _ => exact sound_execDbgBankWrite h
  | registerWrite _ _ _ _ _ => exact sound_execRegisterWrite h
  | firmwareDeadline _ _ _ => exact sound_execFirmwareDeadline h
  | firmwareDecision _ _ _ => exact sound_execFirmwareDecision h
  | coalesceTimeout _ => exact sound_execCoalesceTimeout h
  | nirSealMissClear _ _ => exact sound_execNirSealMissClear h
  | nirDropCountClear _ _ => exact sound_execNirDropCountClear h
  | poisonedCompletion _ _ _ => exact sound_execPoisonedCompletion h
  | evtClaimRead _ _ _ => exact sound_execEvtClaimRead h
  | evtClaimWrite _ _ _ => exact sound_execEvtClaimWrite h
  | evtThresholdWrite _ _ _ => exact sound_execEvtThresholdWrite h
  | evtMaskWrite _ _ _ => exact sound_execEvtMaskWrite h
  | maskEffect _ => exact sound_execMaskEffect h
  | warmReset _ _ => exact sound_execWarmReset h
  | clampReset _ _ _ => exact sound_execClampReset h
  | clampResetDone _ => exact sound_execClampResetDone h
  | timeReadLatch _ => exact sound_execTimeReadLatch h
  | moduleIdLock _ _ => exact sound_execModuleIdLock h
  | pwrSmoulderWrite _ _ => exact sound_execPwrSmoulderWrite h
  | rw1cClear _ _ _ => exact sound_execRw1cClear h
  | runPhaseStart _ _ => exact sound_execRunPhaseStart h
  | sodPromotion _ _ => exact sound_execSodPromotion h
  | waitTimeout _ => exact sound_execWaitTimeout h
  | sliceBoundary _ => exact sound_execSliceBoundary h
  | coreSwitchDone _ _ => exact sound_execCoreSwitchDone h
  | accountingPeriodEnd => exact sound_execAccountingPeriodEnd h
  | deadlockCheck => exact sound_execDeadlockCheck h
  | drainLimitExpiry _ => exact sound_execDrainLimitExpiry h
  | clampStopped _ => exact sound_execClampStopped h
  | tileCommit _ _ => exact sound_execTileCommit h
  | tileCommitDone _ _ => exact sound_execTileCommitDone h
  | commandCommit _ _ => exact sound_execCommandCommit h
  | accessLoad _ _ => exact sound_execAccessLoad h
  | accessStore _ _ => exact sound_execAccessStore h
  | setcnt _ _ => exact sound_execSetcnt h
  | cntadd _ _ => exact sound_execCntadd h
  | accessEnd _ _ => exact sound_execAccessEnd h
  | loadDataReturn _ _ _ _ => exact sound_execLoadDataReturn h
  | delay _ _ => exact sound_execDelay h
  | setReg _ _ => exact sound_execSetReg h
  | execLoop _ _ => exact sound_execExecLoop h
  | beos _ _ => exact sound_execBeos h
  | execTag _ _ => exact sound_execExecTag h
  | execEnd _ _ => exact sound_execExecEnd h
  | tld _ _ => exact sound_execTld h
  | mma _ _ => exact sound_execMma h
  | tfl _ _ => exact sound_execTfl h
  | vadd _ _ => exact sound_execVadd h
  | vsub _ _ => exact sound_execVsub h
  | vmul _ _ => exact sound_execVmul h
  | vfma _ _ => exact sound_execVfma h
  | vmin _ _ => exact sound_execVmin h
  | vmax _ _ => exact sound_execVmax h
  | vcmp _ _ => exact sound_execVcmp h
  | vsel _ _ => exact sound_execVsel h
  | vfn _ _ => exact sound_execVfn h
  | vchs _ _ => exact sound_execVchs h
  | vsmx _ _ => exact sound_execVsmx h
  | vmrg _ _ => exact sound_execVmrg h
  | vcvt _ _ => exact sound_execVcvt h
  | vmov _ _ => exact sound_execVmov h
  | vbc _ _ => exact sound_execVbc h
  | qpop _ _ => exact sound_execQpop h
  | qpush _ _ => exact sound_execQpush h
  | slaneHaltTimeout _ => exact sound_execSlaneHaltTimeout h
  | processorModeRequest _ _ _ => exact sound_execProcessorModeRequest h
  | memoryModeRequest _ _ => exact sound_execMemoryModeRequest h
  | processorModeEntered _ _ => exact sound_execProcessorModeEntered h
  | memoryModeEntered _ _ => exact sound_execMemoryModeEntered h
  | holdLimitExpiry _ _ => exact sound_execHoldLimitExpiry h
  | embStart _ _ _ _ _ => exact sound_execEmbStart h
  | embStop _ _ _ => exact sound_execEmbStop h
  | embResume _ _ _ => exact sound_execEmbResume h
  | embStatusClear _ _ _ => exact sound_execEmbStatusClear h
  | refreshDue _ _ => exact sound_execRefreshDue h
  | refreshComplete _ _ => exact sound_execRefreshComplete h
  | rowReseal _ _ _ _ _ => exact sound_execRowReseal h
  | trigVreg _ _ _ _ => exact sound_execTrigVreg h
  | trigBbuf _ _ _ _ => exact sound_execTrigBbuf h
  | trigUstore _ _ _ _ => exact sound_execTrigUstore h
  | trigArg _ _ _ _ => exact sound_execTrigArg h
  | trigCmd _ _ _ _ => exact sound_execTrigCmd h
  | trigWait _ _ _ _ => exact sound_execTrigWait h
  | emberNop _ _ _ => exact sound_execEmberNop h
  | emberEnd _ _ _ _ => exact sound_execEmberEnd h
  | emberYield _ _ _ => exact sound_execEmberYield h
  | emberLoop _ _ _ => exact sound_execEmberLoop h
  | emberFence _ _ _ => exact sound_execEmberFence h
  | seta _ _ _ => exact sound_execSeta h
  | adda _ _ _ => exact sound_execAdda h
  | setb _ _ _ => exact sound_execSetb h
  | setf _ _ _ => exact sound_execSetf h
  | tset _ _ _ => exact sound_execTset h
  | ldv _ _ _ => exact sound_execLdv h
  | stv _ _ _ => exact sound_execStv h
  | shv _ _ _ => exact sound_execShv h
  | strm _ _ _ => exact sound_execStrm h
  | dq _ _ _ => exact sound_execDq h
  | mac _ _ _ => exact sound_execMac h
  | asc _ _ _ => exact sound_execAsc h
  | asm _ _ _ => exact sound_execAsm h
  | avg _ _ _ => exact sound_execAvg h
  | acl _ _ _ => exact sound_execAcl h
  | afl _ _ _ => exact sound_execAfl h
  | asl _ _ _ => exact sound_execAsl h
  | sodMigration _ _ _ _ => exact sound_execSodMigration h
  | sodRebuild _ _ _ _ => exact sound_execSodRebuild h
  | scrubPassStart => exact sound_execScrubPassStart h
  | patrolRead _ _ => exact sound_execPatrolRead h
  | scrubPassEnd _ => exact sound_execScrubPassEnd h
  | ashWindowEnd => exact sound_execAshWindowEnd h
  | counterWindowEnd => exact sound_execCounterWindowEnd h
  | servingAdmission _ => exact sound_execServingAdmission h
  | prefillCommand _ _ _ => exact sound_execPrefillCommand h
  | decodeStep _ _ _ => exact sound_execDecodeStep h
  | commitSlot _ => exact sound_execCommitSlot h
  | servingHandover _ => exact sound_execServingHandover h
  | flueIdle _ _ => exact sound_execFlueIdle h
  | flueFlit _ _ => exact sound_execFlueFlit h
  | replayRequest _ _ => exact sound_execReplayRequest h
  | retrainRequest _ _ => exact sound_execRetrainRequest h
  | laneLockLoss _ _ => exact sound_execLaneLockLoss h
  | fecWindowEnd _ _ => exact sound_execFecWindowEnd h
  | retrainDone _ _ _ => exact sound_execRetrainDone h
  | retrainAttemptEnd _ _ => exact sound_execRetrainAttemptEnd h
  | trainingAttempt _ => exact sound_execTrainingAttempt h
  | probeDue _ => exact sound_execProbeDue h
  | pairSilenceTimeout _ => exact sound_execPairSilenceTimeout h
  | flueReady _ => exact sound_execFlueReady h
  | flueWithdraw _ => exact sound_execFlueWithdraw h
  | flueData _ => exact sound_execFlueData h
  | flueRefuse _ => exact sound_execFlueRefuse h
  | flueReopen _ => exact sound_execFlueReopen h
  | flueConfirm _ => exact sound_execFlueConfirm h
  | flueAbort _ => exact sound_execFlueAbort h
  | flueDecline _ => exact sound_execFlueDecline h
  | flueFlag _ => exact sound_execFlueFlag h
  | flagAnswer _ => exact sound_execFlagAnswer h
  | flueOffer _ => exact sound_execFlueOffer h
  | flueCancel _ => exact sound_execFlueCancel h
  | flueHello _ => exact sound_execFlueHello h
  | flueProbe _ => exact sound_execFlueProbe h
  | flueRoute _ => exact sound_execFlueRoute h
  | flueUnreachable _ => exact sound_execFlueUnreachable h
  | transferTimeout _ => exact sound_execTransferTimeout h
  | hostReadCompletion _ _ _ => exact sound_execHostReadCompletion h
  | completionTimeout _ => exact sound_execCompletionTimeout h
  | tlpIntegrityFailure _ => exact sound_execTlpIntegrityFailure h
  | thermalSample _ => exact sound_execThermalSample h
  | avsCurrentSample _ => exact sound_execAvsCurrentSample h
  | auxRailSample _ _ => exact sound_execAuxRailSample h
  | powerWindowFast _ => exact sound_execPowerWindowFast h
  | powerWindow1ms _ => exact sound_execPowerWindow1ms h
  | graceEnd => exact sound_execGraceEnd h
  | setpointStep _ => exact sound_execSetpointStep h
  | supplySag _ _ _ => exact sound_execSupplySag h
  | stretchEnd => exact sound_execStretchEnd h
  | nvHoldEnd => exact sound_execNvHoldEnd h
  | vcoreCollapse => exact sound_execVcoreCollapse h
  | vstbyLow => exact sound_execVstbyLow h
  | powerCycle => exact sound_execPowerCycle h
  | smoulderEntry _ => exact sound_execSmoulderEntry h
  | smoulderWake _ => exact sound_execSmoulderWake h
  | perstAssert => exact sound_execPerstAssert h
  | perstRelease _ _ _ => exact sound_execPerstRelease h
  | refclkLoss => exact sound_execRefclkLoss h
  | rootPllLock => exact sound_execRootPllLock h
  | startupStepDone _ => exact sound_execStartupStepDone h
  | startupStepLimit _ => exact sound_execStartupStepLimit h
  | watchdogService => exact sound_execWatchdogService h
  | watchdogExpiry => exact sound_execWatchdogExpiry h
  | functionLevelReset _ => exact sound_execFunctionLevelReset h
  | svnBurn => exact sound_execSvnBurn h
  | getVersion _ _ _ => exact sound_execGetVersion (x2 := []) h
  | getCapabilities _ _ _ => exact sound_execGetCapabilities (x2 := []) h
  | negotiateAlgorithms _ _ _ => exact sound_execNegotiateAlgorithms (x2 := []) h
  | getDigests _ _ _ => exact sound_execGetDigests (x2 := []) h
  | getCertificate _ _ _ => exact sound_execGetCertificate (x2 := []) h
  | spdmChallenge _ _ _ => exact sound_execSpdmChallenge h
  | getMeasurements _ _ _ => exact sound_execGetMeasurements h
  | keyExchange _ _ _ => exact sound_execKeyExchange h
  | spdmFinish _ _ _ => exact sound_execSpdmFinish (x2 := []) h
  | endSession _ _ _ => exact sound_execEndSession (x2 := []) h
  | keyUpdate _ _ _ => exact sound_execKeyUpdate (x2 := []) h
  | ideKm _ _ _ => exact sound_execIdeKm (x2 := []) h
  | jtagBypass => exact sound_execJtagBypass h
  | jtagIdcode => exact sound_execJtagIdcode h
  | samplePreload => exact sound_execSamplePreload h
  | jtagExtest => exact sound_execJtagExtest h
  | jtagHighz => exact sound_execJtagHighz h
  | dbgacc => exact sound_execDbgacc h
  | entdaa _ => exact sound_execEntdaa h
  | setdasa _ _ => exact sound_execSetdasa h
  | rstdaa => exact sound_execRstdaa h
  | getpid => exact sound_execGetpid h
  | getbcr => exact sound_execGetbcr h
  | getdcr => exact sound_execGetdcr h
  | getstatus => exact sound_execGetstatus h
  | i3cIndexWrite _ => exact sound_execI3cIndexWrite h
  | i3cPrivateRead => exact sound_execI3cPrivateRead h
  | powerOn => exact sound_execPowerOn h
  | refclkReturn => exact sound_execRefclkReturn h
  | hostLinkDown => exact sound_execHostLinkDown h
  | nvWriteDone => exact sound_execNvWriteDone h
  | setpointStepDone => exact sound_execSetpointStepDone h
  | vfEnable _ => exact sound_execVfEnable h
  | doeDiscovery _ _ => exact sound_execDoeDiscovery h

end Sys2Proof.Machine
end

