-- ==== Sys2Proof/Laws/State.lean ====
section
/-!
SUPPORT. What each update of the state leaves as it was: one lemma for every field that it does not touch.
-/
namespace Sys2Proof.Machine

open Sys2Proof

variable (s : State)

/-! ## emit -/

@[simp] theorem emit_now (o : Out) : (emit s o).now = s.now := rfl
@[simp] theorem emit_rst (o : Out) : (emit s o).rst = s.rst := rfl
@[simp] theorem emit_fns (o : Out) : (emit s o).fns = s.fns := rfl
@[simp] theorem emit_ctxs (o : Out) : (emit s o).ctxs = s.ctxs := rfl
@[simp] theorem emit_slots (o : Out) : (emit s o).slots = s.slots := rfl
@[simp] theorem emit_cmds (o : Out) : (emit s o).cmds = s.cmds := rfl
@[simp] theorem emit_store (o : Out) : (emit s o).store = s.store := rfl
@[simp] theorem emit_clamps (o : Out) : (emit s o).clamps = s.clamps := rfl
@[simp] theorem emit_layoutGen (o : Out) : (emit s o).layoutGen = s.layoutGen := rfl
@[simp] theorem emit_kiln (o : Out) : (emit s o).kiln = s.kiln := rfl
@[simp] theorem emit_exrad (o : Out) : (emit s o).exrad = s.exrad := rfl
@[simp] theorem emit_serve (o : Out) : (emit s o).serve = s.serve := rfl
@[simp] theorem emit_flue (o : Out) : (emit s o).flue = s.flue := rfl
@[simp] theorem emit_pwr (o : Out) : (emit s o).pwr = s.pwr := rfl
@[simp] theorem emit_sec (o : Out) : (emit s o).sec = s.sec := rfl
@[simp] theorem emit_evt (o : Out) : (emit s o).evt = s.evt := rfl
@[simp] theorem emit_i3c (o : Out) : (emit s o).i3c = s.i3c := rfl
@[simp] theorem emit_freeCount (o : Out) : (emit s o).freeCount = s.freeCount := rfl
@[simp] theorem emit_pending (o : Out) : (emit s o).pending = s.pending := rfl

/-! ## gather -/

@[simp] theorem gather_now (sel n : Nat) : (gather s sel n).now = s.now := rfl
@[simp] theorem gather_rst (sel n : Nat) : (gather s sel n).rst = s.rst := rfl
@[simp] theorem gather_fns (sel n : Nat) : (gather s sel n).fns = s.fns := rfl
@[simp] theorem gather_ctxs (sel n : Nat) : (gather s sel n).ctxs = s.ctxs := rfl
@[simp] theorem gather_slots (sel n : Nat) : (gather s sel n).slots = s.slots := rfl
@[simp] theorem gather_cmds (sel n : Nat) : (gather s sel n).cmds = s.cmds := rfl
@[simp] theorem gather_store (sel n : Nat) : (gather s sel n).store = s.store := rfl
@[simp] theorem gather_clamps (sel n : Nat) : (gather s sel n).clamps = s.clamps := rfl
@[simp] theorem gather_layoutGen (sel n : Nat) : (gather s sel n).layoutGen = s.layoutGen := rfl
@[simp] theorem gather_kiln (sel n : Nat) : (gather s sel n).kiln = s.kiln := rfl
@[simp] theorem gather_exrad (sel n : Nat) : (gather s sel n).exrad = s.exrad := rfl
@[simp] theorem gather_serve (sel n : Nat) : (gather s sel n).serve = s.serve := rfl
@[simp] theorem gather_flue (sel n : Nat) : (gather s sel n).flue = s.flue := rfl
@[simp] theorem gather_pwr (sel n : Nat) : (gather s sel n).pwr = s.pwr := rfl
@[simp] theorem gather_sec (sel n : Nat) : (gather s sel n).sec = s.sec := rfl
@[simp] theorem gather_i3c (sel n : Nat) : (gather s sel n).i3c = s.i3c := rfl
@[simp] theorem gather_out (sel n : Nat) : (gather s sel n).out = s.out := rfl
@[simp] theorem gather_freeCount (sel n : Nat) : (gather s sel n).freeCount = s.freeCount := rfl
@[simp] theorem gather_pending (sel n : Nat) : (gather s sel n).pending = s.pending := rfl

/-! ## modFn -/

@[simp] theorem modFn_now (f : Nat) (g : Fn → Fn) : (modFn s f g).now = s.now := rfl
@[simp] theorem modFn_rst (f : Nat) (g : Fn → Fn) : (modFn s f g).rst = s.rst := rfl
@[simp] theorem modFn_ctxs (f : Nat) (g : Fn → Fn) : (modFn s f g).ctxs = s.ctxs := rfl
@[simp] theorem modFn_slots (f : Nat) (g : Fn → Fn) : (modFn s f g).slots = s.slots := rfl
@[simp] theorem modFn_cmds (f : Nat) (g : Fn → Fn) : (modFn s f g).cmds = s.cmds := rfl
@[simp] theorem modFn_store (f : Nat) (g : Fn → Fn) : (modFn s f g).store = s.store := rfl
@[simp] theorem modFn_clamps (f : Nat) (g : Fn → Fn) : (modFn s f g).clamps = s.clamps := rfl
@[simp] theorem modFn_layoutGen (f : Nat) (g : Fn → Fn) : (modFn s f g).layoutGen = s.layoutGen := rfl
@[simp] theorem modFn_kiln (f : Nat) (g : Fn → Fn) : (modFn s f g).kiln = s.kiln := rfl
@[simp] theorem modFn_exrad (f : Nat) (g : Fn → Fn) : (modFn s f g).exrad = s.exrad := rfl
@[simp] theorem modFn_serve (f : Nat) (g : Fn → Fn) : (modFn s f g).serve = s.serve := rfl
@[simp] theorem modFn_flue (f : Nat) (g : Fn → Fn) : (modFn s f g).flue = s.flue := rfl
@[simp] theorem modFn_pwr (f : Nat) (g : Fn → Fn) : (modFn s f g).pwr = s.pwr := rfl
@[simp] theorem modFn_sec (f : Nat) (g : Fn → Fn) : (modFn s f g).sec = s.sec := rfl
@[simp] theorem modFn_evt (f : Nat) (g : Fn → Fn) : (modFn s f g).evt = s.evt := rfl
@[simp] theorem modFn_i3c (f : Nat) (g : Fn → Fn) : (modFn s f g).i3c = s.i3c := rfl
@[simp] theorem modFn_out (f : Nat) (g : Fn → Fn) : (modFn s f g).out = s.out := rfl
@[simp] theorem modFn_freeCount (f : Nat) (g : Fn → Fn) : (modFn s f g).freeCount = s.freeCount := rfl
@[simp] theorem modFn_pending (f : Nat) (g : Fn → Fn) : (modFn s f g).pending = s.pending := rfl

/-! ## modCtx -/

@[simp] theorem modCtx_now (n : Nat) (g : Ctx → Ctx) : (modCtx s n g).now = s.now := rfl
@[simp] theorem modCtx_rst (n : Nat) (g : Ctx → Ctx) : (modCtx s n g).rst = s.rst := rfl
@[simp] theorem modCtx_fns (n : Nat) (g : Ctx → Ctx) : (modCtx s n g).fns = s.fns := rfl
@[simp] theorem modCtx_slots (n : Nat) (g : Ctx → Ctx) : (modCtx s n g).slots = s.slots := rfl
@[simp] theorem modCtx_cmds (n : Nat) (g : Ctx → Ctx) : (modCtx s n g).cmds = s.cmds := rfl
@[simp] theorem modCtx_store (n : Nat) (g : Ctx → Ctx) : (modCtx s n g).store = s.store := rfl
@[simp] theorem modCtx_clamps (n : Nat) (g : Ctx → Ctx) : (modCtx s n g).clamps = s.clamps := rfl
@[simp] theorem modCtx_layoutGen (n : Nat) (g : Ctx → Ctx) : (modCtx s n g).layoutGen = s.layoutGen := rfl
@[simp] theorem modCtx_kiln (n : Nat) (g : Ctx → Ctx) : (modCtx s n g).kiln = s.kiln := rfl
@[simp] theorem modCtx_exrad (n : Nat) (g : Ctx → Ctx) : (modCtx s n g).exrad = s.exrad := rfl
@[simp] theorem modCtx_serve (n : Nat) (g : Ctx → Ctx) : (modCtx s n g).serve = s.serve := rfl
@[simp] theorem modCtx_flue (n : Nat) (g : Ctx → Ctx) : (modCtx s n g).flue = s.flue := rfl
@[simp] theorem modCtx_pwr (n : Nat) (g : Ctx → Ctx) : (modCtx s n g).pwr = s.pwr := rfl
@[simp] theorem modCtx_sec (n : Nat) (g : Ctx → Ctx) : (modCtx s n g).sec = s.sec := rfl
@[simp] theorem modCtx_evt (n : Nat) (g : Ctx → Ctx) : (modCtx s n g).evt = s.evt := rfl
@[simp] theorem modCtx_i3c (n : Nat) (g : Ctx → Ctx) : (modCtx s n g).i3c = s.i3c := rfl
@[simp] theorem modCtx_out (n : Nat) (g : Ctx → Ctx) : (modCtx s n g).out = s.out := rfl
@[simp] theorem modCtx_freeCount (n : Nat) (g : Ctx → Ctx) : (modCtx s n g).freeCount = s.freeCount := rfl
@[simp] theorem modCtx_pending (n : Nat) (g : Ctx → Ctx) : (modCtx s n g).pending = s.pending := rfl

/-! ## modCmd -/

@[simp] theorem modCmd_now (h : Handle) (g : Cmd → Cmd) : (modCmd s h g).now = s.now := rfl
@[simp] theorem modCmd_rst (h : Handle) (g : Cmd → Cmd) : (modCmd s h g).rst = s.rst := rfl
@[simp] theorem modCmd_fns (h : Handle) (g : Cmd → Cmd) : (modCmd s h g).fns = s.fns := rfl
@[simp] theorem modCmd_ctxs (h : Handle) (g : Cmd → Cmd) : (modCmd s h g).ctxs = s.ctxs := rfl
@[simp] theorem modCmd_slots (h : Handle) (g : Cmd → Cmd) : (modCmd s h g).slots = s.slots := rfl
@[simp] theorem modCmd_store (h : Handle) (g : Cmd → Cmd) : (modCmd s h g).store = s.store := rfl
@[simp] theorem modCmd_clamps (h : Handle) (g : Cmd → Cmd) : (modCmd s h g).clamps = s.clamps := rfl
@[simp] theorem modCmd_layoutGen (h : Handle) (g : Cmd → Cmd) : (modCmd s h g).layoutGen = s.layoutGen := rfl
@[simp] theorem modCmd_kiln (h : Handle) (g : Cmd → Cmd) : (modCmd s h g).kiln = s.kiln := rfl
@[simp] theorem modCmd_exrad (h : Handle) (g : Cmd → Cmd) : (modCmd s h g).exrad = s.exrad := rfl
@[simp] theorem modCmd_serve (h : Handle) (g : Cmd → Cmd) : (modCmd s h g).serve = s.serve := rfl
@[simp] theorem modCmd_flue (h : Handle) (g : Cmd → Cmd) : (modCmd s h g).flue = s.flue := rfl
@[simp] theorem modCmd_pwr (h : Handle) (g : Cmd → Cmd) : (modCmd s h g).pwr = s.pwr := rfl
@[simp] theorem modCmd_sec (h : Handle) (g : Cmd → Cmd) : (modCmd s h g).sec = s.sec := rfl
@[simp] theorem modCmd_evt (h : Handle) (g : Cmd → Cmd) : (modCmd s h g).evt = s.evt := rfl
@[simp] theorem modCmd_i3c (h : Handle) (g : Cmd → Cmd) : (modCmd s h g).i3c = s.i3c := rfl
@[simp] theorem modCmd_out (h : Handle) (g : Cmd → Cmd) : (modCmd s h g).out = s.out := rfl
@[simp] theorem modCmd_freeCount (h : Handle) (g : Cmd → Cmd) : (modCmd s h g).freeCount = s.freeCount := rfl
@[simp] theorem modCmd_pending (h : Handle) (g : Cmd → Cmd) : (modCmd s h g).pending = s.pending := rfl

/-! ## modClamp -/

@[simp] theorem modClamp_now (k : Nat) (g : Clamp → Clamp) : (modClamp s k g).now = s.now := rfl
@[simp] theorem modClamp_rst (k : Nat) (g : Clamp → Clamp) : (modClamp s k g).rst = s.rst := rfl
@[simp] theorem modClamp_fns (k : Nat) (g : Clamp → Clamp) : (modClamp s k g).fns = s.fns := rfl
@[simp] theorem modClamp_ctxs (k : Nat) (g : Clamp → Clamp) : (modClamp s k g).ctxs = s.ctxs := rfl
@[simp] theorem modClamp_slots (k : Nat) (g : Clamp → Clamp) : (modClamp s k g).slots = s.slots := rfl
@[simp] theorem modClamp_cmds (k : Nat) (g : Clamp → Clamp) : (modClamp s k g).cmds = s.cmds := rfl
@[simp] theorem modClamp_store (k : Nat) (g : Clamp → Clamp) : (modClamp s k g).store = s.store := rfl
@[simp] theorem modClamp_layoutGen (k : Nat) (g : Clamp → Clamp) : (modClamp s k g).layoutGen = s.layoutGen := rfl
@[simp] theorem modClamp_kiln (k : Nat) (g : Clamp → Clamp) : (modClamp s k g).kiln = s.kiln := rfl
@[simp] theorem modClamp_exrad (k : Nat) (g : Clamp → Clamp) : (modClamp s k g).exrad = s.exrad := rfl
@[simp] theorem modClamp_serve (k : Nat) (g : Clamp → Clamp) : (modClamp s k g).serve = s.serve := rfl
@[simp] theorem modClamp_flue (k : Nat) (g : Clamp → Clamp) : (modClamp s k g).flue = s.flue := rfl
@[simp] theorem modClamp_pwr (k : Nat) (g : Clamp → Clamp) : (modClamp s k g).pwr = s.pwr := rfl
@[simp] theorem modClamp_sec (k : Nat) (g : Clamp → Clamp) : (modClamp s k g).sec = s.sec := rfl
@[simp] theorem modClamp_evt (k : Nat) (g : Clamp → Clamp) : (modClamp s k g).evt = s.evt := rfl
@[simp] theorem modClamp_i3c (k : Nat) (g : Clamp → Clamp) : (modClamp s k g).i3c = s.i3c := rfl
@[simp] theorem modClamp_out (k : Nat) (g : Clamp → Clamp) : (modClamp s k g).out = s.out := rfl
@[simp] theorem modClamp_freeCount (k : Nat) (g : Clamp → Clamp) : (modClamp s k g).freeCount = s.freeCount := rfl
@[simp] theorem modClamp_pending (k : Nat) (g : Clamp → Clamp) : (modClamp s k g).pending = s.pending := rfl

/-! ## modTensor -/

@[simp] theorem modTensor_now (h : Handle) (g : Tensor → Tensor) : (modTensor s h g).now = s.now := rfl
@[simp] theorem modTensor_rst (h : Handle) (g : Tensor → Tensor) : (modTensor s h g).rst = s.rst := rfl
@[simp] theorem modTensor_fns (h : Handle) (g : Tensor → Tensor) : (modTensor s h g).fns = s.fns := rfl
@[simp] theorem modTensor_ctxs (h : Handle) (g : Tensor → Tensor) : (modTensor s h g).ctxs = s.ctxs := rfl
@[simp] theorem modTensor_slots (h : Handle) (g : Tensor → Tensor) : (modTensor s h g).slots = s.slots := rfl
@[simp] theorem modTensor_cmds (h : Handle) (g : Tensor → Tensor) : (modTensor s h g).cmds = s.cmds := rfl
@[simp] theorem modTensor_clamps (h : Handle) (g : Tensor → Tensor) : (modTensor s h g).clamps = s.clamps := rfl
@[simp] theorem modTensor_layoutGen (h : Handle) (g : Tensor → Tensor) : (modTensor s h g).layoutGen = s.layoutGen := rfl
@[simp] theorem modTensor_kiln (h : Handle) (g : Tensor → Tensor) : (modTensor s h g).kiln = s.kiln := rfl
@[simp] theorem modTensor_exrad (h : Handle) (g : Tensor → Tensor) : (modTensor s h g).exrad = s.exrad := rfl
@[simp] theorem modTensor_serve (h : Handle) (g : Tensor → Tensor) : (modTensor s h g).serve = s.serve := rfl
@[simp] theorem modTensor_flue (h : Handle) (g : Tensor → Tensor) : (modTensor s h g).flue = s.flue := rfl
@[simp] theorem modTensor_pwr (h : Handle) (g : Tensor → Tensor) : (modTensor s h g).pwr = s.pwr := rfl
@[simp] theorem modTensor_sec (h : Handle) (g : Tensor → Tensor) : (modTensor s h g).sec = s.sec := rfl
@[simp] theorem modTensor_evt (h : Handle) (g : Tensor → Tensor) : (modTensor s h g).evt = s.evt := rfl
@[simp] theorem modTensor_i3c (h : Handle) (g : Tensor → Tensor) : (modTensor s h g).i3c = s.i3c := rfl
@[simp] theorem modTensor_out (h : Handle) (g : Tensor → Tensor) : (modTensor s h g).out = s.out := rfl
@[simp] theorem modTensor_freeCount (h : Handle) (g : Tensor → Tensor) : (modTensor s h g).freeCount = s.freeCount := rfl
@[simp] theorem modTensor_pending (h : Handle) (g : Tensor → Tensor) : (modTensor s h g).pending = s.pending := rfl

/-! ## modSrc -/

@[simp] theorem modSrc_now (n : Nat) (g : Source → Source) : (modSrc s n g).now = s.now := rfl
@[simp] theorem modSrc_rst (n : Nat) (g : Source → Source) : (modSrc s n g).rst = s.rst := rfl
@[simp] theorem modSrc_fns (n : Nat) (g : Source → Source) : (modSrc s n g).fns = s.fns := rfl
@[simp] theorem modSrc_ctxs (n : Nat) (g : Source → Source) : (modSrc s n g).ctxs = s.ctxs := rfl
@[simp] theorem modSrc_slots (n : Nat) (g : Source → Source) : (modSrc s n g).slots = s.slots := rfl
@[simp] theorem modSrc_cmds (n : Nat) (g : Source → Source) : (modSrc s n g).cmds = s.cmds := rfl
@[simp] theorem modSrc_store (n : Nat) (g : Source → Source) : (modSrc s n g).store = s.store := rfl
@[simp] theorem modSrc_clamps (n : Nat) (g : Source → Source) : (modSrc s n g).clamps = s.clamps := rfl
@[simp] theorem modSrc_layoutGen (n : Nat) (g : Source → Source) : (modSrc s n g).layoutGen = s.layoutGen := rfl
@[simp] theorem modSrc_kiln (n : Nat) (g : Source → Source) : (modSrc s n g).kiln = s.kiln := rfl
@[simp] theorem modSrc_exrad (n : Nat) (g : Source → Source) : (modSrc s n g).exrad = s.exrad := rfl
@[simp] theorem modSrc_serve (n : Nat) (g : Source → Source) : (modSrc s n g).serve = s.serve := rfl
@[simp] theorem modSrc_flue (n : Nat) (g : Source → Source) : (modSrc s n g).flue = s.flue := rfl
@[simp] theorem modSrc_pwr (n : Nat) (g : Source → Source) : (modSrc s n g).pwr = s.pwr := rfl
@[simp] theorem modSrc_sec (n : Nat) (g : Source → Source) : (modSrc s n g).sec = s.sec := rfl
@[simp] theorem modSrc_i3c (n : Nat) (g : Source → Source) : (modSrc s n g).i3c = s.i3c := rfl
@[simp] theorem modSrc_out (n : Nat) (g : Source → Source) : (modSrc s n g).out = s.out := rfl
@[simp] theorem modSrc_freeCount (n : Nat) (g : Source → Source) : (modSrc s n g).freeCount = s.freeCount := rfl
@[simp] theorem modSrc_pending (n : Nat) (g : Source → Source) : (modSrc s n g).pending = s.pending := rfl

/-! ## modTgt -/

@[simp] theorem modTgt_now (t : Nat) (g : Target → Target) : (modTgt s t g).now = s.now := rfl
@[simp] theorem modTgt_rst (t : Nat) (g : Target → Target) : (modTgt s t g).rst = s.rst := rfl
@[simp] theorem modTgt_fns (t : Nat) (g : Target → Target) : (modTgt s t g).fns = s.fns := rfl
@[simp] theorem modTgt_ctxs (t : Nat) (g : Target → Target) : (modTgt s t g).ctxs = s.ctxs := rfl
@[simp] theorem modTgt_slots (t : Nat) (g : Target → Target) : (modTgt s t g).slots = s.slots := rfl
@[simp] theorem modTgt_cmds (t : Nat) (g : Target → Target) : (modTgt s t g).cmds = s.cmds := rfl
@[simp] theorem modTgt_store (t : Nat) (g : Target → Target) : (modTgt s t g).store = s.store := rfl
@[simp] theorem modTgt_clamps (t : Nat) (g : Target → Target) : (modTgt s t g).clamps = s.clamps := rfl
@[simp] theorem modTgt_layoutGen (t : Nat) (g : Target → Target) : (modTgt s t g).layoutGen = s.layoutGen := rfl
@[simp] theorem modTgt_kiln (t : Nat) (g : Target → Target) : (modTgt s t g).kiln = s.kiln := rfl
@[simp] theorem modTgt_exrad (t : Nat) (g : Target → Target) : (modTgt s t g).exrad = s.exrad := rfl
@[simp] theorem modTgt_serve (t : Nat) (g : Target → Target) : (modTgt s t g).serve = s.serve := rfl
@[simp] theorem modTgt_flue (t : Nat) (g : Target → Target) : (modTgt s t g).flue = s.flue := rfl
@[simp] theorem modTgt_pwr (t : Nat) (g : Target → Target) : (modTgt s t g).pwr = s.pwr := rfl
@[simp] theorem modTgt_sec (t : Nat) (g : Target → Target) : (modTgt s t g).sec = s.sec := rfl
@[simp] theorem modTgt_i3c (t : Nat) (g : Target → Target) : (modTgt s t g).i3c = s.i3c := rfl
@[simp] theorem modTgt_out (t : Nat) (g : Target → Target) : (modTgt s t g).out = s.out := rfl
@[simp] theorem modTgt_freeCount (t : Nat) (g : Target → Target) : (modTgt s t g).freeCount = s.freeCount := rfl
@[simp] theorem modTgt_pending (t : Nat) (g : Target → Target) : (modTgt s t g).pending = s.pending := rfl

/-! ## modPort -/

@[simp] theorem modPort_now (p : Nat) (g : Port → Port) : (modPort s p g).now = s.now := rfl
@[simp] theorem modPort_rst (p : Nat) (g : Port → Port) : (modPort s p g).rst = s.rst := rfl
@[simp] theorem modPort_fns (p : Nat) (g : Port → Port) : (modPort s p g).fns = s.fns := rfl
@[simp] theorem modPort_ctxs (p : Nat) (g : Port → Port) : (modPort s p g).ctxs = s.ctxs := rfl
@[simp] theorem modPort_slots (p : Nat) (g : Port → Port) : (modPort s p g).slots = s.slots := rfl
@[simp] theorem modPort_cmds (p : Nat) (g : Port → Port) : (modPort s p g).cmds = s.cmds := rfl
@[simp] theorem modPort_store (p : Nat) (g : Port → Port) : (modPort s p g).store = s.store := rfl
@[simp] theorem modPort_clamps (p : Nat) (g : Port → Port) : (modPort s p g).clamps = s.clamps := rfl
@[simp] theorem modPort_layoutGen (p : Nat) (g : Port → Port) : (modPort s p g).layoutGen = s.layoutGen := rfl
@[simp] theorem modPort_kiln (p : Nat) (g : Port → Port) : (modPort s p g).kiln = s.kiln := rfl
@[simp] theorem modPort_exrad (p : Nat) (g : Port → Port) : (modPort s p g).exrad = s.exrad := rfl
@[simp] theorem modPort_serve (p : Nat) (g : Port → Port) : (modPort s p g).serve = s.serve := rfl
@[simp] theorem modPort_pwr (p : Nat) (g : Port → Port) : (modPort s p g).pwr = s.pwr := rfl
@[simp] theorem modPort_sec (p : Nat) (g : Port → Port) : (modPort s p g).sec = s.sec := rfl
@[simp] theorem modPort_evt (p : Nat) (g : Port → Port) : (modPort s p g).evt = s.evt := rfl
@[simp] theorem modPort_i3c (p : Nat) (g : Port → Port) : (modPort s p g).i3c = s.i3c := rfl
@[simp] theorem modPort_out (p : Nat) (g : Port → Port) : (modPort s p g).out = s.out := rfl
@[simp] theorem modPort_freeCount (p : Nat) (g : Port → Port) : (modPort s p g).freeCount = s.freeCount := rfl
@[simp] theorem modPort_pending (p : Nat) (g : Port → Port) : (modPort s p g).pending = s.pending := rfl

/-! ## putPair -/

@[simp] theorem putPair_now (m : Nat) (p : Pair) : (putPair s m p).now = s.now := rfl
@[simp] theorem putPair_rst (m : Nat) (p : Pair) : (putPair s m p).rst = s.rst := rfl
@[simp] theorem putPair_fns (m : Nat) (p : Pair) : (putPair s m p).fns = s.fns := rfl
@[simp] theorem putPair_ctxs (m : Nat) (p : Pair) : (putPair s m p).ctxs = s.ctxs := rfl
@[simp] theorem putPair_slots (m : Nat) (p : Pair) : (putPair s m p).slots = s.slots := rfl
@[simp] theorem putPair_cmds (m : Nat) (p : Pair) : (putPair s m p).cmds = s.cmds := rfl
@[simp] theorem putPair_store (m : Nat) (p : Pair) : (putPair s m p).store = s.store := rfl
@[simp] theorem putPair_clamps (m : Nat) (p : Pair) : (putPair s m p).clamps = s.clamps := rfl
@[simp] theorem putPair_layoutGen (m : Nat) (p : Pair) : (putPair s m p).layoutGen = s.layoutGen := rfl
@[simp] theorem putPair_kiln (m : Nat) (p : Pair) : (putPair s m p).kiln = s.kiln := rfl
@[simp] theorem putPair_exrad (m : Nat) (p : Pair) : (putPair s m p).exrad = s.exrad := rfl
@[simp] theorem putPair_serve (m : Nat) (p : Pair) : (putPair s m p).serve = s.serve := rfl
@[simp] theorem putPair_pwr (m : Nat) (p : Pair) : (putPair s m p).pwr = s.pwr := rfl
@[simp] theorem putPair_sec (m : Nat) (p : Pair) : (putPair s m p).sec = s.sec := rfl
@[simp] theorem putPair_evt (m : Nat) (p : Pair) : (putPair s m p).evt = s.evt := rfl
@[simp] theorem putPair_i3c (m : Nat) (p : Pair) : (putPair s m p).i3c = s.i3c := rfl
@[simp] theorem putPair_out (m : Nat) (p : Pair) : (putPair s m p).out = s.out := rfl
@[simp] theorem putPair_freeCount (m : Nat) (p : Pair) : (putPair s m p).freeCount = s.freeCount := rfl
@[simp] theorem putPair_pending (m : Nat) (p : Pair) : (putPair s m p).pending = s.pending := rfl

/-! ## modReq -/

@[simp] theorem modReq_now (id : Nat) (g : Req → Req) : (modReq s id g).now = s.now := rfl
@[simp] theorem modReq_rst (id : Nat) (g : Req → Req) : (modReq s id g).rst = s.rst := rfl
@[simp] theorem modReq_fns (id : Nat) (g : Req → Req) : (modReq s id g).fns = s.fns := rfl
@[simp] theorem modReq_ctxs (id : Nat) (g : Req → Req) : (modReq s id g).ctxs = s.ctxs := rfl
@[simp] theorem modReq_slots (id : Nat) (g : Req → Req) : (modReq s id g).slots = s.slots := rfl
@[simp] theorem modReq_cmds (id : Nat) (g : Req → Req) : (modReq s id g).cmds = s.cmds := rfl
@[simp] theorem modReq_store (id : Nat) (g : Req → Req) : (modReq s id g).store = s.store := rfl
@[simp] theorem modReq_clamps (id : Nat) (g : Req → Req) : (modReq s id g).clamps = s.clamps := rfl
@[simp] theorem modReq_layoutGen (id : Nat) (g : Req → Req) : (modReq s id g).layoutGen = s.layoutGen := rfl
@[simp] theorem modReq_kiln (id : Nat) (g : Req → Req) : (modReq s id g).kiln = s.kiln := rfl
@[simp] theorem modReq_exrad (id : Nat) (g : Req → Req) : (modReq s id g).exrad = s.exrad := rfl
@[simp] theorem modReq_flue (id : Nat) (g : Req → Req) : (modReq s id g).flue = s.flue := rfl
@[simp] theorem modReq_pwr (id : Nat) (g : Req → Req) : (modReq s id g).pwr = s.pwr := rfl
@[simp] theorem modReq_sec (id : Nat) (g : Req → Req) : (modReq s id g).sec = s.sec := rfl
@[simp] theorem modReq_evt (id : Nat) (g : Req → Req) : (modReq s id g).evt = s.evt := rfl
@[simp] theorem modReq_i3c (id : Nat) (g : Req → Req) : (modReq s id g).i3c = s.i3c := rfl
@[simp] theorem modReq_out (id : Nat) (g : Req → Req) : (modReq s id g).out = s.out := rfl
@[simp] theorem modReq_freeCount (id : Nat) (g : Req → Req) : (modReq s id g).freeCount = s.freeCount := rfl
@[simp] theorem modReq_pending (id : Nat) (g : Req → Req) : (modReq s id g).pending = s.pending := rfl

/-! ## modChan -/

@[simp] theorem modChan_now (st ch : Nat) (g : Chan → Chan) : (modChan s st ch g).now = s.now := rfl
@[simp] theorem modChan_rst (st ch : Nat) (g : Chan → Chan) : (modChan s st ch g).rst = s.rst := rfl
@[simp] theorem modChan_fns (st ch : Nat) (g : Chan → Chan) : (modChan s st ch g).fns = s.fns := rfl
@[simp] theorem modChan_ctxs (st ch : Nat) (g : Chan → Chan) : (modChan s st ch g).ctxs = s.ctxs := rfl
@[simp] theorem modChan_slots (st ch : Nat) (g : Chan → Chan) : (modChan s st ch g).slots = s.slots := rfl
@[simp] theorem modChan_cmds (st ch : Nat) (g : Chan → Chan) : (modChan s st ch g).cmds = s.cmds := rfl
@[simp] theorem modChan_store (st ch : Nat) (g : Chan → Chan) : (modChan s st ch g).store = s.store := rfl
@[simp] theorem modChan_clamps (st ch : Nat) (g : Chan → Chan) : (modChan s st ch g).clamps = s.clamps := rfl
@[simp] theorem modChan_layoutGen (st ch : Nat) (g : Chan → Chan) : (modChan s st ch g).layoutGen = s.layoutGen := rfl
@[simp] theorem modChan_kiln (st ch : Nat) (g : Chan → Chan) : (modChan s st ch g).kiln = s.kiln := rfl
@[simp] theorem modChan_serve (st ch : Nat) (g : Chan → Chan) : (modChan s st ch g).serve = s.serve := rfl
@[simp] theorem modChan_flue (st ch : Nat) (g : Chan → Chan) : (modChan s st ch g).flue = s.flue := rfl
@[simp] theorem modChan_pwr (st ch : Nat) (g : Chan → Chan) : (modChan s st ch g).pwr = s.pwr := rfl
@[simp] theorem modChan_sec (st ch : Nat) (g : Chan → Chan) : (modChan s st ch g).sec = s.sec := rfl
@[simp] theorem modChan_evt (st ch : Nat) (g : Chan → Chan) : (modChan s st ch g).evt = s.evt := rfl
@[simp] theorem modChan_i3c (st ch : Nat) (g : Chan → Chan) : (modChan s st ch g).i3c = s.i3c := rfl
@[simp] theorem modChan_out (st ch : Nat) (g : Chan → Chan) : (modChan s st ch g).out = s.out := rfl
@[simp] theorem modChan_freeCount (st ch : Nat) (g : Chan → Chan) : (modChan s st ch g).freeCount = s.freeCount := rfl
@[simp] theorem modChan_pending (st ch : Nat) (g : Chan → Chan) : (modChan s st ch g).pending = s.pending := rfl

/-! ## setUnit -/

@[simp] theorem setUnit_now (st ch u : Nat) (x : EUnit) : (setUnit s st ch u x).now = s.now := rfl
@[simp] theorem setUnit_rst (st ch u : Nat) (x : EUnit) : (setUnit s st ch u x).rst = s.rst := rfl
@[simp] theorem setUnit_fns (st ch u : Nat) (x : EUnit) : (setUnit s st ch u x).fns = s.fns := rfl
@[simp] theorem setUnit_ctxs (st ch u : Nat) (x : EUnit) : (setUnit s st ch u x).ctxs = s.ctxs := rfl
@[simp] theorem setUnit_slots (st ch u : Nat) (x : EUnit) : (setUnit s st ch u x).slots = s.slots := rfl
@[simp] theorem setUnit_cmds (st ch u : Nat) (x : EUnit) : (setUnit s st ch u x).cmds = s.cmds := rfl
@[simp] theorem setUnit_store (st ch u : Nat) (x : EUnit) : (setUnit s st ch u x).store = s.store := rfl
@[simp] theorem setUnit_clamps (st ch u : Nat) (x : EUnit) : (setUnit s st ch u x).clamps = s.clamps := rfl
@[simp] theorem setUnit_layoutGen (st ch u : Nat) (x : EUnit) : (setUnit s st ch u x).layoutGen = s.layoutGen := rfl
@[simp] theorem setUnit_kiln (st ch u : Nat) (x : EUnit) : (setUnit s st ch u x).kiln = s.kiln := rfl
@[simp] theorem setUnit_serve (st ch u : Nat) (x : EUnit) : (setUnit s st ch u x).serve = s.serve := rfl
@[simp] theorem setUnit_flue (st ch u : Nat) (x : EUnit) : (setUnit s st ch u x).flue = s.flue := rfl
@[simp] theorem setUnit_pwr (st ch u : Nat) (x : EUnit) : (setUnit s st ch u x).pwr = s.pwr := rfl
@[simp] theorem setUnit_sec (st ch u : Nat) (x : EUnit) : (setUnit s st ch u x).sec = s.sec := rfl
@[simp] theorem setUnit_evt (st ch u : Nat) (x : EUnit) : (setUnit s st ch u x).evt = s.evt := rfl
@[simp] theorem setUnit_i3c (st ch u : Nat) (x : EUnit) : (setUnit s st ch u x).i3c = s.i3c := rfl
@[simp] theorem setUnit_out (st ch u : Nat) (x : EUnit) : (setUnit s st ch u x).out = s.out := rfl
@[simp] theorem setUnit_freeCount (st ch u : Nat) (x : EUnit) : (setUnit s st ch u x).freeCount = s.freeCount := rfl
@[simp] theorem setUnit_pending (st ch u : Nat) (x : EUnit) : (setUnit s st ch u x).pending = s.pending := rfl

/-! ## modTile -/

@[simp] theorem modTile_now (die core : Nat) (g : Tile → Tile) : (modTile s die core g).now = s.now := rfl
@[simp] theorem modTile_rst (die core : Nat) (g : Tile → Tile) : (modTile s die core g).rst = s.rst := rfl
@[simp] theorem modTile_fns (die core : Nat) (g : Tile → Tile) : (modTile s die core g).fns = s.fns := rfl
@[simp] theorem modTile_ctxs (die core : Nat) (g : Tile → Tile) : (modTile s die core g).ctxs = s.ctxs := rfl
@[simp] theorem modTile_slots (die core : Nat) (g : Tile → Tile) : (modTile s die core g).slots = s.slots := rfl
@[simp] theorem modTile_cmds (die core : Nat) (g : Tile → Tile) : (modTile s die core g).cmds = s.cmds := rfl
@[simp] theorem modTile_store (die core : Nat) (g : Tile → Tile) : (modTile s die core g).store = s.store := rfl
@[simp] theorem modTile_clamps (die core : Nat) (g : Tile → Tile) : (modTile s die core g).clamps = s.clamps := rfl
@[simp] theorem modTile_layoutGen (die core : Nat) (g : Tile → Tile) : (modTile s die core g).layoutGen = s.layoutGen := rfl
@[simp] theorem modTile_exrad (die core : Nat) (g : Tile → Tile) : (modTile s die core g).exrad = s.exrad := rfl
@[simp] theorem modTile_serve (die core : Nat) (g : Tile → Tile) : (modTile s die core g).serve = s.serve := rfl
@[simp] theorem modTile_flue (die core : Nat) (g : Tile → Tile) : (modTile s die core g).flue = s.flue := rfl
@[simp] theorem modTile_pwr (die core : Nat) (g : Tile → Tile) : (modTile s die core g).pwr = s.pwr := rfl
@[simp] theorem modTile_sec (die core : Nat) (g : Tile → Tile) : (modTile s die core g).sec = s.sec := rfl
@[simp] theorem modTile_evt (die core : Nat) (g : Tile → Tile) : (modTile s die core g).evt = s.evt := rfl
@[simp] theorem modTile_i3c (die core : Nat) (g : Tile → Tile) : (modTile s die core g).i3c = s.i3c := rfl
@[simp] theorem modTile_out (die core : Nat) (g : Tile → Tile) : (modTile s die core g).out = s.out := rfl
@[simp] theorem modTile_freeCount (die core : Nat) (g : Tile → Tile) : (modTile s die core g).freeCount = s.freeCount := rfl
@[simp] theorem modTile_pending (die core : Nat) (g : Tile → Tile) : (modTile s die core g).pending = s.pending := rfl

/-! ## modCore -/

@[simp] theorem modCore_now (die core : Nat) (g : Engine → Engine) : (modCore s die core g).now = s.now := rfl
@[simp] theorem modCore_rst (die core : Nat) (g : Engine → Engine) : (modCore s die core g).rst = s.rst := rfl
@[simp] theorem modCore_fns (die core : Nat) (g : Engine → Engine) : (modCore s die core g).fns = s.fns := rfl
@[simp] theorem modCore_ctxs (die core : Nat) (g : Engine → Engine) : (modCore s die core g).ctxs = s.ctxs := rfl
@[simp] theorem modCore_slots (die core : Nat) (g : Engine → Engine) : (modCore s die core g).slots = s.slots := rfl
@[simp] theorem modCore_cmds (die core : Nat) (g : Engine → Engine) : (modCore s die core g).cmds = s.cmds := rfl
@[simp] theorem modCore_store (die core : Nat) (g : Engine → Engine) : (modCore s die core g).store = s.store := rfl
@[simp] theorem modCore_clamps (die core : Nat) (g : Engine → Engine) : (modCore s die core g).clamps = s.clamps := rfl
@[simp] theorem modCore_layoutGen (die core : Nat) (g : Engine → Engine) : (modCore s die core g).layoutGen = s.layoutGen := rfl
@[simp] theorem modCore_exrad (die core : Nat) (g : Engine → Engine) : (modCore s die core g).exrad = s.exrad := rfl
@[simp] theorem modCore_serve (die core : Nat) (g : Engine → Engine) : (modCore s die core g).serve = s.serve := rfl
@[simp] theorem modCore_flue (die core : Nat) (g : Engine → Engine) : (modCore s die core g).flue = s.flue := rfl
@[simp] theorem modCore_pwr (die core : Nat) (g : Engine → Engine) : (modCore s die core g).pwr = s.pwr := rfl
@[simp] theorem modCore_sec (die core : Nat) (g : Engine → Engine) : (modCore s die core g).sec = s.sec := rfl
@[simp] theorem modCore_evt (die core : Nat) (g : Engine → Engine) : (modCore s die core g).evt = s.evt := rfl
@[simp] theorem modCore_i3c (die core : Nat) (g : Engine → Engine) : (modCore s die core g).i3c = s.i3c := rfl
@[simp] theorem modCore_out (die core : Nat) (g : Engine → Engine) : (modCore s die core g).out = s.out := rfl
@[simp] theorem modCore_freeCount (die core : Nat) (g : Engine → Engine) : (modCore s die core g).freeCount = s.freeCount := rfl
@[simp] theorem modCore_pending (die core : Nat) (g : Engine → Engine) : (modCore s die core g).pending = s.pending := rfl

/-! ## takeSlot -/

@[simp] theorem takeSlot_now (h : Handle) : (takeSlot s h).now = s.now := rfl
@[simp] theorem takeSlot_rst (h : Handle) : (takeSlot s h).rst = s.rst := rfl
@[simp] theorem takeSlot_fns (h : Handle) : (takeSlot s h).fns = s.fns := rfl
@[simp] theorem takeSlot_ctxs (h : Handle) : (takeSlot s h).ctxs = s.ctxs := rfl
@[simp] theorem takeSlot_store (h : Handle) : (takeSlot s h).store = s.store := rfl
@[simp] theorem takeSlot_clamps (h : Handle) : (takeSlot s h).clamps = s.clamps := rfl
@[simp] theorem takeSlot_layoutGen (h : Handle) : (takeSlot s h).layoutGen = s.layoutGen := rfl
@[simp] theorem takeSlot_kiln (h : Handle) : (takeSlot s h).kiln = s.kiln := rfl
@[simp] theorem takeSlot_exrad (h : Handle) : (takeSlot s h).exrad = s.exrad := rfl
@[simp] theorem takeSlot_serve (h : Handle) : (takeSlot s h).serve = s.serve := rfl
@[simp] theorem takeSlot_flue (h : Handle) : (takeSlot s h).flue = s.flue := rfl
@[simp] theorem takeSlot_pwr (h : Handle) : (takeSlot s h).pwr = s.pwr := rfl
@[simp] theorem takeSlot_sec (h : Handle) : (takeSlot s h).sec = s.sec := rfl
@[simp] theorem takeSlot_evt (h : Handle) : (takeSlot s h).evt = s.evt := rfl
@[simp] theorem takeSlot_i3c (h : Handle) : (takeSlot s h).i3c = s.i3c := rfl
@[simp] theorem takeSlot_out (h : Handle) : (takeSlot s h).out = s.out := rfl
@[simp] theorem takeSlot_freeCount (h : Handle) : (takeSlot s h).freeCount = s.freeCount := rfl
@[simp] theorem takeSlot_pending (h : Handle) : (takeSlot s h).pending = s.pending := rfl

/-! ## dropSlot -/

@[simp] theorem dropSlot_now (h : Handle) : (dropSlot s h).now = s.now := rfl
@[simp] theorem dropSlot_rst (h : Handle) : (dropSlot s h).rst = s.rst := rfl
@[simp] theorem dropSlot_fns (h : Handle) : (dropSlot s h).fns = s.fns := rfl
@[simp] theorem dropSlot_ctxs (h : Handle) : (dropSlot s h).ctxs = s.ctxs := rfl
@[simp] theorem dropSlot_cmds (h : Handle) : (dropSlot s h).cmds = s.cmds := rfl
@[simp] theorem dropSlot_store (h : Handle) : (dropSlot s h).store = s.store := rfl
@[simp] theorem dropSlot_clamps (h : Handle) : (dropSlot s h).clamps = s.clamps := rfl
@[simp] theorem dropSlot_layoutGen (h : Handle) : (dropSlot s h).layoutGen = s.layoutGen := rfl
@[simp] theorem dropSlot_kiln (h : Handle) : (dropSlot s h).kiln = s.kiln := rfl
@[simp] theorem dropSlot_exrad (h : Handle) : (dropSlot s h).exrad = s.exrad := rfl
@[simp] theorem dropSlot_serve (h : Handle) : (dropSlot s h).serve = s.serve := rfl
@[simp] theorem dropSlot_flue (h : Handle) : (dropSlot s h).flue = s.flue := rfl
@[simp] theorem dropSlot_pwr (h : Handle) : (dropSlot s h).pwr = s.pwr := rfl
@[simp] theorem dropSlot_sec (h : Handle) : (dropSlot s h).sec = s.sec := rfl
@[simp] theorem dropSlot_evt (h : Handle) : (dropSlot s h).evt = s.evt := rfl
@[simp] theorem dropSlot_i3c (h : Handle) : (dropSlot s h).i3c = s.i3c := rfl
@[simp] theorem dropSlot_out (h : Handle) : (dropSlot s h).out = s.out := rfl
@[simp] theorem dropSlot_freeCount (h : Handle) : (dropSlot s h).freeCount = s.freeCount := rfl
@[simp] theorem dropSlot_pending (h : Handle) : (dropSlot s h).pending = s.pending := rfl

/-! ## modSpdm -/

@[simp] theorem modSpdm_now (f : Nat) (g : Spdm → Spdm) : (modSpdm s f g).now = s.now := rfl
@[simp] theorem modSpdm_rst (f : Nat) (g : Spdm → Spdm) : (modSpdm s f g).rst = s.rst := rfl
@[simp] theorem modSpdm_fns (f : Nat) (g : Spdm → Spdm) : (modSpdm s f g).fns = s.fns := rfl
@[simp] theorem modSpdm_ctxs (f : Nat) (g : Spdm → Spdm) : (modSpdm s f g).ctxs = s.ctxs := rfl
@[simp] theorem modSpdm_slots (f : Nat) (g : Spdm → Spdm) : (modSpdm s f g).slots = s.slots := rfl
@[simp] theorem modSpdm_cmds (f : Nat) (g : Spdm → Spdm) : (modSpdm s f g).cmds = s.cmds := rfl
@[simp] theorem modSpdm_store (f : Nat) (g : Spdm → Spdm) : (modSpdm s f g).store = s.store := rfl
@[simp] theorem modSpdm_clamps (f : Nat) (g : Spdm → Spdm) : (modSpdm s f g).clamps = s.clamps := rfl
@[simp] theorem modSpdm_layoutGen (f : Nat) (g : Spdm → Spdm) : (modSpdm s f g).layoutGen = s.layoutGen := rfl
@[simp] theorem modSpdm_kiln (f : Nat) (g : Spdm → Spdm) : (modSpdm s f g).kiln = s.kiln := rfl
@[simp] theorem modSpdm_exrad (f : Nat) (g : Spdm → Spdm) : (modSpdm s f g).exrad = s.exrad := rfl
@[simp] theorem modSpdm_serve (f : Nat) (g : Spdm → Spdm) : (modSpdm s f g).serve = s.serve := rfl
@[simp] theorem modSpdm_flue (f : Nat) (g : Spdm → Spdm) : (modSpdm s f g).flue = s.flue := rfl
@[simp] theorem modSpdm_pwr (f : Nat) (g : Spdm → Spdm) : (modSpdm s f g).pwr = s.pwr := rfl
@[simp] theorem modSpdm_evt (f : Nat) (g : Spdm → Spdm) : (modSpdm s f g).evt = s.evt := rfl
@[simp] theorem modSpdm_i3c (f : Nat) (g : Spdm → Spdm) : (modSpdm s f g).i3c = s.i3c := rfl
@[simp] theorem modSpdm_out (f : Nat) (g : Spdm → Spdm) : (modSpdm s f g).out = s.out := rfl
@[simp] theorem modSpdm_freeCount (f : Nat) (g : Spdm → Spdm) : (modSpdm s f g).freeCount = s.freeCount := rfl
@[simp] theorem modSpdm_pending (f : Nat) (g : Spdm → Spdm) : (modSpdm s f g).pending = s.pending := rfl

/-! ## modIde -/

@[simp] theorem modIde_now (n : Nat) (g : Ide → Ide) : (modIde s n g).now = s.now := rfl
@[simp] theorem modIde_rst (n : Nat) (g : Ide → Ide) : (modIde s n g).rst = s.rst := rfl
@[simp] theorem modIde_fns (n : Nat) (g : Ide → Ide) : (modIde s n g).fns = s.fns := rfl
@[simp] theorem modIde_ctxs (n : Nat) (g : Ide → Ide) : (modIde s n g).ctxs = s.ctxs := rfl
@[simp] theorem modIde_slots (n : Nat) (g : Ide → Ide) : (modIde s n g).slots = s.slots := rfl
@[simp] theorem modIde_cmds (n : Nat) (g : Ide → Ide) : (modIde s n g).cmds = s.cmds := rfl
@[simp] theorem modIde_store (n : Nat) (g : Ide → Ide) : (modIde s n g).store = s.store := rfl
@[simp] theorem modIde_clamps (n : Nat) (g : Ide → Ide) : (modIde s n g).clamps = s.clamps := rfl
@[simp] theorem modIde_layoutGen (n : Nat) (g : Ide → Ide) : (modIde s n g).layoutGen = s.layoutGen := rfl
@[simp] theorem modIde_kiln (n : Nat) (g : Ide → Ide) : (modIde s n g).kiln = s.kiln := rfl
@[simp] theorem modIde_exrad (n : Nat) (g : Ide → Ide) : (modIde s n g).exrad = s.exrad := rfl
@[simp] theorem modIde_serve (n : Nat) (g : Ide → Ide) : (modIde s n g).serve = s.serve := rfl
@[simp] theorem modIde_flue (n : Nat) (g : Ide → Ide) : (modIde s n g).flue = s.flue := rfl
@[simp] theorem modIde_pwr (n : Nat) (g : Ide → Ide) : (modIde s n g).pwr = s.pwr := rfl
@[simp] theorem modIde_evt (n : Nat) (g : Ide → Ide) : (modIde s n g).evt = s.evt := rfl
@[simp] theorem modIde_i3c (n : Nat) (g : Ide → Ide) : (modIde s n g).i3c = s.i3c := rfl
@[simp] theorem modIde_out (n : Nat) (g : Ide → Ide) : (modIde s n g).out = s.out := rfl
@[simp] theorem modIde_freeCount (n : Nat) (g : Ide → Ide) : (modIde s n g).freeCount = s.freeCount := rfl
@[simp] theorem modIde_pending (n : Nat) (g : Ide → Ide) : (modIde s n g).pending = s.pending := rfl

/-! ## noteActive -/

@[simp] theorem noteActive_now (i : Nat) : (noteActive s i).now = s.now := rfl
@[simp] theorem noteActive_rst (i : Nat) : (noteActive s i).rst = s.rst := rfl
@[simp] theorem noteActive_fns (i : Nat) : (noteActive s i).fns = s.fns := rfl
@[simp] theorem noteActive_ctxs (i : Nat) : (noteActive s i).ctxs = s.ctxs := rfl
@[simp] theorem noteActive_slots (i : Nat) : (noteActive s i).slots = s.slots := rfl
@[simp] theorem noteActive_cmds (i : Nat) : (noteActive s i).cmds = s.cmds := rfl
@[simp] theorem noteActive_store (i : Nat) : (noteActive s i).store = s.store := rfl
@[simp] theorem noteActive_clamps (i : Nat) : (noteActive s i).clamps = s.clamps := rfl
@[simp] theorem noteActive_layoutGen (i : Nat) : (noteActive s i).layoutGen = s.layoutGen := rfl
@[simp] theorem noteActive_kiln (i : Nat) : (noteActive s i).kiln = s.kiln := rfl
@[simp] theorem noteActive_exrad (i : Nat) : (noteActive s i).exrad = s.exrad := rfl
@[simp] theorem noteActive_serve (i : Nat) : (noteActive s i).serve = s.serve := rfl
@[simp] theorem noteActive_flue (i : Nat) : (noteActive s i).flue = s.flue := rfl
@[simp] theorem noteActive_sec (i : Nat) : (noteActive s i).sec = s.sec := rfl
@[simp] theorem noteActive_evt (i : Nat) : (noteActive s i).evt = s.evt := rfl
@[simp] theorem noteActive_i3c (i : Nat) : (noteActive s i).i3c = s.i3c := rfl
@[simp] theorem noteActive_out (i : Nat) : (noteActive s i).out = s.out := rfl
@[simp] theorem noteActive_freeCount (i : Nat) : (noteActive s i).freeCount = s.freeCount := rfl
@[simp] theorem noteActive_pending (i : Nat) : (noteActive s i).pending = s.pending := rfl

/-! ## countTraffic -/

@[simp] theorem countTraffic_now (clamp : Nat) (k : Traffic) (n : Nat) : (countTraffic s clamp k n).now = s.now := by cases k <;> rfl
@[simp] theorem countTraffic_rst (clamp : Nat) (k : Traffic) (n : Nat) : (countTraffic s clamp k n).rst = s.rst := by cases k <;> rfl
@[simp] theorem countTraffic_fns (clamp : Nat) (k : Traffic) (n : Nat) : (countTraffic s clamp k n).fns = s.fns := by cases k <;> rfl
@[simp] theorem countTraffic_ctxs (clamp : Nat) (k : Traffic) (n : Nat) : (countTraffic s clamp k n).ctxs = s.ctxs := by cases k <;> rfl
@[simp] theorem countTraffic_slots (clamp : Nat) (k : Traffic) (n : Nat) : (countTraffic s clamp k n).slots = s.slots := by cases k <;> rfl
@[simp] theorem countTraffic_cmds (clamp : Nat) (k : Traffic) (n : Nat) : (countTraffic s clamp k n).cmds = s.cmds := by cases k <;> rfl
@[simp] theorem countTraffic_store (clamp : Nat) (k : Traffic) (n : Nat) : (countTraffic s clamp k n).store = s.store := by cases k <;> rfl
@[simp] theorem countTraffic_layoutGen (clamp : Nat) (k : Traffic) (n : Nat) : (countTraffic s clamp k n).layoutGen = s.layoutGen := by cases k <;> rfl
@[simp] theorem countTraffic_kiln (clamp : Nat) (k : Traffic) (n : Nat) : (countTraffic s clamp k n).kiln = s.kiln := by cases k <;> rfl
@[simp] theorem countTraffic_exrad (clamp : Nat) (k : Traffic) (n : Nat) : (countTraffic s clamp k n).exrad = s.exrad := by cases k <;> rfl
@[simp] theorem countTraffic_serve (clamp : Nat) (k : Traffic) (n : Nat) : (countTraffic s clamp k n).serve = s.serve := by cases k <;> rfl
@[simp] theorem countTraffic_flue (clamp : Nat) (k : Traffic) (n : Nat) : (countTraffic s clamp k n).flue = s.flue := by cases k <;> rfl
@[simp] theorem countTraffic_pwr (clamp : Nat) (k : Traffic) (n : Nat) : (countTraffic s clamp k n).pwr = s.pwr := by cases k <;> rfl
@[simp] theorem countTraffic_sec (clamp : Nat) (k : Traffic) (n : Nat) : (countTraffic s clamp k n).sec = s.sec := by cases k <;> rfl
@[simp] theorem countTraffic_evt (clamp : Nat) (k : Traffic) (n : Nat) : (countTraffic s clamp k n).evt = s.evt := by cases k <;> rfl
@[simp] theorem countTraffic_i3c (clamp : Nat) (k : Traffic) (n : Nat) : (countTraffic s clamp k n).i3c = s.i3c := by cases k <;> rfl
@[simp] theorem countTraffic_out (clamp : Nat) (k : Traffic) (n : Nat) : (countTraffic s clamp k n).out = s.out := by cases k <;> rfl
@[simp] theorem countTraffic_freeCount (clamp : Nat) (k : Traffic) (n : Nat) : (countTraffic s clamp k n).freeCount = s.freeCount := by cases k <;> rfl
@[simp] theorem countTraffic_pending (clamp : Nat) (k : Traffic) (n : Nat) : (countTraffic s clamp k n).pending = s.pending := by cases k <;> rfl

/-! ## serveBursts -/

@[simp] theorem serveBursts_now (k : Traffic) (n chan : Nat) : (serveBursts s k n chan).now = s.now := rfl
@[simp] theorem serveBursts_rst (k : Traffic) (n chan : Nat) : (serveBursts s k n chan).rst = s.rst := rfl
@[simp] theorem serveBursts_fns (k : Traffic) (n chan : Nat) : (serveBursts s k n chan).fns = s.fns := rfl
@[simp] theorem serveBursts_ctxs (k : Traffic) (n chan : Nat) : (serveBursts s k n chan).ctxs = s.ctxs := rfl
@[simp] theorem serveBursts_slots (k : Traffic) (n chan : Nat) : (serveBursts s k n chan).slots = s.slots := rfl
@[simp] theorem serveBursts_cmds (k : Traffic) (n chan : Nat) : (serveBursts s k n chan).cmds = s.cmds := rfl
@[simp] theorem serveBursts_clamps (k : Traffic) (n chan : Nat) : (serveBursts s k n chan).clamps = s.clamps := rfl
@[simp] theorem serveBursts_layoutGen (k : Traffic) (n chan : Nat) : (serveBursts s k n chan).layoutGen = s.layoutGen := rfl
@[simp] theorem serveBursts_exrad (k : Traffic) (n chan : Nat) : (serveBursts s k n chan).exrad = s.exrad := rfl
@[simp] theorem serveBursts_serve (k : Traffic) (n chan : Nat) : (serveBursts s k n chan).serve = s.serve := rfl
@[simp] theorem serveBursts_flue (k : Traffic) (n chan : Nat) : (serveBursts s k n chan).flue = s.flue := rfl
@[simp] theorem serveBursts_kiln (k : Traffic) (n chan : Nat) : (serveBursts s k n chan).kiln = s.kiln := rfl
@[simp] theorem serveBursts_sec (k : Traffic) (n chan : Nat) : (serveBursts s k n chan).sec = s.sec := rfl
@[simp] theorem serveBursts_evt (k : Traffic) (n chan : Nat) : (serveBursts s k n chan).evt = s.evt := rfl
@[simp] theorem serveBursts_i3c (k : Traffic) (n chan : Nat) : (serveBursts s k n chan).i3c = s.i3c := rfl
@[simp] theorem serveBursts_out (k : Traffic) (n chan : Nat) : (serveBursts s k n chan).out = s.out := rfl
@[simp] theorem serveBursts_freeCount (k : Traffic) (n chan : Nat) : (serveBursts s k n chan).freeCount = s.freeCount := rfl
@[simp] theorem serveBursts_pending (k : Traffic) (n chan : Nat) : (serveBursts s k n chan).pending = s.pending := rfl

/-! ## noteHits -/

@[simp] theorem noteHits_now (h : Handle) (sods : List Nat) : (noteHits s h sods).now = s.now := rfl
@[simp] theorem noteHits_rst (h : Handle) (sods : List Nat) : (noteHits s h sods).rst = s.rst := rfl
@[simp] theorem noteHits_fns (h : Handle) (sods : List Nat) : (noteHits s h sods).fns = s.fns := rfl
@[simp] theorem noteHits_ctxs (h : Handle) (sods : List Nat) : (noteHits s h sods).ctxs = s.ctxs := rfl
@[simp] theorem noteHits_slots (h : Handle) (sods : List Nat) : (noteHits s h sods).slots = s.slots := rfl
@[simp] theorem noteHits_cmds (h : Handle) (sods : List Nat) : (noteHits s h sods).cmds = s.cmds := rfl
@[simp] theorem noteHits_clamps (h : Handle) (sods : List Nat) : (noteHits s h sods).clamps = s.clamps := rfl
@[simp] theorem noteHits_layoutGen (h : Handle) (sods : List Nat) : (noteHits s h sods).layoutGen = s.layoutGen := rfl
@[simp] theorem noteHits_kiln (h : Handle) (sods : List Nat) : (noteHits s h sods).kiln = s.kiln := rfl
@[simp] theorem noteHits_exrad (h : Handle) (sods : List Nat) : (noteHits s h sods).exrad = s.exrad := rfl
@[simp] theorem noteHits_serve (h : Handle) (sods : List Nat) : (noteHits s h sods).serve = s.serve := rfl
@[simp] theorem noteHits_flue (h : Handle) (sods : List Nat) : (noteHits s h sods).flue = s.flue := rfl
@[simp] theorem noteHits_pwr (h : Handle) (sods : List Nat) : (noteHits s h sods).pwr = s.pwr := rfl
@[simp] theorem noteHits_sec (h : Handle) (sods : List Nat) : (noteHits s h sods).sec = s.sec := rfl
@[simp] theorem noteHits_evt (h : Handle) (sods : List Nat) : (noteHits s h sods).evt = s.evt := rfl
@[simp] theorem noteHits_i3c (h : Handle) (sods : List Nat) : (noteHits s h sods).i3c = s.i3c := rfl
@[simp] theorem noteHits_out (h : Handle) (sods : List Nat) : (noteHits s h sods).out = s.out := rfl
@[simp] theorem noteHits_freeCount (h : Handle) (sods : List Nat) : (noteHits s h sods).freeCount = s.freeCount := rfl
@[simp] theorem noteHits_pending (h : Handle) (sods : List Nat) : (noteHits s h sods).pending = s.pending := rfl

/-! ## charge -/

@[simp] theorem charge_now (ctx : Nat) (k : EngineClass) (since : Nat) : (charge s ctx k since).now = s.now := rfl
@[simp] theorem charge_rst (ctx : Nat) (k : EngineClass) (since : Nat) : (charge s ctx k since).rst = s.rst := rfl
@[simp] theorem charge_fns (ctx : Nat) (k : EngineClass) (since : Nat) : (charge s ctx k since).fns = s.fns := rfl
@[simp] theorem charge_slots (ctx : Nat) (k : EngineClass) (since : Nat) : (charge s ctx k since).slots = s.slots := rfl
@[simp] theorem charge_cmds (ctx : Nat) (k : EngineClass) (since : Nat) : (charge s ctx k since).cmds = s.cmds := rfl
@[simp] theorem charge_store (ctx : Nat) (k : EngineClass) (since : Nat) : (charge s ctx k since).store = s.store := rfl
@[simp] theorem charge_clamps (ctx : Nat) (k : EngineClass) (since : Nat) : (charge s ctx k since).clamps = s.clamps := rfl
@[simp] theorem charge_layoutGen (ctx : Nat) (k : EngineClass) (since : Nat) : (charge s ctx k since).layoutGen = s.layoutGen := rfl
@[simp] theorem charge_kiln (ctx : Nat) (k : EngineClass) (since : Nat) : (charge s ctx k since).kiln = s.kiln := rfl
@[simp] theorem charge_exrad (ctx : Nat) (k : EngineClass) (since : Nat) : (charge s ctx k since).exrad = s.exrad := rfl
@[simp] theorem charge_serve (ctx : Nat) (k : EngineClass) (since : Nat) : (charge s ctx k since).serve = s.serve := rfl
@[simp] theorem charge_flue (ctx : Nat) (k : EngineClass) (since : Nat) : (charge s ctx k since).flue = s.flue := rfl
@[simp] theorem charge_pwr (ctx : Nat) (k : EngineClass) (since : Nat) : (charge s ctx k since).pwr = s.pwr := rfl
@[simp] theorem charge_sec (ctx : Nat) (k : EngineClass) (since : Nat) : (charge s ctx k since).sec = s.sec := rfl
@[simp] theorem charge_evt (ctx : Nat) (k : EngineClass) (since : Nat) : (charge s ctx k since).evt = s.evt := rfl
@[simp] theorem charge_i3c (ctx : Nat) (k : EngineClass) (since : Nat) : (charge s ctx k since).i3c = s.i3c := rfl
@[simp] theorem charge_out (ctx : Nat) (k : EngineClass) (since : Nat) : (charge s ctx k since).out = s.out := rfl
@[simp] theorem charge_freeCount (ctx : Nat) (k : EngineClass) (since : Nat) : (charge s ctx k since).freeCount = s.freeCount := rfl
@[simp] theorem charge_pending (ctx : Nat) (k : EngineClass) (since : Nat) : (charge s ctx k since).pending = s.pending := rfl

/-! ## discardIn -/

@[simp] theorem discardIn_now (clamp : Nat) (k : EngineClass) (since : Nat) : (discardIn s clamp k since).now = s.now := rfl
@[simp] theorem discardIn_rst (clamp : Nat) (k : EngineClass) (since : Nat) : (discardIn s clamp k since).rst = s.rst := rfl
@[simp] theorem discardIn_fns (clamp : Nat) (k : EngineClass) (since : Nat) : (discardIn s clamp k since).fns = s.fns := rfl
@[simp] theorem discardIn_ctxs (clamp : Nat) (k : EngineClass) (since : Nat) : (discardIn s clamp k since).ctxs = s.ctxs := rfl
@[simp] theorem discardIn_slots (clamp : Nat) (k : EngineClass) (since : Nat) : (discardIn s clamp k since).slots = s.slots := rfl
@[simp] theorem discardIn_cmds (clamp : Nat) (k : EngineClass) (since : Nat) : (discardIn s clamp k since).cmds = s.cmds := rfl
@[simp] theorem discardIn_store (clamp : Nat) (k : EngineClass) (since : Nat) : (discardIn s clamp k since).store = s.store := rfl
@[simp] theorem discardIn_layoutGen (clamp : Nat) (k : EngineClass) (since : Nat) : (discardIn s clamp k since).layoutGen = s.layoutGen := rfl
@[simp] theorem discardIn_kiln (clamp : Nat) (k : EngineClass) (since : Nat) : (discardIn s clamp k since).kiln = s.kiln := rfl
@[simp] theorem discardIn_exrad (clamp : Nat) (k : EngineClass) (since : Nat) : (discardIn s clamp k since).exrad = s.exrad := rfl
@[simp] theorem discardIn_serve (clamp : Nat) (k : EngineClass) (since : Nat) : (discardIn s clamp k since).serve = s.serve := rfl
@[simp] theorem discardIn_flue (clamp : Nat) (k : EngineClass) (since : Nat) : (discardIn s clamp k since).flue = s.flue := rfl
@[simp] theorem discardIn_pwr (clamp : Nat) (k : EngineClass) (since : Nat) : (discardIn s clamp k since).pwr = s.pwr := rfl
@[simp] theorem discardIn_sec (clamp : Nat) (k : EngineClass) (since : Nat) : (discardIn s clamp k since).sec = s.sec := rfl
@[simp] theorem discardIn_evt (clamp : Nat) (k : EngineClass) (since : Nat) : (discardIn s clamp k since).evt = s.evt := rfl
@[simp] theorem discardIn_i3c (clamp : Nat) (k : EngineClass) (since : Nat) : (discardIn s clamp k since).i3c = s.i3c := rfl
@[simp] theorem discardIn_out (clamp : Nat) (k : EngineClass) (since : Nat) : (discardIn s clamp k since).out = s.out := rfl
@[simp] theorem discardIn_freeCount (clamp : Nat) (k : EngineClass) (since : Nat) : (discardIn s clamp k since).freeCount = s.freeCount := rfl
@[simp] theorem discardIn_pending (clamp : Nat) (k : EngineClass) (since : Nat) : (discardIn s clamp k since).pending = s.pending := rfl

end Sys2Proof.Machine
end

