-- ==== Sys2Proof/WellFormed.lean ====
section
/-!
DEFINITION. Well-formed commands: every operand within the range its row's rule gives it. A command that is not well formed stands
for nothing the module can meet; `exec` is total on it all the same.
-/
namespace Sys2Proof

/-- The fields of a handle within their widths (R313). -/
def Handle.wf (h : Handle) : Bool := decide (h.ctx < 1024 ∧ h.gen < 16384 ∧ h.slot < 2 ^ 24)

/-- The fields of a packet within their widths (R291), with the parameter bytes that its param_len gives, at most 184. -/
def Packet.wf (p : Packet) : Bool :=
  decide (p.fn < 64 ∧ p.ctx < 1024 ∧ p.major < 256 ∧ p.headerLen < 256 ∧ p.paramLen < 2 ^ 16 ∧ p.seq < 2 ^ 64 ∧ p.cookie < 2 ^ 32 ∧
    p.consumed < 2 ^ 32 ∧ p.queue < 16 ∧ p.dep < 2 ^ 64) && p.params.length == min p.paramLen 184

/-- A place in memory that the module has (R14, R40). -/
def Loc.wf : Loc → Bool
  | .interleaved st m => decide (st < 12) && m != 0
  | .bank st ch b r => decide (st < 12 ∧ ch < 32 ∧ b < 32 ∧ r < 12288)
  | .bog p pg => decide (p < 16 ∧ pg < 2 ^ 24)

/-- A burst of a 4 KiB page. -/
def MemErr.wf : MemErr → Bool
  | .none => true
  | .flips b e _ => decide (b < 128) && e.length == 36
  | .tagMismatch => true

/-- The fields of a message within their widths (R373). -/
def Msg.wf (m : Msg) : Bool :=
  decide (m.dst < 65536 ∧ m.src < 65536 ∧ m.dctx < 65536 ∧ m.sctx < 65536 ∧ m.status < 256 ∧ m.epoch < 65536 ∧ m.tag < 2 ^ 64 ∧
    m.off < 2 ^ 64 ∧ m.port < 8)

/-- The fields of a frame within their widths (R366). -/
def Frame.wf (f : Frame) : Bool := decide (f.seq < 4096 ∧ f.ack < 4096 ∧ f.side < 16) && f.flit.length == 256

/-- A unit that the module has. -/
def SmoulderUnit.wf : SmoulderUnit → Bool
  | .kiln d => decide (d < 4)
  | .exrad s => decide (s < 12)
  | .bog p => decide (p < 16)

/-- A page that a patrol read can reach. -/
def PatrolTarget.wf : PatrolTarget → Bool
  | .exrad st ch b r => decide (st < 12 ∧ ch < 32 ∧ b < 32 ∧ r < 12288)
  | .tags st ch b g => decide (st < 12 ∧ ch < 32 ∧ b < 32 ∧ g < 3072)
  | .bog p pg => decide (p < 16 ∧ pg < 2 ^ 24)

/-- A start-up step of R406. -/
def StartStep.wf : StartStep → Bool
  | .kiln d n => decide (d < 4 ∧ n ≤ 64)
  | .stack s _ _ => decide (s < 12)
  | _ => true

/-- A well-formed command. -/
def Instr.wf : Instr → Bool
  | .contextNop p => Packet.wf p
  | .contextCreate p => Packet.wf p
  | .contextDestroy p => Packet.wf p
  | .contextSet p => Packet.wf p
  | .commandQuery p => Packet.wf p
  | .commandCancel p => Packet.wf p
  | .queueResume p => Packet.wf p
  | .queueFlush p => Packet.wf p
  | .flagWrite p => Packet.wf p
  | .flagRead p => Packet.wf p
  | .tensorCreate p => Packet.wf p
  | .tensorDestroy p => Packet.wf p
  | .tensorGrant p => Packet.wf p
  | .tensorRevoke p => Packet.wf p
  | .tensorRead p => Packet.wf p
  | .tensorWrite p => Packet.wf p
  | .tensorCopy p => Packet.wf p
  | .tensorFill p => Packet.wf p
  | .tensorGather p => Packet.wf p
  | .tensorInfo p => Packet.wf p
  | .shardSetCreate p => Packet.wf p
  | .shardSetDestroy p => Packet.wf p
  | .programLaunch p => Packet.wf p
  | .inbankLaunch p => Packet.wf p
  | .slaneResume p => Packet.wf p
  | .generate p => Packet.wf p
  | .requestCancel p => Packet.wf p
  | .modelRegister p => Packet.wf p
  | .modelRetire p => Packet.wf p
  | .shavingLoad p => Packet.wf p
  | .shavingReplace p => Packet.wf p
  | .shavingRetire p => Packet.wf p
  | .servingConfigure p => Packet.wf p
  | .sharingGroupSet p => Packet.wf p
  | .servingReplyEnable p => Packet.wf p
  | .requestQuery p => Packet.wf p
  | .flueSend p => Packet.wf p
  | .flueReceive p => Packet.wf p
  | .flueFlagSet p => Packet.wf p
  | .flueReduce p => Packet.wf p
  | .fluePortStatus p => Packet.wf p
  | .clampConfigure p => Packet.wf p
  | .clampStart p => Packet.wf p
  | .clampStop p => Packet.wf p
  | .clampDelete p => Packet.wf p
  | .clampAssign p => Packet.wf p
  | .clampQuery p => Packet.wf p
  | .telemetryRead p => Packet.wf p
  | .counterSelect p => Packet.wf p
  | .eventRoute p => Packet.wf p
  | .powerCapSet p => Packet.wf p
  | .scrubSet p => Packet.wf p
  | .fwStage p => Packet.wf p
  | .fwActivate p => Packet.wf p
  | .keyRevoke p => Packet.wf p
  | .debugUnlock p => Packet.wf p
  | .debugLock p => Packet.wf p
  | .debugTransitionDone nonce => nonce.length == 32
  | .repairCommit p => Packet.wf p
  | .dbgBreakSet p => Packet.wf p
  | .dbgBreakClear p => Packet.wf p
  | .dbgTileControl p => Packet.wf p
  | .dbgRead p => Packet.wf p
  | .dbgBankView p => Packet.wf p
  | .dbgBankWrite p => Packet.wf p
  | .registerWrite fn bar _ data _ => decide (fn < 64) && (bar == 0 || bar == 2) && decide (data.length ≤ 4096)
  | .firmwareDeadline fn _ ctx => decide (fn < 64) && decide (ctx < 1024)
  | .firmwareDecision fn _ ctx => decide (fn < 64) && decide (ctx < 1024)
  | .coalesceTimeout ctx => decide (ctx < 1024)
  | .nirSealMissClear fn owner => decide (fn < 64) && decide (owner < 64)
  | .nirDropCountClear fn owner => decide (fn < 64) && decide (owner < 64)
  | .poisonedCompletion fn _ _ => decide (fn < 64)
  | .evtClaimRead fn target _ => decide (fn < 64) && decide (target < 68)
  | .evtClaimWrite fn target source => decide (fn < 64) && decide (target < 68) && decide (source < 1024)
  | .evtThresholdWrite fn target value => decide (fn < 64) && decide (target < 68) && decide (value < 2 ^ 64)
  | .evtMaskWrite fn source _ => decide (fn < 64) && decide (source < 1024)
  | .maskEffect source => decide (source < 1024)
  | .warmReset fn key => decide (fn < 64) && decide (key < 2 ^ 64)
  | .clampReset fn clamp key => decide (fn < 64) && decide (clamp < 8) && decide (key < 2 ^ 64)
  | .clampResetDone clamp => decide (clamp < 8)
  | .timeReadLatch fn => decide (fn < 64)
  | .moduleIdLock fn id => decide (fn < 64) && decide (id < 2 ^ 64)
  | .pwrSmoulderWrite fn value => decide (fn < 64) && decide (value < 2 ^ 64)
  | .rw1cClear fn _ data => decide (fn < 64) && decide (data.length ≤ 4096)
  | .runPhaseStart h x => Handle.wf h && x.locs.all Loc.wf && x.errs.all fun y => Handle.wf y.1
  | .sodPromotion h locs => Handle.wf h && locs.all Loc.wf
  | .waitTimeout h => Handle.wf h
  | .sliceBoundary clamp => decide (clamp < 8)
  | .coreSwitchDone die core => decide (die < 4) && decide (core < 64)
  | .accountingPeriodEnd => true
  | .deadlockCheck => true
  | .drainLimitExpiry clamp => decide (clamp < 8)
  | .clampStopped clamp => decide (clamp < 8)
  | .tileCommit die core => decide (die < 4) && decide (core < 64)
  | .tileCommitDone die core => decide (die < 4) && decide (core < 64)
  | .commandCommit h locs => Handle.wf h && locs.all Loc.wf
  | .accessLoad die core => decide (die < 4) && decide (core < 64)
  | .accessStore die core => decide (die < 4) && decide (core < 64)
  | .setcnt die core => decide (die < 4) && decide (core < 64)
  | .cntadd die core => decide (die < 4) && decide (core < 64)
  | .accessEnd die core => decide (die < 4) && decide (core < 64)
  | .loadDataReturn die core _ err => decide (die < 4) && decide (core < 64) && MemErr.wf err
  | .delay die core => decide (die < 4) && decide (core < 64)
  | .setReg die core => decide (die < 4) && decide (core < 64)
  | .execLoop die core => decide (die < 4) && decide (core < 64)
  | .beos die core => decide (die < 4) && decide (core < 64)
  | .execTag die core => decide (die < 4) && decide (core < 64)
  | .execEnd die core => decide (die < 4) && decide (core < 64)
  | .tld die core => decide (die < 4) && decide (core < 64)
  | .mma die core => decide (die < 4) && decide (core < 64)
  | .tfl die core => decide (die < 4) && decide (core < 64)
  | .vadd die core => decide (die < 4) && decide (core < 64)
  | .vsub die core => decide (die < 4) && decide (core < 64)
  | .vmul die core => decide (die < 4) && decide (core < 64)
  | .vfma die core => decide (die < 4) && decide (core < 64)
  | .vmin die core => decide (die < 4) && decide (core < 64)
  | .vmax die core => decide (die < 4) && decide (core < 64)
  | .vcmp die core => decide (die < 4) && decide (core < 64)
  | .vsel die core => decide (die < 4) && decide (core < 64)
  | .vfn die core => decide (die < 4) && decide (core < 64)
  | .vchs die core => decide (die < 4) && decide (core < 64)
  | .vsmx die core => decide (die < 4) && decide (core < 64)
  | .vmrg die core => decide (die < 4) && decide (core < 64)
  | .vcvt die core => decide (die < 4) && decide (core < 64)
  | .vmov die core => decide (die < 4) && decide (core < 64)
  | .vbc die core => decide (die < 4) && decide (core < 64)
  | .qpop die core => decide (die < 4) && decide (core < 64)
  | .qpush die core => decide (die < 4) && decide (core < 64)
  | .slaneHaltTimeout h => Handle.wf h
  | .processorModeRequest stack chan _ => decide (stack < 12) && decide (chan < 32)
  | .memoryModeRequest stack chan => decide (stack < 12) && decide (chan < 32)
  | .processorModeEntered stack chan => decide (stack < 12) && decide (chan < 32)
  | .memoryModeEntered stack chan => decide (stack < 12) && decide (chan < 32)
  | .holdLimitExpiry stack chan => decide (stack < 12) && decide (chan < 32)
  | .embStart stack chan unit entry partTag => decide (stack < 12) && decide (chan < 32) && decide (unit < 16) && decide (entry < 256) && decide (partTag < 2 ^ 24)
  | .embStop stack chan unit => decide (stack < 12) && decide (chan < 32) && decide (unit < 16)
  | .embResume stack chan unit => decide (stack < 12) && decide (chan < 32) && decide (unit < 16)
  | .embStatusClear stack chan unit => decide (stack < 12) && decide (chan < 32) && decide (unit < 16)
  | .refreshDue stack chan => decide (stack < 12) && decide (chan < 32)
  | .refreshComplete stack chan => decide (stack < 12) && decide (chan < 32)
  | .rowReseal stack chan bank row err => decide (stack < 12) && decide (chan < 32) && decide (bank < 32) && decide (row < 12288) && MemErr.wf err
  | .trigVreg h _ _ write => Handle.wf h && (write.getD []).length ≤ 32 |> decide
  | .trigBbuf h _ _ write => Handle.wf h && (write.getD []).length ≤ 32 |> decide
  | .trigUstore h _ _ write => Handle.wf h && (write.getD []).length ≤ 32 |> decide
  | .trigArg h _ _ write => Handle.wf h && (write.getD []).length ≤ 32 |> decide
  | .trigCmd h _ _ write => Handle.wf h && (write.getD []).length ≤ 32 |> decide
  | .trigWait h _ _ write => Handle.wf h && (write.getD []).length ≤ 32 |> decide
  | .emberNop stack chan unit => decide (stack < 12) && decide (chan < 32) && decide (unit < 16)
  | .emberEnd stack chan unit err => decide (stack < 12) && decide (chan < 32) && decide (unit < 16) && MemErr.wf err
  | .emberYield stack chan unit => decide (stack < 12) && decide (chan < 32) && decide (unit < 16)
  | .emberLoop stack chan unit => decide (stack < 12) && decide (chan < 32) && decide (unit < 16)
  | .emberFence stack chan unit => decide (stack < 12) && decide (chan < 32) && decide (unit < 16)
  | .seta stack chan unit => decide (stack < 12) && decide (chan < 32) && decide (unit < 16)
  | .adda stack chan unit => decide (stack < 12) && decide (chan < 32) && decide (unit < 16)
  | .setb stack chan unit => decide (stack < 12) && decide (chan < 32) && decide (unit < 16)
  | .setf stack chan unit => decide (stack < 12) && decide (chan < 32) && decide (unit < 16)
  | .tset stack chan unit => decide (stack < 12) && decide (chan < 32) && decide (unit < 16)
  | .ldv stack chan unit => decide (stack < 12) && decide (chan < 32) && decide (unit < 16)
  | .stv stack chan unit => decide (stack < 12) && decide (chan < 32) && decide (unit < 16)
  | .shv stack chan unit => decide (stack < 12) && decide (chan < 32) && decide (unit < 16)
  | .strm stack chan unit => decide (stack < 12) && decide (chan < 32) && decide (unit < 16)
  | .dq stack chan unit => decide (stack < 12) && decide (chan < 32) && decide (unit < 16)
  | .mac stack chan unit => decide (stack < 12) && decide (chan < 32) && decide (unit < 16)
  | .asc stack chan unit => decide (stack < 12) && decide (chan < 32) && decide (unit < 16)
  | .asm stack chan unit => decide (stack < 12) && decide (chan < 32) && decide (unit < 16)
  | .avg stack chan unit => decide (stack < 12) && decide (chan < 32) && decide (unit < 16)
  | .acl stack chan unit => decide (stack < 12) && decide (chan < 32) && decide (unit < 16)
  | .afl stack chan unit => decide (stack < 12) && decide (chan < 32) && decide (unit < 16)
  | .asl stack chan unit => decide (stack < 12) && decide (chan < 32) && decide (unit < 16)
  | .sodMigration t _ dest err => Handle.wf t && Loc.wf dest && MemErr.wf err
  | .sodRebuild t _ dest _ => Handle.wf t && Loc.wf dest
  | .scrubPassStart => true
  | .patrolRead target err => PatrolTarget.wf target && MemErr.wf err
  | .scrubPassEnd _ => true
  | .ashWindowEnd => true
  | .counterWindowEnd => true
  | .servingAdmission _ => true
  | .prefillCommand clamp _ _ => decide (clamp < 8)
  | .decodeStep clamp _ _ => decide (clamp < 8)
  | .commitSlot clamp => decide (clamp < 8)
  | .servingHandover _ => true
  | .flueIdle port f => decide (port < 8) && Frame.wf f
  | .flueFlit port f => decide (port < 8) && Frame.wf f
  | .replayRequest port f => decide (port < 8) && Frame.wf f
  | .retrainRequest port f => decide (port < 8) && Frame.wf f
  | .laneLockLoss port lane => decide (port < 8) && decide (lane < 5)
  | .fecWindowEnd port corrected => decide (port < 8) && corrected.length == 5
  | .retrainDone port failed partner => decide (port < 8) && failed.all (fun l => decide (l < 5)) && decide (partner < 65535)
  | .retrainAttemptEnd port failed => decide (port < 8) && failed.all (fun l => decide (l < 5))
  | .trainingAttempt port => decide (port < 8)
  | .probeDue partner => decide (partner < 65535)
  | .pairSilenceTimeout partner => decide (partner < 65535)
  | .flueReady m => Msg.wf m
  | .flueWithdraw m => Msg.wf m
  | .flueData m => Msg.wf m
  | .flueRefuse m => Msg.wf m
  | .flueReopen m => Msg.wf m
  | .flueConfirm m => Msg.wf m
  | .flueAbort m => Msg.wf m
  | .flueDecline m => Msg.wf m
  | .flueFlag m => Msg.wf m
  | .flagAnswer m => Msg.wf m
  | .flueOffer m => Msg.wf m
  | .flueCancel m => Msg.wf m
  | .flueHello m => Msg.wf m
  | .flueProbe m => Msg.wf m
  | .flueRoute m => Msg.wf m
  | .flueUnreachable m => Msg.wf m
  | .transferTimeout h => Handle.wf h
  | .hostReadCompletion h _ _ => Handle.wf h
  | .completionTimeout h => Handle.wf h
  | .tlpIntegrityFailure stream => decide (stream < 8)
  | .thermalSample readings => readings.length == 16
  | .avsCurrentSample zones => zones.length == 8
  | .auxRailSample millivolts milliamps => millivolts.length == 7 && milliamps.length == 7
  | .powerWindowFast _ => true
  | .powerWindow1ms _ => true
  | .graceEnd => true
  | .setpointStep _ => true
  | .supplySag _ _ _ => true
  | .stretchEnd => true
  | .nvHoldEnd => true
  | .vcoreCollapse => true
  | .vstbyLow => true
  | .powerCycle => true
  | .smoulderEntry u => SmoulderUnit.wf u
  | .smoulderWake crossing => decide (crossing < 64)
  | .perstAssert => true
  | .perstRelease _ _ nonce => nonce.length == 32
  | .refclkLoss => true
  | .rootPllLock => true
  | .startupStepDone step => StartStep.wf step
  | .startupStepLimit step => StartStep.wf step
  | .watchdogService => true
  | .watchdogExpiry => true
  | .functionLevelReset fn => decide (fn < 64)
  | .svnBurn => true
  | .getVersion fn _ _ => decide (fn < 64)
  | .getCapabilities fn _ _ => decide (fn < 64)
  | .negotiateAlgorithms fn _ _ => decide (fn < 64)
  | .getDigests fn _ _ => decide (fn < 64)
  | .getCertificate fn _ _ => decide (fn < 64)
  | .spdmChallenge fn _ _ => decide (fn < 64)
  | .getMeasurements fn _ _ => decide (fn < 64)
  | .keyExchange fn _ _ => decide (fn < 64)
  | .spdmFinish fn _ _ => decide (fn < 64)
  | .endSession fn _ _ => decide (fn < 64)
  | .keyUpdate fn _ _ => decide (fn < 64)
  | .ideKm fn _ _ => decide (fn < 64)
  | .jtagBypass => true
  | .jtagIdcode => true
  | .samplePreload => true
  | .jtagExtest => true
  | .jtagHighz => true
  | .dbgacc => true
  | .entdaa address => decide (address < 128)
  | .setdasa static address => decide (static < 128) && decide (address < 128)
  | .rstdaa => true
  | .getpid => true
  | .getbcr => true
  | .getdcr => true
  | .getstatus => true
  | .i3cIndexWrite _ => true
  | .i3cPrivateRead => true
  | .powerOn => true
  | .refclkReturn => true
  | .hostLinkDown => true
  | .nvWriteDone => true
  | .setpointStepDone => true
  | .vfEnable count => decide (count < 64)
  | .doeDiscovery fn index => decide (fn < 64) && decide (index < 256)

end Sys2Proof
end

