-- ==== Sys2Proof/Tests/Slice0.lean ====
section
/-!
SUPPORT. Tests of the model: well-formedness, values worked out from the spec's own words, and for every statement a state and operands that
meet its hypotheses.
-/
namespace Sys2Proof.Tests

open Sys2Proof Sys2Proof.Machine

-- one theorem at a time: a thread for each of them needs more memory than the tests do
set_option Elab.async false

/-! ## A small ready module -/

/-- A handle of context 1. -/
def hd (n : Nat) : Handle := { ctx := 1, gen := 1, slot := n }

/-- A tensor of bytes, with the sods given. -/
def bytesT (n bytes : Nat) (sods : Table Sod) : Tensor :=
  { handle := hd n, clamp := 0, fmt := 0x10, shape := [bytes], localShape := [bytes], useHint := 0, bytes := bytes, sods := sods }

/-- Bytes as a stored sod. -/
def stored (bs : List Byte) : Sod := mkSod (memOf bs) none

/-- Context 1 of function 0. -/
def ctx1 : Ctx := { fn := 0, clamp := 0, ringEntries := 256 }

/-- Clamp 0 runs on every core, channel and page. -/
def clamp0 : Clamp :=
  { state := .running, maxCtx := 128, bogShare := 100, landingShare := 64, hostShare := 50, flueShare := 50, slice := 100000
    cores := [BitVec.allOnes 64, BitVec.allOnes 64, BitVec.allOnes 64, BitVec.allOnes 64], chans := List.replicate 12 (BitVec.allOnes 32) }

/-- A module whose start-up is over, with a context and a running clamp, linked to module 7. -/
def base : State :=
  { rst := { perst := false, rootLocked := true, ready := BitVec.ofNat 64 (2 ^ 37 - 1), hostLink := .ok, kindling := .ok, security := .ok
             kiln := List.replicate 4 .ok, training := List.replicate 12 .ok, bog := .ok, serving := .ok, cores := [64, 64, 64, 64]
             bogChans := BitVec.allOnes 64 }
    ctxs := [(1, ctx1)]
    clamps := clamp0 :: { state := .stopped, maxCtx := 8 } :: List.replicate 6 {}
    store := { tensors := [bytesT 1 4096 [], bytesT 2 655360 []] }
    flue := { moduleId := 5, lock := true, ports := { state := .up, partner := 7, reach := [7] } :: List.replicate 7 {}
              pairs := [(7, { port := 0, epoch := 3 })] }
    now := 1000000 }

/-- A packet of context 1. -/
def pk (b : List Byte) : Packet := { fn := 0, ctx := 1, seq := 1, paramLen := 8 * ceilDiv b.length 8, params := slice b 0 (8 * ceilDiv b.length 8) }

/-! ## Packets that are decided at once -/

/-- `Admitted` as a computation. -/
def admitted (op : Nat) (s : State) (p : Packet) (c : Ctx) : Bool :=
  takesPackets s p.fn && !p.boot && ctxOf s p.ctx == some c && c.fn == p.fn && !c.ending && !c.serving && c.taken == []
    && !(p.choice.fwHeld && byFirmware s false op) && (seqTest c.seen c.retry p.seq).isNone && (formTest p).isNone && creditOk c p.consumed
    && decide (((ctxOf (facing s p c) p.ctx).map fun x => x.held.length).getD 0 < 64)
    && match opInfo op with
      | some x => (opTests (facing s p c) (packetSender p) x p).isNone && (!x.queued || !queueFull (facing s p c) p.ctx p.queue)
      | none => false

theorem admitted_of {op : Nat} {s : State} {p : Packet} {c : Ctx} (h : admitted op s p c = true) : Admitted op s p c := by
  simp only [admitted, Bool.and_eq_true] at h
  obtain ⟨⟨⟨⟨⟨⟨⟨⟨⟨⟨⟨⟨a, b⟩, d⟩, e⟩, f⟩, g⟩, i⟩, j⟩, k⟩, l⟩, m⟩, n⟩, o⟩ := h
  refine ⟨a, by simpa using b, by simpa using d, by simpa using e, by simpa using f, by simpa using g, by simpa using i,
    by simpa only [Bool.not_eq_true', Bool.not_eq_eq_eq_not, Bool.not_true] using j, by simpa using k, by simpa using l, m, by simpa using n, ?_⟩
  split at o
  · rename_i x hx
    simp only [Bool.and_eq_true] at o
    refine ⟨x, hx, by simpa using o.1, fun hq => ?_⟩
    have := o.2
    simp only [hq, Bool.not_true, Bool.false_or] at this
    simpa using this
  · simp at o

theorem some_of_any {α : Type} {o : Option α} {q : α → Bool} (h : o.any q = true) : ∃ c, o = some c ∧ q c = true := by
  cases o with
  | none => cases h
  | some c => exact ⟨c, rfl, h⟩

theorem ex_of {α : Type} {o : Option α} {P : α → Prop} [DecidablePred P] (h : o.any (fun c => decide (P c)) = true) :
    ∃ c, o = some c ∧ P c := by
  cases o with
  | none => cases h
  | some c => exact ⟨c, rfl, of_decide_eq_true h⟩

theorem all_of {α : Type} {o : Option α} {P : α → Prop} (h : o.isNone = true) : ∀ x, o = some x → P x := by
  intro x e; rw [e] at h; cases h

theorem not_some {α : Type} {o : Option α} (h : o.isNone = true) {x : α} (e : o = some x) : False := by rw [e] at h; cases h

/-- A packet that is decided at once and that meets a condition. -/
def Met (op : Nat) (s : State) (b : List Byte) (P : State → Packet → Prop) : Prop :=
  ∃ c, Admitted op s (pk b) c ∧ P (facing s (pk b) c) (pk b)

/-- A parameter block from its fields: offset, width, value. -/
def blk (l : List (Nat × Nat × Nat)) : List Byte := rdBytes (l.foldl (fun m f => wrBytes m f.1 (natLE f.2.1 f.2.2)) []) 0 184

/-- A command that runs. -/
def cmd9 : Cmd := { handle := hd 9, queue := some 0, work := .tensorDestroy (hd 1), phase := .run, done := true }

/-- The module with that command in flight. -/
def busy : State := { base with cmds := [cmd9] }

/-! ## Reads of stored bytes -/

theorem stored_good (bs : List Byte) : tagFails (stored bs) = false := by simp [tagFails, stored, mkSod]

theorem rejoin_quiet {s : State} {n : Nat} (h : (s.serve.reqs.filter fun q => q.replyCtx == n && q.stalled && q.live) = []) :
    rejoin s n = s := by simp [rejoin, h]

theorem takeCredit_store {s : State} {n v : Nat} {c : Ctx} (hc : ctxOf s n = some c) (h : c.held = []) :
    (takeCredit s n v).store = s.store ∧ (takeCredit s n v).serve = s.serve := by
  have e : tget? (tset s.ctxs n { c with consumed := v % 2 ^ 32 }) n = some { c with consumed := v % 2 ^ 32 } := tget?_tset_same _ _ _
  have f : takeCredit s n v = flushRing { s with
      ctxs := tset s.ctxs n { c with consumed := v % 2 ^ 32 }
      slots := tokensConsumed (tmod s.slots n fun t => slotsConsumed t c.consumed (v % 2 ^ 32)) n c.consumed (v % 2 ^ 32) } n := by
    simp only [takeCredit, hc]
  rw [f]
  simp only [flushRing, ctxOf]
  rw [e]
  simp [h, flushHeld]

theorem facing_store {s : State} {p : Packet} {c c' : Ctx} (hc : ctxOf s p.ctx = some c') (h : c'.held = [])
    (hr : (s.serve.reqs.filter fun q => q.replyCtx == p.ctx && q.stalled && q.live) = []) : (facing s p c).store = s.store := by
  have e : ctxOf (landed s p) p.ctx = some { c' with slot := (c'.slot + 1) % 16, taken := [] } := by
    simp only [ctxOf, landed, modCtx, tget?_tmod] at hc ⊢
    simp [hc]
  simp only [facing, packetCredit, e]
  split
  · have k := takeCredit_store (v := p.consumed) e h
    rw [rejoin_quiet (by rw [k.2]; exact hr), k.1]; rfl
  · rfl

theorem firstBad_stored (bs : List Byte) (ks : List Nat) : firstBad [(0, stored bs)] ks = none := by
  simp only [firstBad, List.find?_eq_none]
  intro k _
  by_cases e : 0 = k <;> simp [tget?, e, stored, mkSod, tagFails]
theorem tensor_of {s : State} {p : Packet} {c : Ctx} {h h' : Handle} {l : List Tensor} {t : Tensor} (hl : s.store.tensors = l)
    (hh : h = h')
    (hc : (ctxOf s p.ctx).any (fun c => c.held.isEmpty) = true)
    (hr : (s.serve.reqs.filter fun q => q.replyCtx == p.ctx && q.stalled && q.live).isEmpty = true)
    (ht : l.find? (fun t => t.handle == h' && !t.destroyed) = some t) : tensorOf (facing s p c) h = some t := by
  obtain ⟨c', e⟩ := Option.any_eq_true .. |>.1 hc
  rw [tensorOf, facing_store e.1 (by simpa using e.2) (by simpa using hr), hl, hh, ht]

theorem read_of {s : State} {n : Nat} {h : Handle} {off len limit : Nat} {t : Tensor} {x : List Byte} (ht : tensorOf s h = some t)
    (hb : ∀ ks, firstBad t.sods ks = none) (hx : readView t.sods 0 off len = x)
    (hc : (t.fmt == 0x10 && decide (len ≤ limit) && decide (off + len ≤ t.bytes) && mayRead t n) = true) :
    readParamTensor s n h off len limit = .ok x := by
  simp only [Bool.and_eq_true, beq_iff_eq, decide_eq_true_eq] at hc
  obtain ⟨⟨⟨a, b⟩, c⟩, d⟩ := hc
  simp only [readParamTensor, ht]
  rw [if_neg (by omega), if_neg (by simp [d])]
  simp [checkSods, hb, hx]

theorem image_of {s : State} {l : Launch} {t : Tensor} (ht : tensorOf s l.program = some t) (hb : ∀ ks, firstBad t.sods ks = none)
    (hc : (let a := (imageSizes (readView t.sods 0 0 8)).1
      let x := (imageSizes (readView t.sods 0 0 8)).2
      decide (8 ≤ t.bytes ∧ a ≠ 0 ∧ a ≤ 16777216 ∧ x ≠ 0 ∧ x ≤ 16777216 ∧ instrOffset a x ≤ t.bytes)
        && (List.range a).all fun i =>
          let e := decodeEntry (readView t.sods 0 (entryOffset i) 64)
          !((e.opcode == 1 || e.opcode == 2) && !slotBound l e.slot)) = true) : badImage s l = false := by
  simp only [Bool.and_eq_true, decide_eq_true_eq, List.all_eq_true] at hc
  obtain ⟨⟨h1, h2, h3, h4, h5, h6⟩, h7⟩ := hc
  simp only [badImage, ht, hb]
  simp only [Option.isSome_none, Bool.false_eq_true, if_false, Bool.or_eq_false_iff, decide_eq_false_iff_not, List.any_eq_false]
  refine ⟨by omega, fun i hi => ?_⟩
  have := h7 i hi
  simp only [badSlotEntry, hb, Option.isSome_none, Bool.false_eq_true, if_false]
  simp only [Bool.not_eq_true', Bool.not_eq_true] at this ⊢
  exact this

theorem noBad (ks : List Nat) : firstBad [] ks = none := by simp [firstBad, tget?]

theorem graph_of {s : State} {k : Nat} {h : Handle} {t : Tensor} (ht : tensorOf s h = some t) (hb : ∀ ks, firstBad t.sods ks = none)
    (hc : badGraph s k t = false) : badGraphHandle s k h = false := by
  simp [badGraphHandle, ht, hb, hc]

/-! ## States for the packets that need more -/

/-- A parameter block of some length. -/
def blkN (n : Nat) (l : List (Nat × Nat × Nat)) : List Byte := rdBytes (l.foldl (fun m f => wrBytes m f.1 (natLE f.2.1 f.2.2)) []) 0 n

/-- The module with debug access open. -/
def unlocked : State := { base with sec := { base.sec with debug := .unlocked } }

/-- A tile of cmd9, halted. -/
def tile3 : Tile := { cmd := hd 9, index := 3, die := 0, core := 0, fromDie := 0, fromCore := 0, halted := true }

def unlockedTile : State := { unlocked with cmds := [cmd9], kiln := { tiles := [tile3] } }
def unlockedView : State := { unlocked with exrad := { chans := [(0, { trained := true, mode := .bankView })] } }

/-- The module with every clamp quiet. -/
def quietBase : State := { base with clamps := { clamp0 with state := .stopped } :: List.replicate 7 {} }

/-- A small model, a shaving of it, a serving clamp and a request. -/
def model77 : Model :=
  { clamp := 0, fingerprint := 77, vocab := 16, layers := 1, kvHeads := 1, kvFmt := 0x02, maxSeq := 64, prefill := hd 1, stepGraph := hd 1, handle := hd 7 }
def block2 : ReqBlock :=
  { promptLen := 2, maxNew := 4, seed := 0, temperature := 0, topP := fpOne, topK := 0, cacheOutput := false, endTokens := [3]
    stopSeqs := [[5, 6]], flushEvery := 1, prompt := [1, 2] }
def req6 : Req :=
  { id := 0, handle := hd 6, clamp := 0, model := 77, shaving := 0, block := block2, targetKind := 0, targetModule := 0, targetClamp := 0
    replyCtx := 1, replyHandle := hd 6 }
def promptBytes : List Byte :=
  blkN 520 [(0, 4, 2), (4, 4, 4), (20, 4, 0x3F800000), (31, 1, 1), (512, 4, 1), (516, 4, 2)]
/-- A patch tensor of one block of 8 entries, of which the last carries row_end (R225). -/
def patchBytes : List Byte := blkN 32 [(29, 1, 0x40)]
def serving0 : ServingCfg :=
  { ctx := 2, weight := 1, maxRequests := 8, maxBatch := 4, turfExrad := 1, turfBog := 0, prefillChunk := 128, prefixEntries := 0 }
def served : State :=
  { base with
    ctxs := [(1, { ctx1 with replyEnabled := true }), (2, { fn := 0, clamp := 0, serving := true })]
    clamps := { clamp0 with serving := some serving0 } :: List.replicate 7 {}
    store := { tensors := [bytesT 1 4096 [], bytesT 5 4096 [(0, stored promptBytes)], bytesT 8 32 [(0, stored patchBytes)]] }
    serve := { models := [model77], reqs := [req6], nextReq := 1
               versions := [{ clamp := 0, model := 77, number := 1, fingerprint := 8, patch := hd 1, size := 0, current := true }] } }
def servedCtx : Ctx := { ctx1 with replyEnabled := true }

/-- A launch, an in-bank block and a program of an END in each stream. -/
def programBytes : List Byte := blkN 256 [(0, 4, 1), (4, 4, 1), (64, 1, 0x1F), (128, 1, 0x06)]
def launchBytes : List Byte := blkN 1152 [(0, 8, Handle.encode (hd 6)), (8, 1, 1), (16, 4, 1)]
def inbankBytes : List Byte :=
  blkN 304 [(0, 8, Handle.encode (hd 6)), (8, 4, 1), (13, 1, 1), (80, 8, Handle.encode (hd 1)), (96, 4, 32), (112, 8, Handle.encode (hd 1))]
def launching : State :=
  { base with exrad := { chans := [(0, { trained := true })] }, store := { tensors := [bytesT 1 4096 [], bytesT 3 4096 [(0, stored launchBytes)], bytesT 4 4096 [(0, stored inbankBytes)],
                                     bytesT 6 4096 [(0, stored programBytes)]] } }

/-- A graph of one in-bank launch. -/
def graphBytes : List Byte :=
  blkN 376 [(0, 2, 1), (2, 1, 1), (64, 1, 2), (68, 4, 72), (72, 8, Handle.encode (hd 6)), (80, 4, 1), (85, 1, 1),
    (152, 8, Handle.encode (hd 1)), (168, 4, 32), (184, 8, Handle.encode (hd 1))]
def graphed : State :=
  { base with store := { tensors := [bytesT 1 4096 [], bytesT 6 4096 [(0, stored programBytes)], bytesT 7 376 [(0, stored graphBytes)]] } }

/-- A tensor split along the axis of a set of two modules, and the destination of its reduction. -/
def set8 : ShardSet := { handle := hd 8, clamps := false, members := [5, 7], sizes := [2], position := 0 }
def split3 : Tensor :=
  { handle := hd 3, clamp := 0, fmt := 0x10, shape := [256], localShape := [128], useHint := 0, bytes := 128, shardSet := hd 8
    shards := [{ split := true, axis := 0, block := 128 }] }
def shardedState : State :=
  { base with store := { tensors := [split3, { split3 with handle := hd 4, shape := [1], localShape := [1], bytes := 1, shards := [{}] }]
                         shardSets := [set8] } }

theorem launching_tensors : launching.store.tensors = [bytesT 1 4096 [], bytesT 3 4096 [(0, stored launchBytes)],
    bytesT 4 4096 [(0, stored inbankBytes)], bytesT 6 4096 [(0, stored programBytes)]] := rfl
theorem served_tensors : served.store.tensors =
    [bytesT 1 4096 [], bytesT 5 4096 [(0, stored promptBytes)], bytesT 8 32 [(0, stored patchBytes)]] := rfl
theorem graphed_tensors : graphed.store.tensors = 
    [bytesT 1 4096 [], bytesT 6 4096 [(0, stored programBytes)], bytesT 7 376 [(0, stored graphBytes)]] := rfl

/-! ## Packets that meet what their statements ask -/

theorem test_met_contextNop :
  Met 0x0000 (base) (blk []) (fun _ _ => True) :=
  ⟨ctx1, admitted_of (by decide +kernel), trivial⟩

theorem test_met_contextCreate :
  Met 0x0001 (base) (blk [(0, 2, 0x100), (2, 2, 0x102), (6, 2, 1), (8, 8, 0x10000), (16, 4, 64), (20, 2, 1), (24, 4, 100)]) (fun s p =>
      let b := ownParams p
      let minor := ((agreedVersion (u16 b 0) (u16 b 2)).getD 0) % 256
      (agreedVersion (u16 b 0) (u16 b 2)).isSome = true ∧ badContextParams b minor = false
        ∧ (p.fn = 0 ∨ (clampOf s (u8 b 4)).state ≠ .unconfigured) ∧ (clampOf s (u8 b 4)).assign.getLsbD p.fn = true
        ∧ s.ctxs.length < 1024 ∧ clampContexts s (u8 b 4) < clampMaxCtx (clampOf s (u8 b 4))) :=
  ⟨ctx1, admitted_of (by decide +kernel), by dsimp only; decide +kernel⟩

theorem test_met_contextDestroy :
  Met 0x0002 (base) (blk [(0, 2, 1)]) (fun s p =>
      let n := u16 (ownParams p) 0
      n ≤ 1023 ∧ ∃ c, ctxOf s n = some c ∧ c.fn = p.fn ∧ c.ending = false) :=
  ⟨ctx1, admitted_of (by decide +kernel), by refine ⟨?_, ex_of ?_⟩ <;> decide +kernel⟩

theorem test_met_contextSet :
  Met 0x0003 (base) (blk []) (fun _ p =>
      let b := ownParams p
      (bit (u8 b 0) 1 = true → u64 b 8 = 0 ∨ (1000 ≤ u64 b 8 ∧ u64 b 8 ≤ 6000000000))
        ∧ (bit (u8 b 0) 3 = true → 1 ≤ u16 b 24 ∧ u16 b 24 ≤ 64 ∧ 1 ≤ u32 b 28 ∧ u32 b 28 ≤ 100000)) :=
  ⟨ctx1, admitted_of (by decide +kernel), by dsimp only; decide +kernel⟩

theorem test_met_commandQuery :
  let c : Cmd := cmd9
  Met 0x0010 (busy) (blk [(0, 8, Handle.encode (hd 9))]) (fun s p => cmdOf s (handleAt (ownParams p) 0) = some c ∧ (handleAt (ownParams p) 0).ctx = p.ctx) :=
  ⟨ctx1, admitted_of (by decide +kernel), by dsimp only; decide +kernel⟩

theorem test_met_commandCancel :
  Met 0x0011 (busy) (blk [(0, 8, Handle.encode (hd 9))]) (fun s p => (cmdOf s (handleAt (ownParams p) 0)).isSome = true ∧ (handleAt (ownParams p) 0).ctx = p.ctx) :=
  ⟨ctx1, admitted_of (by decide +kernel), by dsimp only; decide +kernel⟩

theorem test_met_queueResume :
  Met 0x0012 (base) (blk []) (fun _ p => u8 (ownParams p) 0 ≤ 15) :=
  ⟨ctx1, admitted_of (by decide +kernel), by dsimp only; decide +kernel⟩

theorem test_met_queueFlush :
  Met 0x0013 (base) (blk []) (fun _ p => u8 (ownParams p) 0 ≤ 15) :=
  ⟨ctx1, admitted_of (by decide +kernel), by dsimp only; decide +kernel⟩

theorem test_met_flagWrite :
  Met 0x0014 (base) (blk [(0, 1, 3)]) (fun s p => depOk s p.ctx p = true ∧ u8 (ownParams p) 0 ≤ 63 ∧ u8 (ownParams p) 1 ≤ 1) :=
  ⟨ctx1, admitted_of (by decide +kernel), by dsimp only; decide +kernel⟩

theorem test_met_flagRead :
  Met 0x0015 (base) (blk [(0, 1, 63)]) (fun _ p => u8 (ownParams p) 0 ≤ 63) :=
  ⟨ctx1, admitted_of (by decide +kernel), by dsimp only; decide +kernel⟩

theorem test_met_tensorCreate :
  Met 0x0100 (base) (blk [(0, 1, 0x10), (1, 1, 1), (16, 4, 4096)]) (fun s p =>
      let b := ownParams p
      let t := tensorFrom s p.ctx b (newHandle s p.ctx p.choice.pick)
      badTensorParams s p.ctx b = false ∧ (∀ x, shardSetOf s t.shardSet = some x → x.handle.ctx = p.ctx) ∧ (t.shared = true → p.fn = 0)
        ∧ (s.store.tensors.filter fun x => x.handle.ctx == p.ctx && !x.destroyed).length < 65536 ∧ s.store.tensors.length < 1048576
        ∧ tensorSods t ≤ clampFree s t.clamp ∧ (t.shared = true → 11 ≤ placeableStacks s t.clamp)) :=
  ⟨ctx1, admitted_of (by decide +kernel), by refine ⟨?_, all_of ?_, ?_⟩ <;> decide +kernel⟩

theorem test_met_tensorGrant :
  Met 0x0102 (base) (blk [(0, 8, Handle.encode (hd 1)), (8, 2, 4)]) (fun s p =>
      let b := ownParams p
      badTensor s (handleAt b 0) = false ∧ u16 b 8 ≤ 1023 ∧ u8 b 10 ≤ 1 ∧ (handleAt b 0).ctx = p.ctx) :=
  ⟨ctx1, admitted_of (by decide +kernel), by dsimp only; decide +kernel⟩

theorem test_met_tensorRevoke :
  Met 0x0103 (base) (blk [(0, 8, Handle.encode (hd 1)), (8, 2, 4)]) (fun s p => badTensor s (handleAt (ownParams p) 0) = false ∧ u16 (ownParams p) 8 ≤ 1023 ∧ (handleAt (ownParams p) 0).ctx = p.ctx) :=
  ⟨ctx1, admitted_of (by decide +kernel), by dsimp only; decide +kernel⟩

theorem test_met_tensorInfo :
  let t : Tensor := bytesT 1 4096 []
  Met 0x0109 (base) (blk [(0, 8, Handle.encode (hd 1))]) (fun s p => tensorOf s (handleAt (ownParams p) 0) = some t ∧ mayRead t p.ctx = true) :=
  ⟨ctx1, admitted_of (by decide +kernel), by dsimp only; decide +kernel⟩

theorem test_met_shardSetCreate :
  Met 0x0110 (base) (blk [(0, 1, 1), (1, 1, 1), (2, 1, 1), (8, 2, 5)]) (fun s p => badShardSet s p.ctx (ownParams p) = false) :=
  ⟨ctx1, admitted_of (by decide +kernel), by dsimp only; decide +kernel⟩

theorem test_met_shardSetDestroy :
  Met 0x0111 ({ base with store := { base.store with shardSets := [{ handle := hd 8, clamps := false, members := [5], sizes := [1], position := 0 }] } }) (blk [(0, 8, Handle.encode (hd 8))]) (fun s p =>
      let h := handleAt (ownParams p) 0
      (shardSetOf s h).isSome = true ∧ h.ctx = p.ctx ∧ ∀ t ∈ s.store.tensors, t.shardSet = h → t.destroyed = true) :=
  ⟨ctx1, admitted_of (by decide +kernel), by dsimp only; decide +kernel⟩

theorem test_met_tensorDestroy :
  Met 0x0101 (base) (blk [(0, 8, Handle.encode (hd 1))]) (fun s p => depOk s p.ctx p = true ∧ badTensor s (handleAt (ownParams p) 0) = false ∧ (handleAt (ownParams p) 0).ctx = p.ctx) :=
  ⟨ctx1, admitted_of (by decide +kernel), by dsimp only; decide +kernel⟩

theorem test_met_tensorRead :
  Met 0x0104 (base) (blk [(0, 8, Handle.encode (hd 1)), (16, 8, 0x1000), (24, 8, 64)]) (fun s p =>
      let b := ownParams p
      depOk s p.ctx p = true ∧ badTensor s (handleAt b 0) = false ∧ badTransfer s b = false
        ∧ deniedTensor s p.ctx (handleAt b 0) false = false) :=
  ⟨ctx1, admitted_of (by decide +kernel), by dsimp only; decide +kernel⟩

theorem test_met_tensorWrite :
  Met 0x0105 (base) (blk [(0, 8, Handle.encode (hd 1)), (16, 8, 0x1000), (24, 8, 64)]) (fun s p =>
      let b := ownParams p
      depOk s p.ctx p = true ∧ badTensor s (handleAt b 0) = false ∧ badTransfer s b = false
        ∧ deniedTensor s p.ctx (handleAt b 0) true = false) :=
  ⟨ctx1, admitted_of (by decide +kernel), by dsimp only; decide +kernel⟩

theorem test_met_tensorCopy :
  Met 0x0106 (base) (blk [(0, 8, Handle.encode (hd 1)), (8, 8, Handle.encode (hd 2)), (32, 8, 64)]) (fun s p =>
      let b := ownParams p
      depOk s p.ctx p = true ∧ badTensor s (handleAt b 0) = false ∧ badTensor s (handleAt b 8) = false
        ∧ 1 ≤ u64 b 32 ∧ u64 b 32 ≤ 2 ^ 34
        ∧ (fmtMx (fmtOf s (handleAt b 8)) = true → u64 b 24 % 32 = 0 ∧ u64 b 32 % 32 = 0)
        ∧ deniedTensor s p.ctx (handleAt b 0) false = false ∧ deniedTensor s p.ctx (handleAt b 8) true = false) :=
  ⟨ctx1, admitted_of (by decide +kernel), by dsimp only; decide +kernel⟩

theorem test_met_tensorFill :
  Met 0x0107 (base) (blk [(0, 8, Handle.encode (hd 1)), (16, 8, 64)]) (fun s p =>
      let b := ownParams p
      depOk s p.ctx p = true ∧ badTensor s (handleAt b 0) = false ∧ deniedTensor s p.ctx (handleAt b 0) true = false) :=
  ⟨ctx1, admitted_of (by decide +kernel), by dsimp only; decide +kernel⟩

theorem test_met_tensorGather :
  Met 0x0108 (base) (blk [(0, 8, Handle.encode (hd 1)), (8, 8, Handle.encode (hd 2)), (16, 8, Handle.encode (hd 1)), (24, 4, 1), (28, 4, 64)]) (fun s p =>
      let b := ownParams p
      depOk s p.ctx p = true ∧ badTensor s (handleAt b 0) = false ∧ badTensor s (handleAt b 8) = false
        ∧ badTensor s (handleAt b 16) = false ∧ fmtOf s (handleAt b 8) = 0x10
        ∧ 1 ≤ u32 b 24 ∧ u32 b 24 ≤ 16777216 ∧ 1 ≤ u32 b 28 ∧ u32 b 28 ≤ 65536
        ∧ deniedTensor s p.ctx (handleAt b 0) false = false ∧ deniedTensor s p.ctx (handleAt b 8) false = false
        ∧ deniedTensor s p.ctx (handleAt b 16) true = false) :=
  ⟨ctx1, admitted_of (by decide +kernel), by dsimp only; decide +kernel⟩

theorem test_met_programLaunch :
  let x : List Byte := launchBytes
  Met 0x0200 (launching) (blk [(0, 8, Handle.encode (hd 3)), (16, 4, 1152)]) (fun s p =>
      let b := ownParams p
      let l := launchFrom x
      depOk s p.ctx p = true ∧ readParamTensor s p.ctx (handleAt b 0) (u64 b 8) (u32 b 16) 655360 = .ok x ∧ launchLen x ≤ x.length
        ∧ (∀ y ∈ l.bindings, y.kind = 2 → tagInUse s p.ctx y.src y.tag = false)
        ∧ badLaunch s (clampNum s p.ctx) x false = false ∧ deniedLaunch s p.ctx l = false
        ∧ noCore s (clampNum s p.ctx) = false ∧ (l.inband.isSome = true → noStack s (clampNum s p.ctx) = false)) :=
  ⟨ctx1, admitted_of (by decide +kernel), by
    refine ⟨by decide +kernel, read_of (t := bytesT 3 4096 [(0, stored launchBytes)]) (tensor_of launching_tensors (h' := hd 3) (by decide +kernel) (by decide +kernel) (by decide +kernel) (by simp [bytesT, hd])) (firstBad_stored _)
      (by decide +kernel) (by decide +kernel), by decide +kernel, by decide +kernel, ?_, by decide +kernel, by decide +kernel, by decide +kernel⟩
    simp only [badLaunch, image_of (t := bytesT 6 4096 [(0, stored programBytes)]) (s := facing launching (pk (blk [(0, 8, Handle.encode (hd 3)), (16, 4, 1152)])) ctx1)
      (l := launchFrom launchBytes) (tensor_of launching_tensors (h' := hd 6) (by decide +kernel) (by decide +kernel) (by decide +kernel) (by simp [bytesT, hd])) (firstBad_stored _) (by decide +kernel)]
    decide +kernel⟩

theorem test_met_inbankLaunch :
  let x : List Byte := inbankBytes
  Met 0x0201 (launching) (blk [(0, 8, Handle.encode (hd 4)), (16, 4, 304)]) (fun s p =>
      let b := ownParams p
      depOk s p.ctx p = true ∧ readParamTensor s p.ctx (handleAt b 0) (u64 b 8) (u32 b 16) 655360 = .ok x ∧ 304 ≤ x.length
        ∧ badInbank s x 16777216 = false ∧ deniedInbank s p.ctx (inbankFrom x) = false ∧ noStack s (clampNum s p.ctx) = false) :=
  ⟨ctx1, admitted_of (by decide +kernel), ⟨by decide +kernel,
    read_of (t := bytesT 4 4096 [(0, stored inbankBytes)]) (tensor_of launching_tensors (h' := hd 4) (by decide +kernel) (by decide +kernel) (by decide +kernel) (by simp [bytesT, hd])) (firstBad_stored _) (by decide +kernel) (by decide +kernel),
    by decide +kernel, by decide +kernel, by decide +kernel, by decide +kernel⟩⟩

theorem test_met_slaneResume :
  Met 0x0202 (busy) (blk [(0, 8, Handle.encode (hd 9))]) (fun s p =>
      let b := ownParams p
      (cmdOf s (handleAt b 0)).isSome = true ∧ u8 b 8 ≤ 1 ∧ (handleAt b 0).ctx = p.ctx) :=
  ⟨ctx1, admitted_of (by decide +kernel), by dsimp only; decide +kernel⟩

theorem test_met_generate :
  let m : Model := model77
  let head : List Byte := slice promptBytes 0 512
  let x : List Byte := promptBytes
  Met 0x0300 (served) (blk [(0, 8, 77), (16, 8, Handle.encode (hd 5)), (36, 2, 1)]) (fun s p =>
      let b := ownParams p
      let k := clampNum s p.ctx
      let role := (clampOf s k).role
      let q := reqFrom s (packetSender p) b (reqBlockOf x) (newHandle s p.ctx p.choice.pick)
      modelOf s k (u64 b 0) = some m ∧ m.retiring = false
        ∧ u8 b 35 ≤ 1 ∧ (role = 0 → u8 b 35 = 0) ∧ (role = 1 → u8 b 35 = 1) ∧ (u8 b 35 = 1 → u8 b 34 ≤ 7) ∧ role ≠ 2
        ∧ (u16 b 8 = 0 ∨ ∃ v ∈ s.serve.versions, v.of k (u64 b 0) (u16 b 8) = true ∧ v.current = true) ∧ u16 b 36 ≤ 1023
        ∧ readParamTensor s p.ctx (handleAt b 16) (u64 b 24) 512 655360 = .ok head ∧ u32 head 0 < m.maxSeq
        ∧ readParamTensor s p.ctx (handleAt b 16) (u64 b 24) (512 + 4 * u32 head 0) 655360 = .ok x
        ∧ badReqBlock x m.vocab m.maxSeq = false
        ∧ (u8 b 35 = 0 ∨ u16 b 32 = s.flue.moduleId → badReply s q.targetClamp q.replyCtx = false)
        ∧ servesModel s k m = true ∧ tableFull s k = false ∧ promptTooBig s k m (u32 head 0) = false) :=
  ⟨servedCtx, admitted_of (by decide +kernel), ⟨by decide +kernel, by decide +kernel, by decide +kernel, by decide +kernel, by decide +kernel, by decide +kernel, by decide +kernel, by decide +kernel, by decide +kernel, 
    read_of (t := bytesT 5 4096 [(0, stored promptBytes)]) (tensor_of served_tensors (h' := hd 5) (by decide +kernel) (by decide +kernel) (by decide +kernel) (by simp [bytesT, hd])) (firstBad_stored _) (by decide +kernel) (by decide +kernel), by decide +kernel,
    read_of (t := bytesT 5 4096 [(0, stored promptBytes)]) (tensor_of served_tensors (h' := hd 5) (by decide +kernel) (by decide +kernel) (by decide +kernel) (by simp [bytesT, hd])) (firstBad_stored _) (by decide +kernel) (by decide +kernel), by decide +kernel, by decide +kernel, by decide +kernel, by decide +kernel, by decide +kernel⟩⟩

theorem test_met_requestCancel :
  let q : Req := req6
  Met 0x0301 (served) (blk [(0, 8, Handle.encode (hd 6))]) (fun s p => reqByHandle s (handleAt (ownParams p) 0) = some q ∧ concerns s p.ctx q = true) :=
  ⟨servedCtx, admitted_of (by decide +kernel), by decide +kernel, by rfl⟩

theorem test_met_requestQuery :
  let q : Req := req6
  Met 0x030A (served) (blk [(0, 8, Handle.encode (hd 6))]) (fun s p => reqByHandle s (handleAt (ownParams p) 0) = some q ∧ concerns s p.ctx q = true) :=
  ⟨servedCtx, admitted_of (by decide +kernel), by decide +kernel, by rfl⟩

theorem test_met_modelRegister :
  Met 0x0302 (graphed) (blk [(0, 8, 77), (8, 4, 2), (12, 1, 1), (13, 1, 1), (14, 2, 128), (16, 1, 2), (20, 4, 16), (24, 8, Handle.encode (hd 7)), (32, 8, Handle.encode (hd 7))]) (fun s p =>
      let b := ownParams p
      let k := clampNum s p.ctx
      modelInRange b ∧ modelOf s k (u64 b 0) = none
        ∧ badGraphHandle s k (handleAt b 24) = false ∧ badGraphHandle s k (handleAt b 32) = false
        ∧ deniedTensor s p.ctx (handleAt b 24) false = false ∧ deniedTensor s p.ctx (handleAt b 32) false = false
        ∧ (s.serve.models.filter fun m => m.clamp == k).length < 16) :=
  ⟨ctx1, admitted_of (by decide +kernel), by
    refine ⟨by simp only [modelInRange]; decide +kernel, by decide +kernel, ?_, ?_, by decide +kernel, by decide +kernel, by decide +kernel⟩ <;>
      exact graph_of (t := bytesT 7 376 [(0, stored graphBytes)]) (tensor_of graphed_tensors (h' := hd 7) (by decide +kernel) (by decide +kernel) (by decide +kernel) (by simp [bytesT, hd])) (firstBad_stored _) (by decide +kernel)⟩

theorem test_met_modelRetire :
  Met 0x0303 (served) (blk [(0, 8, 77)]) (fun s p => (modelOf s (clampNum s p.ctx) (u64 (ownParams p) 0)).isSome = true) :=
  ⟨servedCtx, admitted_of (by decide +kernel), by dsimp only; decide +kernel⟩

theorem test_met_shavingLoad :
  Met 0x0304 (served) (blk [(0, 8, 77), (8, 2, 2), (16, 8, Handle.encode (hd 8)), (24, 8, 9)]) (fun s p =>
      let b := ownParams p
      let k := clampNum s p.ctx
      (modelOf s k (u64 b 0)).isSome = true ∧ u16 b 8 ≠ 0 ∧ (∀ v ∈ s.serve.versions, v.clamp = k → v.number ≠ u16 b 8)
        ∧ badVersion s k p b = false ∧ deniedTensor s p.ctx (handleAt b 16) false = false ∧ versionRoomLacks s k (handleAt b 16) = false) :=
  ⟨servedCtx, admitted_of (by decide +kernel), by dsimp only; decide +kernel⟩

theorem test_met_shavingReplace :
  Met 0x0305 (served) (blk [(0, 8, 77), (8, 2, 1), (16, 8, Handle.encode (hd 8)), (24, 8, 9), (32, 1, 1)]) (fun s p =>
      let b := ownParams p
      let k := clampNum s p.ctx
      (∃ v ∈ s.serve.versions, v.of k (u64 b 0) (u16 b 8) = true ∧ v.current = true) ∧ retiringShaving s k (u64 b 0) (u16 b 8) = false
        ∧ badVersion s k p b = false ∧ deniedTensor s p.ctx (handleAt b 16) false = false
        ∧ (versionRoomLacks s k (handleAt b 16) = true → bit (u8 b 32) 0 = true)) :=
  ⟨servedCtx, admitted_of (by decide +kernel), by dsimp only; decide +kernel⟩

theorem test_met_shavingRetire :
  Met 0x0306 (served) (blk [(0, 8, 77), (8, 2, 1)]) (fun s p => ∃ v ∈ s.serve.versions, v.of (clampNum s p.ctx) (u64 (ownParams p) 0) (u16 (ownParams p) 8) = true) :=
  ⟨servedCtx, admitted_of (by decide +kernel), by dsimp only; decide +kernel⟩

theorem test_met_servingConfigure :
  Met 0x0307 (base) (blk [(0, 1, 1), (2, 2, 1), (4, 4, 1), (8, 2, 1), (14, 2, 128)]) (fun s p =>
      let b := ownParams p
      let k := u8 b 0
      let c := clampOf s k
      let old := c.serving.map (·.ctx)
      let v := servingFrom b (old.getD (tfree s.ctxs 0))
      k ≤ 7 ∧ c.state = .stopped ∧ c.changing = false ∧ badServing s k v = false
        ∧ (old = none → s.ctxs.length < 1024 ∧ clampContexts s k < clampMaxCtx c)
        ∧ poolSods v ≤ clampFree s k + (c.serving.map poolSods).getD 0) :=
  ⟨ctx1, admitted_of (by decide +kernel), by dsimp only; decide +kernel⟩

theorem test_met_sharingGroupSet :
  Met 0x0308 (base) (blk [(0, 2, 1), (2, 1, 1), (40, 2, 1)]) (fun s p =>
      let b := ownParams p
      1 ≤ u16 b 0 ∧ u16 b 0 ≤ 1023 ∧ 1 ≤ u8 b 2 ∧ u8 b 2 ≤ 16 ∧ ∀ n ∈ groupMembers b, ∃ c, ctxOf s n = some c ∧ c.ending = false) :=
  ⟨ctx1, admitted_of (by decide +kernel), by
    refine ⟨by decide +kernel, by decide +kernel, by decide +kernel, by decide +kernel, ?_⟩
    have e : ∀ n ∈ groupMembers (ownParams (pk (blk [(0, 2, 1), (2, 1, 1), (40, 2, 1)]))), n = 1 := by decide +kernel
    intro n h
    rw [e n h]
    exact ex_of (by decide +kernel)⟩

theorem test_met_servingReplyEnable :
  Met 0x0309 (base) (blk [(0, 1, 1)]) (fun _ p => u8 (ownParams p) 0 ≤ 1) :=
  ⟨ctx1, admitted_of (by decide +kernel), by dsimp only; decide +kernel⟩

theorem test_met_flueSend :
  Met 0x0400 (base) (blk [(0, 8, Handle.encode (hd 1)), (16, 8, 4096), (24, 2, 7), (26, 2, 1), (32, 8, 5)]) (fun s p =>
      let b := ownParams p
      depOk s p.ctx p = true ∧ badTensor s (handleAt b 0) = false ∧ badTag s p.ctx (u16 b 24) (u64 b 32) = false ∧ u16 b 26 ≤ 1023
        ∧ deniedTensor s p.ctx (handleAt b 0) false = false) :=
  ⟨ctx1, admitted_of (by decide +kernel), by dsimp only; decide +kernel⟩

theorem test_met_flueReceive :
  Met 0x0401 (base) (blk [(0, 8, Handle.encode (hd 1)), (16, 8, 4096), (24, 2, 7), (32, 8, 5)]) (fun s p =>
      let b := ownParams p
      depOk s p.ctx p = true ∧ badTensor s (handleAt b 0) = false ∧ badTag s p.ctx (u16 b 24) (u64 b 32) = false
        ∧ deniedTensor s p.ctx (handleAt b 0) true = false) :=
  ⟨ctx1, admitted_of (by decide +kernel), by dsimp only; decide +kernel⟩

theorem test_met_flueFlagSet :
  Met 0x0402 (base) (blk [(0, 2, 7), (2, 2, 1), (4, 1, 3)]) (fun s p =>
      let b := ownParams p
      depOk s p.ctx p = true ∧ u16 b 2 ≤ 1023 ∧ u8 b 4 ≤ 63 ∧ u8 b 5 ≤ 1) :=
  ⟨ctx1, admitted_of (by decide +kernel), by dsimp only; decide +kernel⟩

theorem test_met_flueReduce :
  Met 0x0403 (shardedState) (blk [(0, 8, Handle.encode (hd 3)), (8, 8, Handle.encode (hd 4))]) (fun s p =>
      let b := ownParams p
      depOk s p.ctx p = true ∧ badReduce s (handleAt b 0) (handleAt b 8) (u8 b 16) (u8 b 17) = false
        ∧ deniedTensor s p.ctx (handleAt b 0) false = false ∧ deniedTensor s p.ctx (handleAt b 8) true = false
        ∧ reduceUnreached s (handleAt b 0) (u8 b 16) = false) :=
  ⟨ctx1, admitted_of (by decide +kernel), by dsimp only; decide +kernel⟩

theorem test_met_fluePortStatus :
  Met 0x0404 (base) (blk []) (fun _ _ => True) :=
  ⟨ctx1, admitted_of (by decide +kernel), trivial⟩

theorem test_met_clampConfigure :
  Met 0x0500 (base) (blk [(0, 1, 2)]) (fun s p =>
      let b := ownParams p
      let c := clampOf s (u8 b 0)
      badSettings b = false ∧ badUnits s (u8 b 0) (clampFrom b c) = false ∧ badSums s (u8 b 0) (clampFrom b c) = false
        ∧ (c.state = .unconfigured ∨ c.state = .stopped) ∧ c.changing = false) :=
  ⟨ctx1, admitted_of (by decide +kernel), by dsimp only; decide +kernel⟩

theorem test_met_clampStart :
  Met 0x0501 (base) (blk [(0, 1, 1)]) (fun s p =>
      let c := clampOf s (u8 (ownParams p) 0)
      u8 (ownParams p) 0 ≤ 7 ∧ c.state = .stopped ∧ c.changing = false ∧ c.resetting = false ∧ debugMoving s = false
        ∧ anyBankView s c = false) :=
  ⟨ctx1, admitted_of (by decide +kernel), by dsimp only; decide +kernel⟩

theorem test_met_clampStop :
  Met 0x0502 (base) (blk [(1, 1, 1)]) (fun s p =>
      let b := ownParams p
      u8 b 0 ≤ 7 ∧ u8 b 1 ≤ 1 ∧ (u8 b 1 = 0 → 1000 ≤ u64 b 8 ∧ u64 b 8 ≤ 6000000000)
        ∧ (clampOf s (u8 b 0)).state = .running ∧ (clampOf s (u8 b 0)).changing = false) :=
  ⟨ctx1, admitted_of (by decide +kernel), by dsimp only; decide +kernel⟩

theorem test_met_clampDelete :
  Met 0x0503 (base) (blk [(0, 1, 1)]) (fun s p =>
      let k := u8 (ownParams p) 0
      let c := clampOf s k
      k ≤ 7 ∧ c.state = .stopped ∧ c.changing = false ∧ c.resetting = false ∧ clampContexts s k = 0
        ∧ ∀ t ∈ s.store.tensors, t.clamp ≠ k) :=
  ⟨ctx1, admitted_of (by decide +kernel), by dsimp only; decide +kernel⟩

theorem test_met_clampAssign :
  Met 0x0504 (base) (blk [(8, 8, 3)]) (fun _ p => u8 (ownParams p) 0 ≤ 7) :=
  ⟨ctx1, admitted_of (by decide +kernel), by dsimp only; decide +kernel⟩

theorem test_met_clampQuery :
  Met 0x0505 (base) (blk []) (fun s p => u8 (ownParams p) 0 ≤ 7 ∧ (p.fn = 0 ∨ (clampOf s (u8 (ownParams p) 0)).assign.getLsbD p.fn = true)) :=
  ⟨ctx1, admitted_of (by decide +kernel), by dsimp only; decide +kernel⟩

theorem test_met_telemetryRead :
  Met 0x0600 (base) (blk [(0, 8, 0x1000)]) (fun s p =>
      let b := ownParams p
      u8 b 8 ≤ 2 ∧ (u8 b 8 = 1 → u8 b 9 ≤ 7)
        ∧ (p.fn = 0 ∨ (u8 b 8 ≠ 2 ∧ (u8 b 8 = 1 → (clampOf s (u8 b 9)).assign.getLsbD p.fn = true)))) :=
  ⟨ctx1, admitted_of (by decide +kernel), by dsimp only; decide +kernel⟩

theorem test_met_counterSelect :
  Met 0x0601 (base) (blk [(2, 2, 0x1001)]) (fun _ p => u8 (ownParams p) 0 ≤ 15 ∧ u16 (ownParams p) 2 ∈ selectors) :=
  ⟨ctx1, admitted_of (by decide +kernel), by dsimp only; decide +kernel⟩

theorem test_met_eventRoute :
  Met 0x0602 (base) (blk [(0, 2, 1), (2, 1, 4), (3, 1, 2)]) (fun _ p =>
      let b := ownParams p
      1 ≤ u16 b 0 ∧ u16 b 0 ≤ 511 ∧ 4 ≤ u8 b 2 ∧ u8 b 2 ≤ 67 ∧ u8 b 3 ≤ 15) :=
  ⟨ctx1, admitted_of (by decide +kernel), by dsimp only; decide +kernel⟩

theorem test_met_powerCapSet :
  Met 0x0603 (base) (blk [(0, 2, 600)]) (fun _ p => 600 ≤ u16 (ownParams p) 0 ∧ u16 (ownParams p) 0 ≤ 2400) :=
  ⟨ctx1, admitted_of (by decide +kernel), by dsimp only; decide +kernel⟩

theorem test_met_scrubSet :
  Met 0x0604 (base) (blk [(0, 1, 168)]) (fun _ p => 1 ≤ u8 (ownParams p) 0 ∧ u8 (ownParams p) 0 ≤ 168) :=
  ⟨ctx1, admitted_of (by decide +kernel), by dsimp only; decide +kernel⟩

theorem test_met_fwStage :
  let x : Tensor := bytesT 1 4096 []
  Met 0x0700 (base) (blk [(0, 8, Handle.encode (hd 1)), (8, 4, 4096), (12, 1, 1)]) (fun s p =>
      let b := ownParams p
      tensorOf s (handleAt b 0) = some x ∧ u32 b 8 ≤ x.bytes ∧ u8 b 12 ≤ 1 ∧ u32 b 8 ≤ 16777216
        ∧ deniedTensor s p.ctx (handleAt b 0) false = false) :=
  ⟨ctx1, admitted_of (by decide +kernel), by dsimp only; decide +kernel⟩

theorem test_met_fwActivate :
  Met 0x0701 (base) (blk [(0, 1, 1)]) (fun s p => u8 (ownParams p) 0 ≤ 1 ∧ (at? s.sec.slots (u8 (ownParams p) 0) {}).digest.isSome = true) :=
  ⟨ctx1, admitted_of (by decide +kernel), by dsimp only; decide +kernel⟩

theorem test_met_keyRevoke :
  Met 0x0702 (base) (blk [(0, 1, 2)]) (fun s p =>
      let n := u8 (ownParams p) 0
      n ≤ 3 ∧ n ≠ s.sec.running.key ∧ keysLeft s ≠ [n]) :=
  ⟨ctx1, admitted_of (by decide +kernel), by dsimp only; decide +kernel⟩

theorem test_met_repairCommit :
  let x : List Byte := zeros 4
  Met 0x0705 (base) (blk [(8, 8, Handle.encode (hd 2)), (16, 2, 1)]) (fun s p =>
      let b := ownParams p
      let n := u16 b 16
      u8 b 0 ≤ 11 ∧ 1 ≤ n ∧ n ≤ 256 ∧ readParamTensor s p.ctx (handleAt b 8) 0 (4 * n) 655360 = .ok x
        ∧ (∀ i < n, badRow x i = false) ∧ (tgetD s.store.softRepairs (u8 b 0) []).length + n ≤ 4096) :=
  ⟨ctx1, admitted_of (by decide +kernel), ⟨by decide +kernel, by decide +kernel, by decide +kernel,
    read_of (t := bytesT 2 655360 []) (by decide +kernel) (noBad) (by decide +kernel) (by decide +kernel), by decide +kernel⟩⟩

theorem test_met_debugUnlock :
  let x : List Byte := zeros 568
  Met 0x0703 ({ quietBase with store := { tensors := [bytesT 2 655360 []] } }) (blk [(0, 8, Handle.encode (hd 2)), (8, 4, 568)]) (fun s p =>
      readParamTensor s p.ctx (handleAt (ownParams p) 0) 0 (u32 (ownParams p) 8) 655360 = .ok x ∧ clampsQuiet s = true) :=
  ⟨ctx1, admitted_of (by decide +kernel), ⟨read_of (t := bytesT 2 655360 []) (by decide +kernel) noBad (by decide +kernel) (by decide +kernel), by decide +kernel⟩⟩

theorem test_met_debugLock :
  Met 0x0704 (base) (blk []) (fun _ _ => True) :=
  ⟨ctx1, admitted_of (by decide +kernel), trivial⟩

theorem test_met_dbgBreakSet :
  Met 0x7F00 (unlocked) (blk [(0, 2, 1), (8, 8, 5)]) (fun s p =>
      let b := ownParams p
      (ctxOf s (u16 b 0)).isSome = true ∧ u8 b 2 ≤ 3 ∧ u8 b 3 ≤ 1 ∧ u8 b 4 ≤ 1 ∧ u8 b 5 ≤ 1 ∧ u64 b 8 ≠ 0
        ∧ (u8 b 4 = 1 → u64 b 8 ≤ 65535)) :=
  ⟨ctx1, admitted_of (by decide +kernel), by dsimp only; decide +kernel⟩

theorem test_met_dbgBreakClear :
  Met 0x7F01 (unlocked) (blk [(0, 2, 1)]) (fun s p => (ctxOf s (u16 (ownParams p) 0)).isSome = true ∧ u8 (ownParams p) 2 ≤ 3) :=
  ⟨ctx1, admitted_of (by decide +kernel), by dsimp only; decide +kernel⟩

theorem test_met_dbgTileControl :
  let t : Tile := tile3
  Met 0x7F02 (unlockedTile) (blk [(0, 8, Handle.encode (hd 9)), (8, 4, 3)]) (fun s p =>
      let b := ownParams p
      tileOf s (handleAt b 0) (u32 b 8) = some t ∧ t.halted = true ∧ u8 b 12 ≤ 1 ∧ u8 b 13 ≤ 1 ∧ s.evt.jtagOwner = false) :=
  ⟨ctx1, admitted_of (by decide +kernel), by dsimp only; decide +kernel⟩

theorem test_met_dbgRead :
  Met 0x7F03 (unlockedTile) (blk [(0, 1, 2), (24, 4, 64)]) (fun s p =>
      let b := ownParams p
      u8 b 0 ≤ 3 ∧ u32 b 24 ≤ 6291456 ∧ (u8 b 0 = 0 → u64 b 16 + u32 b 24 ≤ 6291456) ∧ badLocator s (u8 b 0) (u64 b 8) = false
        ∧ (u8 b 0 = 3 → (chanOf s (bits (u64 b 8) 7 0) (bits (u64 b 8) 15 8)).mode = .bankView)) :=
  ⟨ctx1, admitted_of (by decide +kernel), by dsimp only; decide +kernel⟩

theorem test_met_dbgBankView :
  Met 0x7F04 (unlockedView) (blk [(2, 1, 1)]) (fun s p =>
      let b := ownParams p
      badSpot (u8 b 0) (u8 b 1) 0 = false ∧ u8 b 2 ≤ 1 ∧ (u8 b 2 = 0 → bankViewOk s (u8 b 0) (u8 b 1) = true)
        ∧ (u8 b 2 = 1 → (chanOf s (u8 b 0) (u8 b 1)).mode = .bankView)) :=
  ⟨ctx1, admitted_of (by decide +kernel), by dsimp only; decide +kernel⟩

theorem test_met_dbgBankWrite :
  Met 0x7F05 (unlockedView) (blk [(6, 2, 1)]) (fun s p =>
      let b := ownParams p
      badSpot (u8 b 0) (u8 b 1) 0 = false ∧ u8 b 2 ≤ 31 ∧ 1 ≤ u16 b 6 ∧ u16 b 6 ≤ 64 ∧ u16 b 4 + u16 b 6 ≤ 12288
        ∧ (chanOf s (u8 b 0) (u8 b 1)).mode = .bankView ∧ s.evt.jtagOwner = false) :=
  ⟨ctx1, admitted_of (by decide +kernel), by dsimp only; decide +kernel⟩

/-! ## Ill-formed commands -/

def okH : Handle := ⟨1023, 16383, 2 ^ 24 - 1⟩
def badH : Handle := ⟨1024, 1, 1⟩
def okM : Msg := { dst := 65535, src := 65535, tag := 2 ^ 64 - 1, port := 7 }
def badM : Msg := { okM with port := 8 }
def okF : Frame := { seq := 4095, ack := 4095, side := 15, flit := List.replicate 256 0 }
def badF : Frame := { okF with side := 16 }
def okP : Packet := { fn := 63, ctx := 1023, seq := 2 ^ 64 - 1, queue := 15, paramLen := 2, params := [0, 0] }
def badP : Packet := { okP with fn := 64 }
def badE : MemErr := .flips 128 [] false

/-- Whether a check refuses every ill-formed term and passes the well-formed one. -/
def refuses {α : Type} (wf : α → Bool) (good : α) (bad : List α) : Bool := wf good && bad.all fun x => !wf x

theorem test_illformed_parts :
    refuses Handle.wf okH [badH, { okH with gen := 16384 }, { okH with slot := 2 ^ 24 }]
    ∧ refuses Packet.wf okP [badP, { okP with ctx := 1024 }, { okP with major := 256 }, { okP with headerLen := 256 },
        { okP with paramLen := 2 ^ 16 }, { okP with seq := 2 ^ 64 }, { okP with cookie := 2 ^ 32 }, { okP with consumed := 2 ^ 32 },
        { okP with queue := 16 }, { okP with dep := 2 ^ 64 }, { okP with params := [0] }, { okP with params := [0, 0, 0] }]
    ∧ refuses Loc.wf (.bank 11 31 31 12287) [.interleaved 12 1, .interleaved 11 0, .bank 12 0 0 0, .bank 0 32 0 0, .bank 0 0 32 0, .bank 0 0 0 12288, .bog 16 0,
        .bog 0 (2 ^ 24)]
    ∧ refuses MemErr.wf (.flips 127 (List.replicate 36 0) true) [.flips 128 (List.replicate 36 0) true, .flips 0 (List.replicate 37 0) true]
    ∧ refuses Msg.wf okM [badM, { okM with dst := 65536 }, { okM with src := 65536 }, { okM with dctx := 65536 }, { okM with sctx := 65536 },
        { okM with status := 256 }, { okM with epoch := 65536 }, { okM with tag := 2 ^ 64 }, { okM with off := 2 ^ 64 }]
    ∧ refuses Frame.wf okF [badF, { okF with seq := 4096 }, { okF with ack := 4096 }, { okF with flit := [] }]
    ∧ refuses SmoulderUnit.wf (.bog 15) [.kiln 4, .exrad 12, .bog 16]
    ∧ refuses PatrolTarget.wf (.exrad 11 31 31 12287) [.exrad 12 0 0 0, .exrad 0 32 0 0, .exrad 0 0 32 0, .exrad 0 0 0 12288, .tags 12 0 0 0, .tags 0 32 0 0, .tags 0 0 32 0, .tags 0 0 0 3072, .bog 16 0,
        .bog 0 (2 ^ 24)]
    ∧ refuses StartStep.wf (.kiln 3 64) [.kiln 4 0, .kiln 0 65, .stack 12 0 false] := by decide +kernel

theorem test_illformed_contextNop :
    ([Instr.contextNop, .contextCreate, .contextDestroy, .contextSet, .commandQuery, .commandCancel, .queueResume, .queueFlush,
      .flagWrite, .flagRead, .tensorCreate, .tensorDestroy, .tensorGrant, .tensorRevoke, .tensorRead, .tensorWrite, .tensorCopy,
      .tensorFill, .tensorGather, .tensorInfo, .shardSetCreate, .shardSetDestroy, .programLaunch, .inbankLaunch, .slaneResume,
      .generate, .requestCancel, .modelRegister, .modelRetire, .shavingLoad, .shavingReplace, .shavingRetire, .servingConfigure,
      .sharingGroupSet, .servingReplyEnable, .requestQuery, .flueSend, .flueReceive, .flueFlagSet, .flueReduce, .fluePortStatus,
      .clampConfigure, .clampStart, .clampStop, .clampDelete, .clampAssign, .clampQuery, .telemetryRead, .counterSelect,
      .eventRoute, .powerCapSet, .scrubSet, .fwStage, .fwActivate, .keyRevoke, .debugUnlock, .debugLock, .repairCommit,
      .dbgBreakSet, .dbgBreakClear, .dbgTileControl, .dbgRead, .dbgBankView, .dbgBankWrite].all
      fun f => refuses Instr.wf (f okP) [f badP]) = true := by decide +kernel

theorem test_illformed_debugTransitionDone :
    ([Instr.debugTransitionDone].all
      fun f => refuses Instr.wf (f (List.replicate 32 0)) [f (List.replicate 31 0), f (List.replicate 33 0)]) = true := by decide +kernel

theorem test_illformed_registerWrite :
    ([Instr.registerWrite].all
      fun f => refuses Instr.wf (f 63 2 0 (List.replicate 4096 0) {}) [f 64 2 0 (List.replicate 4096 0) {},
      f 63 2 0 (List.replicate 4097 0) {},
      f 63 1 0 (List.replicate 4096 0) {},
      f 63 3 0 (List.replicate 4096 0) {}]) = true := by decide +kernel

theorem test_illformed_firmwareDeadline :
    ([Instr.firmwareDeadline, .firmwareDecision].all
      fun f => refuses Instr.wf (f 63 false 1023) [f 64 false 1023, f 63 false 1024]) = true := by decide +kernel

theorem test_illformed_coalesceTimeout :
    ([Instr.coalesceTimeout, .maskEffect].all
      fun f => refuses Instr.wf (f 1023) [f 1024]) = true := by decide +kernel

theorem test_illformed_nirSealMissClear :
    ([Instr.nirSealMissClear, .nirDropCountClear].all
      fun f => refuses Instr.wf (f 63 63) [f 64 63, f 63 64]) = true := by decide +kernel

theorem test_illformed_poisonedCompletion :
    ([Instr.poisonedCompletion].all
      fun f => refuses Instr.wf (f 63 0 0) [f 64 0 0]) = true := by decide +kernel

theorem test_illformed_evtClaimRead :
    ([Instr.evtClaimRead].all
      fun f => refuses Instr.wf (f 63 67 false) [f 64 67 false, f 63 68 false]) = true := by decide +kernel

theorem test_illformed_evtClaimWrite :
    ([Instr.evtClaimWrite].all
      fun f => refuses Instr.wf (f 63 67 1023) [f 64 67 1023, f 63 68 1023, f 63 67 1024]) = true := by decide +kernel

theorem test_illformed_evtThresholdWrite :
    ([Instr.evtThresholdWrite].all
      fun f => refuses Instr.wf (f 63 67 18446744073709551615) [f 64 67 18446744073709551615, f 63 68 18446744073709551615, f 63 67 18446744073709551616]) = true := by decide +kernel

theorem test_illformed_evtMaskWrite :
    ([Instr.evtMaskWrite].all
      fun f => refuses Instr.wf (f 63 1023 false) [f 64 1023 false, f 63 1024 false]) = true := by decide +kernel

theorem test_illformed_warmReset :
    ([Instr.warmReset, .moduleIdLock, .pwrSmoulderWrite].all
      fun f => refuses Instr.wf (f 63 18446744073709551615) [f 64 18446744073709551615, f 63 18446744073709551616]) = true := by decide +kernel

theorem test_illformed_clampReset :
    ([Instr.clampReset].all
      fun f => refuses Instr.wf (f 63 7 18446744073709551615) [f 64 7 18446744073709551615, f 63 8 18446744073709551615, f 63 7 18446744073709551616]) = true := by decide +kernel

theorem test_illformed_clampResetDone :
    ([Instr.clampResetDone, .sliceBoundary, .drainLimitExpiry, .clampStopped, .commitSlot, .trainingAttempt, .tlpIntegrityFailure].all
      fun f => refuses Instr.wf (f 7) [f 8]) = true := by decide +kernel

theorem test_illformed_timeReadLatch :
    ([Instr.timeReadLatch, .smoulderWake, .functionLevelReset, .vfEnable].all
      fun f => refuses Instr.wf (f 63) [f 64]) = true := by decide +kernel

theorem test_illformed_rw1cClear :
    ([Instr.rw1cClear].all
      fun f => refuses Instr.wf (f 63 0 (List.replicate 4096 0)) [f 64 0 (List.replicate 4096 0), f 63 0 (List.replicate 4097 0)]) = true := by decide +kernel

theorem test_illformed_runPhaseStart :
    ([Instr.runPhaseStart].all
      fun f => refuses Instr.wf (f okH ⟨[.bog 15 0], [(okH, 0)]⟩)
        [f okH ⟨[.bog 16 0], []⟩, f okH ⟨[], [(badH, 0)]⟩, f badH ⟨[.bog 15 0], []⟩]) = true := by decide +kernel

theorem test_illformed_sodPromotion :
    ([Instr.sodPromotion, .commandCommit].all
      fun f => refuses Instr.wf (f okH [.bog 15 0]) [f okH [.bog 16 0], f badH [.bog 15 0]]) = true := by decide +kernel

theorem test_illformed_waitTimeout :
    ([Instr.waitTimeout, .slaneHaltTimeout, .transferTimeout, .completionTimeout].all
      fun f => refuses Instr.wf (f okH) [f badH]) = true := by decide +kernel

theorem test_illformed_coreSwitchDone :
    ([Instr.coreSwitchDone, .tileCommit, .tileCommitDone, .accessLoad, .accessStore, .setcnt, .cntadd, .accessEnd, .delay, .setReg,
      .execLoop, .beos, .execTag, .execEnd, .tld, .mma, .tfl, .vadd, .vsub, .vmul, .vfma, .vmin, .vmax, .vcmp, .vsel, .vfn, .vchs,
      .vsmx, .vmrg, .vcvt, .vmov, .vbc, .qpop, .qpush].all
      fun f => refuses Instr.wf (f 3 63) [f 4 63, f 3 64]) = true := by decide +kernel

theorem test_illformed_loadDataReturn :
    ([Instr.loadDataReturn].all
      fun f => refuses Instr.wf (f 3 63 0 .none) [f 4 63 0 .none, f 3 64 0 .none, f 3 63 0 badE]) = true := by decide +kernel

theorem test_illformed_processorModeRequest :
    ([Instr.processorModeRequest].all
      fun f => refuses Instr.wf (f 11 31 false) [f 12 31 false, f 11 32 false]) = true := by decide +kernel

theorem test_illformed_memoryModeRequest :
    ([Instr.memoryModeRequest, .processorModeEntered, .memoryModeEntered, .holdLimitExpiry, .refreshDue, .refreshComplete].all
      fun f => refuses Instr.wf (f 11 31) [f 12 31, f 11 32]) = true := by decide +kernel

theorem test_illformed_embStart :
    ([Instr.embStart].all
      fun f => refuses Instr.wf (f 11 31 15 255 16777215) [f 12 31 15 255 16777215,
      f 11 32 15 255 16777215,
      f 11 31 16 255 16777215,
      f 11 31 15 256 16777215,
      f 11 31 15 255 16777216]) = true := by decide +kernel

theorem test_illformed_embStop :
    ([Instr.embStop, .embResume, .embStatusClear, .emberNop, .emberYield, .emberLoop, .emberFence, .seta, .adda, .setb, .setf,
      .tset, .ldv, .stv, .shv, .strm, .dq, .mac, .asc, .asm, .avg, .acl, .afl, .asl].all
      fun f => refuses Instr.wf (f 11 31 15) [f 12 31 15, f 11 32 15, f 11 31 16]) = true := by decide +kernel

theorem test_illformed_rowReseal :
    ([Instr.rowReseal].all
      fun f => refuses Instr.wf (f 11 31 31 12287 .none) [f 12 31 31 12287 .none,
      f 11 32 31 12287 .none,
      f 11 31 32 12287 .none,
      f 11 31 31 12288 .none,
      f 11 31 31 12287 badE]) = true := by decide +kernel

theorem test_illformed_trigVreg :
    ([Instr.trigVreg, .trigBbuf, .trigUstore, .trigArg, .trigCmd, .trigWait].all
      fun f => refuses Instr.wf (f okH 0 0 (some (List.replicate 32 0))) [f okH 0 0 (some (List.replicate 33 0)), f badH 0 0 (some (List.replicate 32 0))]) = true := by decide +kernel

theorem test_illformed_emberEnd :
    ([Instr.emberEnd].all
      fun f => refuses Instr.wf (f 11 31 15 .none) [f 12 31 15 .none, f 11 32 15 .none, f 11 31 16 .none, f 11 31 15 badE]) = true := by decide +kernel

theorem test_illformed_sodMigration :
    ([Instr.sodMigration].all
      fun f => refuses Instr.wf (f okH 0 (.interleaved 0 1) .none) [f badH 0 (.interleaved 0 1) .none,
      f okH 0 (.interleaved 12 1) .none,
      f okH 0 (.interleaved 0 1) badE]) = true := by decide +kernel

theorem test_illformed_sodRebuild :
    ([Instr.sodRebuild].all
      fun f => refuses Instr.wf (f okH 0 (.interleaved 0 1) []) [f badH 0 (.interleaved 0 1) [], f okH 0 (.interleaved 12 1) []]) = true := by decide +kernel

theorem test_illformed_patrolRead :
    ([Instr.patrolRead].all
      fun f => refuses Instr.wf (f (.bog 0 0) .none) [f (.bog 16 0) .none, f (.bog 0 0) badE]) = true := by decide +kernel

theorem test_illformed_prefillCommand :
    ([Instr.prefillCommand].all
      fun f => refuses Instr.wf (f 7 0 []) [f 8 0 []]) = true := by decide +kernel

theorem test_illformed_decodeStep :
    ([Instr.decodeStep].all
      fun f => refuses Instr.wf (f 7 0 []) [f 8 0 []]) = true := by decide +kernel

theorem test_illformed_flueIdle :
    ([Instr.flueIdle, .flueFlit, .replayRequest, .retrainRequest].all
      fun f => refuses Instr.wf (f 7 okF) [f 8 okF, f 7 badF]) = true := by decide +kernel

theorem test_illformed_laneLockLoss :
    ([Instr.laneLockLoss].all
      fun f => refuses Instr.wf (f 7 4) [f 8 4, f 7 5]) = true := by decide +kernel

theorem test_illformed_fecWindowEnd :
    ([Instr.fecWindowEnd].all
      fun f => refuses Instr.wf (f 7 (List.replicate 5 0)) [f 8 (List.replicate 5 0), f 7 (List.replicate 4 0), f 7 (List.replicate 6 0)]) = true := by decide +kernel

theorem test_illformed_retrainDone :
    ([Instr.retrainDone].all
      fun f => refuses Instr.wf (f 7 [4] 65534) [f 8 [4] 65534, f 7 [4] 65535, f 7 [5] 65534]) = true := by decide +kernel

theorem test_illformed_retrainAttemptEnd :
    ([Instr.retrainAttemptEnd].all
      fun f => refuses Instr.wf (f 7 [4]) [f 8 [4], f 7 [5]]) = true := by decide +kernel

theorem test_illformed_probeDue :
    ([Instr.probeDue, .pairSilenceTimeout].all
      fun f => refuses Instr.wf (f 65534) [f 65535]) = true := by decide +kernel

theorem test_illformed_flueReady :
    ([Instr.flueReady, .flueWithdraw, .flueData, .flueRefuse, .flueReopen, .flueConfirm, .flueAbort, .flueDecline, .flueFlag,
      .flagAnswer, .flueOffer, .flueCancel, .flueHello, .flueProbe, .flueRoute, .flueUnreachable].all
      fun f => refuses Instr.wf (f okM) [f badM]) = true := by decide +kernel

theorem test_illformed_hostReadCompletion :
    ([Instr.hostReadCompletion].all
      fun f => refuses Instr.wf (f okH 0 .poisoned) [f badH 0 .poisoned]) = true := by decide +kernel

theorem test_illformed_thermalSample :
    ([Instr.thermalSample].all
      fun f => refuses Instr.wf (f (List.replicate 16 .failed)) [f (List.replicate 15 .failed), f (List.replicate 17 .failed)]) = true := by decide +kernel

theorem test_illformed_avsCurrentSample :
    ([Instr.avsCurrentSample].all
      fun f => refuses Instr.wf (f (List.replicate 8 none)) [f (List.replicate 7 none), f (List.replicate 9 none)]) = true := by decide +kernel

theorem test_illformed_auxRailSample :
    ([Instr.auxRailSample].all
      fun f => refuses Instr.wf (f (List.replicate 7 0) (List.replicate 7 0)) [f (List.replicate 6 0) (List.replicate 7 0),
      f (List.replicate 8 0) (List.replicate 7 0),
      f (List.replicate 7 0) (List.replicate 6 0),
      f (List.replicate 7 0) (List.replicate 8 0)]) = true := by decide +kernel

theorem test_illformed_smoulderEntry :
    ([Instr.smoulderEntry].all
      fun f => refuses Instr.wf (f (.kiln 0)) [f (.kiln 4)]) = true := by decide +kernel

theorem test_illformed_perstRelease :
    ([Instr.perstRelease].all
      fun f => refuses Instr.wf (f false false (List.replicate 32 0)) [f false false (List.replicate 31 0), f false false (List.replicate 33 0)]) = true := by decide +kernel

theorem test_illformed_startupStepDone :
    ([Instr.startupStepDone, .startupStepLimit].all
      fun f => refuses Instr.wf (f .serving) [f (.kiln 4 0)]) = true := by decide +kernel

theorem test_illformed_getVersion :
    ([Instr.getVersion, .getCapabilities, .negotiateAlgorithms, .getDigests, .getCertificate, .spdmChallenge, .getMeasurements,
      .keyExchange, .spdmFinish, .endSession, .keyUpdate, .ideKm].all
      fun f => refuses Instr.wf (f 63 [] []) [f 64 [] []]) = true := by decide +kernel

theorem test_illformed_entdaa :
    ([Instr.entdaa].all
      fun f => refuses Instr.wf (f 127) [f 128]) = true := by decide +kernel

theorem test_illformed_setdasa :
    ([Instr.setdasa].all
      fun f => refuses Instr.wf (f 127 127) [f 128 127, f 127 128]) = true := by decide +kernel

theorem test_illformed_doeDiscovery :
    ([Instr.doeDiscovery].all
      fun f => refuses Instr.wf (f 63 255) [f 64 255, f 63 256]) = true := by decide +kernel

/-! ## Values worked out from the spec's words -/

/-- R313: context in bits [63:54], generation in [53:40], slot in [39:16]. -/
theorem test_handle_layout : Handle.encode ⟨1023, 1, 0⟩ = 0xFFC0010000000000 ∧ Handle.encode ⟨0, 0, 1⟩ = 0x10000
    ∧ Handle.decode 0x0040010000050000 = hd 5 ∧ Handle.decode 0x004001000005FFFF = hd 5 := by decide +kernel

/-- R103 and R106: what the narrower formats make of 1000, infinity, NaN and a value below every subnormal. -/
theorem test_narrow_saturates : encodeElem .nearest 0x04 (numOf 0x447A0000) = 0x7E ∧ encodeElem .nearest 0x04 (numOf 0xFF800000) = 0x7F
    ∧ encodeElem .nearest 0x05 (numOf 0x7FC00000) = 0x7E ∧ encodeElem .nearest 0x05 (numOf 0x7F800000) = 0x7C
    ∧ encodeElem .nearest 0x10 (numOf 0xFF800000) = 0x80 ∧ encodeElem .nearest 0x10 (numOf 0x7FC00000) = 0
    ∧ encodeElem .nearest 0x11 (numOf 0x447A0000) = 7 ∧ encodeElem .nearest 0x04 (numOf 0x80000001) = 0x80 := by decide +kernel

/-- R106: halves round to even, and INT8 takes the nearest integer. -/
theorem test_narrow_even : encodeElem .nearest 0x10 (numOf 0x40200000) = 2 ∧ encodeElem .nearest 0x10 (numOf 0x40600000) = 4
    ∧ encodeElem .nearest 0x02 (numOf 0x3F808000) = 0x3F80 ∧ encodeElem .nearest 0x02 (numOf 0x3F818000) = 0x3F82 := by decide +kernel

/-- R105: an E4M3 element under a scale, a NaN scale, and INT8's most negative MXINT8 encoding, which reads as −2. -/
theorem test_mx_reads : fpOf (elemValue 0x08 0x38 128) = 0x40000000 ∧ elemValue 0x0C 1 255 = .nan
    ∧ fpOf (elemValue 0x0D 0x80 127) = 0xC0000000 ∧ fpOf (elemValue 0x0C 7 127) = 0x40C00000 := by decide +kernel

/-- R107: a block of 32 ones in E4M3 elements: q is 0, so the scale byte is 0 − 8 + 127 and each element is 2⁸. -/
theorem test_mx_scale : (encodeBlock 0x08 (List.replicate 32 (numOf 0x3F800000)) (List.replicate 32 .nearest)).1 = 119
    ∧ fpOf (elemValue 0x08 ((encodeBlock 0x08 (List.replicate 32 (numOf 0x3F800000)) (List.replicate 32 .nearest)).2.headD 0) 119) = 0x3F800000
    ∧ encodeBlock 0x0C (List.replicate 32 (numOf 0x80000000)) (List.replicate 32 .nearest) = (127, List.replicate 32 8)
    ∧ encodeBlock 0x0C (numOf 0x7F800000 :: List.replicate 31 (numOf 0x3F800000)) (List.replicate 32 .nearest) = (255, List.replicate 32 0) := by
  decide +kernel

/-- R104: signed zeros of products and sums. -/
theorem test_zero_signs : fpMul 0 0xC0400000 = 0x80000000 ∧ fpMul 0x80000000 0x80000000 = 0 ∧ fpAdd 0x80000000 0x80000000 = 0x80000000
    ∧ fpAdd 0x3F800000 0xBF800000 = 0 ∧ fpAdd 0 0x80000000 = 0 := by decide +kernel

/-- R119: the values of TX that the spec states, and EXP(0). -/
theorem test_exp : tableTX 0 = 1073741824 ∧ tableTX 32 = 1518500250 ∧ fpExp 0 = 0x3F800000 ∧ fpExp 0xFF800000 = 0 := by decide +kernel

/-- R120: TR[0], and the reciprocals of 2, of −0 and of −∞. -/
theorem test_rcp : tableTR 0 = 2139127680 ∧ fpRcp 0x40000000 = 0x3F000000 ∧ fpRcp 0x80000000 = 0xFF800000 ∧ fpRcp 0xFF800000 = 0x80000000 := by
  decide +kernel

/-- R121: the special inputs of RSQRT, and 1/√4. -/
theorem test_rsqrt : fpRsqrt 0x40800000 = 0x3F000000 ∧ fpRsqrt 0x80000000 = 0xFF800000 ∧ fpRsqrt 0xBF800000 = 0x7FC00000 ∧ fpRsqrt 0x7F800000 = 0 := by
  decide +kernel

/-- R114: four values are summed as (a + b) + (c + d), and the pairing shows: 2²⁴ + 1 loses the 1, and 1 + 1 does not. -/
theorem test_tree : tree [0x4B800000, 0x3F800000, 0x3F800000, 0x3F800000] = 0x4B800001 := by decide +kernel

/-- R180: with four check bytes, x⁴ + 15x³ + 54x² + 120x + 64 generates the code (multiplied out by hand over GF(2⁸) with 0x11D). -/
theorem test_rs_generator : (rsGen 4).map BitVec.toNat = [1, 15, 54, 120, 64] := by decide +kernel

/-- R33 and R366: the published check values of the two CRCs over the ASCII digits 1 to 9. -/
theorem test_crcs : crc64 [0x31, 0x32, 0x33, 0x34, 0x35, 0x36, 0x37, 0x38, 0x39] = 0x995DC9BBDF1939FA
    ∧ crc32 [0x31, 0x32, 0x33, 0x34, 0x35, 0x36, 0x37, 0x38, 0x39] = 0xCBF43926 := by decide +kernel

/-! ## States that meet the hypotheses of the other statements -/

def seenCtx : Ctx := { ctx1 with seen := [{ seq := 1, handle := hd 9, status := 1 }] }

/-- Source 5 is pending at target 4; then it is claimed. -/
def src5 : Source := { level := 2, pending := true }
def eventful : State := { base with evt := { base.evt with sources := base.evt.sources.set 5 src5 } }
def claimed : State :=
  { base with evt := { base.evt with
      sources := base.evt.sources.set 5 { src5 with pending := false, inService := true }, targets := base.evt.targets.set 4 { stack := [(5, 2)] } } }

def unlinked : State := { base with flue := {} }
def writing : State := { base with sec := { base.sec with nv := some .svnBurn } }
/-- Start-up is under way. -/
def starting (f : Reset → Reset) : State := { State.reset with rst := f { perst := false, rootLocked := true } }
def later (s : State) : State := { s with now := 180000000 }
def cmdOn (c : Cmd) : State := { base with cmds := [c] }
def waitCmd : Cmd := { cmd9 with phase := .waiting, done := false, waits := [(1, 5)], waitEnd := 2000000 }
/-- A command that may run. -/
def readyCmd (w : Work) : Cmd := { waitCmd with work := w, flagsOk := true, waits := [] }
def copyWork : Work := .tensorCopy (hd 1) (hd 2) 0 0 64
def lostState : State := { cmdOn (readyCmd copyWork) with store := { tensors := [{ bytesT 1 4096 [] with lost := [0] }, bytesT 2 655360 []] } }

/-- A launch of one tile, its command and its tile. -/
def launch4 : Launch :=
  { program := hd 6, grid := [1, 1, 1], counts := List.replicate 13 0, queueKib := (List.replicate 12 4).set 6 0, holdKib := 64, seed := 0
    bindings := [{ kind := 1, rw := true, handle := hd 1 }] }
def kcmd (sh : List Shadow) : Cmd := { cmd9 with work := .program launch4, done := false, tilesLeft := [0], shadows := sh }
def ktile : Tile := { cmd := hd 9, index := 0, die := 0, core := 0, fromDie := 0, fromCore := 0 }
def runnable : State := cmdOn (readyCmd (.program launch4))
/-- A copy whose source lies on a stack that is out of service, and a launch on a clamp whose only die is. -/
def hotStack : State :=
  { cmdOn (readyCmd copyWork) with
    store := { tensors := [bytesT 1 4096 [(0, { loc := some (.bank 0 0 0 0) })], bytesT 2 655360 []] }
    pwr := { base.pwr with sensors := base.pwr.sensors.set 4 { out := true } } }
def hotCores : State :=
  { runnable with
    clamps := { clamp0 with cores := [BitVec.allOnes 64, 0, 0, 0] } :: List.replicate 7 {}
    rst := { base.rst with ready := base.rst.ready &&& ~~~BitVec.ofNat 64 (2 ^ rdyKiln 0) }
    pwr := { base.pwr with sensors := base.pwr.sensors.set 0 { out := true } } }

/-- An in-bank block of one part that reads one sod, and the sod in its place. -/
def part0 : InbankBlock :=
  { program := hd 6, parts := 1, entry := 0, args := [(0, 0), (0, 0), (0, 0), (0, 0)], bcast := hd 1, bcastOff := 0, bcastLen := 32, bcastStep := 0
    bindings := [{ handle := hd 2, count := 1 }] }
def bankSod : Sod := { loc := some (.bank 0 0 0 0), tag := sodTag [] }
def bankStore : Store :=
  { tensors := [bytesT 1 4096 [(0, { bankSod with loc := some (.bank 0 0 1 1) })], bytesT 2 4096 [(0, bankSod)], bytesT 6 4096 []] }
def partable : State :=
  { cmdOn (readyCmd (.inband part0)) with exrad := { chans := [(0, { trained := true })] }, store := bankStore }
/-- A command that waits for a sod that lies in no bank pair. -/
def promotable : State :=
  { cmdOn { waitCmd with work := .inband part0 } with
    store := { tensors := [bytesT 1 4096 [], { bytesT 2 4096 [(0, { loc := some (.bog 0 0), tag := sodTag [] })] with useHint := 1 }, bytesT 6 4096 []] }
    exrad := { chans := [(0, { trained := true, mode := .memory })] } }

/-- A tile whose streams have ended, with one record in its hold area; a shadow that another tile has written. -/
def endedTile : Tile :=
  { ktile with exe := { ktile.exe with ended := true }, acc := { ktile.acc with ended := true }, hold := [{ slot := 0, plane := false, off := 0, bytes := [1, 2] }] }
def ended (sh : List Shadow) : State := { cmdOn (kcmd sh) with kiln := { tiles := [endedTile] } }
def farTile : Tile := { ktile with die := 3, core := 63, committing := true }
/-- Settings that waited for a shadow to go. -/
def setCmd : Cmd := { cmd9 with work := .clampConfigure 1 (zeros 184), done := false }
def shadow4 : List Shadow := [{ t := hd 1, sod := 0, data := [], mask := 1, tileMask := 1 }]

/-- A command that has written one byte of an ash sod. -/
def ashyCmd : Cmd := { cmd9 with work := copyWork, shadows := [{ t := hd 1, sod := 0, data := [], mask := 1, fromAsh := true }] }
def ashy : State := { cmdOn ashyCmd with store := { tensors := [bytesT 1 4096 [(0, { ash := true })]] } }

/-- A tensor of the banks with one sod, which lies in the bog, and a channel. -/
def bank1 (sods : Table Sod) : Tensor := { bytesT 1 45056 sods with useHint := 1 }
def good0 : Sod := { loc := some (.bog 0 0), tag := sodTag [] }
theorem promote_some {s : State} {t : Handle} {k : Nat} {l : Loc} {x : Tensor} {old : Sod} (ht : tensorAny s t = some x)
    (hk : tget? x.sods k = some old) (hl : old.loc ≠ some l) (ha : old.ash = false)
    (hg : (!placeOk s x k l || shadowed s t k || !quiet s old.loc || !quiet s (some l) || !movesStand s x) = false) :
    ∃ u, promote s t k l = some u := by
  simp only [promote, ht, hk]
  rw [if_neg (by simp [hl, ha]), hg]
  simp only [Bool.false_eq_true, if_false]
  split <;> exact ⟨_, rfl⟩
def memory0 : Chan := { trained := true, mode := .memory }
def promotes (x : Sod) (c : Chan) : State := { base with store := { tensors := [bank1 [(0, x)]] }, exrad := { chans := [(0, c)] } }
/-- A channel that holds a sealed sod, read in the last period. -/
def readOn : State :=
  { base with
    store := { tensors := [{ bank1 [(0, { good0 with loc := some (.bank 0 0 0 0) })] with hitsPrev := [(0, 1)] }] }
    exrad := { chans := [(0, memory0)] } }

/-! ## Cores with one instruction or entry to issue -/

/-- A program of one entry and one instruction. -/
def progBytes (e : List (Nat × Nat × Nat)) (w : Nat) : List Byte := blkN 144 ([(0, 4, 1), (4, 4, 1)] ++ e ++ [(128, 8, w)])
def kiln (e : List (Nat × Nat × Nat)) (w : Nat) (t : Tile) : State :=
  { cmdOn (kcmd []) with
    kiln := { tiles := [t] }
    store := { tensors := [bytesT 1 4096 [], bytesT 6 144 [(0, stored (progBytes e w))]] } }
def instr (w : Nat) : ExecInstr := decodeExec (natLE 8 w)
def entry (e : List (Nat × Nat × Nat)) : Entry := decodeEntry (slice (progBytes e 0) 64 64)
/-- An instruction's word from its fields (R144). -/
def word (op mode dst a b : Nat) : Nat := op + 2 ^ 8 * mode + 2 ^ 13 * dst + 2 ^ 30 * a + 2 ^ 47 * b

/-- A tile that is ready for its first instruction. -/
def fresh (t : Tile) : Bool :=
  t.die == 0 && t.core == 0 && !t.halted && !t.committing && t.cmd == hd 9 && !t.exe.ended && !t.acc.ended && t.exe.pos == 0 && t.acc.pos == 0

theorem kiln_issues {e : List (Nat × Nat × Nat)} {w : Nat} {t : Tile} (h : fresh t = true) :
    issuing (kiln e w t) 0 0 = some (t, kcmd [], launch4) := by
  simp only [fresh, Bool.and_eq_true, Bool.not_eq_true', beq_iff_eq] at h
  obtain ⟨⟨⟨⟨⟨⟨⟨⟨a, b⟩, c⟩, d⟩, f⟩, -⟩, -⟩, -⟩, -⟩ := h
  simp [issuing, tileOn, kiln, cmdOn, cmdOf, a, b, c, d, f, kcmd, cmd9, launchOf]

theorem kiln_tensor (e : List (Nat × Nat × Nat)) (w : Nat) (t : Tile) :
    tensorAny (kiln e w t) (hd 6) = some (bytesT 6 144 [(0, stored (progBytes e w))]) := by simp [tensorAny, kiln, bytesT, hd]

theorem kiln_fetch {e : List (Nat × Nat × Nat)} {w off n : Nat} {t : Tile} (h : off + n ≤ 144) :
    fetchBytes (kiln e w t) (kcmd []) launch4 off n = .got (readView [(0, stored (progBytes e w))] 0 off n) := by
  have hv : viewOf (kiln e w t) (kcmd []) (hd 6) = [(0, stored (progBytes e w))] := by
    rw [viewOf, kiln_tensor]; rfl
  have hp : launch4.program = hd 6 := rfl
  have hn : ¬ 144 < off + n := by omega
  have hu : firstUnread (kcmd []) (hd 6) [(0, stored (progBytes e w))] (sodsOf 0 off n) = none := by
    simp [firstUnread, firstBad_stored, kcmd, cmd9]
  have ho : ∀ k, ownedLoc (kiln e w t) 0 (sodIn [(0, stored (progBytes e w))] k).loc = true := fun k => by
    by_cases e : 0 = k <;> simp [sodIn, tgetD, tget?, e, stored, mkSod, ownedLoc]
  simp [fetchBytes, hp, hv, kiln_tensor, bytesT, if_neg hn, hu, ho]

theorem fetchInstr_of {s : State} {c : Cmd} {l : Launch} {a n i : Nat} {b0 b : List Byte} (h0 : fetchBytes s c l 0 8 = .got b0)
    (h1 : imageSizes b0 = (a, n)) (hi : i < n) (h2 : fetchBytes s c l (instrOffset a i) 8 = .got b) : fetchInstr s c l i = .got (decodeExec b) := by
  simp only [fetchInstr, fetchSizes, h0, h1, if_neg (Nat.not_le.2 hi), h2]

theorem fetchEntry_of {s : State} {c : Cmd} {l : Launch} {a n i : Nat} {b0 b : List Byte} (h0 : fetchBytes s c l 0 8 = .got b0)
    (h1 : imageSizes b0 = (a, n)) (hi : i < a) (h2 : fetchBytes s c l (entryOffset i) 64 = .got b) : fetchEntry s c l i = .got (decodeEntry b) := by
  simp only [fetchEntry, fetchSizes, h0, h1, if_neg (Nat.not_le.2 hi), h2]

theorem kiln_at {op w : Nat} {t : Tile} (h : fresh t = true)
    (hw : (imageSizes (readView [(0, stored (progBytes [] w))] 0 0 8) == (1, 1)
      && readView [(0, stored (progBytes [] w))] 0 128 8 == natLE 8 w && execListed (instr w) && (instr w).opcode == op) = true) :
    KilnAt op (kiln [] w t) 0 0 t (kcmd []) launch4 (instr w) := by
  have h' := h
  simp only [Bool.and_eq_true, beq_iff_eq] at hw
  obtain ⟨⟨⟨a, b⟩, c⟩, d⟩ := hw
  simp only [fresh, Bool.and_eq_true, Bool.not_eq_true', beq_iff_eq] at h'
  refine ⟨kiln_issues h, h'.1.1.1.2, ?_, c, d⟩
  rw [h'.1.2]
  exact fetchInstr_of (kiln_fetch (Nat.le_of_ble_eq_true rfl)) a Nat.zero_lt_one ((kiln_fetch (Nat.le_of_ble_eq_true rfl)).trans (congrArg _ b))

theorem entry_at {op : Nat} {e : List (Nat × Nat × Nat)} {t : Tile} (h : fresh t = true)
    (hw : (imageSizes (readView [(0, stored (progBytes e 0))] 0 0 8) == (1, 1)
      && readView [(0, stored (progBytes e 0))] 0 64 64 == slice (progBytes e 0) 64 64 && !badEntry (entry e) && (entry e).opcode == op) = true) :
    EntryAt op (kiln e 0 t) 0 0 t (kcmd []) launch4 (entry e) := by
  have h' := h
  simp only [Bool.and_eq_true, beq_iff_eq, Bool.not_eq_true'] at hw
  obtain ⟨⟨⟨a, b⟩, c⟩, d⟩ := hw
  simp only [fresh, Bool.and_eq_true, Bool.not_eq_true', beq_iff_eq] at h'
  refine ⟨kiln_issues h, h'.1.1.2, ?_, c, d⟩
  rw [h'.2]
  exact fetchEntry_of (kiln_fetch (Nat.le_of_ble_eq_true rfl)) a Nat.zero_lt_one ((kiln_fetch (Nat.le_of_ble_eq_true rfl)).trans (congrArg _ b))

theorem quiet_of {t : Tile} (h : (t.flights.isEmpty && t.readers.isEmpty && t.units.all (fun u => decide (u.2 ≤ t.exe.cycle))
    && t.bufs.all (fun u => decide (u.2 ≤ t.exe.cycle)) && t.statOld.all fun u => decide (u.2 ≤ t.exe.cycle)) = true) : Quiet t := by
  simp only [Bool.and_eq_true, List.isEmpty_iff, List.all_eq_true, decide_eq_true_eq] at h
  obtain ⟨⟨⟨⟨a, b⟩, c⟩, d⟩, e⟩ := h
  have k : ∀ {α : Type} (l : List α) (i : Nat) (x : α) (P : α → Prop), P x → (∀ y ∈ l, P y) → P (at? l i x) := by
    intro α l i x P h0 hl
    simp only [at?]
    cases hi : l[i]? with
    | none => exact h0
    | some y => exact hl y (List.mem_of_getElem? hi)
  exact ⟨a, b, fun u => k _ u (0, 0) (fun y => y.2 ≤ _) (Nat.zero_le _) c,
    fun b => ⟨k _ b (0, 0) (fun y => y.2 ≤ _) (Nat.zero_le _) d, k _ b (none, 0) (fun y => y.2 ≤ _) (Nat.zero_le _) e⟩⟩

/-- A tile with the registers that the vector unit and the array use. -/
def regTile : Tile :=
  { ktile with exe := { ktile.exe with regs := [1, 2, 0, 128, 512, 0x020404, 0, 0, 0, 0x00010002, 0, 0, 0] } }

/-- A vector instruction that meets the hypotheses of its row. -/
def VecMet (op : Nat) (P : Tile → ExecInstr → Prop) (reads : Tile → ExecInstr → List (Nat × Nat))
    (outs : Tile → ExecInstr → List (List FP32) → List (Nat × List Byte)) : Prop :=
  ∃ s d n t c l x, KilnAt op s d n t c l x ∧ Quiet t ∧ 1 ≤ rVLEN t ∧ P t x ∧ (∀ r ∈ reads t x, inWork l r.1 r.2 = true)
    ∧ ∀ r ∈ outs t x ((reads t x).map fun r => fps (work t r.1 r.2)), inWork l r.1 r.2.length = true

/-- A request of a load queue that waits for its data, and a Slane channel that has halted. -/
def req4 : LoadReq := { queue := 7, slot := 0, plane := false, off := 4032, len := 64, eos := false }
def reqTile : Tile := { ktile with acc := { ktile.acc with reqs := [req4] } }
def halted7 : State := { busy with ctxs := [(1, { ctx1 with waitLimit := 1000 })], kiln := { slane := [(127, { cmd := hd 9, halt := some (999000, hd 1, 0) })] } }

/-- The tile whose request waits at a channel that is not in memory mode. -/
def waitTile : Tile := { ktile with acc := { ktile.acc with reqs := [{ req4 with chan := some 0 }] } }

/-! ## Channels and Ember units with one micro-operation to run -/

/-- A block of one part that reads sod 0 of tensor 2 and writes sod 0 of tensor 1, and its command. -/
def eblock : InbankBlock := { part0 with bindings := [{ handle := hd 2, count := 1 }, { handle := hd 1, rw := true, count := 1 }] }
def ecmd : Cmd :=
  { cmd9 with
    work := .inband eblock, done := false, partsLeft := [0]
    shadows := [{ t := hd 1, sod := 0, data := [], mask := 0, loc := some (.bank 0 0 1 0) }], snap := some [(hd 2, [(0, { bankSod with tag := 0 })])] }
/-- A module in which one channel of stack 0 stands as given. -/
def onChan (c : Chan) : State := { cmdOn ecmd with exrad := { chans := [(0, c)] }, store := bankStore }
def procChan (u : EUnit) : Chan := { trained := true, mode := .processor, openRows := [(0, 0), (1, 0)], units := [(0, u)] }
/-- A unit with one micro-operation in its store; address register 0 names the sod read, register 1 the sod written. -/
def eunit (w : Nat) : EUnit :=
  { state := .running, part := some (hd 9, 0), store := [BitVec.ofNat 64 w], areg := [0, BitVec.ofNat 64 (2 ^ 39), 0, 0, 0, 0, 0, 0], fmt := 0x010404
    fences := { valid := true, bank := 1, firstRow := 0, rows := 1 } :: List.replicate 7 {}
    bankMap := [{ slot := 0, sod := 0, count := 1, bank := 0, row := 0, alternate := false, writable := false },
      { slot := 1, sod := 0, count := 1, bank := 1, row := 0, alternate := false, writable := true }] }
/-- A micro-operation's word from its fields (R215). -/
def eword (op a v p n line flags imm : Nat) : Nat :=
  op + 2 ^ 8 * a + 2 ^ 11 * v + 2 ^ 15 * p + 2 ^ 17 * (n - 1) + 2 ^ 23 * line + 2 ^ 32 * flags + 2 ^ 40 * imm
def ectx (u : EUnit) : ECtx := { s := onChan (procChan u), stack := 0, chan := 0, unit := 0, c := ecmd, b := eblock, part := 0, k := 0 }
def eop (w : Nat) : EOp := decodeEmber (BitVec.ofNat 64 w)

theorem ember_at {op w : Nat} {u : EUnit} (h : (u.part == some (hd 9, 0) && u.state == .running && u.pc == 0
    && at? u.store 0 0 == BitVec.ofNat 64 w && (eop w).op == op && partForeign (ectx u).s ecmd eblock 0 == false) = true) : EmberAt op (ectx u) (hd 9) u (eop w) := by
  simp only [Bool.and_eq_true, beq_iff_eq] at h
  obtain ⟨⟨⟨⟨⟨a, b⟩, c⟩, d⟩, e⟩, f⟩ := h
  exact ⟨rfl, by simp only [unitWork, a]; rfl, rfl, b, rfl, by omega, by rw [c, d]; rfl, e, f, rfl⟩

def gotOf : ERead (List Byte) → Option (List Byte)
  | .got b => some b
  | _ => none

theorem got_of {r : ERead (List Byte)} {b : List Byte} (h : gotOf r = some b) : r = .got b := by
  cases r with
  | got x => simp only [gotOf, Option.some.injEq] at h; rw [h]
  | _ => cases h

/-- The command of a launch with a trigger window, and its channel in address-trigger mode. -/
def wcmd : Cmd := { ecmd with work := .program { launch4 with bindings := [{ kind := 3 }], inband := some eblock } }
def windowOn (u : EUnit) : State := { onChan { procChan u with trigger := true } with cmds := [wcmd] }
/-- A tile of that command that waits at its window for the unit to end. -/
def windowTile : Tile :=
  { ktile with acc := { ktile.acc with reqs := [{ req4 with off := windowOffset 0 5 127, len := 32, unit := some (0, 0, 0) }] } }
def windowAsks (u : EUnit) : State := { windowOn u with kiln := { tiles := [windowTile] } }
/-- A channel in processor mode at which a request has waited for 20 µs. -/
def waited : State :=
  { onChan (procChan {}) with kiln := { tiles := [{ ktile with acc := { ktile.acc with reqs := [{ req4 with chan := some 0, since := 980000 }] } }] } }
/-- An open row with the sods given, which no command writes, on a channel in memory mode. -/
def resealing (l : Table Sod) : State :=
  { onChan { procChan {} with mode := .memory } with cmds := [], store := { bankStore with tensors := [bytesT 1 4096 [], bytesT 2 4096 l] } }
def torn : Sod := { bankSod with tag := ~~~sodTag [] }


/-! ## Stored sods, stripes and requests -/

def oldSod (n : Nat) : Sod := { mkSod [(n, 0x5A)] (some (.bank 0 0 0 0)) with ash := false }
/-- A tensor of sods in banks. -/
def bankT (x : Tensor) : State := { base with store := { tensors := [x] }, exrad := { chans := [(0, memory0)] } }
/-- Two wrong bytes of a burst, which no code corrects; and one, which every code corrects. -/
def twoWrong (n : Nat) : MemErr := .flips 3 ([1, 1] ++ List.replicate n 0) false
def oneWrong (n : Nat) : MemErr := .flips 3 (1 :: List.replicate n 0) false
/-- A stripe whose first sod is ash and whose other sods are absent. -/
def stripe0 : Stripe := { tags := [sodTag (rebuilt (bank1 [(0, { ash := true })]) { tags := [], parity := mkSod [] none } 0)], parity := mkSod [] none }
def striped : Tensor := { bank1 [(0, { ash := true })] with shared := true, stripes := [(0, stripe0)] }
def memChan (c : Chan) : State := { base with exrad := { chans := [(0, { c with trained := true, mode := .memory })] } }
def scrubbing : State := { base with store := { scrubStart := some 0 }, now := 24 * 360000000000 }

/-- The serving clamp with one request as given, and commands in flight. -/
def serveReq (q : Req) (cs : List Cmd) (mixed : Bool) : State :=
  { served with cmds := cs, serve := { served.serve with reqs := [q], prefillTurn := [(0, mixed)] } }
def decoding : Req := { req6 with state := .decode, kvLen := 2, done := 2, generated := [4], turves := [{ slot := 0 }] }
def stepCmd : Cmd := { handle := { ctx := 2, gen := 1, slot := 1 }, queue := some 2, work := .step 0 77 [0] [some 4], phase := .run, done := true }

/-- A stripe of absent sods whose parity sod is ash. -/
def parity0 : Stripe := { tags := [], parity := { ash := true } }
def parityLess : Tensor := { bank1 [] with shared := true, stripes := [(0, parity0)] }

theorem good_zero : tagFails (mkSod [] none) = false := by simp [tagFails, mkSod]
theorem striped_members (i : Nat) (h : i ≠ 0) : firstBad striped.sods [i] = none := by
  have e : striped.sods = [(0, { ash := true })] := rfl
  have n : tget? [(0, ({ ash := true } : Sod))] i = none := by simp [tget?, Ne.symm h]
  simp only [firstBad, List.find?, e]
  rw [n]
theorem no_bad_members (r : Stripe) (h1 : r.parity.ash = false) (h2 : tagFails r.parity = false) (x : Tensor) (hs : tget? x.stripes 0 = some r)
    (hx : ∀ i, i ≠ 0 → firstBad x.sods [i] = none) : badMembers x 0 0 [] = [] := by
  simp only [badMembers, List.filter_eq_nil_iff, hs, Option.any_some, h1, h2]
  intro i _
  by_cases h0 : i = 0
  · simp [h0]
  · split <;> simp [hx, h0]

theorem striped_good : badMembers striped (0 / 11) (0 % 11) [] = [] := no_bad_members stripe0 rfl good_zero striped rfl striped_members

/-- R261: a parked request rejoins once the pool has a free run, in new slots. -/
theorem test_parked_rejoins :
    let s := serveReq { decoding with parked := true, turves := [{ slot := 8, inBog := true }] } [] false
    (rejoinParked 1 s 0).serve.reqs = [{ decoding with parked := false, turves := [{ slot := 0 }] }] := by decide +kernel

/-! ## Ports and partners -/

def up0 : Port := { state := .up, partner := 7, reach := [7] }
/-- The module with port 0 as given. -/
def onPort (p : Port) : State := { base with flue := { base.flue with ports := p :: List.replicate 7 {} }, now := 20000000 }
def training0 (n : Nat) (l : List Nat) (start : Nat := 19900000) : State :=
  onPort { state := .training, attempts := n, attemptStart := start, failedLanes := l }

/-- A message from module 7 to context 1, with a tag of its own. -/
def msg7 : Msg := { dst := 5, src := 7, dctx := 1, sctx := 3, epoch := 3, tag := 9 }
def hand7 : Msg := { msg7 with tag := 2 ^ 63 + 2 ^ 62 + 4 }
def pair7 : Pair := { port := 0, epoch := 3 }
/-- A state in which the module takes what module 7 sends. -/
def takes7 (s : State) : State := { s with flue := base.flue }
theorem pair_takes {s : State} {m : Msg} (h : (pairOf s m.src == some pair7 && m.epoch == 3 && s.flue.lock && m.dst == s.flue.moduleId) = true) :
    PairTakes s m pair7 := by
  simp only [Bool.and_eq_true, beq_iff_eq] at h
  exact ⟨h.1.1.1, rfl, h.1.1.2.symm, h.1.2, h.2⟩

/-- A command that sends to module 7, one that receives from it, and one that waits for its answer. -/
def sendCmd : Cmd := { cmd9 with work := .flueSend (hd 1) 0 4096 7 3 9, done := false, phase := .run }
def recvCmd : Cmd := { cmd9 with work := .flueReceive (hd 1) 0 4096 7 9, done := false, phase := .run }
/-- A command that has taken what partner 7 sent under tag 9. -/
def takenCmd : Cmd := { cmd9 with done := false, phase := .run, transfer := { cmd9.transfer with taken := [(7, 9)] } }
def askCmd : Cmd := { cmd9 with awaiting := true }
/-- R9, R381: data that comes at the end of a receive's wait comes too late, and one unit of time earlier it is in time. -/
theorem test_late_data :
    ∀ x ∈ [(4999999, true), (5000000, false)],
    let s : State := { cmdOn { recvCmd with runAt := 1000000 } with now := 1000000 + x.1 }
    ((cmdOf (closeWaits s) (hd 9)).map (·.phase)) = some (if x.2 then .run else .ended) := by decide +kernel
def handCmd : Cmd := { cmd9 with work := .handover 0, done := false, phase := .run }
def full7 : State := { base with clamps := { clamp0 with landingShare := 0 } :: List.replicate 7 {} }
def eaten7 : State := { base with flue := { base.flue with consumed := [(1, 7, 9)] } }
def open7 : State := { base with ctxs := [(1, { ctx1 with remoteMask := 1 })] }
def silent7 : State := { base with flue := { base.flue with tokens := [{ die := 0, ctx := 1, src := 7, tag := 9, off := 0, len := 4096 }] }, now := 20000000 }

/-! ## The host's port, power and security -/

/-- A write of a tensor whose read of host memory waits for 64 bytes. -/
def readCmd : Cmd := { cmd9 with work := .tensorWrite (hd 1) 0 0x1000 64 0 0x10, done := false, phase := .run, hostOut := [(0, 64)], hostReqs := [(0, 0, 64)] }
def readBusy : State := cmdOn readCmd
/-- That read with all its data. -/
def hostEnded : State :=
  let left := dropRange 0 (zeros 64).length readCmd.hostOut
  pumpHost 4096 (modCmd (gather readBusy 0x5002 (zeros 64).length) readCmd.handle fun x =>
    { x with hostData := wrBytes x.hostData 0 (zeros 64), hostOut := left, hostReqs := openReqs left x.hostReqs })
def onIde (st : IdeState) : State :=
  { readBusy with sec := { base.sec with ide := { state := st, fnLow := 0, fnHigh := 9, ranges := [(0, 0xFFFF)] } :: List.replicate 7 {} } }
def powered (f : Power → Power) : State := { base with pwr := f { base.pwr with setpoint := 750 }, now := 3000000 }
def overCapped : State := powered fun p => { p with advisory := some 0, cap := 600, p1 := 700, lastP1 := [700], slowDone := 30, advisoryCmds := [hd 9] }
def coldDie : State := powered fun p => { p with smoulderIn := 0xFFFFFFF0 }
/-- Kiln die 0 was active 9,999 counts ago. -/
def warmDie : State := powered fun p => { p with smoulderIn := 0xFFFFFFF0, activeAt := p.activeAt.set 0 2990001 }
def hotDie : State := powered fun p => { p with sensors := { out := true } :: List.replicate 15 {} }
def secured (f : Sec → Sec) : State := { base with sec := f base.sec }
def warming (t : Nat) : State := { secured fun x => { x with nv := some .svnBurn } with rst := { base.rst with warmWait := some (false, t) } }

/-! ## Mailboxes and the sideband -/

def spdm (x : Spdm) : State := secured fun c => { c with spdm := x :: List.replicate 63 {} }
def agreed : Spdm := { version := 0x12, caps := true, algs := true }
/-- A mailbox with session 0, established or not. -/
def sessioned (up : Bool) : State := spdm { agreed with sessions := [(0, up, [7])] }
def offline : State := { base with rst := { base.rst with ready := 0 } }
/-- A stream with every key of key set 0. -/
def keyed : State :=
  let s := sessioned true
  { s with sec := { s.sec with ide := { programmed := (List.range 6).map fun i => (2 * i, [1]) } :: List.replicate 7 {} } }
def i3c (x : I3c) : State := { base with i3c := x }

theorem test_base_inv : Inv base :=
  ⟨rfl, List.prefix_rfl, rfl, rfl, List.length_replicate .., List.length_replicate .., Nat.zero_le _, by decide, Nat.zero_le _,
    List.pairwise_singleton ..⟩
theorem test_met_SequenceMemory :
    (∃ (seen : List Seen) (q : Nat) (x : Seen), seen.find? (fun y => y.seq == q) = some x) ∧
    (∃ (seen : List Seen) (q : Nat), (∀ x ∈ seen, x.seq ≠ q) ∧ (∃ x ∈ seen, q < x.seq)) ∧
    (∃ (seen : List Seen) (b q : Nat), (∀ x ∈ seen, x.seq < q) ∧ q ≠ b) ∧
    (∃ (seen : List Seen) (q : Nat), (∀ x ∈ seen, x.seq < q)) ∧
    (∃ (v : Verdict), v.status = stBusyRetry) ∧
    (∃ (v : Verdict), v.status ≠ stBusyRetry) ∧
    (∃ (v : Verdict), (v.status = stDuplicate ∨ v.status = stSequenceStale)) ∧
    (∃ (v : Verdict), v.status ≠ stBusyRetry ∧ v.status ≠ stDuplicate ∧ v.status ≠ stSequenceStale) ∧
    (∃ (s : State) (p : Packet) (c : Ctx) (v : Verdict), takesPackets s p.fn = true ∧ p.boot = false ∧ ctxOf s p.ctx = some c ∧
        c.fn = p.fn ∧ c.ending = false ∧ c.serving = false ∧ c.taken = [] ∧ p.choice.fwHeld = false ∧
        seqTest c.seen c.retry p.seq = some v ∧ v.effect = id ∧ v.status ≠ stOk) := by
  refine ⟨?_, ?_, ?_, ?_, ?_, ?_, ?_, ?_, ?_⟩
  · exact ⟨[{ seq := 5, handle := hd 9, status := 0 }], 5, { seq := 5, handle := hd 9, status := 0 }, by decide +kernel⟩
  · exact ⟨[{ seq := 5, handle := hd 9, status := 0 }], 4, by decide +kernel⟩
  · exact ⟨[{ seq := 5, handle := hd 9, status := 0 }], 7, 8, by decide +kernel⟩
  · exact ⟨[{ seq := 5, handle := hd 9, status := 0 }], 6, by decide +kernel⟩
  · exact ⟨{ status := stBusyRetry }, by decide +kernel⟩
  · exact ⟨{ status := stOk }, by decide +kernel⟩
  · exact ⟨{ status := stDuplicate }, by decide +kernel⟩
  · exact ⟨{ status := stAccepted }, by decide +kernel⟩
  · exact ⟨{ base with ctxs := [(1, seenCtx)] }, pk [], seenCtx, { status := stDuplicate, handle := hd 9, value := 1 }, by decide +kernel, by decide +kernel, by decide +kernel, by decide +kernel, by decide +kernel, by decide +kernel, by decide +kernel, by decide +kernel, rfl, rfl, by decide +kernel⟩

theorem test_met_ReplyRecord :
    (∃ (s : State) (n : Nat) (c : Ctx), ctxOf s n = some c ∧ c.ending = false ∧ c.serving = false ∧ (∀ x ∈ c.held, x.kind ≠ 0x01) ∧
        1 ≤ ringFree c ∧ c.unreported + 1 < c.winCount ∧ c.winStart ≠ none) :=
  ⟨{ base with ctxs := [(1, { ctx1 with winStart := some 1000000, winCount := 4 })] }, 1, { ctx1 with winStart := some 1000000, winCount := 4 }, by decide +kernel⟩

theorem test_met_HostWrites :
    (∃ (s : State) (f n o : Nat) (data : List Byte) (c : Ctx), takesPackets s f = true ∧ n < 1024 ∧ windowOpen s f n = some c ∧
        data ≠ [] ∧ o % 256 + data.length < 256 ∧ o < 4096) ∧
    (∃ (s : State) (f n o : Nat) (data : List Byte) (c : Ctx), takesPackets s f = true ∧ n < 1024 ∧ windowOpen s f n = some c ∧
        data ≠ [] ∧ o % 256 + data.length = 256 ∧ o < 4096 ∧ c.slot = o / 256) ∧
    (∃ (s : State) (f n o : Nat) (data : List Byte), takesPackets s f = true ∧ n < 1024 ∧ windowOpen s f n = none ∧ data ≠ [] ∧ o < 4096) ∧
    (∃ (s : State) (f off : Nat) (data : List Byte) (r : Reg), reachable s f = true ∧ (¬ (bootBase f ≤ off ∧ off < bootBase f + 256)) ∧
        regAt f (off / 8 * 8) = some r ∧ off % 8 = 0 ∧ data.length = 8) ∧
    (∃ (s : State) (f off : Nat) (data : List Byte) (r : Reg), reachable s f = true ∧ (¬ (bootBase f ≤ off ∧ off < bootBase f + 256)) ∧
        regAt f (off / 8 * 8) = some r ∧ off % 8 = 0 ∧ data.length = 4) ∧
    (∃ (s : State) (f off : Nat) (data : List Byte) (r : Reg), reachable s f = true ∧ (¬ (bootBase f ≤ off ∧ off < bootBase f + 256)) ∧
        regAt f (off / 8 * 8) = some r ∧ off % 8 = 4 ∧ data.length = 4) := by
  refine ⟨?_, ?_, ?_, ?_, ?_, ?_⟩
  · exact ⟨base, 0, 1, 0, [1], ctx1, by decide +kernel⟩
  · exact ⟨base, 0, 1, 0, zeros 256, ctx1, by decide +kernel⟩
  · exact ⟨base, 0, 2, 3840, [1], by decide +kernel⟩
  · exact ⟨base, 0, 0, zeros 8, .ident 0, by decide +kernel⟩
  · exact ⟨base, 0, 0, zeros 4, .ident 0, by decide +kernel⟩
  · exact ⟨base, 0, 4, zeros 4, .ident 0, by decide +kernel⟩

theorem test_met_PacketDeadlines :
    (∃ (s : State) (n : Nat) (c : Ctx) (t : Taken), ctxOf s n = some c ∧ c.taken = [t] ∧ t.held = true ∧ c.ending = false ∧
        s.now < t.sealAt + 600) ∧
    (∃ (s : State) (n : Nat) (c : Ctx) (t : Taken), ctxOf s n = some c ∧ c.taken = [t] ∧ t.held = true ∧ c.ending = false ∧
        t.sealAt + 600 ≤ s.now ∧ byFirmware s false t.op = true) ∧
    (∃ (s : State) (n b : Nat) (c : Ctx), ctxOf s n = some c ∧ c.winStart = some b ∧ b + c.winTime ≤ s.now ∧ 1 ≤ c.unreported) := by
  refine ⟨?_, ?_, ?_⟩
  · exact ⟨{ base with ctxs := [(1, { ctx1 with taken := [{ op := 0x0500, pkt := pk [], sealAt := 999401, held := true }] })] }, 1, { ctx1 with taken := [{ op := 0x0500, pkt := pk [], sealAt := 999401, held := true }] }, { op := 0x0500, pkt := pk [], sealAt := 999401, held := true }, by decide +kernel⟩
  · exact ⟨{ base with ctxs := [(1, { ctx1 with taken := [{ op := 0x0500, pkt := pk [], sealAt := 999400, held := true }] })] }, 1, { ctx1 with taken := [{ op := 0x0500, pkt := pk [], sealAt := 999400, held := true }] }, { op := 0x0500, pkt := pk [], sealAt := 999400, held := true }, by decide +kernel⟩
  · exact ⟨{ base with ctxs := [(1, { ctx1 with winStart := some 999900, winTime := 100, unreported := 1 })] }, 1, 999900, { ctx1 with winStart := some 999900, winTime := 100, unreported := 1 }, by decide +kernel⟩

theorem test_met_EventClaim :
    (∃ (s : State) (t k : Nat) (x : Source), s.evt.sources[k]? = some x ∧ eligible (tgtOf s t) t x = true) ∧
    (∃ (s : State) (f t : Nat) (g : Bool), reachable s f = true ∧ reachesTarget f t = true ∧ claimSource s t g ≠ 0) ∧
    (∃ (s : State) (f t : Nat), reachable s f = true ∧ reachesTarget f t = true ∧ (∀ x ∈ s.evt.sources, eligible (tgtOf s t) t x = false)) ∧
    (∃ (t : Target), t.stack = []) ∧
    (∃ (t : Target), ∃ n l r, t.stack = (n, l) :: r) ∧
    (∃ (x : Source), x.inService = true) ∧
    (∃ (t : Target) (k : Nat) (x : Source), x.pending = true ∧ x.mask = false ∧ x.target = k ∧ t.threshold < x.level ∧
        t.running < x.level) ∧
    (∃ (s : State) (n : Nat), n < s.evt.sources.length) := by
  refine ⟨?_, ?_, ?_, ?_, ?_, ?_, ?_, ?_⟩
  · exact ⟨eventful, 4, 5, src5, by decide +kernel⟩
  · exact ⟨eventful, 0, 4, false, by decide +kernel⟩
  · exact ⟨base, 0, 67, by decide +kernel⟩
  · exact ⟨{}, by decide +kernel⟩
  · exact ⟨{ stack := [(5, 2)] }, 5, 2, [], by decide +kernel⟩
  · exact ⟨{ inService := true }, by decide +kernel⟩
  · exact ⟨{}, 4, { src5 with level := 1 }, by decide +kernel⟩
  · exact ⟨base, 1023, by decide +kernel⟩

theorem test_met_EventRegisters :
    (∃ (s : State) (f t v l : Nat) (rest : List (Nat × Nat)), reachable s f = true ∧ reachesTarget f t = true ∧
        (tgtOf s t).stack = (v % 1024, l) :: rest) ∧
    (∃ (s : State) (f t v : Nat), reachable s f = true ∧ reachesTarget f t = true ∧ (tgtOf s t).stack.head?.map (·.1) ≠ some (v % 1024)) ∧
    (∃ (s : State) (f t : Nat), reachable s f = true ∧ reachesTarget f t = true) ∧
    (∃ (s : State), reachable s 0 = true) ∧
    (∃ (s : State) (n : Nat) (m : Bool), (srcOf s n).maskNext = some m) := by
  refine ⟨?_, ?_, ?_, ?_, ?_⟩
  · exact ⟨claimed, 0, 4, 5, 2, [], by decide +kernel⟩
  · exact ⟨claimed, 0, 4, 6, by decide +kernel⟩
  · exact ⟨base, 0, 67, by decide +kernel⟩
  · exact ⟨base, by decide +kernel⟩
  · exact ⟨{ base with evt := { base.evt with sources := base.evt.sources.set 5 { src5 with maskNext := some true } } }, 5, true, by decide +kernel⟩

theorem test_met_SingleRegisters :
    (∃ (s : State) (f : Nat), reachable s f = true) ∧
    (∃ (s : State) (f : Nat), reachable s f = true) ∧
    (∃ (s : State), reachable s 0 = true) ∧
    (∃ (s : State) (id : Nat), reachable s 0 = true ∧ s.flue.lock = false ∧ id < 65536 ∧ (∀ x ∈ s.flue.ports, x.state ≠ .up)) ∧
    (∃ (s : State), s.flue.lock = true) ∧
    (∃ (s : State), reachable s 0 = true) ∧
    (∃ (s : State) (f off t : Nat) (d : List Byte), reachable s f = true ∧ aligned off d.length = true ∧ off % 8 = 0 ∧
        (¬ (bootBase f ≤ off ∧ off < bootBase f + 256)) ∧ regAt f off = some (.tgtStatus t) ∧ bit (leNat d) 9 = true) ∧
    (∃ (s : State) (f off : Nat) (d : List Byte), reachable s f = true ∧ aligned off d.length = true ∧ off % 8 = 0 ∧
        (¬ (bootBase f ≤ off ∧ off < bootBase f + 256)) ∧ regAt f off = some .tripLog ∧ bit (leNat d) 5 = true) ∧
    (∃ (s : State) (f off : Nat) (d : List Byte), reachable s f = true ∧ aligned off d.length = true ∧ off % 8 = 0 ∧
        (¬ (bootBase f ≤ off ∧ off < bootBase f + 256)) ∧ regAt f off = some .overrun ∧ d.length = 8) ∧
    (∃ (s : State) (f off n : Nat), reachable s f = true ∧ aligned off n = true ∧ regAt f (off / 8 * 8) = none) := by
  refine ⟨?_, ?_, ?_, ?_, ?_, ?_, ?_, ?_, ?_, ?_⟩
  · exact ⟨base, 0, by decide +kernel⟩
  · exact ⟨base, 0, by decide +kernel⟩
  · exact ⟨base, by decide +kernel⟩
  · exact ⟨unlinked, 65535, by decide +kernel⟩
  · exact ⟨base, by decide +kernel⟩
  · exact ⟨base, by decide +kernel⟩
  · exact ⟨base, 0, 0x34010, 4, [0, 2, 0, 0, 0, 0, 0, 0], by decide +kernel⟩
  · exact ⟨base, 0, 0x50080, [32, 0, 0, 0, 0, 0, 0, 0], by decide +kernel⟩
  · exact ⟨base, 0, 0x90000, zeros 8, by decide +kernel⟩
  · exact ⟨base, 0, 0x90, 8, by decide +kernel⟩

theorem test_met_ResetState :
    (∃ n, 1 ≤ n ∧ n ≤ 511) :=
  ⟨511, by decide +kernel⟩

theorem test_met_WarmReset :
    (∃ (s : State), s.sec.nv = none) ∧
    (∃ (s : State), s.rst.rootLocked = true ∧ s.rst.warmWait = none ∧ s.sec.nv = none) ∧
    (∃ (s : State), s.rst.rootLocked = true ∧ s.rst.warmWait = none ∧ s.sec.nv.isSome = true) ∧
    (∃ (s : State), rdy s rdyHearth = true ∧ s.rst.lastService + 50000000 ≤ s.now ∧ s.rst.warmWait = none ∧ s.sec.nv = none) ∧
    (∃ (s : State), rdy s rdyHearth = true) ∧
    (∃ (f k : Nat), (f ≠ 0 ∨ k ≠ 0x4B52)) := by
  refine ⟨?_, ?_, ?_, ?_, ?_, ?_⟩
  · exact ⟨base, by decide +kernel⟩
  · exact ⟨base, by decide +kernel⟩
  · exact ⟨writing, by decide +kernel⟩
  · exact ⟨{ base with now := 50000000 }, by decide +kernel⟩
  · exact ⟨base, by decide +kernel⟩
  · exact ⟨1, 0x4B52, by decide +kernel⟩

theorem test_met_ClampAndFunctionResets :
    (∃ (s : State) (k : Nat), s.rst.rootLocked = true ∧ k ≤ 7 ∧ (clampOf s k).resetting = false ∧ (clampOf s k).resetWaits = false ∧
        s.rst.warmWait = none) ∧
    (∃ (f key : Nat), (f ≠ 0 ∨ key ≠ 0x4B52)) ∧
    (∃ (s : State) (k : Nat), (clampOf s k).resetting = true ∧ (clampOf s k).stop = none ∧ clampContexts s k = 0) ∧
    (∃ (s : State) (f : Nat), s.rst.perst = false ∧ s.rst.rootLocked = true ∧ s.rst.warmWait = none ∧ f ≠ 0) ∧
    (∃ (s : State), s.rst.perst = false ∧ s.rst.rootLocked = true ∧ s.rst.warmWait = none) ∧
    (∃ (s : State), s.rst.warmWait.isSome = true) ∧
    (∃ (s : State) (n : Nat), s.rst.perst = false ∧ s.rst.rootLocked = true ∧ s.rst.vfEnabled ≤ n ∧ n ≤ 63) := by
  refine ⟨?_, ?_, ?_, ?_, ?_, ?_, ?_⟩
  · exact ⟨base, 7, by decide +kernel⟩
  · exact ⟨0, 0, by decide +kernel⟩
  · exact ⟨{ base with clamps := base.clamps.set 7 { resetting := true } }, 7, by decide +kernel⟩
  · exact ⟨base, 1, by decide +kernel⟩
  · exact ⟨base, by decide +kernel⟩
  · exact ⟨warming 0, by decide +kernel⟩
  · exact ⟨base, 63, by decide +kernel⟩

theorem test_met_PinsAndClocks :
    (∃ (s t : State), (exec .perstAssert s = .next t ∨ exec .refclkLoss s = .next t ∨ exec .powerOn s = .next t)) ∧
    (∃ (s : State), s.rst.perst = true ∧ s.rst.refHeld = false ∧ s.rst.refGood = true ∧
        (s.pwr.quench = false ∨ (s.rst.thermCompat = true ∧ allCool s = true))) ∧
    (∃ (s : State), s.rst.perst = true ∧ (s.rst.refHeld = true ∨ s.rst.refGood = false)) ∧
    (∃ (s : State) (b : Nat), s.rst.rootPll = .running b) := by
  refine ⟨?_, ?_, ?_, ?_⟩
  · exact ⟨base, fundamental { base with rst := { base.rst with perst := true, refHeld := base.rst.refHeld && !base.rst.refGood } }, Or.inl rfl⟩
  · exact ⟨State.reset, by decide +kernel⟩
  · exact ⟨{ State.reset with rst := { perst := true, refHeld := true } }, by decide +kernel⟩
  · exact ⟨starting (fun r => { r with rootPll := .running 0 }), 0, by decide +kernel⟩

theorem test_met_StartupSteps :
    (∃ (s : State) (x : StartStep), s.rst.perst = false ∧ s.rst.rootLocked = true ∧ stepLate s x = true) ∧
    (∃ (s : State) (x : StartStep), s.rst.perst = false ∧ s.rst.rootLocked = true ∧ stepLate s x = false) ∧
    (∃ (s : State) (d b : Nat), at? s.rst.kiln d .idle = .running b) ∧
    (∃ (s : State) (b : Nat), s.rst.perst = false ∧ s.rst.rootLocked = true ∧ stepLate s .hostLink = false ∧ s.rst.hostLink = .running b) ∧
    (∃ (s : State) (b : Nat), s.rst.perst = false ∧ s.rst.rootLocked = true ∧ stepLate s .security = false ∧ s.rst.security = .running b) ∧
    (∃ (s : State) (b d n : Nat), s.rst.perst = false ∧ s.rst.rootLocked = true ∧ stepLate s (.kiln d n) = false ∧ at? s.rst.kiln d .idle = .running b) ∧
    (∃ (s : State) (b k : Nat) (m : BitVec 32) (ends : Bool), s.rst.perst = false ∧ s.rst.rootLocked = true ∧ stepLate s (.stack k m ends) = false ∧
        at? s.rst.training k .idle = .running b ∧ (∃ i, i < 32 ∧ (m.getLsbD i = true ∨ (chanOf s k i).trained = true)) ∧
        dieFailed s (k / 3) = false) ∧
    (∃ (s : State) (b : Nat) (m slow : BitVec 64), s.rst.perst = false ∧ s.rst.rootLocked = true ∧ stepLate s (.bog m slow) = false ∧
        s.rst.bog = .running b ∧ 2 ≤ bogDies (bogMask s m)) ∧
    (∃ (s : State) (b : Nat), s.rst.perst = false ∧ s.rst.rootLocked = true ∧ stepLate s .serving = false ∧ s.rst.serving = .running b) ∧
    (∃ (s : State) (b : Nat), s.rst.perst = false ∧ s.rst.rootLocked = true ∧ s.rst.security = .running b ∧
        s.rst.releasedAt + 120000000 ≤ s.now) ∧
    (∃ (s : State) (b k : Nat), s.rst.perst = false ∧ s.rst.rootLocked = true ∧ at? s.rst.training k .idle = .running b ∧
        b + 180000000 ≤ s.now) ∧
    (∃ (s : State) (b d : Nat), s.rst.perst = false ∧ s.rst.rootLocked = true ∧ at? s.rst.kiln d .idle = .running b ∧
        s.rst.releasedAt + 60000000 ≤ s.now) ∧
    (∃ (s : State), rdy s rdyHostLink = true) ∧
    (∃ (s : State),
        (∀ x ∈ s.rst.hostLink :: s.rst.kindling :: s.rst.security :: s.rst.bog :: s.rst.serving :: (s.rst.kiln ++ (advance13 s).rst.training), x.finished = true)) ∧
    (∃ (s : State), (∃ x ∈ [s.rst.hostLink, s.rst.kindling, s.rst.security, s.rst.bog, s.rst.serving], x.finished = false)) ∧
    (∃ (s : State) (k : Nat), k < 12 ∧ s.rst.training.length = 12 ∧ at? s.rst.training k .idle = .idle ∧ k % 3 ≠ 0 ∧
        (at? s.rst.training (k - 1) .idle).finished = true) ∧
    (∃ (s : State) (k : Nat), k < 12 ∧ s.rst.training.length = 12 ∧ at? s.rst.training k .idle = .idle ∧
        (k % 3 = 0 ∨ (at? s.rst.training (k - 1) .idle).finished = false)) := by
  refine ⟨?_, ?_, ?_, ?_, ?_, ?_, ?_, ?_, ?_, ?_, ?_, ?_, ?_, ?_, ?_, ?_, ?_⟩
  · exact ⟨{ starting (fun r => { r with kiln := [.idle, .idle, .idle, .running 0] }) with now := 60000000 }, .kiln 3 64, by decide +kernel⟩
  · exact ⟨{ starting (fun r => { r with kiln := [.idle, .idle, .idle, .running 0] }) with now := 59999999 }, .kiln 3 64, by decide +kernel⟩
  · exact ⟨starting (fun r => { r with kiln := [.idle, .idle, .idle, .running 0] }), 3, 0, by decide +kernel⟩
  · exact ⟨starting (fun r => { r with hostLink := .running 0 }), 0, by decide +kernel⟩
  · exact ⟨starting (fun r => { r with security := .running 0 }), 0, by decide +kernel⟩
  · exact ⟨starting (fun r => { r with kiln := [.idle, .idle, .idle, .running 0] }), 0, 3, 64, by decide +kernel⟩
  · exact ⟨starting (fun r => { r with training := List.replicate 11 .idle ++ [.running 0] }), 0, 11, 0x80000000, false, by decide +kernel, by decide +kernel, by decide +kernel, by decide +kernel, ⟨31, by decide +kernel⟩, by decide +kernel⟩
  · exact ⟨starting (fun r => { r with bog := .running 0 }), 0, BitVec.allOnes 64, 0, by decide +kernel⟩
  · exact ⟨starting (fun r => { r with serving := .running 0 }), 0, by decide +kernel⟩
  · exact ⟨later (starting (fun r => { r with security := .running 0 })), 0, by decide +kernel⟩
  · exact ⟨later (starting (fun r => { r with training := List.replicate 11 .idle ++ [.running 0] })), 0, 11, by decide +kernel⟩
  · exact ⟨later (starting (fun r => { r with kiln := [.idle, .idle, .idle, .running 0] })), 0, 3, by decide +kernel⟩
  · exact ⟨base, by decide +kernel⟩
  · exact ⟨base, by decide +kernel⟩
  · exact ⟨State.reset, by decide +kernel⟩
  · exact ⟨{ base with rst := { base.rst with training := List.replicate 11 .ok ++ [.idle] } }, 11, by decide +kernel⟩
  · exact ⟨{ base with rst := { base.rst with training := List.replicate 9 .ok ++ List.replicate 3 .idle } }, 9, by decide +kernel⟩

theorem test_met_FlagOperations :
    (∃ (s : State) (n : Nat) (c : Ctx) (o : FlagOp), ctxOf s n = some c ∧ o.flag < c.flags.length) ∧
    (∃ (s : State) (n : Nat) (c : Ctx) (o : FlagOp), ctxOf s n = some c ∧ o.flag < c.flags.length ∧ ∃ f, f ≠ o.flag) ∧
    (∃ (n m : Nat), m ≠ n) ∧
    (∃ (s : State) (h : Handle) (c : Cmd), cmdOf s h = some c ∧ c.flagsOk = true) ∧
    (∃ (s : State) (h : Handle) (c : Cmd), cmdOf s h = some c ∧ c.waitEnd ≤ s.now) ∧
    (∃ (s : State) (h : Handle) (c : Cmd) (x : Ctx), cmdOf s h = some c ∧ c.phase = .waiting ∧ c.flagsOk = false ∧ s.now < c.waitEnd ∧
        ctxOf s h.ctx = some x) := by
  refine ⟨?_, ?_, ?_, ?_, ?_, ?_⟩
  · exact ⟨base, 1, ctx1, { flag := 63, value := 1, add := true }, by decide +kernel⟩
  · exact ⟨base, 1, ctx1, { flag := 63, value := 1, add := true }, by decide +kernel, by decide +kernel, 0, by decide +kernel⟩
  · exact ⟨1, 2, by decide +kernel⟩
  · exact ⟨cmdOn { waitCmd with flagsOk := true }, hd 9, { waitCmd with flagsOk := true }, by decide +kernel⟩
  · exact ⟨cmdOn { waitCmd with waitEnd := 0 }, hd 9, { waitCmd with waitEnd := 0 }, by decide +kernel⟩
  · exact ⟨cmdOn waitCmd, hd 9, waitCmd, ctx1, by decide +kernel⟩

theorem test_met_RunPhase :
    (∃ (s : State) (h : Handle) (c : Cmd), cmdOf s h = some c ∧ mayRun s c = false ∧ c.phase ≠ .run) ∧
    (∃ (s : State) (h : Handle) (c : Cmd), cmdOf s h = some c ∧ c.phase = .run) ∧
    (∃ (s : State) (h : Handle) (c : Cmd), cmdOf s h = some c ∧ mayRun s c = true ∧ readsLost s c = true) ∧
    (∃ (s : State) (h : Handle) (c : Cmd), cmdOf s h = some c ∧ mayRun s c = true ∧ readsLost s c = false ∧ touchesHot s c = true) ∧
    (∃ (s : State) (h : Handle) (c : Cmd), cmdOf s h = some c ∧ mayRun s c = true ∧ readsLost s c = false ∧ lacksDie s c = true) ∧
    (∃ (s : State) (h : Handle) (c : Cmd), cmdOf s h = some c ∧ mayRun s c = true ∧ readsLost s c = false ∧ touchesHot s c = false ∧
        lacksDie s c = false ∧
        ∃ l t locs, c.work = .program l ∧ startWork (enterRun s h []) h locs = some t) ∧
    (∃ (s : State) (h : Handle) (c : Cmd), cmdOf s h = some c ∧ mayRun s c = true ∧ readsLost s c = false ∧ touchesHot s c = false ∧
        lacksDie s c = false ∧
        ∃ b t locs, c.work = .inband b ∧ startWork (enterRun s h []) h locs = some t) ∧
    (∃ (s : State) (h : Handle) (c : Cmd), cmdOf s h = some c ∧ mayRun s c = true ∧ readsLost s c = false ∧ touchesHot s c = false ∧
        lacksDie s c = false ∧ ∃ t, c.work = .tensorDestroy t) ∧
    (∃ (s : State) (h : Handle) (c : Cmd), cmdOf s h = some c ∧ mayRun s c = true ∧ readsLost s c = false ∧ touchesHot s c = false ∧
        lacksDie s c = false ∧ ∃ o, c.work = .flagWrite o) ∧
    (∃ (s : State) (h : Handle) (c : Cmd), cmdOf s h = some c ∧ mayRun s c = true ∧ readsLost s c = false ∧ touchesHot s c = false ∧
        lacksDie s c = false ∧ ∃ m x f a v, c.work = .flueFlagSet m x f a v) ∧
    (∃ (s : State) (h : Handle) (c : Cmd), cmdOf s h = some c ∧ mayRun s c = true ∧ readsLost s c = false ∧ touchesHot s c = false ∧
        lacksDie s c = false ∧ usesSlane c.work = true) ∧
    (∃ (s : State) (h : Handle) (c : Cmd), cmdOf s h = some c ∧ mayRun s c = true ∧ readsLost s c = false ∧ touchesHot s c = false ∧
        lacksDie s c = false ∧ ∃ t o n m x k, c.work = .flueSend t o n m x k) ∧
    (∃ (s : State) (h : Handle) (c : Cmd), cmdOf s h = some c ∧ mayRun s c = true ∧ readsLost s c = false ∧ touchesHot s c = false ∧
        lacksDie s c = false ∧ ∃ k r p n t, c.work = .prefill k r p n t) ∧
    (∃ (s : State) (h : Handle) (c : Cmd), cmdOf s h = some c) := by
  refine ⟨?_, ?_, ?_, ?_, ?_, ?_, ?_, ?_, ?_, ?_, ?_, ?_, ?_, ?_⟩
  · exact ⟨cmdOn waitCmd, hd 9, waitCmd, by decide +kernel⟩
  · exact ⟨cmdOn cmd9, hd 9, cmd9, by decide +kernel⟩
  · exact ⟨lostState, hd 9, readyCmd copyWork, by decide +kernel⟩
  · exact ⟨hotStack, hd 9, readyCmd copyWork, by decide +kernel⟩
  · exact ⟨hotCores, hd 9, readyCmd (.program launch4), by decide +kernel⟩
  · exact ⟨runnable, hd 9, readyCmd (.program launch4), by decide +kernel, by decide +kernel, by decide +kernel, by decide +kernel, by decide +kernel, launch4, (startWork (enterRun runnable (hd 9) []) (hd 9) []).get (by decide +kernel), [], by decide +kernel, (Option.some_get _).symm⟩
  · exact ⟨partable, hd 9, readyCmd (.inband part0), by decide +kernel, by decide +kernel, by decide +kernel, by decide +kernel, by decide +kernel, part0, (startWork (enterRun partable (hd 9) []) (hd 9) []).get (by decide +kernel), [], by decide +kernel, (Option.some_get _).symm⟩
  · exact ⟨cmdOn (readyCmd (.tensorDestroy (hd 1))), hd 9, readyCmd (.tensorDestroy (hd 1)), by decide +kernel, by decide +kernel, by decide +kernel, by decide +kernel, by decide +kernel, hd 1, by decide +kernel⟩
  · exact ⟨cmdOn (readyCmd (.flagWrite { flag := 1, value := 1, add := false })), hd 9, readyCmd (.flagWrite { flag := 1, value := 1, add := false }), by decide +kernel, by decide +kernel, by decide +kernel, by decide +kernel, by decide +kernel, { flag := 1, value := 1, add := false }, by decide +kernel⟩
  · exact ⟨cmdOn (readyCmd (.flueFlagSet 7 1 3 false 1)), hd 9, readyCmd (.flueFlagSet 7 1 3 false 1), by decide +kernel, by decide +kernel, by decide +kernel, by decide +kernel, by decide +kernel, 7, 1, 3, false, 1, by decide +kernel⟩
  · exact ⟨cmdOn (readyCmd (.tensorFill (hd 1) 0 64 (zeros 8))), hd 9, readyCmd (.tensorFill (hd 1) 0 64 (zeros 8)), by decide +kernel, by decide +kernel, by decide +kernel, by decide +kernel, by decide +kernel, by decide +kernel⟩
  · exact ⟨cmdOn (readyCmd (.flueSend (hd 1) 0 4096 7 3 9)), hd 9, readyCmd (.flueSend (hd 1) 0 4096 7 3 9), by decide +kernel, by decide +kernel, by decide +kernel, by decide +kernel, by decide +kernel, hd 1, 0, 4096, 7, 3, 9, by decide +kernel⟩
  · exact ⟨cmdOn (readyCmd (.prefill 0 0 0 2 none)), hd 9, readyCmd (.prefill 0 0 0 2 none), by decide +kernel, by decide +kernel, by decide +kernel, by decide +kernel, by decide +kernel, 0, 0, 0, 2, none, by decide +kernel⟩
  · exact ⟨cmdOn cmd9, hd 9, cmd9, by decide +kernel⟩

theorem test_met_Scheduling :
    (∃ (s u : State) (h : Handle) (locs : List Loc) (c : Cmd) (b : InbankBlock), cmdOf s h = some c ∧ inbandOf c = some b ∧
        c.phase = .waiting ∧ c.snap = none ∧ allPlaced s c b = false ∧ promoteAll (neededSods b) locs s = some u) ∧
    (∃ (s : State) (t : Handle) (k : Nat) (l : Loc) (x : Tensor) (old : Sod), tensorAny s t = some x ∧ tget? x.sods k = some old ∧
        old.loc ≠ some l ∧ old.ash = false ∧ quiet s (some l) = false) ∧
    (∃ (s : State) (t : Handle) (k : Nat) (l : Loc) (x : Tensor) (old : Sod), tensorAny s t = some x ∧ tget? x.sods k = some old ∧
        old.loc ≠ some l ∧ old.ash = false ∧ placeOk s x k l = true ∧ shadowed s t k = false ∧ quiet s old.loc = true ∧
        quiet s (some l) = true ∧ movesStand s x = true ∧ tagFails old = true) ∧
    (∃ (s : State) (t : Handle) (k : Nat) (l : Loc) (x : Tensor) (old : Sod), tensorAny s t = some x ∧ tget? x.sods k = some old ∧
        old.loc ≠ some l ∧ old.ash = false ∧ placeOk s x k l = true ∧ shadowed s t k = false ∧ quiet s old.loc = true ∧
        quiet s (some l) = true ∧ movesStand s x = true ∧ tagFails old = false) ∧
    (∃ (s : State) (h : Handle) (c : Cmd), cmdOf s h = some c ∧ c.phase = .waiting ∧ c.killed = false ∧ c.headAt.isSome = true ∧
        c.waitEnd ≤ s.now ∧ waitsOver s c = true) ∧
    (∃ (s : State) (h : Handle) (c : Cmd), cmdOf s h = some c ∧ c.phase = .waiting ∧ c.killed = false ∧ c.headAt.isSome = true ∧
        c.waitEnd ≤ s.now ∧ waitsOver s c = false) ∧
    (∃ (s : State) (h : Handle) (c : Cmd) (t : Nat), cmdOf s h = some c ∧ c.phase = .run ∧ c.roomWait = some t ∧ t + waitLimitOf s h.ctx ≤ s.now) ∧
    (∃ (s : State), s.now % 100000 = 0) ∧
    (∃ (s : State) (k : Nat), ((clampOf s k).state = .running ∨ (clampOf s k).state = .stopping) ∧
        (clampOf s k).sliceStart + (clampOf s k).slice ≤ s.now) ∧
    (∃ (s : State) (d n k : Nat) (e : Engine), tget? s.kiln.cores (coreNum d n) = some e ∧ e.use = .switching k ∧ tileOn s d n = none) ∧
    (∃ (s : State), s.now % 1000000 = 0) := by
  refine ⟨?_, ?_, ?_, ?_, ?_, ?_, ?_, ?_, ?_, ?_, ?_⟩
  · obtain ⟨u, hu⟩ := promote_some (s := promotable) (t := hd 2) (k := 0) (l := .bank 0 0 0 0) (x := { bytesT 2 4096 [(0, good0)] with useHint := 1 })
      (old := good0) rfl rfl (by decide +kernel) rfl (by decide +kernel)
    exact ⟨promotable, u, hd 9, [.bank 0 0 0 0], { waitCmd with work := .inband part0 }, part0, by decide +kernel, by decide +kernel, by decide +kernel,
      by decide +kernel, by decide +kernel, by
        show (promote promotable (hd 2) 0 (.bank 0 0 0 0)).bind _ = some u
        rw [hu]; rfl⟩
  · exact ⟨promotes good0 { memory0 with mode := .processor }, hd 1, 0, .bank 0 0 0 0, bank1 [(0, good0)], good0, rfl, rfl, by decide +kernel, by decide +kernel, by decide +kernel⟩
  · exact ⟨promotes { good0 with tag := ~~~sodTag [] } memory0, hd 1, 0, .bank 0 0 0 0, bank1 [(0, { good0 with tag := ~~~sodTag [] })], { good0 with tag := ~~~sodTag [] }, rfl, rfl, by decide +kernel, by decide +kernel, by decide +kernel, by decide +kernel, by decide +kernel, by decide +kernel, by decide +kernel, by simp [tagFails, good0]⟩
  · exact ⟨promotes good0 memory0, hd 1, 0, .bank 0 0 0 0, bank1 [(0, good0)], good0, rfl, rfl, by decide +kernel, by decide +kernel, by decide +kernel, by decide +kernel, by decide +kernel, by decide +kernel, by decide +kernel, by simp [tagFails, good0]⟩
  · exact ⟨cmdOn { readyCmd copyWork with headAt := some 0, waitEnd := 1000000 }, hd 9, { readyCmd copyWork with headAt := some 0, waitEnd := 1000000 }, by decide +kernel⟩
  · exact ⟨cmdOn { waitCmd with headAt := some 0, waitEnd := 1000000 }, hd 9, { waitCmd with headAt := some 0, waitEnd := 1000000 }, by decide +kernel⟩
  · exact ⟨later (cmdOn { kcmd [] with roomWait := some 5 }), hd 9, { kcmd [] with roomWait := some 5 }, 5, by decide +kernel⟩
  · exact ⟨base, by decide +kernel⟩
  · exact ⟨base, 0, by decide +kernel⟩
  · exact ⟨{ base with kiln := { cores := [(255, { ctx := 1, use := .switching 2 })] } }, 3, 63, 2, { ctx := 1, use := .switching 2 }, by decide +kernel⟩
  · exact ⟨base, by decide +kernel⟩

theorem test_met_ClampStops :
    (∃ (s : State) (k : Nat) (x : Stop), (clampOf s k).stop = some x ∧ x.kill = false ∧ x.deadline ≤ s.now) ∧
    (∃ (s : State) (k : Nat) (x : Stop) (h : Handle), (clampOf s k).stop = some x ∧ x.cmd = some h ∧ (clampOf s k).state = .stopping ∧
        atRest s k = true ∧
      let t := modClamp s k fun c => { c with state := .stopped, stop := none }
      let t := finish { t with kiln := { t.kiln with cores := t.kiln.cores.filter fun e => clampNum t e.2.ctx != k } } h stOk
      (clampOf t k).resetting = false ∧ (clampOf t k).resetWaits = false) := by
  refine ⟨?_, ?_⟩
  · exact ⟨{ base with clamps := base.clamps.set 1 { clamp0 with state := .stopping, stop := some { kill := false, deadline := 1000000, cmd := some (hd 8) } } }, 1, { kill := false, deadline := 1000000, cmd := some (hd 8) }, by decide +kernel⟩
  · exact ⟨{ base with clamps := base.clamps.set 1 { clamp0 with state := .stopping, stop := some { kill := false, deadline := 1000000, cmd := some (hd 8) } } }, 1, { kill := false, deadline := 1000000, cmd := some (hd 8) }, hd 8, by decide +kernel⟩

theorem test_met_TileCommit :
    (∃ (s : State) (d n : Nat) (t : Tile) (c : Cmd) (l : Launch), issuing s d n = some (t, c, l) ∧ t.exe.ended = true ∧
        t.acc.ended = true ∧ (∀ q ∈ t.storeQ, q = []) ∧ t.acc.stores = [] ∧ overlaps c (holdPieces s l t) = false ∧
        roomForShadows s (newShadows c (holdPieces s l t)) = true) ∧
    (∃ (s : State) (d n : Nat) (t : Tile) (c : Cmd) (l : Launch), issuing s d n = some (t, c, l) ∧ t.exe.ended = true ∧
        t.acc.ended = true ∧ (∀ q ∈ t.storeQ, q = []) ∧ t.acc.stores = [] ∧ overlaps c (holdPieces s l t) = false ∧
        roomForShadows s (newShadows c (holdPieces s l t)) = false) ∧
    (∃ (s : State) (d n : Nat) (t : Tile) (c : Cmd) (l : Launch), issuing s d n = some (t, c, l) ∧ t.exe.ended = true ∧
        t.acc.ended = true ∧ (∀ q ∈ t.storeQ, q = []) ∧ t.acc.stores = [] ∧ overlaps c (holdPieces s l t) = true) ∧
    (∃ (s : State) (d n : Nat) (t : Tile), tileOn s d n = some t ∧ t.committing = true ∧ t.dropped = false) ∧
    (∃ (s : State) (d n : Nat) (t : Tile), tileOn s d n = some t ∧ t.committing = true ∧ t.dropped = true) := by
  refine ⟨?_, ?_, ?_, ?_, ?_⟩
  · exact ⟨ended [], 0, 0, endedTile, kcmd [], launch4, by decide +kernel⟩
  · exact ⟨{ ended [] with clamps := { clamp0 with bogShare := 0, chans := List.replicate 12 0 } :: List.replicate 7 {} }, 0, 0, endedTile, kcmd [], launch4, by decide +kernel⟩
  · exact ⟨ended shadow4, 0, 0, endedTile, kcmd shadow4, launch4, by decide +kernel⟩
  · exact ⟨{ base with kiln := { tiles := [farTile] } }, 3, 63, farTile, by decide +kernel⟩
  · exact ⟨{ base with kiln := { tiles := [{ farTile with dropped := true }] } }, 3, 63, { farTile with dropped := true }, by decide +kernel⟩

theorem test_met_CommandCommit :
    (∃ (s : State) (h : Handle) (c : Cmd), cmdOf s h = some c ∧ mayCommit s c = true ∧ (∀ k b, c.work ≠ .clampConfigure k b) ∧
      let u := (tornMerges s { c with shadows := written c }).foldl (fun s x => makeAsh s x.1 x.2) s
      commitMeetsAsh u c = false) ∧
    (∃ (s : State) (h : Handle) (c : Cmd), cmdOf s h = some c ∧ mayCommit s c = true ∧ (∀ k b, c.work ≠ .clampConfigure k b) ∧
      let u := (tornMerges s { c with shadows := written c }).foldl (fun s x => makeAsh s x.1 x.2) s
      commitMeetsAsh u c = true) ∧
    (∃ (s : State) (h : Handle) (c : Cmd), cmdOf s h = some c ∧ mayCommit s c = true ∧ ∃ k b, c.work = .clampConfigure k b) ∧
    (∃ (s : State) (c : Cmd), drainOver s c = true ∧ (∀ k m b t, c.work ≠ .step k m b t)) ∧
    (∃ (c : Cmd), c.ops = [] ∧ (∀ o, c.work ≠ .flagWrite o)) ∧
    (∃ (c : Cmd) (o : FlagOp), c.work = .flagWrite o) ∧
    (∃ (s : State) (h : Handle) (c : Cmd), cmdOf s h = some c ∧ mayCommit s c = false) := by
  refine ⟨?_, ?_, ?_, ?_, ?_, ?_, ?_⟩
  · exact ⟨busy, hd 9, cmd9, by decide +kernel, by decide +kernel, nofun, by decide +kernel⟩
  · exact ⟨ashy, hd 9, ashyCmd, by decide +kernel, by decide +kernel, nofun, by decide +kernel⟩
  · exact ⟨cmdOn setCmd, hd 9, setCmd, by decide +kernel, by decide +kernel, 1, zeros 184, by decide +kernel⟩
  · exact ⟨{ cmdOn cmd9 with clamps := { clamp0 with state := .stopping, stop := some { cmd := none, kill := false, deadline := 1000000 } } :: List.replicate 7 {} }, cmd9,
      by decide +kernel, nofun⟩
  · exact ⟨cmd9, by decide +kernel, fun o h => by cases h⟩
  · exact ⟨{ cmd9 with work := .flagWrite { flag := 1, value := 1, add := false } }, { flag := 1, value := 1, add := false }, by decide +kernel⟩
  · exact ⟨cmdOn waitCmd, hd 9, waitCmd, by decide +kernel⟩

theorem test_met_VectorLanes :
  let two := fun (t : Tile) (x : ExecInstr) => [(x.srcA, vecBytes t), (x.srcB, vecBytes t)]
  let three := fun (t : Tile) (x : ExecInstr) => [(x.srcA, vecBytes t), (x.srcB, vecBytes t), (x.dst, vecBytes t)]
  let f2 := fun (f : ExecInstr → FP32 → FP32 → FP32) (_ : Tile) (x : ExecInstr) (v : List (List FP32)) =>
    [(x.dst, fpBytes (List.zipWith (f x) (at? v 0 []) (at? v 1 [])))]
  let f3 := fun (f : FP32 → FP32 → FP32 → FP32) (_ : Tile) (x : ExecInstr) (v : List (List FP32)) =>
    [(x.dst, fpBytes (List.zipWith (fun (a, b) d => f a b d) ((at? v 0 []).zip (at? v 1 [])) (at? v 2 [])))]
  VecMet 0x20 (fun _ _ => True) two (f2 fun _ => fpAdd) ∧
  VecMet 0x21 (fun _ _ => True) two (f2 fun _ => fpSub) ∧
  VecMet 0x22 (fun _ _ => True) two (f2 fun _ => fpMul) ∧
  VecMet 0x23 (fun _ _ => True) three (f3 fpFma) ∧
  VecMet 0x24 (fun _ _ => True) two (f2 fun _ => fpMin) ∧
  VecMet 0x25 (fun _ _ => True) two (f2 fun _ => fpMax) ∧
  VecMet 0x26 (fun _ _ => True) two (f2 fun x a b =>
    if (x.mode = 0 ∧ fpEq a b = true) ∨ (x.mode = 1 ∧ fpEq a b = false) ∨ (x.mode = 2 ∧ fpLt a b = true) ∨ (x.mode = 3 ∧ fpLe a b = true)
    then 0xFFFFFFFF else 0) ∧
  VecMet 0x27 (fun _ _ => True) three (f3 fun a b d => if d = 0 then b else a) ∧
  VecMet 0x2E (fun _ _ => True) (fun t x => [(x.srcA, vecBytes t)])
    (fun _ x v => [(x.dst, fpBytes (at? v 0 []))]) ∧
  (∀ m < 8, VecMet 0x28 (fun _ x => x.mode = m) (fun t x => [(x.srcA, vecBytes t)])
    fun _ x v => [(x.dst, fpBytes ((at? v 0 []).map fpExp))]) ∧
  VecMet 0x28 (fun _ x => x.mode = 8) two (f2 fun _ => fpDiv) := by
  refine ⟨?_, ?_, ?_, ?_, ?_, ?_, ?_, ?_, ?_, ?_, ?_⟩
  · exact ⟨kiln [] (word 0x20 0 64 0 32) regTile, 0, 0, regTile, kcmd [], launch4, instr (word 0x20 0 64 0 32), kiln_at (by decide +kernel) (by decide +kernel), quiet_of (by decide +kernel), by decide +kernel, trivial, by decide +kernel, by decide +kernel⟩
  · exact ⟨kiln [] (word 0x21 0 64 0 32) regTile, 0, 0, regTile, kcmd [], launch4, instr (word 0x21 0 64 0 32), kiln_at (by decide +kernel) (by decide +kernel), quiet_of (by decide +kernel), by decide +kernel, trivial, by decide +kernel, by decide +kernel⟩
  · exact ⟨kiln [] (word 0x22 0 64 0 32) regTile, 0, 0, regTile, kcmd [], launch4, instr (word 0x22 0 64 0 32), kiln_at (by decide +kernel) (by decide +kernel), quiet_of (by decide +kernel), by decide +kernel, trivial, by decide +kernel, by decide +kernel⟩
  · exact ⟨kiln [] (word 0x23 0 64 0 32) regTile, 0, 0, regTile, kcmd [], launch4, instr (word 0x23 0 64 0 32), kiln_at (by decide +kernel) (by decide +kernel), quiet_of (by decide +kernel), by decide +kernel, trivial, by decide +kernel, by decide +kernel⟩
  · exact ⟨kiln [] (word 0x24 0 64 0 32) regTile, 0, 0, regTile, kcmd [], launch4, instr (word 0x24 0 64 0 32), kiln_at (by decide +kernel) (by decide +kernel), quiet_of (by decide +kernel), by decide +kernel, trivial, by decide +kernel, by decide +kernel⟩
  · exact ⟨kiln [] (word 0x25 0 64 0 32) regTile, 0, 0, regTile, kcmd [], launch4, instr (word 0x25 0 64 0 32), kiln_at (by decide +kernel) (by decide +kernel), quiet_of (by decide +kernel), by decide +kernel, trivial, by decide +kernel, by decide +kernel⟩
  · exact ⟨kiln [] (word 0x26 0 64 0 32) regTile, 0, 0, regTile, kcmd [], launch4, instr (word 0x26 0 64 0 32), kiln_at (by decide +kernel) (by decide +kernel), quiet_of (by decide +kernel), by decide +kernel, trivial, by decide +kernel, by decide +kernel⟩
  · exact ⟨kiln [] (word 0x27 0 64 0 32) regTile, 0, 0, regTile, kcmd [], launch4, instr (word 0x27 0 64 0 32), kiln_at (by decide +kernel) (by decide +kernel), quiet_of (by decide +kernel), by decide +kernel, trivial, by decide +kernel, by decide +kernel⟩
  · exact ⟨kiln [] (word 0x2E 0 64 0 32) regTile, 0, 0, regTile, kcmd [], launch4, instr (word 0x2E 0 64 0 32), kiln_at (by decide +kernel) (by decide +kernel), quiet_of (by decide +kernel), by decide +kernel, trivial, by decide +kernel, by decide +kernel⟩
  · intro m hm
    have h : m = 0 ∨ m = 1 ∨ m = 2 ∨ m = 3 ∨ m = 4 ∨ m = 5 ∨ m = 6 ∨ m = 7 := by omega
    rcases h with h | h | h | h | h | h | h | h <;> subst h
    · exact ⟨kiln [] (word 0x28 0 64 0 32) regTile, 0, 0, regTile, kcmd [], launch4, instr (word 0x28 0 64 0 32), kiln_at (by decide +kernel) (by decide +kernel), quiet_of (by decide +kernel), by decide +kernel, by decide +kernel, by decide +kernel, by decide +kernel⟩
    · exact ⟨kiln [] (word 0x28 1 64 0 32) regTile, 0, 0, regTile, kcmd [], launch4, instr (word 0x28 1 64 0 32), kiln_at (by decide +kernel) (by decide +kernel), quiet_of (by decide +kernel), by decide +kernel, by decide +kernel, by decide +kernel, by decide +kernel⟩
    · exact ⟨kiln [] (word 0x28 2 64 0 32) regTile, 0, 0, regTile, kcmd [], launch4, instr (word 0x28 2 64 0 32), kiln_at (by decide +kernel) (by decide +kernel), quiet_of (by decide +kernel), by decide +kernel, by decide +kernel, by decide +kernel, by decide +kernel⟩
    · exact ⟨kiln [] (word 0x28 3 64 0 32) regTile, 0, 0, regTile, kcmd [], launch4, instr (word 0x28 3 64 0 32), kiln_at (by decide +kernel) (by decide +kernel), quiet_of (by decide +kernel), by decide +kernel, by decide +kernel, by decide +kernel, by decide +kernel⟩
    · exact ⟨kiln [] (word 0x28 4 64 0 32) regTile, 0, 0, regTile, kcmd [], launch4, instr (word 0x28 4 64 0 32), kiln_at (by decide +kernel) (by decide +kernel), quiet_of (by decide +kernel), by decide +kernel, by decide +kernel, by decide +kernel, by decide +kernel⟩
    · exact ⟨kiln [] (word 0x28 5 64 0 32) regTile, 0, 0, regTile, kcmd [], launch4, instr (word 0x28 5 64 0 32), kiln_at (by decide +kernel) (by decide +kernel), quiet_of (by decide +kernel), by decide +kernel, by decide +kernel, by decide +kernel, by decide +kernel⟩
    · exact ⟨kiln [] (word 0x28 6 64 0 32) regTile, 0, 0, regTile, kcmd [], launch4, instr (word 0x28 6 64 0 32), kiln_at (by decide +kernel) (by decide +kernel), quiet_of (by decide +kernel), by decide +kernel, by decide +kernel, by decide +kernel, by decide +kernel⟩
    · exact ⟨kiln [] (word 0x28 7 64 0 32) regTile, 0, 0, regTile, kcmd [], launch4, instr (word 0x28 7 64 0 32), kiln_at (by decide +kernel) (by decide +kernel), quiet_of (by decide +kernel), by decide +kernel, by decide +kernel, by decide +kernel, by decide +kernel⟩
  · exact ⟨kiln [] (word 0x28 8 64 0 32) regTile, 0, 0, regTile, kcmd [], launch4, instr (word 0x28 8 64 0 32), kiln_at (by decide +kernel) (by decide +kernel), quiet_of (by decide +kernel), by decide +kernel, by decide +kernel, by decide +kernel, by decide +kernel⟩

theorem test_met_VectorBlocksRows :
  VecMet 0x29 (fun _ _ => True) (fun t x => [(x.srcA, vecBytes t)])
    (fun t x v => [(x.dst, fpBytes ((chunks 128 (2 * rVLEN t) (at? v 0 [])).map fun h => alignedChunk (h.map numOf)))]) ∧
  VecMet 0x2B (fun _ _ => True) (fun t x => [(x.srcA, vecBytes t)])
    (fun t x v =>
      let st := (chunks 128 (2 * rVLEN t) (at? v 0 [])).map chunkState
      (x.dst, fpBytes (st.flatMap fun (m, s, _) => [m, s]))
        :: if bit x.mode 0 then [(x.srcB, fpBytes (st.flatMap fun (_, _, e) => e))] else []) ∧
  VecMet 0x2C (fun _ _ => True) (fun t x => [(x.srcA, vecBytes t), (x.srcB, vecBytes t)])
    (fun _ x v => [(x.dst, fpBytes (((statePairs (at? v 0 [])).zip (statePairs (at? v 1 []))).flatMap fun (a, b) => mergeQuad a b))]) ∧
  VecMet 0x2F (fun _ _ => True) (fun t x => [(x.srcA, vecBytes t)])
    (fun t x v => [(x.dst, fpBytes ((chunks 256 (rVLEN t) (at? v 0 [])).flatMap fun w => w.map fun _ => w.headD 0))]) ∧
  VecMet 0x2D (fun t x => x.mode = 0 ∧ fmtValid (fOut t) = true) (fun t x => [(x.srcA, vecBytes t)])
    (fun t x v =>
      let modes := (List.range (256 * rVLEN t)).map fun j => roundingAt t (rIDXBASE t + j / 256 * rIDXROW t + j % 256 * rIDXCOL t)
      let r := convertOut (fOut t) ((at? v 0 []).map numOf) modes
      (x.dst, r.1) :: if fmtMx (fOut t) then [(x.srcB, r.2)] else []) := by
  refine ⟨?_, ?_, ?_, ?_, ?_⟩
  · exact ⟨kiln [] (word 0x29 0 64 0 32) regTile, 0, 0, regTile, kcmd [], launch4, instr (word 0x29 0 64 0 32), kiln_at (by decide +kernel) (by decide +kernel), quiet_of (by decide +kernel), by decide +kernel, trivial, by decide +kernel, by decide +kernel⟩
  · exact ⟨kiln [] (word 0x2B 1 64 0 96) regTile, 0, 0, regTile, kcmd [], launch4, instr (word 0x2B 1 64 0 96), kiln_at (by decide +kernel) (by decide +kernel), quiet_of (by decide +kernel), by decide +kernel, trivial, by decide +kernel, by decide +kernel⟩
  · exact ⟨kiln [] (word 0x2C 0 64 0 32) regTile, 0, 0, regTile, kcmd [], launch4, instr (word 0x2C 0 64 0 32), kiln_at (by decide +kernel) (by decide +kernel), quiet_of (by decide +kernel), by decide +kernel, trivial, by decide +kernel, by decide +kernel⟩
  · exact ⟨kiln [] (word 0x2F 0 64 0 32) regTile, 0, 0, regTile, kcmd [], launch4, instr (word 0x2F 0 64 0 32), kiln_at (by decide +kernel) (by decide +kernel), quiet_of (by decide +kernel), by decide +kernel, trivial, by decide +kernel, by decide +kernel⟩
  · exact ⟨kiln [] (word 0x2D 0 64 0 32) regTile, 0, 0, regTile, kcmd [], launch4, instr (word 0x2D 0 64 0 32), kiln_at (by decide +kernel) (by decide +kernel), quiet_of (by decide +kernel), by decide +kernel, by decide +kernel, by decide +kernel, by decide +kernel⟩

theorem test_met_KilnControl :
    (∃ s d n t c l x, KilnAt 0x01 s d n t c l x ∧ 1 ≤ x.imm ∧ x.imm ≤ 65535) ∧
    (∃ s d n t c l x, KilnAt 0x02 s d n t c l x) ∧
    (∃ s d n t c l x, KilnAt 0x03 s d n t c l x ∧ 1 ≤ x.srcA ∧ x.srcA ≤ 511 ∧
      let count := if bit x.mode 4 then at? t.exe.cnt (x.dst % 16) 0 else x.dst
      count = 0) ∧
    (∃ s d n t c l x, KilnAt 0x03 s d n t c l x ∧ 1 ≤ x.srcA ∧ x.srcA ≤ 511 ∧
      let count := if bit x.mode 4 then at? t.exe.cnt (x.dst % 16) 0 else x.dst
      count ≠ 0 ∧ t.exe.loops.length < 4) ∧
    (∃ s d n t c l x, KilnAt 0x03 s d n t c l x ∧ 1 ≤ x.srcA ∧ x.srcA ≤ 511 ∧
      let count := if bit x.mode 4 then at? t.exe.cnt (x.dst % 16) 0 else x.dst
      count ≠ 0 ∧ t.exe.loops.length = 4) ∧
    (∃ s d n t c l x, KilnAt 0x04 s d n t c l x ∧ 1 ≤ x.srcA ∧ x.srcA ≤ 511 ∧ loadQBytes l (x.mode % 8) = 0) ∧
    (∃ s d n t c l x, KilnAt 0x04 s d n t c l x ∧ 1 ≤ x.srcA ∧ x.srcA ≤ 511 ∧ loadQBytes l (x.mode % 8) ≠ 0 ∧
        at? t.endFlag (x.mode % 8) false = true) ∧
    (∃ s d n t c l x, KilnAt 0x04 s d n t c l x ∧ 1 ≤ x.srcA ∧ x.srcA ≤ 511 ∧ loadQBytes l (x.mode % 8) ≠ 0 ∧
        at? t.endFlag (x.mode % 8) false = false) ∧
    (∃ s d n t c l x, KilnAt 0x05 s d n t c l x) ∧
    (∃ s d n t c l x, KilnAt 0x06 s d n t c l x ∧ (nextPos t.exe.loops (t.exe.pos + 1)).2 = []) ∧
    (∃ s d n t c l x, KilnAt 0x06 s d n t c l x ∧ (nextPos t.exe.loops (t.exe.pos + 1)).2 ≠ []) ∧
    (∃ (l : LoopLevel) (p : Nat), p < l.last) ∧
    (∃ (l : LoopLevel) (p : Nat), l.last ≤ p ∧ 1 < l.left) ∧
    (∃ (l : LoopLevel) (p : Nat), l.last ≤ p ∧ l.left ≤ 1) := by
  refine ⟨?_, ?_, ?_, ?_, ?_, ?_, ?_, ?_, ?_, ?_, ?_, ?_, ?_, ?_⟩
  · exact ⟨kiln [] (word 0x01 0 65535 0 0) (regTile), 0, 0, regTile, kcmd [], launch4, instr (word 0x01 0 65535 0 0), kiln_at (by decide +kernel) (by decide +kernel), by decide +kernel⟩
  · exact ⟨kiln [] (word 0x02 12 1 0 0) (regTile), 0, 0, regTile, kcmd [], launch4, instr (word 0x02 12 1 0 0), kiln_at (by decide +kernel) (by decide +kernel)⟩
  · exact ⟨kiln [] (word 0x03 0 0 511 0) (regTile), 0, 0, regTile, kcmd [], launch4, instr (word 0x03 0 0 511 0), kiln_at (by decide +kernel) (by decide +kernel), by decide +kernel⟩
  · exact ⟨kiln [] (word 0x03 0 1 1 0) (regTile), 0, 0, regTile, kcmd [], launch4, instr (word 0x03 0 1 1 0), kiln_at (by decide +kernel) (by decide +kernel), by decide +kernel⟩
  · exact ⟨kiln [] (word 0x03 0 1 511 0) ({ ktile with exe := { ktile.exe with loops := List.replicate 4 { first := 0, last := 9, left := 2 } } }), 0, 0, { ktile with exe := { ktile.exe with loops := List.replicate 4 { first := 0, last := 9, left := 2 } } }, kcmd [], launch4, instr (word 0x03 0 1 511 0), kiln_at (by decide +kernel) (by decide +kernel), by decide +kernel⟩
  · exact ⟨kiln [] (word 0x04 6 0 511 0) (regTile), 0, 0, regTile, kcmd [], launch4, instr (word 0x04 6 0 511 0), kiln_at (by decide +kernel) (by decide +kernel), by decide +kernel⟩
  · exact ⟨kiln [] (word 0x04 7 0 511 0) ({ ktile with endFlag := List.replicate 8 true }), 0, 0, { ktile with endFlag := List.replicate 8 true }, kcmd [], launch4, instr (word 0x04 7 0 511 0), kiln_at (by decide +kernel) (by decide +kernel), by decide +kernel⟩
  · exact ⟨kiln [] (word 0x04 7 0 1 0) (regTile), 0, 0, regTile, kcmd [], launch4, instr (word 0x04 7 0 1 0), kiln_at (by decide +kernel) (by decide +kernel), by decide +kernel⟩
  · exact ⟨kiln [] (word 0x05 0 7 0 0) (regTile), 0, 0, regTile, kcmd [], launch4, instr (word 0x05 0 7 0 0), kiln_at (by decide +kernel) (by decide +kernel)⟩
  · exact ⟨kiln [] (word 0x06 0 0 0 0) (regTile), 0, 0, regTile, kcmd [], launch4, instr (word 0x06 0 0 0 0), kiln_at (by decide +kernel) (by decide +kernel), by decide +kernel⟩
  · exact ⟨kiln [] (word 0x06 0 0 0 0) ({ ktile with exe := { ktile.exe with loops := List.replicate 4 { first := 0, last := 9, left := 2 } } }), 0, 0, { ktile with exe := { ktile.exe with loops := List.replicate 4 { first := 0, last := 9, left := 2 } } }, kcmd [], launch4, instr (word 0x06 0 0 0 0), kiln_at (by decide +kernel) (by decide +kernel), by decide +kernel⟩
  · exact ⟨{ first := 0, last := 9, left := 2 }, 8, by decide +kernel⟩
  · exact ⟨{ first := 0, last := 9, left := 2 }, 9, by decide +kernel⟩
  · exact ⟨{ first := 0, last := 9, left := 1 }, 9, by decide +kernel⟩

theorem test_met_VectorBlocks :
    (∃ s d n t c l x, KilnAt 0x2D s d n t c l x ∧ Quiet t ∧ 1 ≤ rVLEN t ∧ x.mode = 1 ∧ fmtValid (fOut t) = true ∧
      let fmt := fOut t
      let k := 256 * rVLEN t
      let reads := (x.srcA, packedBytes fmt k) :: if fmtMx fmt then [(x.srcB, k / 32)] else []
      let outs := [(x.dst, fpBytes (convertIn fmt k (work t x.srcA (packedBytes fmt k)) (if fmtMx fmt then work t x.srcB (k / 32) else [])))]
      (∀ r ∈ reads, inWork l r.1 r.2 = true) ∧ (∀ r ∈ outs, inWork l r.1 r.2.length = true)) :=
  ⟨kiln [] (word 0x2D 1 64 0 128) (regTile), 0, 0, regTile, kcmd [], launch4, instr (word 0x2D 1 64 0 128), kiln_at (by decide +kernel) (by decide +kernel), quiet_of (by decide +kernel), by decide +kernel⟩

theorem test_met_TensorArray :
    (∃ s d n t c l x, KilnAt 0x10 s d n t c l x ∧ Quiet t ∧ arrayFmt (fStat t) = true ∧
      let fmt := fStat t
      let reads := (x.srcA, statBytes fmt) :: if fmtMx fmt then [(x.srcB, 256)] else []
      (∀ r ∈ reads, inWork l r.1 r.2 = true)) ∧
    (∃ s d n t c l x, KilnAt 0x11 s d n t c l x ∧ Quiet t ∧ 1 ≤ rMROWS t ∧ rMROWS t ≤ 512 ∧ 1 ≤ rKLEN t ∧ rKLEN t ≤ 128 ∧
        arrayFmt (fStat t) = true ∧ arrayFmt (fStream t) = true ∧
      let fa := fStream t
      let rows := rMROWS t
      let y := (at? t.stat (x.mode % 2) none).getD { fmt := fStat t, data := zeros (statBytes (fStat t)), scales := zeros 256 }
      let rowBytes := packedBytes fa 128
      let ones := lowOnes 24 (rKIDX t)
      let plane := fun i => x.dst + i * rPSTR t
      let sc := if fmtMx fa then work t x.srcB (4 * rows) else []
      let results := (List.range rows).flatMap fun i =>
          if y.fmt = fStat t then rowResults fa (fStat t) (rKLEN t) (slice (work t x.srcA (rowBytes * rows)) (rowBytes * i) rowBytes)
            (slice sc (4 * i) 4) y.data y.scales
          else (List.range 64).map fun c => Config.freeFP32 (s.freeCount + 64 * i + c)
      let sum := (List.range ones).foldl (fun acc i => List.zipWith fpAdd (fps (work t (plane i) (256 * rows))) acc) results
      let reads := (x.srcA, rowBytes * rows) :: (if fmtMx fa then [(x.srcB, 4 * rows)] else [])
          ++ (List.range ones).map fun i => (plane i, 256 * rows)
      (∀ r ∈ reads, inWork l r.1 r.2 = true) ∧ inWork l (plane ones) (fpBytes sum).length = true) ∧
    (∃ s d n t c l x, KilnAt 0x12 s d n t c l x ∧ Quiet t ∧ 1 ≤ rMROWS t ∧ rMROWS t ≤ 512 ∧
      let rows := rMROWS t
      let add := bit x.mode 0
      let planes := (setBits (rKIDX t)).map fun i => x.dst + i * rPSTR t
      let reads := planes.map (fun q => (q, 256 * rows)) ++ if add then [(x.srcB, 256 * rows)] else []
      let root := match planes.map fun q => fps (work t q (256 * rows)) with
          | [] => List.replicate (64 * rows) 0
          | p :: r => r.foldl (fun acc q => List.zipWith fpAdd q acc) p
      let outs := [(x.srcA, fpBytes (if add then List.zipWith fpAdd root (fps (work t x.srcB (256 * rows))) else root))]
      (∀ r ∈ reads, inWork l r.1 r.2 = true) ∧ (∀ r ∈ outs, inWork l r.1 r.2.length = true)) := by
  refine ⟨?_, ?_, ?_⟩
  · exact ⟨kiln [] (word 0x10 1 0 0 0) (regTile), 0, 0, regTile, kcmd [], launch4, instr (word 0x10 1 0 0 0), kiln_at (by decide +kernel) (by decide +kernel), quiet_of (by decide +kernel), by decide +kernel⟩
  · exact ⟨kiln [] (word 0x11 1 1024 0 0) (regTile), 0, 0, regTile, kcmd [], launch4, instr (word 0x11 1 1024 0 0), kiln_at (by decide +kernel) (by decide +kernel), quiet_of (by decide +kernel), by decide +kernel⟩
  · exact ⟨kiln [] (word 0x12 1 1024 2048 64) ({ regTile with exe := { regTile.exe with regs := regTile.exe.regs.set 2 5 } }), 0, 0, { regTile with exe := { regTile.exe with regs := regTile.exe.regs.set 2 5 } }, kcmd [], launch4, instr (word 0x12 1 1024 2048 64), kiln_at (by decide +kernel) (by decide +kernel), quiet_of (by decide +kernel), by decide +kernel⟩

theorem test_met_QueuePops :
    (∃ s d n t c l x, KilnAt 0x30 s d n t c l x ∧ Quiet t ∧ 1 ≤ x.srcA ∧ x.srcA ≤ 512 ∧
      let q := x.mode % 8
      let k := 64 * x.srcA
      let queue := at? t.loadQ q []
      k ≤ loadQBytes l q ∧ inWork l x.dst k = true ∧ (k ≤ (popAhead queue).1 ∨ (popAhead queue).2 = true)) ∧
    (∃ s d n t c l x, KilnAt 0x30 s d n t c l x ∧ Quiet t ∧ 1 ≤ x.srcA ∧ x.srcA ≤ 512 ∧ 64 * x.srcA ≤ loadQBytes l (x.mode % 8) ∧
        inWork l x.dst (64 * x.srcA) = true ∧ popShort t x = true ∧ (∃ r ∈ t.acc.reqs, r.queue = x.mode % 8 ∧ r.got = none) ∧
        (∀ r ∈ t.acc.reqs, (slotAt l r.slot).kind ≠ 2)) ∧
    (∃ s d n t c l x, KilnAt 0x31 s d n t c l x ∧ Quiet t ∧ fmtValid (fOut t) = true ∧ t.acc.ended = false ∧
      let q := x.mode % 4
      let sq := bits (rLAYOUT t) 6 5
      let rows := bits (rQSHAPE t) 15 0
      let cols := bits (rQSHAPE t) 31 16
      let v := bits (rLAYOUT t) 4 1
      let mx := fmtMx (fOut t)
      let count := rows * cols
      let k := packedBytes (fOut t) count
      rows ≠ 0 ∧ cols ≠ 0 ∧ v ≤ 8 ∧ (v ≠ 0 → rows % 2 ^ v = 0 ∧ cols % 2 ^ v = 0) ∧ (mx = true → count % 32 = 0 ∧ q ≠ sq) ∧
        storeQBytes l q ≠ 0 ∧ (at? t.storeQ q []).length + k ≤ storeQBytes l q ∧ inWork l x.srcA (4 * count) = true ∧
        (mx = true → (at? t.storeQ sq []).length + count / 32 ≤ storeQBytes l sq)) := by
  refine ⟨?_, ?_, ?_⟩
  · exact ⟨kiln [] (word 0x30 7 0 2 0) ({ regTile with loadQ := regTile.loadQ.set 7 [.bytes (List.replicate 64 1), .eos] }), 0, 0, { regTile with loadQ := regTile.loadQ.set 7 [.bytes (List.replicate 64 1), .eos] }, kcmd [], launch4, instr (word 0x30 7 0 2 0), kiln_at (by decide +kernel) (by decide +kernel), quiet_of (by decide +kernel), by decide +kernel⟩
  · exact ⟨kiln [] (word 0x30 7 0 64 0) reqTile, 0, 0, reqTile, kcmd [], launch4, instr (word 0x30 7 0 64 0), kiln_at (by decide +kernel) (by decide +kernel), quiet_of (by decide +kernel), by decide +kernel⟩
  · exact ⟨kiln [] (word 0x31 3 0 0 0) (regTile), 0, 0, regTile, kcmd [], launch4, instr (word 0x31 3 0 0 0), kiln_at (by decide +kernel) (by decide +kernel), quiet_of (by decide +kernel), by decide +kernel⟩

theorem test_met_AccessStream :
    (∃ s d n t c l e, EntryAt 0x01 s d n t c l e ∧ emptySlot l e.slot = false ∧ loadQBytes l e.queue ≠ 0 ∧
        t.acc.loads.length + t.acc.stores.length < 512) ∧
    (∃ s d n t c l e, EntryAt 0x02 s d n t c l e ∧ emptySlot l e.slot = false ∧ (slotAt l e.slot).kind ≠ 2 ∧ (slotAt l e.slot).kind ≠ 8 ∧
        storeQBytes l e.queue ≠ 0 ∧ e.run ≤ storeQBytes l e.queue ∧ t.acc.loads.length + t.acc.stores.length < 512) ∧
    (∃ s d n t c l e, EntryAt 0x10 s d n t c l e) ∧
    (∃ s d n t c l e, EntryAt 0x11 s d n t c l e) ∧
    (∃ s d n t c l e, EntryAt 0x1F s d n t c l e ∧ t.acc.loads = [] ∧ t.acc.stores = [] ∧ (∀ q ∈ t.storeQ, q = [])) ∧
    (∃ (s : State) (d n : Nat) (t : Tile) (c : Cmd) (l : Launch) (k : Nat) (r : LoadReq) (x : Tensor), tileOn s d n = some t ∧
        cmdOf s t.cmd = some c ∧ launchOf c = some l ∧ c.phase = .run ∧ t.committing = false ∧ t.acc.reqs[k]? = some r ∧ r.got = none ∧
        (slotAt l r.slot).kind = 1 ∧ tensorAny s (slotAt l r.slot).handle = some x ∧
      let b := slotAt l r.slot
      let base := sodBase x r.plane
      let view := viewOf s c b.handle
      servedNext s r = true ∧ firstUnread c b.handle view (sodsOf base r.off r.len) = none) ∧
    (∃ (s : State) (d n : Nat) (t : Tile) (c : Cmd) (l : Launch) (k : Nat) (r : LoadReq), tileOn s d n = some t ∧
        cmdOf s t.cmd = some c ∧ launchOf c = some l ∧ c.phase = .run ∧ t.committing = false ∧ t.acc.reqs[k]? = some r ∧ r.got = none ∧
        (slotAt l r.slot).kind = 1 ∧ servedNext s r = false) ∧
    (∃ (s : State) (h t : Handle) (n since off : Nat) (q : SlaneChan), slaneOf s h = some (n, q) ∧ q.halt = some (since, t, off) ∧
        since + ((ctxOf s h.ctx).map (·.waitLimit)).getD 0 ≤ s.now) := by
  refine ⟨?_, ?_, ?_, ?_, ?_, ?_, ?_, ?_⟩
  · exact ⟨kiln [(64, 1, 0x01), (65, 1, 7), (70, 2, 64)] 0 (regTile), 0, 0, regTile, kcmd [], launch4, entry [(64, 1, 0x01), (65, 1, 7), (70, 2, 64)], entry_at (by decide +kernel) (by decide +kernel), by decide +kernel⟩
  · exact ⟨kiln [(64, 1, 0x02), (65, 1, 3), (70, 2, 4096)] 0 (regTile), 0, 0, regTile, kcmd [], launch4, entry [(64, 1, 0x02), (65, 1, 3), (70, 2, 4096)], entry_at (by decide +kernel) (by decide +kernel), by decide +kernel⟩
  · exact ⟨kiln [(64, 1, 0x10), (65, 1, 15), (68, 4, 7)] 0 (regTile), 0, 0, regTile, kcmd [], launch4, entry [(64, 1, 0x10), (65, 1, 15), (68, 4, 7)], entry_at (by decide +kernel) (by decide +kernel)⟩
  · exact ⟨kiln [(64, 1, 0x11), (68, 4, 0xFFFFFFFF)] 0 (regTile), 0, 0, regTile, kcmd [], launch4, entry [(64, 1, 0x11), (68, 4, 0xFFFFFFFF)], entry_at (by decide +kernel) (by decide +kernel)⟩
  · exact ⟨kiln [(64, 1, 0x1F)] 0 (regTile), 0, 0, regTile, kcmd [], launch4, entry [(64, 1, 0x1F)], entry_at (by decide +kernel) (by decide +kernel), by decide +kernel⟩
  · exact ⟨kiln [] 0 reqTile, 0, 0, reqTile, kcmd [], launch4, 0, req4, bytesT 1 4096 [], by decide +kernel, rfl, by decide +kernel, by decide +kernel, by decide +kernel, by decide +kernel, by decide +kernel, by decide +kernel, rfl, by decide +kernel⟩
  · exact ⟨kiln [] 0 waitTile, 0, 0, waitTile, kcmd [], launch4, 0, { req4 with chan := some 0 }, by decide +kernel, rfl, by decide +kernel, by decide +kernel, by decide +kernel, by decide +kernel, by decide +kernel, by decide +kernel, by decide +kernel⟩
  · exact ⟨halted7, hd 9, hd 1, 127, 999000, 0, { cmd := hd 9, halt := some (999000, hd 1, 0) }, by decide +kernel⟩

theorem test_met_ChannelModes :
    (∃ (s : State) (st ch : Nat) (tr : Bool), (chanOf s st ch).mode = .memory ∧ smoulders s st = false ∧ powerBlocks s.pwr = false ∧
        keepsRead s st ch = false ∧ chanWork s st ch = true ∧ methodFits s st ch tr = true) ∧
    (∃ (s : State) (st ch : Nat) (tr : Bool), keepsRead s st ch = true) ∧
    (∃ (s : State) (st ch : Nat), (chanOf s st ch).mode = .processor ∧ holdOver s st ch = true) ∧
    (∃ (s : State) (st ch : Nat), holdOver s st ch = false) ∧
    (∃ u : EUnit, u.state = .running) ∧
    (∃ u : EUnit, u.state = .refreshPause ∧ u.atYield = true) ∧
    (∃ u : EUnit, u.state = .refreshPause ∧ u.atYield = false) ∧
    (∃ u : EUnit, u.state ≠ .running ∧ u.state ≠ .refreshPause) ∧
    (∃ (s : State) (st ch : Nat), (chanOf s st ch).mode = .toProcessor) ∧
    (∃ (s : State) (st ch : Nat), (chanOf s st ch).mode = .toProcessor ∧ (chanOf s st ch).refreshing = false ∧
        (chanOf s st ch).abandon = true) ∧
    (∃ (s : State) (st ch : Nat), (chanOf s st ch).mode = .toProcessor ∧ (chanOf s st ch).refreshing = false ∧
        (chanOf s st ch).abandon = false ∧
      let t := gather (modChan s st ch fun c => { c with switches := (c.switches + 1) % 2 ^ 32 }) 0x2001 1
      chanWork t st ch = true) ∧
    (∃ (s : State) (st ch : Nat), ((chanOf s st ch).mode = .toProcessor) ∧ (chanOf s st ch).refreshing = true) ∧
    (∃ (s : State) (st ch : Nat), (chanOf s st ch).mode = .toMemory ∧ (chanOf s st ch).refreshing = false ∧
        (∀ u ∈ (chanOf s st ch).units, u.2.state ≠ .running ∧ u.2.state ≠ .refreshPause)) ∧
    (∃ (s : State) (st ch un entry tag : Nat) (x : Cmd × InbankBlock × Nat), (unitOf s st ch un).state.busy = false ∧
        (chanOf s st ch).mode = .processor ∧ (chanOf s st ch).trigger = false ∧ partFor s st ch un entry tag = some x) ∧
    (∃ (s : State) (st ch un : Nat), (unitOf s st ch un).state.busy = false ∧ (chanOf s st ch).mode = .bankView) ∧
    (∃ (s : State) (st ch un : Nat), (unitOf s st ch un).state.busy = false ∧ (chanOf s st ch).mode ≠ .bankView ∧
        ¬ ((chanOf s st ch).mode = .processor ∧ (chanOf s st ch).trigger = false)) ∧
    (∃ (s : State) (st ch un : Nat), (unitOf s st ch un).state.busy = true) ∧
    (∃ (s : State) (st ch un : Nat) (h : Handle) (p : Nat), (unitOf s st ch un).state.busy = true ∧
        (unitOf s st ch un).part = some (h, p)) ∧
    (∃ (s : State) (st ch un : Nat) (h : Handle) (p : Nat) (e : Engine), (unitOf s st ch un).state = .suspended ∧
        (unitOf s st ch un).part = some (h, p) ∧ (chanOf s st ch).mode = .processor ∧ (chanOf s st ch).lastCtx = some h.ctx ∧
        tget? s.kiln.chans (chanNum st ch) = some e) ∧
    (∃ (s : State) (st ch un : Nat), (unitOf s st ch un).ended = true ∧ (unitOf s st ch un).state.busy = false) ∧
    (∃ (s : State) (st ch un : Nat), (unitOf s st ch un).ended = true ∧ (unitOf s st ch un).state.busy = true) ∧
    (∃ (s : State) (st ch : Nat), (chanOf s st ch).mode = .processor ∧ (chanOf s st ch).refreshing = false ∧
        8 ≤ (chanOf s st ch).debt ∧ smoulders s st = false ∧ (chanOf s st ch).units.any (fun u => u.2.state == .running) = true) ∧
    (∃ (s : State) (st ch : Nat), (chanOf s st ch).refreshing = true) := by
  refine ⟨?_, ?_, ?_, ?_, ?_, ?_, ?_, ?_, ?_, ?_, ?_, ?_, ?_, ?_, ?_, ?_, ?_, ?_, ?_, ?_, ?_, ?_, ?_⟩
  · exact ⟨onChan memory0, 0, 0, false, by decide +kernel⟩
  · exact ⟨readOn, 0, 0, false, by decide +kernel⟩
  · exact ⟨waited, 0, 0, by decide +kernel⟩
  · exact ⟨onChan (procChan {}), 0, 0, by decide +kernel⟩
  · exact ⟨{ state := .running }, by decide +kernel⟩
  · exact ⟨{ state := .refreshPause, atYield := true }, by decide +kernel⟩
  · exact ⟨{ state := .refreshPause }, by decide +kernel⟩
  · exact ⟨{}, by decide +kernel⟩
  · exact ⟨onChan { trained := true, mode := .toProcessor }, 0, 0, by decide +kernel⟩
  · exact ⟨onChan { trained := true, mode := .toProcessor, abandon := true }, 0, 0, by decide +kernel⟩
  · exact ⟨onChan { trained := true, mode := .toProcessor }, 0, 0, by decide +kernel⟩
  · exact ⟨onChan { trained := true, mode := .toProcessor, refreshing := true }, 0, 0, by decide +kernel⟩
  · exact ⟨onChan { trained := true, mode := .toMemory, units := [(0, { state := .suspended })] }, 0, 0, by decide +kernel⟩
  · exact ⟨onChan (procChan {}), 0, 0, 0, eblock.entry, 9, (ecmd, eblock, 0), by decide +kernel⟩
  · exact ⟨onChan { procChan {} with mode := .bankView }, 0, 0, 0, by decide +kernel⟩
  · exact ⟨onChan memory0, 0, 0, 15, by decide +kernel⟩
  · exact ⟨onChan (procChan (eunit 0)), 0, 0, 0, by decide +kernel⟩
  · exact ⟨onChan (procChan (eunit 0)), 0, 0, 0, hd 9, 0, by decide +kernel⟩
  · exact ⟨{ onChan { procChan { eunit 0 with state := .suspended } with lastCtx := some 1 } with kiln := { chans := [(0, { ctx := 1 })] } }, 0, 0, 0, hd 9, 0, { ctx := 1 }, by decide +kernel⟩
  · exact ⟨onChan (procChan { state := .done, ended := true }), 0, 0, 0, by decide +kernel⟩
  · exact ⟨onChan (procChan { eunit 0 with ended := true }), 0, 0, 0, by decide +kernel⟩
  · exact ⟨onChan { procChan (eunit 0) with debt := 8 }, 0, 0, by decide +kernel⟩
  · exact ⟨onChan { procChan (eunit 0) with refreshing := true }, 0, 0, by decide +kernel⟩

theorem test_met_RefreshAndReseal :
    (∃ (s : State) (st ch : Nat), smoulders s st = true) ∧
    (∃ (s : State) (st ch : Nat), (chanOf s st ch).mode ≠ .offline ∧ (chanOf s st ch).refreshing = false ∧ smoulders s st = false ∧
        (chanOf s st ch).debt < 8) ∧
    (∃ (s : State) (st ch : Nat) (u : Nat × EUnit), (chanOf s st ch).mode = .toMemory ∧ (chanOf s st ch).refreshing = false ∧
        smoulders s st = false ∧ 8 ≤ (chanOf s st ch).debt ∧ u ∈ (chanOf s st ch).units ∧ u.2.state = .running) ∧
    (∃ (s : State) (st ch : Nat), (chanOf s st ch).mode ≠ .offline ∧ (chanOf s st ch).refreshing = false ∧ smoulders s st = false ∧
        8 ≤ (chanOf s st ch).debt ∧
        ((chanOf s st ch).mode ≠ .processor ∧ (chanOf s st ch).mode ≠ .toMemory ∨ ∀ u ∈ (chanOf s st ch).units, u.2.state ≠ .running)) ∧
    (∃ (s : State) (st ch : Nat), (chanOf s st ch).refreshing = true) ∧
    (∃ (s : State) (st ch : Nat), (chanOf s st ch).refreshing = false ∧ (chanOf s st ch).mode ≠ .offline ∧
        (∀ u ∈ (chanOf s st ch).units, u.2.state ≠ .running)) ∧
    (∃ (s : State) (st ch : Nat), (chanOf s st ch).refreshing = false ∧
        ((chanOf s st ch).mode = .offline ∨ ∃ u ∈ (chanOf s st ch).units, u.2.state = .running)) ∧
    (∃ (s : State) (st ch bank row : Nat), chanReady s (chanNum st ch) = true ∧ servesClass s .bulk (chanNum st ch) = true ∧
        rowIsOpen s st ch bank row = true ∧ (∀ c ∈ s.cmds, ∀ sh ∈ c.shadows, sh.loc ≠ some (.bank st ch bank row)) ∧
        sodAt s (.bank st ch bank row) = none) ∧
    (∃ (s : State) (st ch bank row : Nat), chanReady s (chanNum st ch) = true ∧ servesClass s .bulk (chanNum st ch) = true ∧
        rowIsOpen s st ch bank row = true ∧ (∀ c ∈ s.cmds, ∀ sh ∈ c.shadows, sh.loc ≠ some (.bank st ch bank row)) ∧
        (∃ t k x old, sodAt s (.bank st ch bank row) = some (t, k) ∧ shadowed s t k = false ∧ tensorAny s t = some x ∧ tget? x.sods k = some old ∧ tagFails old = false)) ∧
    (∃ (s : State) (st ch bank row : Nat), chanReady s (chanNum st ch) = true ∧ servesClass s .bulk (chanNum st ch) = true ∧
        rowIsOpen s st ch bank row = true ∧ (∀ c ∈ s.cmds, ∀ sh ∈ c.shadows, sh.loc ≠ some (.bank st ch bank row)) ∧
        (∃ t k x old, sodAt s (.bank st ch bank row) = some (t, k) ∧ shadowed s t k = false ∧ tensorAny s t = some x ∧ tget? x.sods k = some old ∧ tagFails old = true)) ∧
    (∃ (s : State) (st ch bank row : Nat), rowIsOpen s st ch bank row = false) := by
  refine ⟨?_, ?_, ?_, ?_, ?_, ?_, ?_, ?_, ?_, ?_, ?_⟩
  · exact ⟨powered fun p => { p with smoulderIn := 0x8000 }, 11, 31, by decide +kernel⟩
  · exact ⟨onChan { memory0 with debt := 7 }, 0, 0, by decide +kernel⟩
  · exact ⟨onChan { procChan (eunit 0) with mode := .toMemory, debt := 8 }, 0, 0, (0, eunit 0), by decide +kernel⟩
  · exact ⟨onChan { memory0 with debt := 8 }, 0, 0, by decide +kernel⟩
  · exact ⟨onChan { memory0 with refreshing := true }, 0, 0, by decide +kernel⟩
  · exact ⟨onChan memory0, 0, 0, by decide +kernel⟩
  · exact ⟨onChan (procChan (eunit 0)), 0, 0, by decide +kernel⟩
  · exact ⟨{ resealing [] with store := base.store }, 0, 0, 1, 0, by decide +kernel⟩
  · exact ⟨resealing [(0, bankSod)], 0, 0, 0, 0, by decide +kernel, by decide +kernel, by decide +kernel, by decide +kernel, hd 2, 0, bytesT 2 4096 [(0, bankSod)], bankSod, by decide +kernel, by decide +kernel, rfl, rfl, by simp [tagFails, bankSod]⟩
  · exact ⟨resealing [(0, torn)], 0, 0, 0, 0, by decide +kernel, by decide +kernel, by decide +kernel, by decide +kernel, hd 2, 0, bytesT 2 4096 [(0, torn)], torn, by decide +kernel, by decide +kernel, rfl, rfl, by simp [tagFails, torn, bankSod]⟩
  · exact ⟨base, 0, 0, 0, 0, by decide +kernel⟩

/-- What the rows of a trigger window ask of a state. -/
def WindowMet (s : State) (h : Handle) (c : Cmd) (b : InbankBlock) (part p st ch un : Nat) : Prop :=
  cmdOf s h = some c ∧ inbandOf c = some b ∧ c.phase = .run ∧ windowed c = true ∧ part < 512 ∧ (currentWave s c b)[part]? = some p
    ∧ partUnit s c b p = some (st, ch, un) ∧ (chanOf s st ch).mode = .processor ∧ (chanOf s st ch).trigger = true
    ∧ chanServes s st ch c.handle.ctx = true ∧ ∀ t ∈ s.kiln.tiles, ∀ r ∈ t.acc.reqs, r.unit = none

theorem window_free : WindowMet (windowOn {}) (hd 9) wcmd eblock 0 0 0 0 0 := by unfold WindowMet; decide +kernel
theorem window_busy : WindowMet (windowOn (eunit 0)) (hd 9) wcmd eblock 0 0 0 0 0 := by unfold WindowMet; decide +kernel

theorem test_met_TriggerWindow :
    (∃ (s : State) (h : Handle) (c : Cmd) (b : InbankBlock) (part p st ch un : Nat), WindowMet s h c b part p st ch un ∧
      let u := unitOf (claimUnit s st ch un c.handle.ctx) st ch un
      ∃ i, i ≤ 15 ∧ u.state.busy = false) ∧
    (∃ (s : State) (h : Handle) (c : Cmd) (b : InbankBlock) (part p st ch un : Nat), WindowMet s h c b part p st ch un ∧ ∃ i, i ≤ 15) ∧
    (∃ (s : State) (h : Handle) (c : Cmd) (b : InbankBlock) (part p st ch un : Nat), WindowMet s h c b part p st ch un ∧
        ∃ q i, part % 16 = 0 ∧ q < 16 ∧ i ≤ 127 ∧ (chanOf (claimUnit s st ch un c.handle.ctx) st ch).anyBusy = false) ∧
    (∃ (s : State) (h : Handle) (c : Cmd) (b : InbankBlock) (part p st ch un : Nat), WindowMet s h c b part p st ch un ∧
        ∃ q i, part % 16 = 0 ∧ q < 16 ∧ i ≤ 127 ∧ (chanOf (claimUnit s st ch un c.handle.ctx) st ch).anyBusy = true) ∧
    (∃ (s : State) (h : Handle) (c : Cmd) (b : InbankBlock) (part p st ch un : Nat), WindowMet s h c b part p st ch un ∧ ∃ q i, part % 16 = 0 ∧ q < 16 ∧ i ≤ 127) ∧
    (∃ (s : State) (h : Handle) (c : Cmd) (b : InbankBlock) (part p st ch un : Nat), WindowMet s h c b part p st ch un ∧
      let u := unitOf (claimUnit s st ch un c.handle.ctx) st ch un
      ∃ i, i ≤ 63 ∧ u.state.busy = false) ∧
    (∃ (s : State) (h : Handle) (c : Cmd) (b : InbankBlock) (part p st ch un : Nat), WindowMet s h c b part p st ch un ∧ ∃ i, i ≤ 63) ∧
    (∃ (s : State) (h : Handle) (c : Cmd) (b : InbankBlock) (part p st ch un : Nat), WindowMet s h c b part p st ch un ∧
      let u := unitOf (claimUnit s st ch un c.handle.ctx) st ch un
      ∃ i w, i ≤ 3 ∧ u.state.busy = false ∧ leNat (slice w 8 24) = 0) ∧
    (∃ (s : State) (h : Handle) (c : Cmd) (b : InbankBlock) (part p st ch un : Nat), WindowMet s h c b part p st ch un ∧ ∃ i, i ≤ 3) ∧
    (∃ (s : State) (h : Handle) (c : Cmd) (b : InbankBlock) (part p st ch un : Nat), WindowMet s h c b part p st ch un ∧
      let u := unitOf (claimUnit s st ch un c.handle.ctx) st ch un
      ∃ w, leNat (slice w 8 24) = 0 ∧ bits (u64 w 0) 9 8 = 1 ∧ u.state.busy = false) ∧
    (∃ (s : State) (h : Handle) (c : Cmd) (b : InbankBlock) (part p st ch un : Nat), WindowMet s h c b part p st ch un ∧
        ∃ w, leNat (slice w 8 24) = 0 ∧ bits (u64 w 0) 9 8 = 2) ∧
    (∃ (s : State) (h : Handle) (c : Cmd) (b : InbankBlock) (part p st ch un : Nat), WindowMet s h c b part p st ch un ∧
        ∃ w, leNat (slice w 8 24) = 0 ∧ bits (u64 w 0) 9 8 = 3) ∧
    (∃ (s : State) (h : Handle) (c : Cmd) (b : InbankBlock) (part p st ch un : Nat), WindowMet s h c b part p st ch un ∧
      let u := unitOf (claimUnit s st ch un c.handle.ctx) st ch un
      ∃ i, i ≤ 127 ∧ u.state.busy = false) ∧
    (∃ (s : State) (h : Handle) (c : Cmd) (b : InbankBlock) (part p st ch un : Nat), WindowMet s h c b part p st ch un ∧
      let u := unitOf (claimUnit s st ch un c.handle.ctx) st ch un
      ∃ i, i ≤ 127 ∧ u.state.busy = true) ∧
    (∃ (s : State) (h : Handle) (c : Cmd) (b : InbankBlock) (part i j st ch un : Nat) (t : Tile), cmdOf s h = some c ∧ inbandOf c = some b ∧
        c.phase = .run ∧ windowed c = true ∧ windowReq s h (windowOffset part 5 i) = some (t, j) ∧
        (at? t.acc.reqs j default).unit = some (st, ch, un) ∧ (unitOf s st ch un).lastCtx = some c.handle.ctx ∧ (unitOf s st ch un).state.busy = true) ∧
    (∃ (s : State) (h : Handle) (c : Cmd) (b : InbankBlock) (part i j st ch un : Nat) (t : Tile), cmdOf s h = some c ∧ inbandOf c = some b ∧
        c.phase = .run ∧ windowed c = true ∧ windowReq s h (windowOffset part 5 i) = some (t, j) ∧
        (at? t.acc.reqs j default).unit = some (st, ch, un) ∧ (unitOf s st ch un).lastCtx = some c.handle.ctx ∧ (unitOf s st ch un).state.busy = false) ∧
    (∃ (s : State) (h : Handle) (c : Cmd) (b : InbankBlock) (part i j st ch un : Nat) (t : Tile), cmdOf s h = some c ∧ inbandOf c = some b ∧
        c.phase = .run ∧ windowed c = true ∧ windowReq s h (windowOffset part 5 i) = some (t, j) ∧
        (at? t.acc.reqs j default).unit = some (st, ch, un) ∧ (unitOf s st ch un).lastCtx ≠ some c.handle.ctx) := by
  refine ⟨?_, ?_, ?_, ?_, ?_, ?_, ?_, ?_, ?_, ?_, ?_, ?_, ?_, ?_, ?_, ?_, ?_⟩
  · exact ⟨windowOn {}, hd 9, wcmd, eblock, 0, 0, 0, 0, 0, window_free, 15, by decide +kernel⟩
  · exact ⟨windowOn {}, hd 9, wcmd, eblock, 0, 0, 0, 0, 0, window_free, 15, by decide +kernel⟩
  · exact ⟨windowOn {}, hd 9, wcmd, eblock, 0, 0, 0, 0, 0, window_free, 15, 127, by decide +kernel⟩
  · exact ⟨windowOn (eunit 0), hd 9, wcmd, eblock, 0, 0, 0, 0, 0, window_busy, 15, 127, by decide +kernel⟩
  · exact ⟨windowOn {}, hd 9, wcmd, eblock, 0, 0, 0, 0, 0, window_free, 15, 127, by decide +kernel⟩
  · exact ⟨windowOn {}, hd 9, wcmd, eblock, 0, 0, 0, 0, 0, window_free, 63, by decide +kernel⟩
  · exact ⟨windowOn {}, hd 9, wcmd, eblock, 0, 0, 0, 0, 0, window_free, 63, by decide +kernel⟩
  · exact ⟨windowOn {}, hd 9, wcmd, eblock, 0, 0, 0, 0, 0, window_free, 3, zeros 32, by decide +kernel⟩
  · exact ⟨windowOn {}, hd 9, wcmd, eblock, 0, 0, 0, 0, 0, window_free, 3, by decide +kernel⟩
  · exact ⟨windowOn {}, hd 9, wcmd, eblock, 0, 0, 0, 0, 0, window_free, natLE 32 256, by decide +kernel⟩
  · exact ⟨windowOn (eunit 0), hd 9, wcmd, eblock, 0, 0, 0, 0, 0, window_busy, natLE 32 512, by decide +kernel⟩
  · exact ⟨windowOn (eunit 0), hd 9, wcmd, eblock, 0, 0, 0, 0, 0, window_busy, natLE 32 768, by decide +kernel⟩
  · exact ⟨windowOn {}, hd 9, wcmd, eblock, 0, 0, 0, 0, 0, window_free, 127, by decide +kernel⟩
  · exact ⟨windowOn (eunit 0), hd 9, wcmd, eblock, 0, 0, 0, 0, 0, window_busy, 127, by decide +kernel⟩
  · exact ⟨windowAsks { eunit 0 with lastCtx := some 1 }, hd 9, wcmd, eblock, 0, 127, 0, 0, 0, 0, windowTile, by decide +kernel⟩
  · exact ⟨windowAsks { lastCtx := some 1 }, hd 9, wcmd, eblock, 0, 127, 0, 0, 0, 0, windowTile, by decide +kernel⟩
  · exact ⟨windowAsks {}, hd 9, wcmd, eblock, 0, 127, 0, 0, 0, 0, windowTile, by decide +kernel⟩

theorem test_met_EmberControl :
    (∃ e h u x, EmberAt 0x00 e h u x) ∧
    (∃ e h u x, EmberAt 0x04 e h u x) ∧
    (∃ e h u x, EmberAt 0x02 e h u x) ∧
    (∃ e h u x, EmberAt 0x03 e h u x ∧
      let len := bits x.imm 7 0
      let count := if bit x.flags 0 then argOf u x.v % 2 ^ 24 else bits x.imm 23 8
      1 ≤ len ∧ u.pc + 1 + len ≤ 256 ∧ count = 0) ∧
    (∃ e h u x, EmberAt 0x03 e h u x ∧
      let len := bits x.imm 7 0
      let count := if bit x.flags 0 then argOf u x.v % 2 ^ 24 else bits x.imm 23 8
      1 ≤ len ∧ u.pc + 1 + len ≤ 256 ∧ count ≠ 0 ∧ u.loops.length < 2) ∧
    (∃ e h u x, EmberAt 0x03 e h u x ∧
      let len := bits x.imm 7 0
      let count := if bit x.flags 0 then argOf u x.v % 2 ^ 24 else bits x.imm 23 8
      1 ≤ len ∧ u.pc + 1 + len ≤ 256 ∧ count ≠ 0 ∧ u.loops.length = 2) ∧
    (∃ e h u x, EmberAt 0x08 e h u x ∧ bits x.flags 1 0 = 0) ∧
    (∃ e h u x, EmberAt 0x08 e h u x ∧ bits x.flags 1 0 = 1) ∧
    (∃ e h u x, EmberAt 0x08 e h u x ∧ bits x.flags 1 0 = 2) ∧
    (∃ e h u x, EmberAt 0x08 e h u x ∧ bits x.flags 1 0 = 3) ∧
    (∃ e h u x, EmberAt 0x09 e h u x) ∧
    (∃ e h u x, EmberAt 0x0A e h u x) ∧
    (∃ e h u x, EmberAt 0x0B e h u x) ∧
    (∃ e h u x, EmberAt 0x0C e h u x ∧ bit x.flags 0 = false) ∧
    (∃ e h u x k, EmberAt 0x0C e h u x ∧ bit x.flags 0 = true ∧ x.imm = 2 ^ k) ∧
    (∃ e h u x err, EmberAt 0x01 e h u x ∧ (e.bankView = true ∨ endBad e u err = none)) := by
  refine ⟨?_, ?_, ?_, ?_, ?_, ?_, ?_, ?_, ?_, ?_, ?_, ?_, ?_, ?_, ?_, ?_⟩
  · exact ⟨ectx (eunit (eword 0x00 0 0 0 1 0 0 0)), hd 9, eunit (eword 0x00 0 0 0 1 0 0 0), eop (eword 0x00 0 0 0 1 0 0 0), ember_at (by decide +kernel)⟩
  · exact ⟨ectx (eunit (eword 0x04 0 0 0 1 0 0 0)), hd 9, eunit (eword 0x04 0 0 0 1 0 0 0), eop (eword 0x04 0 0 0 1 0 0 0), ember_at (by decide +kernel)⟩
  · exact ⟨ectx (eunit (eword 0x02 0 0 0 1 0 0 0)), hd 9, eunit (eword 0x02 0 0 0 1 0 0 0), eop (eword 0x02 0 0 0 1 0 0 0), ember_at (by decide +kernel)⟩
  · exact ⟨ectx (eunit (eword 0x03 0 0 0 1 0 0 1)), hd 9, eunit (eword 0x03 0 0 0 1 0 0 1), eop (eword 0x03 0 0 0 1 0 0 1), ember_at (by decide +kernel), by decide +kernel⟩
  · exact ⟨ectx (eunit (eword 0x03 0 0 0 1 0 0 0x1FF)), hd 9, eunit (eword 0x03 0 0 0 1 0 0 0x1FF), eop (eword 0x03 0 0 0 1 0 0 0x1FF), ember_at (by decide +kernel), by decide +kernel⟩
  · exact ⟨ectx ({ eunit (eword 0x03 0 0 0 1 0 0 0x101) with loops := List.replicate 2 { first := 0, last := 9, left := 2 } }), hd 9, { eunit (eword 0x03 0 0 0 1 0 0 0x101) with loops := List.replicate 2 { first := 0, last := 9, left := 2 } }, eop (eword 0x03 0 0 0 1 0 0 0x101), ember_at (by decide +kernel), by decide +kernel⟩
  · exact ⟨ectx (eunit (eword 0x08 7 0 0 1 0 0 1)), hd 9, eunit (eword 0x08 7 0 0 1 0 0 1), eop (eword 0x08 7 0 0 1 0 0 1), ember_at (by decide +kernel), by decide +kernel⟩
  · exact ⟨ectx (eunit (eword 0x08 7 3 0 1 0 1 0)), hd 9, eunit (eword 0x08 7 3 0 1 0 1 0), eop (eword 0x08 7 3 0 1 0 1 0), ember_at (by decide +kernel), by decide +kernel⟩
  · exact ⟨ectx (eunit (eword 0x08 7 0 0 1 0 2 1)), hd 9, eunit (eword 0x08 7 0 0 1 0 2 1), eop (eword 0x08 7 0 0 1 0 2 1), ember_at (by decide +kernel), by decide +kernel⟩
  · exact ⟨ectx (eunit (eword 0x08 0 0 0 1 0 3 0)), hd 9, eunit (eword 0x08 0 0 0 1 0 3 0), eop (eword 0x08 0 0 0 1 0 3 0), ember_at (by decide +kernel), by decide +kernel⟩
  · exact ⟨ectx (eunit (eword 0x09 1 0 0 1 0 0 0xFFFFFF)), hd 9, eunit (eword 0x09 1 0 0 1 0 0 0xFFFFFF), eop (eword 0x09 1 0 0 1 0 0 0xFFFFFF), ember_at (by decide +kernel)⟩
  · exact ⟨ectx (eunit (eword 0x0A 0 0 0 1 0 0 127)), hd 9, eunit (eword 0x0A 0 0 0 1 0 0 127), eop (eword 0x0A 0 0 0 1 0 0 127), ember_at (by decide +kernel)⟩
  · exact ⟨ectx (eunit (eword 0x0B 0 0 0 1 0 0 0x020404)), hd 9, eunit (eword 0x0B 0 0 0 1 0 0 0x020404), eop (eword 0x0B 0 0 0 1 0 0 0x020404), ember_at (by decide +kernel)⟩
  · exact ⟨ectx (eunit (eword 0x0C 0 0 3 1 0 0 5)), hd 9, eunit (eword 0x0C 0 0 3 1 0 0 5), eop (eword 0x0C 0 0 3 1 0 0 5), ember_at (by decide +kernel), by decide +kernel⟩
  · exact ⟨ectx (eunit (eword 0x0C 0 1 3 1 7 1 8)), hd 9, eunit (eword 0x0C 0 1 3 1 7 1 8), eop (eword 0x0C 0 1 3 1 7 1 8), 3, ember_at (by decide +kernel), by decide +kernel⟩
  · exact ⟨ectx (eunit (eword 0x01 0 0 0 1 0 0 0)), hd 9, eunit (eword 0x01 0 0 0 1 0 0 0), eop (eword 0x01 0 0 0 1 0 0 0), .none, ember_at (by decide +kernel), by decide +kernel⟩

theorem test_met_EmberStreams :
    (∃ e h u x bs, EmberAt 0x10 e h u x ∧ x.n ≤ 16 ∧ x.v + x.n ≤ 16 ∧ readBursts e u (areg u x.a) x.n = .got bs) ∧
    (∃ e h u x, EmberAt 0x11 e h u x ∧ x.n ≤ 16 ∧ x.v + x.n ≤ 16 ∧ spanOpen e u (areg u x.a) x.n) ∧
    (∃ e h u x bs, EmberAt 0x12 e h u x ∧ readBursts e u (areg u x.a) x.n = .got bs ∧
      let old := if bit x.flags 0 then [] else u.patch
      old.length + 8 * x.n ≤ 512) ∧
    (∃ e h u x bs, EmberAt 0x13 e h u x ∧ x.n ≤ 32 ∧
      let d := bits x.imm 2 0
      spansMeet (areg u x.a) x.n (areg u d) x.n = false ∧ readBursts e u (areg u x.a) x.n = .got bs ∧ bs.length = 32 * x.n ∧
        spanOpen e (noteReads u (areg u x.a) x.n) (areg u d) x.n) ∧
    (∃ e h u x bs, EmberAt 0x14 e h u x ∧ streamFmt (eStream u) = true ∧ eOut u ∈ [0x01, 0x02, 0x03, 0x04, 0x05] ∧
      let d := bits x.imm 2 0
      let outBits := x.n * perBurst (eStream u) * fmtBits (eOut u)
      let vals := (spanElems u (eStream u) (areg u x.a) bs x.n).map fun (_, y, sc) => encodeElem .nearest (eOut u) (elemValue (eStream u) y sc)
      let out := packElems (eOut u) vals
      outBits % 256 = 0 ∧ x.n + outBits / 256 ≤ 64 ∧ readBursts e u (areg u x.a) x.n = .got bs ∧
        spanOpen e (noteReads u (areg u x.a) x.n) (areg u d) (ceilDiv out.length 32)) := by
  refine ⟨?_, ?_, ?_, ?_, ?_⟩
  · exact ⟨ectx (eunit (eword 0x10 0 0 0 16 0 0x80 0)), hd 9, eunit (eword 0x10 0 0 0 16 0 0x80 0), eop (eword 0x10 0 0 0 16 0 0x80 0), zeros 512, ember_at (by decide +kernel), by decide +kernel, by decide +kernel, got_of (by decide +kernel)⟩
  · exact ⟨ectx (eunit (eword 0x11 1 0 0 16 0 0x80 0)), hd 9, eunit (eword 0x11 1 0 0 16 0 0x80 0), eop (eword 0x11 1 0 0 16 0 0x80 0), ember_at (by decide +kernel), by decide +kernel, by decide +kernel, by unfold spanOpen; decide +kernel⟩
  · exact ⟨ectx (eunit (eword 0x12 0 0 0 64 0 1 0)), hd 9, eunit (eword 0x12 0 0 0 64 0 1 0), eop (eword 0x12 0 0 0 64 0 1 0), zeros 2048, ember_at (by decide +kernel), got_of (by decide +kernel), by decide +kernel⟩
  · exact ⟨ectx (eunit (eword 0x13 0 0 0 32 0 0x80 1)), hd 9, eunit (eword 0x13 0 0 0 32 0 0x80 1), eop (eword 0x13 0 0 0 32 0 0x80 1), zeros 1024, ember_at (by decide +kernel), by decide +kernel, by decide +kernel, got_of (by decide +kernel), by decide +kernel, by unfold spanOpen; decide +kernel⟩
  · exact ⟨ectx (eunit (eword 0x14 0 0 0 4 0 0x80 1)), hd 9, eunit (eword 0x14 0 0 0 4 0 0x80 1), eop (eword 0x14 0 0 0 4 0 0x80 1), zeros 128, ember_at (by decide +kernel), by decide +kernel, by decide +kernel, by decide +kernel, by decide +kernel, got_of (by decide +kernel), by unfold spanOpen; decide +kernel⟩

theorem test_met_EmberMac :
    (∃ e h u x bs q, EmberAt 0x20 e h u x ∧
      let fs := eStream u
      let fv := eVector u
      let sum := bit x.flags 4
      let pat := bits x.flags 3 2
      let line := (u.bb + x.line) % 128
      let vb := packedBytes fv (x.n * perBurst fs)
      let vec := if sum then [] else vectorBytes e line vb
      let q0 := if pat = 2 ∧ u.rowOpen = true then dropRow u.patch else u.patch
      let elems := spanElems u fs (areg u x.a) bs x.n
      let r := if pat = 0 then (q0, elems) else patchSpan (fmtBits fs) q0 elems
      let terms := r.2.zipIdx.map fun ((_, y, sc), i) => (fs, y, sc, if sum then 0 else fv, if sum then 0 else elemBits fv vec i)
      let start : RSlot := if bit x.flags 0 then {} else at? u.slots x.p {}
      streamFmt fs = true ∧ (sum = true ∨ vectorFmt fv = true) ∧ pat ≠ 3 ∧ readBursts e u (areg u x.a) x.n = .got bs ∧
        addTerms start terms = some q ∧ bit x.flags 1 = false) ∧
    (∃ e h u x bs q, EmberAt 0x20 e h u x ∧
      let fs := eStream u
      let fv := eVector u
      let sum := bit x.flags 4
      let pat := bits x.flags 3 2
      let line := (u.bb + x.line) % 128
      let vb := packedBytes fv (x.n * perBurst fs)
      let vec := if sum then [] else vectorBytes e line vb
      let q0 := if pat = 2 ∧ u.rowOpen = true then dropRow u.patch else u.patch
      let elems := spanElems u fs (areg u x.a) bs x.n
      let r := if pat = 0 then (q0, elems) else patchSpan (fmtBits fs) q0 elems
      let terms := r.2.zipIdx.map fun ((_, y, sc), i) => (fs, y, sc, if sum then 0 else fv, if sum then 0 else elemBits fv vec i)
      let start : RSlot := if bit x.flags 0 then {} else at? u.slots x.p {}
      streamFmt fs = true ∧ (sum = true ∨ vectorFmt fv = true) ∧ pat ≠ 3 ∧ readBursts e u (areg u x.a) x.n = .got bs ∧
        addTerms start terms = some q ∧ ∃ z, bit x.flags 1 = true ∧ (if q.terms = [] then some q else closeChunk q) = some z) := by
  refine ⟨?_, ?_⟩
  · exact ⟨ectx (eunit (eword 0x20 0 0 0 1 0 0x81 0)), hd 9, eunit (eword 0x20 0 0 0 1 0 0x81 0), eop (eword 0x20 0 0 0 1 0 0x81 0), zeros 32, { terms := List.replicate 32 (4, 0, 0, 4, 0) }, ember_at (by decide +kernel), by decide +kernel, by decide +kernel, by decide +kernel, got_of (by decide +kernel), by decide +kernel⟩
  · exact ⟨ectx (eunit (eword 0x20 0 7 3 1 0 0x03 0)), hd 9, eunit (eword 0x20 0 7 3 1 0 0x03 0), eop (eword 0x20 0 7 3 1 0 0x03 0), zeros 32, { terms := List.replicate 32 (4, 0, 0, 4, 0) }, ember_at (by decide +kernel), by decide +kernel, by decide +kernel, by decide +kernel, got_of (by decide +kernel), by decide +kernel, (closeChunk { terms := List.replicate 32 (4, 0, 0, 4, 0) }).get (by decide +kernel), by decide +kernel, (Option.some_get _).symm⟩

theorem test_met_EmberAttention :
    (∃ e h u x bs, EmberAt 0x28 e h u x ∧
      let k := bits x.imm 4 0
      let sod := areg u x.a
      1 ≤ k ∧ k ≤ 16 ∧ turfFmt (eStream u) = true ∧ vectorFmt (eVector u) = true ∧ u.scores.length + k ≤ 128 ∧
        readSpans e u ((List.range k).map fun j => (keyAddr sod j, 4)) = .got bs) ∧
    (∃ e h u x, EmberAt 0x29 e h u x) ∧
    (∃ e h u x bs, EmberAt 0x2A e h u x ∧ turfFmt (eStream u) = true ∧
      let g := bits x.imm 1 0
      let n := u.scoresBack.length
      let first := areg u x.a / 128 * 128
      readSpans e u ((List.range n).map fun i => (valueAddr (addrPlus first (128 * (i / 16))) (i % 16) g, 1)) = .got bs) ∧
    (∃ e h u x t, EmberAt 0x2B e h u x ∧
        treePush mergeStates 8 u.treeCount u.tree { m := u.chunkM, s := u.chunkS, o := u.chunkO } = some t) ∧
    (∃ e h u x, EmberAt 0x2C e h u x ∧
      let v : EUnit := { u with tree := List.replicate 7 {}, treeCount := 0 }
      spanOpen e v (areg u x.a) 17) ∧
    (∃ e h u x bs, EmberAt 0x2D e h u x ∧ bits x.imm 2 0 ≠ 7 ∧ (∀ y ∈ u.normalised, spansMeet (areg u x.a) 17 y 17 = false) ∧
        readBursts e u (areg u x.a) 17 = .got bs) := by
  refine ⟨?_, ?_, ?_, ?_, ?_, ?_⟩
  · exact ⟨ectx (eunit (eword 0x28 0 0 0 1 0 0 16)), hd 9, eunit (eword 0x28 0 0 0 1 0 0 16), eop (eword 0x28 0 0 0 1 0 0 16), zeros 2048, ember_at (by decide +kernel), by decide +kernel, by decide +kernel, by decide +kernel, by decide +kernel, by decide +kernel, got_of (by decide +kernel)⟩
  · exact ⟨ectx (eunit (eword 0x29 0 0 0 1 0 0 0)), hd 9, eunit (eword 0x29 0 0 0 1 0 0 0), eop (eword 0x29 0 0 0 1 0 0 0), ember_at (by decide +kernel)⟩
  · exact ⟨ectx ({ eunit (eword 0x2A 0 0 0 1 0 0 3) with scoresBack := [0] }), hd 9, { eunit (eword 0x2A 0 0 0 1 0 0 3) with scoresBack := [0] }, eop (eword 0x2A 0 0 0 1 0 0 3), zeros 32, ember_at (by decide +kernel), by decide +kernel, got_of (by decide +kernel)⟩
  · exact ⟨ectx (eunit (eword 0x2B 0 0 0 1 0 0 0)), hd 9, eunit (eword 0x2B 0 0 0 1 0 0 0), eop (eword 0x2B 0 0 0 1 0 0 0), { o := List.replicate 128 0 } :: List.replicate 6 {}, ember_at (by decide +kernel), by decide +kernel⟩
  · exact ⟨ectx (eunit (eword 0x2C 1 0 0 1 0 1 0)), hd 9, eunit (eword 0x2C 1 0 0 1 0 1 0), eop (eword 0x2C 1 0 0 1 0 1 0), ember_at (by decide +kernel), by unfold spanOpen; decide +kernel⟩
  · exact ⟨ectx (eunit (eword 0x2D 0 0 0 1 0 0 6)), hd 9, eunit (eword 0x2D 0 0 0 1 0 0 6), eop (eword 0x2D 0 0 0 1 0 0 6), zeros 544, ember_at (by decide +kernel), by decide +kernel, by decide +kernel, got_of (by decide +kernel)⟩

theorem test_met_IntegrityRows :
    (∃ (s : State) (t : Handle) (k : Nat) (l : Loc) (x : Tensor) (old : Sod), tensorAny s t = some x ∧ tget? x.sods k = some old ∧
        mayMove s x k old l = true ∧ tagFails old = false) ∧
    (∃ (s : State) (t : Handle) (k : Nat) (l : Loc) (x : Tensor) (old : Sod), tensorAny s t = some x ∧ tget? x.sods k = some old ∧
        mayMove s x k old l = true) ∧
    (∃ (s : State) (t : Handle) (k : Nat) (a l : Loc) (x : Tensor) (old : Sod) (e : MemErr), tensorAny s t = some x ∧
        tget? x.sods k = some old ∧ mayMove s x k old l = true ∧ old.loc = some a ∧ checkedAt s a = true ∧
        seenOf (checkBytes a) e = .uncorrectable) ∧
    (∃ (s : State) (t : Handle) (k : Nat) (l : Loc) (x : Tensor) (old : Sod), tensorAny s t = some x ∧ tget? x.sods k = some old ∧
        mayMove s x k old l = false) ∧
    (∃ (s : State) (t : Handle) (k : Nat) (l : Loc) (x : Tensor) (r : Stripe), tensorAny s t = some x ∧ x.shared = true ∧
        k < tensorSods x ∧ (sodIn x.sods k).ash = true ∧ x.lost.contains (k / 11) = false ∧ tget? x.stripes (k / 11) = some r ∧
        rebuildPlace s x k l = true ∧ badMembers x (k / 11) (k % 11) [] = [] ∧ sodTag (rebuilt x r k) = at? r.tags (k % 11) 0) ∧
    (∃ (s : State) (t : Handle) (j : Nat) (x : Tensor) (r : Stripe), tensorAny s t = some x ∧ x.shared = true ∧
        tget? x.stripes j = some r ∧ r.parity.ash = true ∧ x.lost.contains j = false ∧ badMembers x j 11 [] = []) ∧
    (∃ s : State, s.store.scrubStart = none ∧ rdy s rdyBog = true) ∧
    (∃ (s : State) (st ch b r : Nat) (e : MemErr), patrolReads s (.bank st ch b r) = true ∧ rowIsOpen s st ch b r = false ∧
        seenOf 4 e = .corrected) ∧
    (∃ (s : State) (p pg : Nat) (e : MemErr), patrolReads s (.bog p pg) = true ∧ seenOf 3 e = .uncorrectable) ∧
    (∃ (s : State) (st ch b g : Nat) (e : MemErr), patrolServed s (.bank st ch b (4 * g)) = true ∧ seenOf 4 e = .uncorrectable) ∧
    (∃ (s : State) (x : PatrolTarget), patrolServed s (patrolSpot s x).1 = false) ∧
    (∃ (s : State) (t : Nat) (late : List Nat), s.store.scrubStart = some t ∧ t + scrubUnits s ≤ s.now ∧ (∀ n ∈ late, n < 448)) ∧
    (∃ s : State, s.now / 10000 ≤ s.evt.windowsDone) ∧
    (∃ s : State, s.evt.windowsDone < s.now / 10000) ∧
    (∃ (sel : Nat), sel ∉ [0x1002, 0x2003, 0x2004, 0x3001]) := by
  refine ⟨?_, ?_, ?_, ?_, ?_, ?_, ?_, ?_, ?_, ?_, ?_, ?_, ?_, ?_, ?_⟩
  · exact ⟨bankT (bank1 [(0, oldSod 0)]), hd 1, 0, .bank 0 0 1 0, bank1 [(0, oldSod 0)], oldSod 0, rfl, rfl, by decide +kernel, by simp [oldSod, tagFails, mkSod]⟩
  · exact ⟨bankT (bank1 [(0, oldSod 0)]), hd 1, 0, .bank 0 0 1 0, bank1 [(0, oldSod 0)], oldSod 0, rfl, rfl, by decide +kernel⟩
  · exact ⟨bankT (bank1 [(0, oldSod 0)]), hd 1, 0, .bank 0 0 0 0, .bank 0 0 1 0, bank1 [(0, oldSod 0)], oldSod 0, twoWrong 34, rfl, rfl, by decide +kernel,
      rfl, by decide +kernel, by decide +kernel⟩
  · exact ⟨bankT (bank1 [(0, oldSod 0)]), hd 1, 0, .bank 0 1 1 0, bank1 [(0, oldSod 0)], oldSod 0, rfl, rfl, by decide +kernel⟩
  · exact ⟨bankT striped, hd 1, 0, .bank 0 0 1 0, striped, stripe0, rfl, by decide +kernel, by decide +kernel, by decide +kernel,
      by decide +kernel, rfl, by decide +kernel, striped_good, congrArg sodTag (by unfold rebuilt sodData; rfl)⟩
  · exact ⟨bankT parityLess, hd 1, 0, parityLess, parity0, rfl, rfl, rfl, rfl, rfl, by decide +kernel⟩
  · exact ⟨base, by decide +kernel⟩
  · exact ⟨memChan {}, 0, 0, 3, 9, oneWrong 35, by decide +kernel⟩
  · exact ⟨base, 3, 100, twoWrong 33, by decide +kernel⟩
  · exact ⟨memChan {}, 0, 0, 3, 9, twoWrong 34, by decide +kernel⟩
  · exact ⟨base, .exrad 0 0 0 0, by decide +kernel⟩
  · exact ⟨scrubbing, 0, [447], by decide +kernel⟩
  · exact ⟨{ base with now := 9999 }, by decide +kernel⟩
  · exact ⟨{ base with now := 10000 }, by decide +kernel⟩
  · exact ⟨0x1001, by decide +kernel⟩

theorem test_met_ServingRows :
    (∃ (s : State) (id : Nat) (q : Req) (m : Model) (v : Option Nat), reqOf s id = some q ∧ modelOf s q.clamp q.model = some m ∧
        bindVersion s q = some v ∧ q.state = .admitting ∧ q.remote = none ∧ (clampOf s q.clamp).state = .running ∧
        modelLost s m = false ∧
      let hit := confirmed s { q with version := v } (v.getD 0)
      let r := growTurves (turfCount q.block.promptLen) (shareBlocks s id hit.1) id (turfCount q.block.promptLen)
      r.2 = true) ∧
    (∃ (s : State) (k id : Nat) (ash : List Nat) (q : Req) (v : ServingCfg) (m : Model), reqOf s id = some q ∧
        (clampOf s k).serving = some v ∧ modelOf s k q.model = some m ∧ q.clamp = k ∧ q.state = .prefill ∧ q.first = none ∧
        (clampOf s k).state = .running ∧ servingLive s k 0 = [] ∧ ((clampOf s k).role = 0 → servingLive s k 2 = []) ∧
        servesModel s k m = true ∧ prefillTurn s k = true ∧ modelLost s m = false ∧ ∀ i ∈ ash, q.kvLen / 16 ≤ i) ∧
    (∃ (s : State) (k id : Nat) (ash : List Nat) (q : Req) (v : ServingCfg) (m : Model), reqOf s id = some q ∧
        (clampOf s k).serving = some v ∧ modelOf s k q.model = some m ∧ q.clamp = k ∧ q.state = .prefill ∧ q.first = none ∧
        (clampOf s k).state = .running ∧ servingLive s k 0 = [] ∧ ((clampOf s k).role = 0 → servingLive s k 2 = []) ∧
        servesModel s k m = true ∧ prefillTurn s k = true ∧ modelLost s m = false ∧ ∃ i ∈ ash, i < q.kvLen / 16) ∧
    (∃ (s : State) (k fp : Nat) (ash : List (Nat × Nat)) (v : ServingCfg) (m : Model), (clampOf s k).serving = some v ∧
        modelOf s k fp = some m ∧ (clampOf s k).state = .running ∧ (clampOf s k).role ≠ 1 ∧
        ((clampOf s k).role = 0 → servingLive s k 0 = [] ∧ (tgetD s.serve.prefillTurn k true = false ∨ reqsIn s k .prefill = [])) ∧
        servingLive s k 2 = [] ∧ servesModel s k m = true ∧ modelLost s m = false ∧
      let a := rejoinParked s.serve.reqs.length s k
      nextModel a k = some fp ∧
      let b := (batchOf a k fp v.maxBatch).foldl (fun u q => roomForStep (u.serve.reqs.length + 1) u k q.id) a
      let batch := (batchOf b k fp v.maxBatch).filter fun q => decide (turfCount (q.kvLen + 1) ≤ q.turves.length)
      batch ≠ [] ∧ batchAsh batch ash = []) ∧
    (∃ (s : State) (k fp : Nat) (ash : List (Nat × Nat)) (v : ServingCfg) (m : Model), (clampOf s k).serving = some v ∧
        modelOf s k fp = some m ∧ (clampOf s k).state = .running ∧ (clampOf s k).role ≠ 1 ∧
        ((clampOf s k).role = 0 → servingLive s k 0 = [] ∧ (tgetD s.serve.prefillTurn k true = false ∨ reqsIn s k .prefill = [])) ∧
        servingLive s k 2 = [] ∧ servesModel s k m = true ∧ modelLost s m = false ∧
      let a := rejoinParked s.serve.reqs.length s k
      nextModel a k = some fp ∧
      let b := (batchOf a k fp v.maxBatch).foldl (fun u q => roomForStep (u.serve.reqs.length + 1) u k q.id) a
      let batch := (batchOf b k fp v.maxBatch).filter fun q => decide (turfCount (q.kvLen + 1) ≤ q.turves.length)
      batch ≠ [] ∧ batchAsh batch ash ≠ []) ∧
    (∃ (s : State) (k fp : Nat) (c : Cmd) (rest : List Cmd) (batch : List Nat) (tokens : List (Option Nat)),
        servingLive s k 2 = c :: rest ∧ c.phase = .run ∧ c.done = true ∧ (∀ x, (clampOf s k).stop = some x → s.now < x.deadline) ∧
        c.work = .step k fp batch tokens) ∧
    (∃ (s : State) (id : Nat) (ash : List Nat) (q : Req), reqOf s id = some q ∧ q.state = .shipping ∧
        (clampOf s q.clamp).state = .running ∧ servingLive s q.clamp 1 = [] ∧ ash.filter (fun i => decide (i < q.turves.length)) = []) ∧
    (∃ (s : State) (id : Nat) (ash : List Nat) (q : Req), reqOf s id = some q ∧ q.state = .shipping ∧
        (clampOf s q.clamp).state = .running ∧ servingLive s q.clamp 1 = [] ∧ ash.filter (fun i => decide (i < q.turves.length)) ≠ []) := by
  refine ⟨?_, ?_, ?_, ?_, ?_, ?_, ?_, ?_⟩
  · exact ⟨served, 0, req6, model77, none, by decide +kernel⟩
  · exact ⟨serveReq { req6 with state := .prefill, kvLen := 16, turves := [{ slot := 0 }] } [] true, 0, 0, [1], { req6 with state := .prefill, kvLen := 16, turves := [{ slot := 0 }] }, serving0, model77, by decide +kernel⟩
  · exact ⟨serveReq { req6 with state := .prefill, kvLen := 16, turves := [{ slot := 0 }] } [] true, 0, 0, [0], { req6 with state := .prefill, kvLen := 16, turves := [{ slot := 0 }] }, serving0, model77, by decide +kernel⟩
  · exact ⟨serveReq decoding [] false, 0, 77, [], serving0, model77, by decide +kernel⟩
  · exact ⟨serveReq decoding [] false, 0, 77, [(0, 0)], serving0, model77, by decide +kernel⟩
  · exact ⟨serveReq decoding [stepCmd] false, 0, 77, stepCmd, [], [0], [some 4], rfl, rfl, rfl, fun x h => (nomatch h), rfl⟩
  · exact ⟨serveReq { decoding with state := .shipping } [] true, 0, [], { decoding with state := .shipping }, by decide +kernel⟩
  · exact ⟨serveReq { decoding with state := .shipping } [] true, 0, [0], { decoding with state := .shipping }, by decide +kernel⟩

theorem test_met_StopChecks :
    (∃ (q : Req) (t : Nat), t ∈ q.block.endTokens) ∧
    (∃ (q : Req) (t : Nat) (stop : List Nat), t ∉ q.block.endTokens ∧ stop ∈ q.block.stopSeqs ∧ stop <:+ q.generated ++ [t]) ∧
    (∃ (q : Req) (t : Nat), t ∉ q.block.endTokens ∧ (∀ stop ∈ q.block.stopSeqs, ¬ stop <:+ q.generated ++ [t])) := by
  refine ⟨?_, ?_, ?_⟩
  · exact ⟨decoding, 3, by decide +kernel⟩
  · exact ⟨{ decoding with generated := [5] }, 6, [5, 6], by decide +kernel⟩
  · exact ⟨decoding, 9, by decide +kernel⟩

theorem test_met_FlueLinkRows :
    (∃ (s : State) (p : Nat) (f : Frame), (portOf s p).state = .up ∧ f.bad = false) ∧
    (∃ (s : State) (p : Nat) (f : Frame), (portOf s p).state = .up ∧ f.bad = false ∧ f.seq = ((portOf s p).rxSeq + 1) % 4096) ∧
    (∃ (s : State) (p : Nat) (f : Frame), (portOf s p).state = .up ∧ f.bad = false ∧ f.seq ≠ ((portOf s p).rxSeq + 1) % 4096) ∧
    (∃ (s : State) (p : Nat) (f : Frame), (portOf s p).state = .up ∧ f.bad = true) ∧
    (∃ (s : State) (p : Nat) (f : Frame), (portOf s p).state = .up ∧ f.bad = false) ∧
    (∃ (s : State) (p : Nat) (f : Frame), (portOf s p).state = .up ∧ f.bad = false) ∧
    (∃ (s : State) (p l : Nat), (portOf s p).state = .up ∧ l ≤ 4 ∧ l ≠ (portOf s p).excluded) ∧
    (∃ (s : State) (p : Nat), s.now / 100000 ≤ (portOf s p).fecDone) ∧
    (∃ (s : State) (p : Nat) (n : List Nat), (portOf s p).fecDone < s.now / 100000 ∧ (portOf s p).state = .up ∧
        (∃ l < 5, l ≠ (portOf s p).excluded ∧ 4096 < at? n l 0)) ∧
    (∃ (s : State) (p : Nat) (n : List Nat), (portOf s p).fecDone < s.now / 100000 ∧
        ((portOf s p).state ≠ .up ∨ (∀ l < 5, l = (portOf s p).excluded ∨ at? n l 0 ≤ 4096))) ∧
    (∃ (s : State) (p : Nat), p < s.flue.ports.length ∧ (portOf s p).state = .up) ∧
    (∃ (s : State) (p : Nat), (portOf s p).state = .training ∧ (portOf s p).attemptStart + 200000 ≤ s.now) ∧
    (∃ (s : State) (p : Nat) (l : List Nat), (portOf s p).state = .training ∧ s.now < (portOf s p).attemptStart + 200000 ∧
        2 ≤ (lanesFailed (portOf s p) l).length) ∧
    (∃ (s : State) (p : Nat) (l : List Nat), (portOf s p).state = .training ∧ s.now < (portOf s p).attemptStart + 200000 ∧
        (lanesFailed (portOf s p) l).length < 2 ∧ (portOf s p).attempts = 0) ∧
    (∃ (s : State) (p : Nat) (l : List Nat), (portOf s p).state = .training ∧ s.now < (portOf s p).attemptStart + 200000 ∧
        (lanesFailed (portOf s p) l).length < 2 ∧ 1 ≤ (portOf s p).attempts) ∧
    (∃ (s : State) (p : Nat), (portOf s p).state = .training ∧ (portOf s p).attemptStart + 200000 ≤ s.now) ∧
    (∃ (s : State) (p : Nat), (portOf s p).state = .down ∧ at? s.rst.kiln (portDie p) .idle = .ok ∧
        ((portOf s p).attemptStart = 0 ∨ (portOf s p).attemptStart + 10000000 ≤ s.now)) := by
  refine ⟨?_, ?_, ?_, ?_, ?_, ?_, ?_, ?_, ?_, ?_, ?_, ?_, ?_, ?_, ?_, ?_, ?_⟩
  · exact ⟨onPort up0, 0, {}, by decide +kernel⟩
  · exact ⟨onPort up0, 0, {}, by decide +kernel⟩
  · exact ⟨onPort up0, 0, { seq := 7 }, by decide +kernel⟩
  · exact ⟨onPort up0, 0, { bad := true }, by decide +kernel⟩
  · exact ⟨onPort up0, 0, {}, by decide +kernel⟩
  · exact ⟨onPort up0, 0, {}, by decide +kernel⟩
  · exact ⟨onPort up0, 0, 3, by decide +kernel⟩
  · exact ⟨onPort { up0 with fecDone := 200 }, 0, by decide +kernel⟩
  · exact ⟨onPort { up0 with fecDone := 199 }, 0, [0, 4097], by decide +kernel, by decide +kernel, ⟨1, by decide +kernel⟩⟩
  · exact ⟨onPort { up0 with fecDone := 199 }, 0, [0, 4096], by decide +kernel⟩
  · exact ⟨onPort up0, 0, by decide +kernel⟩
  · exact ⟨training0 1 [] 19800000, 0, by decide +kernel⟩
  · exact ⟨training0 1 [], 0, [1, 2], by decide +kernel⟩
  · exact ⟨training0 0 [], 0, [4], by decide +kernel⟩
  · exact ⟨training0 2 [3], 0, [], by decide +kernel⟩
  · exact ⟨training0 1 [] 100, 0, by decide +kernel⟩
  · exact ⟨onPort {}, 0, by decide +kernel⟩

theorem test_met_FluePairRows :
    (∃ (s : State) (m : Msg), s.flue.lock = true ∧ m.dst = s.flue.moduleId ∧ (portOf s m.port).state = .up) ∧
    (∃ (s : State) (m : Nat), (pairOf s m).isSome = true) ∧
    (∃ (s : State) (m : Msg), (portOf s m.port).state = .up) ∧
    (∃ (s : State) (m : Msg) (p : Pair), PairTakes s m p) ∧
    (∃ (s : State) (m : Nat) (p : Pair), pairOf s m = some p ∧ p.up = true ∧ liveState s m = true ∧ p.lastSent + 100000 ≤ s.now) ∧
    (∃ (s : State) (m : Nat) (p : Pair), pairOf s m = some p ∧ p.up = true ∧ liveState s m = true ∧ p.lastArrival + 1000000 ≤ s.now) ∧
    (∃ (s : State) (m : Nat) (p : Pair), pairOf s m = some p ∧ p.up = true) ∧
    (∃ (s : State) (m : Msg), (∀ p, ¬ PairTakes s m p)) := by
  refine ⟨?_, ?_, ?_, ?_, ?_, ?_, ?_, ?_⟩
  · exact ⟨base, msg7, by decide +kernel⟩
  · exact ⟨base, 7, by decide +kernel⟩
  · exact ⟨base, msg7, by decide +kernel⟩
  · exact ⟨base, msg7, pair7, pair_takes (by decide +kernel)⟩
  · exact ⟨silent7, 7, pair7, by decide +kernel⟩
  · exact ⟨silent7, 7, pair7, by decide +kernel⟩
  · exact ⟨base, 7, pair7, by decide +kernel⟩
  · exact ⟨base, { msg7 with dst := 6 }, fun _ h => absurd h.mine (by decide +kernel)⟩

theorem test_met_FlueTransferRows :
    (∃ (s : State) (m : Msg) (p : Pair), PairTakes s m p ∧ isHandover m.tag = false) ∧
    (∃ (s : State) (m : Msg) (p : Pair), PairTakes s m p) ∧
    (∃ (s : State) (m : Msg) (p : Pair), PairTakes s m p ∧ isHandover m.tag = false ∧
      let t := closeWaits (stamped s m p)
      (ctxOf t m.dctx).isSome = true ∧ t.flue.consumed.contains (m.dctx, m.src, m.tag) = false ∧ roomFor t m = true) ∧
    (∃ (s : State) (m : Msg) (p : Pair), PairTakes s m p ∧ isHandover m.tag = false ∧
      let t := closeWaits (stamped s m p)
      (ctxOf t m.dctx).isSome = true ∧ t.flue.consumed.contains (m.dctx, m.src, m.tag) = false ∧ roomFor t m = false) ∧
    (∃ (s : State) (m : Msg) (p : Pair), PairTakes s m p ∧ isHandover m.tag = false ∧
      let t := closeWaits (stamped s m p)
      ((ctxOf t m.dctx).isNone = true ∨ t.flue.consumed.contains (m.dctx, m.src, m.tag) = true)) ∧
    (∃ (s : State) (m : Msg) (off : Nat), hasLanded s m.dctx m.src m.tag off = false) ∧
    (∃ (s : State) (m : Msg) (p : Pair), PairTakes s m p ∧ isHandover m.tag = false ∧
        receiverOf (stamped s m p) m.dctx m.src m.tag = none ∧ s.flue.consumed.contains (m.dctx, m.src, m.tag) = true) ∧
    (∃ (s : State) (m : Msg) (p : Pair), PairTakes s m p ∧ isHandover m.tag = false ∧
        receiverOf (stamped s m p) m.dctx m.src m.tag = none ∧
        ∃ c ∈ s.cmds, c.handle.ctx = m.dctx ∧ c.transfer.taken.contains (m.src, m.tag) = true) ∧
    (∃ (s : State) (m : Msg) (p : Pair) (c : Cmd), PairTakes s m p ∧ isHandover m.tag = false ∧
        receiverOf (stamped s m p) m.dctx m.src m.tag = some c) ∧
    (∃ (s : State) (m : Msg) (p : Pair) (c : Cmd) (o : Outgoing), PairTakes s m p ∧ isHandover m.tag = false ∧
        senderOf (stamped s m p) m = some (c, o)) ∧
    (∃ (s : State) (m : Msg) (p : Pair) (c : Cmd), PairTakes s m p ∧ isHandover m.tag = false ∧ m.status = 2 ∧
        receiverOf (stamped s m p) m.dctx m.src m.tag = some c) ∧
    (∃ (s : State) (m : Msg) (p : Pair), PairTakes s m p ∧ isHandover m.tag = false ∧ m.status ≠ 2) ∧
    (∃ (s : State) (m : Msg) (p : Pair) (c : Cmd) (o : Outgoing), PairTakes s m p ∧ isHandover m.tag = false ∧
        senderOf (stamped s m p) m = some (c, o)) ∧
    (∃ (s : State) (m : Msg) (p : Pair), PairTakes s m p ∧
      let op := flagOfBody m.body
      ∃ c, ctxOf s m.dctx = some c ∧ c.ending = false ∧ c.remoteMask.getLsbD op.flag = true) ∧
    (∃ (s : State) (m : Msg) (p : Pair), PairTakes s m p ∧
      let op := flagOfBody m.body
      (∀ c, ctxOf s m.dctx = some c → c.ending = true ∨ c.remoteMask.getLsbD op.flag = false)) ∧
    (∃ (s : State) (m : Msg) (p : Pair) (c : Cmd), PairTakes s m p ∧
        s.cmds.find? (fun c => c.awaiting && Handle.encode c.handle == m.tag) = some c) ∧
    (∃ (s : State) (m : Msg) (p : Pair), PairTakes s m p) ∧
    (∃ (s : State) (m : Msg) (p : Pair), PairTakes s m p ∧ isHandover m.tag = true) ∧
    (∃ (s : State) (h : Handle) (c : Cmd), cmdOf s h = some c ∧ c.phase = .run ∧ c.done = false ∧ nothingYet s c = true ∧
        c.runAt + waitLimitOf s h.ctx ≤ s.now ∧ (∀ r, c.work ≠ .handover r)) ∧
    (∃ (s : State) (h : Handle) (c : Cmd) (r : Nat) (q : Req), cmdOf s h = some c ∧ c.phase = .run ∧ c.done = false ∧
        nothingYet s c = true ∧ c.runAt + waitLimitOf s h.ctx ≤ s.now ∧ c.work = .handover r ∧ reqOf s r = some q) := by
  refine ⟨?_, ?_, ?_, ?_, ?_, ?_, ?_, ?_, ?_, ?_, ?_, ?_, ?_, ?_, ?_, ?_, ?_, ?_, ?_, ?_⟩
  · exact ⟨cmdOn sendCmd, msg7, pair7, pair_takes (by decide +kernel), by decide +kernel⟩
  · exact ⟨base, msg7, pair7, pair_takes (by decide +kernel)⟩
  · exact ⟨base, { msg7 with body := zeros 4104 }, pair7, pair_takes (by decide +kernel), by decide +kernel⟩
  · exact ⟨full7, { msg7 with body := zeros 4104 }, pair7, pair_takes (by decide +kernel), by decide +kernel⟩
  · exact ⟨eaten7, msg7, pair7, pair_takes (by decide +kernel), by decide +kernel⟩
  · exact ⟨base, msg7, 0, by decide +kernel⟩
  · exact ⟨eaten7, msg7, pair7, pair_takes (by decide +kernel), by decide +kernel⟩
  · exact ⟨cmdOn takenCmd, msg7, pair7, pair_takes (by decide +kernel), by decide +kernel, by decide +kernel, takenCmd, by decide +kernel⟩
  · exact ⟨cmdOn recvCmd, msg7, pair7, recvCmd, pair_takes (by decide +kernel), by decide +kernel⟩
  · exact ⟨cmdOn sendCmd, msg7, pair7, sendCmd, { partner := 7, ctx := 3, tag := 9, len := 4096, block := 0 }, pair_takes (by decide +kernel), by decide +kernel⟩
  · exact ⟨cmdOn recvCmd, { msg7 with status := 2 }, pair7, recvCmd, pair_takes (by decide +kernel), by decide +kernel⟩
  · exact ⟨cmdOn recvCmd, msg7, pair7, pair_takes (by decide +kernel), by decide +kernel⟩
  · exact ⟨cmdOn sendCmd, msg7, pair7, sendCmd, { partner := 7, ctx := 3, tag := 9, len := 4096, block := 0 }, pair_takes (by decide +kernel), by decide +kernel⟩
  · exact ⟨open7, msg7, pair7, pair_takes (by decide +kernel), { ctx1 with remoteMask := 1 }, by decide +kernel⟩
  · exact ⟨base, msg7, pair7, pair_takes (by decide +kernel), fun c h => Or.inr (by cases (Option.some.inj h); decide +kernel)⟩
  · exact ⟨cmdOn askCmd, { msg7 with tag := Handle.encode (hd 9) }, pair7, askCmd, pair_takes (by decide +kernel), by decide +kernel⟩
  · exact ⟨base, msg7, pair7, pair_takes (by decide +kernel)⟩
  · exact ⟨base, hand7, pair7, pair_takes (by decide +kernel), by decide +kernel⟩
  · exact ⟨later (cmdOn recvCmd), hd 9, recvCmd, by decide +kernel, by decide +kernel, by decide +kernel, by decide +kernel, by decide +kernel, fun r h => by cases h⟩
  · exact ⟨later { cmdOn handCmd with serve := { reqs := [req6] } }, hd 9, handCmd, 0, req6, by decide +kernel⟩

theorem test_met_HostCompletions :
    (∃ (s : State) (h : Handle) (c : Cmd) (off : Nat) (bs : List Byte), HostWait s h c off ∧
        ideBlocks s (ctxFn s h.ctx) (readBase c + off) = false ∧
      let left := dropRange off bs.length c.hostOut
      left ≠ []) ∧
    (∃ (s : State) (h : Handle) (c : Cmd) (off : Nat) (bs : List Byte), HostWait s h c off ∧
        ideBlocks s (ctxFn s h.ctx) (readBase c + off) = false ∧
      let left := dropRange off bs.length c.hostOut
      let t := pumpHost 4096 (modCmd (gather s 0x5002 bs.length) c.handle fun x =>
        { x with hostData := wrBytes x.hostData off bs, hostOut := left, hostReqs := openReqs left x.hostReqs })
      ∃ d, left = [] ∧ cmdOf t c.handle = some d) ∧
    (∃ (s : State) (h : Handle) (c : Cmd) (off : Nat), HostWait s h c off ∧ ideBlocks s (ctxFn s h.ctx) (readBase c + off) = false) ∧
    (∃ (s : State) (h : Handle) (c : Cmd) (off : Nat), HostWait s h c off ∧ ideBlocks s (ctxFn s h.ctx) (readBase c + off) = true) ∧
    (∃ (s : State) (h : Handle) (c : Cmd) (r : Nat × Nat) (rest : List (Nat × Nat)), cmdOf s h = some c ∧ c.phase = .run ∧
        c.hostOut = r :: rest) ∧
    (∃ (s : State) (fn addr : Nat), ideBlocks s fn addr = true) ∧
    (∃ (s : State) (fn addr : Nat), ideBlocks s fn addr = false) ∧
    (∃ (s : State) (n : Nat), n < 8 ∧ (at? s.sec.ide n {}).state = .secure) := by
  refine ⟨?_, ?_, ?_, ?_, ?_, ?_, ?_, ?_⟩
  · exact ⟨readBusy, hd 9, readCmd, 0, zeros 32, ⟨by decide +kernel, by decide +kernel, by decide +kernel⟩, by decide +kernel⟩
  · exact ⟨readBusy, hd 9, readCmd, 0, zeros 64, ⟨by decide +kernel, by decide +kernel, by decide +kernel⟩, by decide +kernel, (cmdOf hostEnded (hd 9)).get (by decide +kernel), by decide +kernel, (Option.some_get _).symm⟩
  · exact ⟨readBusy, hd 9, readCmd, 0, ⟨by decide +kernel, by decide +kernel, by decide +kernel⟩, by decide +kernel⟩
  · exact ⟨onIde .insecure, hd 9, readCmd, 0, ⟨by decide +kernel, by decide +kernel, by decide +kernel⟩, by decide +kernel⟩
  · exact ⟨readBusy, hd 9, readCmd, (0, 64), [], by decide +kernel⟩
  · exact ⟨onIde .insecure, 9, 0xFFFF, by decide +kernel⟩
  · exact ⟨onIde .insecure, 9, 0x10000, by decide +kernel⟩
  · exact ⟨onIde .secure, 0, by decide +kernel⟩

theorem test_met_PowerRows :
    (∃ (s : State) (l : List Reading), s.pwr.quench = false ∧ s.rst.rootLocked = true ∧ quenchSensor l = none) ∧
    (∃ (s : State) (l : List Reading) (n : Nat), s.pwr.quench = false ∧ quenchSensor l = some n) ∧
    (∃ (s : State), s.pwr.quench = true) ∧
    (∃ (x : Sensor) (v : Int), -320 ≤ v ∧ v ≤ 1200 ∧ x.out = false) ∧
    (∃ (x : Sensor), x.out = false) ∧
    (∃ (s : State), s.rst.rootLocked = true) ∧
    (∃ (s : State), (s.pwr.avsBad < 2 ∨ s.pwr.avsFault = true)) ∧
    (∃ (s : State), 2 ≤ s.pwr.avsBad ∧ s.pwr.avsFault = false) ∧
    (∃ (s : State), s.rst.rootLocked = true) ∧
    (∃ (s : State) (v : Nat), rdy s rdyHearth = true ∧ s.pwr.stepFrom = none ∧ s.pwr.stepWindow ≠ some (s.now / 10000) ∧ 600 ≤ v ∧
        v ≤ 850 ∧ v ≤ s.pwr.setpoint + 5 ∧ s.pwr.setpoint ≤ v + 5) ∧
    (∃ (s : State), s.rst.rootLocked = true ∧ s.now % 10000 = 0 ∧ s.pwr.fastDone < s.now / 10000) ∧
    (∃ (s : State), s.now % 10000 ≠ 0 ∨ s.now / 10000 ≤ s.pwr.fastDone) ∧
    (∃ (s : State), s.now % 100000 ≠ 0 ∨ s.now / 100000 ≤ s.pwr.slowDone) ∧
    (∃ (s : State), s.rst.rootLocked = true ∧ s.now % 100000 = 0 ∧ s.pwr.slowDone < s.now / 100000) ∧
    (∃ (s : State) (t : Nat), s.pwr.advisory = some t ∧ s.pwr.enforcing = false ∧ t + 2000000 ≤ s.now ∧
        t + 2000000 ≤ 100000 * s.pwr.slowDone) := by
  refine ⟨?_, ?_, ?_, ?_, ?_, ?_, ?_, ?_, ?_, ?_, ?_, ?_, ?_, ?_, ?_⟩
  · exact ⟨base, [.value 300, .failed], by decide +kernel⟩
  · exact ⟨base, [.value 300, .value 920], 1, by decide +kernel⟩
  · exact ⟨powered (fun p => { p with quench := true }), by decide +kernel⟩
  · exact ⟨{}, -320, by decide +kernel⟩
  · exact ⟨{}, by decide +kernel⟩
  · exact ⟨base, by decide +kernel⟩
  · exact ⟨base, by decide +kernel⟩
  · exact ⟨powered (fun p => { p with avsBad := 2 }), by decide +kernel⟩
  · exact ⟨base, by decide +kernel⟩
  · exact ⟨powered id, 755, by decide +kernel⟩
  · exact ⟨powered fun p => { p with fastDone := 299 }, by decide +kernel⟩
  · exact ⟨{ base with now := 9999 }, by decide +kernel⟩
  · exact ⟨powered fun p => { p with slowDone := 30 }, by decide +kernel⟩
  · exact ⟨powered fun p => { p with slowDone := 29 }, by decide +kernel⟩
  · exact ⟨overCapped, 0, by decide +kernel⟩

theorem test_met_SagAndSmoulder :
    (∃ (s : State) (c : SagCause) (vcore vaux : Nat), s.rst.rootLocked = true ∧ sagHolds s vcore vaux c = true) ∧
    (∃ (s : State), s.pwr.stepFrom = none) ∧
    (∃ (s : State), ∃ v, s.pwr.stepFrom = some v) ∧
    (∃ (s : State), s.pwr.sag = true ∧ s.now < s.pwr.sagAt + 10000) ∧
    (∃ (s : State), s.pwr.sag = true ∧ s.pwr.avsFault = false ∧ s.pwr.sagAt + 10000 ≤ s.now) ∧
    (∃ (s : State) (r : Nat), s.pwr.recovery = some r ∧ s.pwr.nvHold = true ∧ s.pwr.sag = false ∧ r + 1000000 ≤ s.now) ∧
    (∃ (s : State), s.rst.perst = true) ∧
    (∃ (s : State) (u : SmoulderUnit), s.rst.rootLocked = true ∧ smoulderUnitOk u = true ∧
        s.pwr.smoulderEn.getLsbD (smoulderBit u) = true ∧ smoulderReady s u = true ∧
        at? s.pwr.activeAt (smoulderBit u) 0 + 10000 ≤ s.now) ∧
    (∃ (s : State) (u : SmoulderUnit), s.rst.rootLocked = true ∧ smoulderUnitOk u = true ∧
        s.pwr.smoulderEn.getLsbD (smoulderBit u) = true ∧ smoulderReady s u = true ∧
        s.now < at? s.pwr.activeAt (smoulderBit u) 0 + 10000) ∧
    (∃ (s : State) (n : Nat), (∀ d, coreCrossing n = some d → (at? s.pwr.sensors d {}).out = false)) ∧
    (∃ (s : State) (m : BitVec 32) (st ch : Nat), ch < 32 ∧ st < 12 ∧ (s.pwr.smoulderIn &&& m).getLsbD (4 + st) = true) ∧
    (∃ (s : State) (n d : Nat), coreCrossing n = some d ∧ (at? s.pwr.sensors d {}).out = true) ∧
    (∃ (s : State) (w : NvWrite), s.sec.nv = some w ∧ s.rst.warmWait = none) ∧
    (∃ (s : State) (w : NvWrite) (dog : Bool) (t : Nat), s.sec.nv = some w ∧ s.rst.warmWait = some (dog, t)) ∧
    (∃ (s : State) (h : Handle) (c : Cmd), cmdOf s h = some c) ∧
    (∃ (s : State), rdy s rdySecurity = true ∧ s.sec.svnDeferred = true ∧ s.pwr.nvHold = false ∧ s.sec.nv = none ∧ s.rst.warmWait = none) ∧
    (∃ (s : State) (h : Handle), s.sec.transition = some h ∧ s.sec.debug = .unlocking) ∧
    (∃ (s : State) (h : Handle), s.sec.transition = some h ∧ s.sec.debug = .locking) := by
  refine ⟨?_, ?_, ?_, ?_, ?_, ?_, ?_, ?_, ?_, ?_, ?_, ?_, ?_, ?_, ?_, ?_, ?_, ?_⟩
  · exact ⟨powered id, .vcore, 689, 1800, by decide +kernel⟩
  · exact ⟨base, by decide +kernel⟩
  · exact ⟨powered (fun p => { p with stepFrom := some 745 }), 745, by decide +kernel⟩
  · exact ⟨powered (fun p => { p with sag := true, sagAt := 2990001 }), by decide +kernel⟩
  · exact ⟨powered (fun p => { p with sag := true, sagAt := 2990000 }), by decide +kernel⟩
  · exact ⟨powered (fun p => { p with recovery := some 10, nvHold := true }), 10, by decide +kernel⟩
  · exact ⟨State.reset, by decide +kernel⟩
  · exact ⟨coldDie, .kiln 0, by decide +kernel⟩
  · exact ⟨warmDie, .kiln 0, by decide +kernel⟩
  · exact ⟨hotDie, 23, by simp [coreCrossing]⟩
  · exact ⟨powered (fun p => { p with smoulderIn := 0x8000 }), 0x8000, 11, 31, by decide +kernel⟩
  · exact ⟨hotDie, 47, 0, by decide +kernel⟩
  · exact ⟨secured (fun x => { x with nv := some .svnBurn }), .svnBurn, by decide +kernel⟩
  · exact ⟨warming 0, .svnBurn, false, 0, by decide +kernel⟩
  · exact ⟨cmdOn cmd9, hd 9, cmd9, by decide +kernel⟩
  · exact ⟨secured (fun x => { x with svnDeferred := true }), by decide +kernel⟩
  · exact ⟨secured (fun x => { x with debug := .unlocking, transition := some (hd 9) }), hd 9, by decide +kernel⟩
  · exact ⟨secured (fun x => { x with debug := .locking, transition := some (hd 9) }), hd 9, by decide +kernel⟩

theorem test_met_MailboxRows :
    (∃ (s : State) (fn : Nat), spdmUp s fn = true) ∧
    (∃ (s : State) (fn : Nat) (b : List Byte), spdmUp s fn = true ∧ (spdmOf s fn).version ≠ 0 ∧ (u8 b 0 = 0x12 ∨ u8 b 0 = 0x13)) ∧
    (∃ (s : State) (fn : Nat) (b : List Byte), spdmUp s fn = true ∧ (spdmOf s fn).caps = true ∧ bit (u32 b 8) 6 = true ∧
        bit (u32 b 12) 2 = true) ∧
    (∃ (s : State) (fn : Nat), Negotiated s fn) ∧
    (∃ (s : State) (fn : Nat) (b : List Byte), Negotiated s fn ∧ u8 b 2 % 16 = 0) ∧
    (∃ (s : State) (fn : Nat) (b : List Byte), Negotiated s fn ∧ u8 b 2 % 16 = 0) ∧
    (∃ (s : State) (fn : Nat) (b : List Byte) (l : List Nat), Negotiated s fn ∧ measuresAsked (u8 b 3) = some l) ∧
    (∃ (s : State) (fn : Nat) (b : List Byte), Negotiated s fn ∧ (spdmOf s fn).sessions.length < 2 ∧ sessionsAll s < 16 ∧ u8 b 3 % 16 = 0) ∧
    (∃ (s : State) (fn : Nat), Negotiated s fn ∧ (2 ≤ (spdmOf s fn).sessions.length ∨ 16 ≤ sessionsAll s)) ∧
    (∃ (s : State) (fn : Nat) (b secret : List Byte), SessionAt s fn b false secret) ∧
    (∃ (s : State) (fn : Nat) (b secret : List Byte), SessionAt s fn b true secret) ∧
    (∃ (s : State) (fn : Nat) (b secret : List Byte), SessionAt s fn b true secret ∧ (u8 b 6 = 1 ∨ u8 b 6 = 2)) ∧
    (∃ (s : State) (fn : Nat) (b secret : List Byte), SessionAt s fn b true secret ∧ u8 b 6 = 3) ∧
    (∃ (s : State) (b secret : List Byte), SessionAt s 0 b true secret ∧ u8 b 4 = 0) ∧
    (∃ (s : State) (b secret : List Byte), SessionAt s 0 b true secret ∧ u8 b 4 = 2 ∧ u8 b 5 < 8 ∧ u8 b 6 < 12 ∧ u8 b 9 ≤ 2) ∧
    (∃ (s : State) (b secret : List Byte), SessionAt s 0 b true secret ∧ u8 b 4 = 4 ∧ u8 b 5 < 8 ∧ u8 b 6 < 2 ∧
        keySetReady (at? s.sec.ide (u8 b 5) {}) (u8 b 6) = true) ∧
    (∃ (s : State) (fn : Nat), spdmUp s fn = true ∧ (spdmOf s fn).algs = false) ∧
    (∃ (s : State) (fn : Nat), spdmUp s fn = false) ∧
    (∃ (s : State) (fn i : Nat), mailboxUp s fn = true ∧ i < 3) ∧
    (∃ (s : State) (fn i : Nat), mailboxUp s fn = true ∧ 3 ≤ i) := by
  refine ⟨?_, ?_, ?_, ?_, ?_, ?_, ?_, ?_, ?_, ?_, ?_, ?_, ?_, ?_, ?_, ?_, ?_, ?_, ?_, ?_⟩
  · exact ⟨base, 0, by decide +kernel⟩
  · exact ⟨spdm { version := 1 }, 0, [0x13], by decide +kernel⟩
  · exact ⟨spdm { version := 0x12, caps := true }, 0, [0, 0, 0, 0, 0, 0, 0, 0, 64, 0, 0, 0, 4], by decide +kernel⟩
  · exact ⟨spdm agreed, 0, by unfold Negotiated; decide +kernel⟩
  · exact ⟨spdm agreed, 0, zeros 32, by unfold Negotiated; decide +kernel, by decide +kernel⟩
  · exact ⟨spdm agreed, 0, zeros 32, by unfold Negotiated; decide +kernel, by decide +kernel⟩
  · exact ⟨spdm agreed, 0, [0, 0, 1, 0xFF], [1, 2, 3, 4, 5, 6, 7], by unfold Negotiated; decide +kernel, by decide +kernel⟩
  · exact ⟨spdm agreed, 0, zeros 32, by unfold Negotiated; decide +kernel, by decide +kernel⟩
  · exact ⟨spdm { agreed with sessions := [(0, true, []), (65536, true, [])] }, 0, by unfold Negotiated; decide +kernel, by decide +kernel⟩
  · exact ⟨sessioned false, 0, zeros 32, [7], ⟨by decide +kernel, by decide +kernel⟩⟩
  · exact ⟨sessioned true, 0, zeros 32, [7], ⟨by decide +kernel, by decide +kernel⟩⟩
  · exact ⟨sessioned true, 0, [0, 0, 0, 0, 0, 0, 2], [7], ⟨by decide +kernel, by decide +kernel⟩, by decide +kernel⟩
  · exact ⟨sessioned true, 0, [0, 0, 0, 0, 0, 0, 3], [7], ⟨by decide +kernel, by decide +kernel⟩, by decide +kernel⟩
  · exact ⟨sessioned true, zeros 32, [7], ⟨by decide +kernel, by decide +kernel⟩, by decide +kernel⟩
  · exact ⟨sessioned true, [0, 0, 0, 0, 2, 7, 11, 0, 0, 2], [7], ⟨by decide +kernel, by decide +kernel⟩, by decide +kernel⟩
  · exact ⟨keyed, [0, 0, 0, 0, 4], [7], ⟨by decide +kernel, by decide +kernel⟩, by decide +kernel⟩
  · exact ⟨base, 0, by decide +kernel⟩
  · exact ⟨offline, 0, by decide +kernel⟩
  · exact ⟨base, 0, 2, by decide +kernel⟩
  · exact ⟨base, 0, 3, by decide +kernel⟩

theorem test_met_SidebandRows :
    (∃ (s : State), s.rst.perst = true) ∧
    (∃ (s : State), s.rst.perst = false) ∧
    (∃ (s : State), s.i3c.address = none) ∧
    (∃ (s : State) (x : Nat), s.i3c.address = some x) ∧
    (∃ (st : Nat), st ≠ 0x4C) ∧
    (∃ (s : State) (x : Nat), s.i3c.address = some x) ∧
    (∃ (s : State) (x : Nat), s.i3c.address = some x) ∧
    (∃ (s : State) (x : Nat), s.i3c.address = some x) ∧
    (∃ (s : State) (x : Nat), s.i3c.address = some x) ∧
    (∃ (s : State) (x : Nat), s.i3c.address = some x) ∧
    (∃ (s : State) (x : Nat), s.i3c.address = some x ∧ ∃ r, i3cReg s.i3c.index = some r) ∧
    (∃ (s : State) (x : Nat), s.i3c.address = some x ∧ 22 < s.i3c.index) ∧
    (∃ (s : State), s.i3c.address = none) := by
  refine ⟨?_, ?_, ?_, ?_, ?_, ?_, ?_, ?_, ?_, ?_, ?_, ?_, ?_⟩
  · exact ⟨State.reset, by decide +kernel⟩
  · exact ⟨base, by decide +kernel⟩
  · exact ⟨base, by decide +kernel⟩
  · exact ⟨i3c { address := some 9 }, 9, by decide +kernel⟩
  · exact ⟨0x4D, by decide +kernel⟩
  · exact ⟨i3c { address := some 9 }, 9, by decide +kernel⟩
  · exact ⟨i3c { address := some 9 }, 9, by decide +kernel⟩
  · exact ⟨i3c { address := some 9 }, 9, by decide +kernel⟩
  · exact ⟨i3c { address := some 9 }, 9, by decide +kernel⟩
  · exact ⟨i3c { address := some 9 }, 9, by decide +kernel⟩
  · exact ⟨i3c { address := some 9, index := 22 }, 9, by decide +kernel, .secStatus, by decide +kernel⟩
  · exact ⟨i3c { address := some 9, index := 23 }, 9, by decide +kernel⟩
  · exact ⟨base, by decide +kernel⟩

theorem test_met_StepRunsFront :
    (∃ (s : State) (c : Instr) (rest : List Instr), s.pending = c :: rest) ∧
    (∃ (s : State), s.pending = []) ∧
    (∃ (s : State), counting s = true) ∧
    (∃ (s : State) (i : Nat), i < s.pwr.activeAt.length) ∧
    (∃ (s : State), counting s = false) := by
  refine ⟨?_, ?_, ?_, ?_, ?_⟩
  · exact ⟨{ base with pending := [.rstdaa, .getpid] }, .rstdaa, [.getpid], by decide +kernel⟩
  · exact ⟨base, by decide +kernel⟩
  · exact ⟨base, by decide +kernel⟩
  · exact ⟨base, 15, by decide +kernel⟩
  · exact ⟨State.reset, by decide +kernel⟩

theorem test_met_ExecGoesOn :
    (∃ (s : State), Inv s) :=
  ⟨base, test_base_inv⟩

theorem test_met_StepKeepsInv :
    (∃ (s t : State), Inv s ∧ step s = .next t) :=
  ⟨base, tick base, test_base_inv, rfl⟩

end Sys2Proof.Tests
end

section
/-!
PROOFS. The block goes on at every command; flags and the waits on them (R89 to R91); the packets of contexts (R324, R325).
-/
namespace Sys2Proof.Machine

open Sys2Proof

/-! ## Every command goes on -/

/-- No meaning of the table refuses or faults: each of the 271 arms answers a next state. -/
theorem exec_next (i : Instr) (s : State) : ∃ t, exec i s = .next t := by
  cases i <;> exact ⟨_, rfl⟩

/-- A command leaves the waiting commands as they are and takes back nothing that was sent, by what every command keeps (`sound_exec`). -/
theorem exec_keeps_queue_and_output {i : Instr} {s t : State} (h : Inv s) (ht : exec i s = .next t) : t.pending = s.pending ∧ s.out <+: t.out := by
  have sound : NSound s.pending s.out (exec i s) := sound_exec i h
  rw [ht] at sound
  exact ⟨Sound.queue sound, Sound.sent sound⟩

/-- Settles O58: `exec_next` gives the next state, and the invariant's lemma on `exec` gives what it keeps. -/
theorem execGoesOn : Obligations.ExecGoesOn := by
  unfold Obligations.ExecGoesOn
  intro i s h
  obtain ⟨t, ht⟩ := exec_next i s
  exact ⟨t, ht, exec_keeps_queue_and_output h ht⟩

/-! ## Flags and the waits on them -/

/-- A command found by its handle has that handle. -/
theorem cmdOf_handle {s : State} {h : Handle} {c : Cmd} (hc : cmdOf s h = some c) : c.handle = h := by
  simpa using List.find?_some hc

/-- Finding a command in a list whose commands were changed under their handles. -/
theorem find?_map_handle {f : Cmd → Cmd} (hf : ∀ c, (f c).handle = c.handle) (l : List Cmd) (h : Handle) :
    (l.map f).find? (fun c => c.handle == h) = (l.find? fun c => c.handle == h).map f := by
  rw [List.find?_map]
  congr 2
  funext c
  simp [hf]

/-- What `latchWaits` makes of one command. -/
def latched (s : State) (c : Cmd) : Cmd :=
  if c.phase = .waiting ∧ !c.flagsOk ∧ s.now < c.waitEnd then
    match ctxOf s c.handle.ctx with
    | some x => { c with flagsOk := waitsHold x c }
    | none => c
  else c

theorem latchWaits_eq (s : State) : latchWaits s = { s with cmds := s.cmds.map (latched s) } := rfl

@[simp] theorem ctxOf_latchWaits (s : State) (n : Nat) : ctxOf (latchWaits s) n = ctxOf s n := rfl

theorem latched_handle (s : State) (c : Cmd) : (latched s c).handle = c.handle := by
  unfold latched
  split
  · split <;> rfl
  · rfl

theorem cmdOf_latchWaits (s : State) (h : Handle) : cmdOf (latchWaits s) h = (cmdOf s h).map (latched s) := by
  rw [latchWaits_eq]
  exact find?_map_handle (latched_handle s) s.cmds h

/-- Waits that are satisfied already are not looked at again (R90). -/
theorem latched_of_flagsOk {s : State} {c : Cmd} (h : c.flagsOk = true) : latched s c = c := if_neg (by simp [h])

/-- At the end of the wait window and after it nothing is satisfied any more (R12). -/
theorem latched_of_late {s : State} {c : Cmd} (h : c.waitEnd ≤ s.now) : latched s c = c := if_neg (by omega)

/-- Within the wait window, what holds now is satisfied. -/
theorem latched_of_waiting {s : State} {c : Cmd} {x : Ctx} (hp : c.phase = .waiting) (hf : c.flagsOk = false) (hn : s.now < c.waitEnd)
    (hx : ctxOf s c.handle.ctx = some x) : latched s c = { c with flagsOk := waitsHold x c } := by
  unfold latched
  rw [if_pos ⟨hp, by simp [hf], hn⟩, hx]

theorem waitsHold_iff (x : Ctx) (c : Cmd) : waitsHold x c = true ↔ ∀ w ∈ c.waits, w.2 ≤ at? x.flags w.1 0 := by
  simp [waitsHold]

/-- An element of a list changed at its position. -/
theorem at?_modify_same {α : Type} {l : List α} {i : Nat} (h : i < l.length) (f : α → α) (d : α) : at? (l.modify i f) i d = f (at? l i d) := by
  simp [at?, h]

theorem at?_modify_other {α : Type} (l : List α) {i j : Nat} (h : j ≠ i) (f : α → α) (d : α) : at? (l.modify i f) j d = at? l j d := by
  simp [at?, Ne.symm h]

theorem ctxOf_modCtx_other (s : State) (n m : Nat) (f : Ctx → Ctx) (h : m ≠ n) : ctxOf (modCtx s n f) m = ctxOf s m :=
  tget?_tmod_other s.ctxs n m f h

/-- The context of a flag operation, afterwards. -/
theorem ctxOf_applyFlag {s : State} {n : Nat} {c : Ctx} (hc : ctxOf s n = some c) (o : FlagOp) :
    ctxOf (applyFlag s n o) n = some { c with flags := c.flags.modify o.flag (flagApply o) } := by
  unfold applyFlag
  rw [ctxOf_latchWaits, ctxOf_modCtx, hc]
  rfl

theorem ctxOf_applyFlag_other (s : State) (n m : Nat) (o : FlagOp) (h : m ≠ n) : ctxOf (applyFlag s n o) m = ctxOf s m := by
  unfold applyFlag
  rw [ctxOf_latchWaits, ctxOf_modCtx_other _ _ _ _ h]

theorem flagApply_eq (o : FlagOp) (v : Nat) : flagApply o v = if o.add then min 0xFFFFFFFF (v + o.value) else o.value % 2 ^ 32 := rfl

/-- Settles O27: a flag operation is one `List.modify` of its context's flags, and `latchWaits` maps each command by `latched`. -/
theorem flagOperations : Obligations.FlagOperations := by
  unfold Obligations.FlagOperations
  refine ⟨?_, ctxOf_applyFlag_other, waitsHold_iff, ?_, ?_, ?_⟩
  · intro s n c o hc ho
    refine ⟨_, ctxOf_applyFlag hc o, ?_, fun f hf => at?_modify_other _ hf _ _⟩
    rw [at?_modify_same ho, flagApply_eq]
  · intro s h c hc hok
    rw [cmdOf_latchWaits, hc, Option.map_some, latched_of_flagsOk hok]
  · intro s h c hc hlate
    rw [cmdOf_latchWaits, hc, Option.map_some, latched_of_late hlate]
  · intro s h c x hc hp hf hn hx
    rw [cmdOf_latchWaits, hc, Option.map_some, latched_of_waiting hp hf hn (by rwa [cmdOf_handle hc])]

/-! ## Packets of contexts -/

/-- CONTEXT_CREATE whose tests pass. -/
theorem decideContextCreate_pass {s : State} {w : Sender} {p : Packet} {v : Nat} (hv : agreedVersion (u16 (ownParams p) 0) (u16 (ownParams p) 2) = some v)
    (hb : badContextParams (ownParams p) (v % 256) = false)
    (hk : w.fn = 0 ∨ (clampOf s (u8 (ownParams p) 4)).state ≠ .unconfigured) (ha : (clampOf s (u8 (ownParams p) 4)).assign.getLsbD w.fn = true)
    (hn : s.ctxs.length < 1024) (hc : clampContexts s (u8 (ownParams p) 4) < clampMaxCtx (clampOf s (u8 (ownParams p) 4))) :
    decideContextCreate s w p = .ok (tfree s.ctxs 0 + 2 ^ 16 + v % 256 * 2 ^ 24) fun t =>
      { t with ctxs := Machine.tset t.ctxs (tfree s.ctxs 0) (ctxFrom w.fn (v % 256) (ownParams p) (slice p.choice.rand 0 32)) } := by
  unfold decideContextCreate
  simp only [hv]
  refine unless_pass fun e he => ?_
  have unset : (w.fn != 0 && (clampOf s (u8 (ownParams p) 4)).state == .unconfigured) = false := by
    rcases hk with h | h <;> simp [h]
  have room : ¬ (1024 ≤ s.ctxs.length ∨ clampMaxCtx (clampOf s (u8 (ownParams p) 4)) ≤ clampContexts s (u8 (ownParams p) 4)) := by omega
  simp only [List.mem_cons, List.not_mem_nil, or_false] at he
  rcases he with rfl | rfl | rfl
  · simp [hb, unset]
  · simp [ha]
  · simpa using room

/-- CONTEXT_DESTROY whose tests pass. -/
theorem decideContextDestroy_pass {s : State} {w : Sender} {p : Packet} {c : Ctx} (hn : u16 (ownParams p) 0 ≤ 1023)
    (hc : ctxOf s (u16 (ownParams p) 0) = some c) (hf : c.fn = w.fn) (he : c.ending = false) :
    decideContextDestroy s w p = .ok 0 fun t => settled (endContext t (u16 (ownParams p) 0)) := by
  unfold decideContextDestroy
  refine unless_pass fun e hmem => ?_
  simp only [List.mem_cons, List.not_mem_nil, or_false] at hmem
  rcases hmem with rfl | rfl
  · simpa using hn
  · simp [hc, hf, he]

/-- CONTEXT_SET whose values lie in their ranges. -/
theorem contextSet_inRange {b : List Byte} (hw : bit (u8 b 0) 1 = true → u64 b 8 = 0 ∨ (1000 ≤ u64 b 8 ∧ u64 b 8 ≤ 6000000000))
    (hc : bit (u8 b 0) 3 = true → 1 ≤ u16 b 24 ∧ u16 b 24 ≤ 64 ∧ 1 ≤ u32 b 28 ∧ u32 b 28 ≤ 100000) :
    ((bit (u8 b 0) 1 && decide (u64 b 8 ≠ 0 ∧ (u64 b 8 < 1000 ∨ 6000000000 < u64 b 8)))
      || (bit (u8 b 0) 3 && decide (u16 b 24 = 0 ∨ 64 < u16 b 24 ∨ u32 b 28 = 0 ∨ 100000 < u32 b 28))) = false := by
  simp only [Bool.or_eq_false_iff, Bool.and_eq_false_imp, decide_eq_false_iff_not]
  exact ⟨fun h => by have := hw h; omega, fun h => by have := hc h; omega⟩

/-- Settles O1: each packet's verdict by `decides_of`, from its decision once its own tests pass. -/
theorem contextPackets : Obligations.ContextPackets := by
  unfold Obligations.ContextPackets
  refine ⟨?nop, ?create, ?destroy, ?set⟩
  case nop => exact decides_of (fun _ _ => rfl) fun _ _ _ => rfl
  case create =>
    refine decides_of (fun _ _ => rfl) fun s p hp => ?_
    obtain ⟨hv, hb, hk, ha, hn, hc⟩ := hp
    obtain ⟨v, hv⟩ := Option.isSome_iff_exists.1 hv
    simp only [hv, Option.getD_some] at hb ⊢
    exact decideContextCreate_pass hv hb hk ha hn hc
  case destroy =>
    refine decides_of (fun _ _ => rfl) fun s p hp => ?_
    obtain ⟨hn, c, hc, hf, he⟩ := hp
    exact decideContextDestroy_pass hn hc hf he
  case set =>
    refine decides_of (fun _ _ => rfl) fun s p hp => ?_
    obtain ⟨hw, hc⟩ := hp
    refine unless_pass fun e he => ?_
    obtain rfl := List.mem_singleton.1 he
    exact contextSet_inRange hw hc

end Sys2Proof.Machine
end

section
/-!
PROOFS. What events and records leave alone; frames, lanes and training at a Flue port (R363 to R369).
-/
namespace Sys2Proof.Machine

open Sys2Proof

/-! ## What events and records leave alone -/

/-- A state that differs from another in nothing but what events, records and their messages touch: the functions' counts of lost events, the
contexts' rings, the slots of handles, the event controller, and what has been sent. -/
def EventsOnly (s t : State) : Prop :=
  t = { s with fns := t.fns, ctxs := t.ctxs, slots := t.slots, evt := t.evt, out := t.out }

namespace EventsOnly

variable {s t u : State}

theorem refl (s : State) : EventsOnly s s := rfl

theorem trans (h : EventsOnly s t) (k : EventsOnly t u) : EventsOnly s u := by
  unfold EventsOnly at *
  rw [h] at k
  exact k

theorem foldl {α : Type} {f : State → α → State} (hf : ∀ s a, EventsOnly s (f s a)) (l : List α) (s : State) : EventsOnly s (l.foldl f s) := by
  induction l generalizing s with
  | nil => exact refl s
  | cons a l ih => exact (hf s a).trans (ih (f s a))

theorem rings (s : State) (c : Table Ctx) (l : Table (Table Slot)) : EventsOnly s { s with ctxs := c, slots := l } := rfl

theorem emit (s : State) (o : Out) : EventsOnly s (emit s o) := rfl

theorem setPending (s : State) (n : Nat) : EventsOnly s (setPending s n) := rfl

theorem ite {c : Prop} [Decidable c] (h : EventsOnly s t) (k : EventsOnly s u) : EventsOnly s (if c then t else u) := by
  split
  · exact h
  · exact k

theorem rst (h : EventsOnly s t) : t.rst = s.rst := by
  unfold EventsOnly at h
  rw [h]

theorem flue (h : EventsOnly s t) : t.flue = s.flue := by
  unfold EventsOnly at h
  rw [h]

end EventsOnly

theorem eventsOnly_hostPut (s : State) (fn addr : Nat) (b : List Byte) : EventsOnly s (hostPut s fn addr b) := by
  unfold hostPut
  split <;> rfl

theorem eventsOnly_writeRec (s : State) (n : Nat) (r : Rec) : EventsOnly s (writeRec s n r) := by
  unfold writeRec
  split
  · exact .refl s
  · have put (t : State) (f a b : Nat) (x y : List Byte) : EventsOnly t (hostPut (hostPut t f a x) f b y) :=
      (eventsOnly_hostPut t f a x).trans (eventsOnly_hostPut _ f b y)
    exact .ite (((EventsOnly.rings s _ _).trans (put _ _ _ _ _ _)).trans (.emit _ _)) ((EventsOnly.rings s _ _).trans (put _ _ _ _ _ _))

theorem eventsOnly_putRec (s : State) (n : Nat) (r : Rec) : EventsOnly s (putRec s n r) := by
  unfold putRec
  split
  · exact .refl s
  · exact .ite (.refl s) (.ite rfl (.ite (eventsOnly_writeRec s n r) (.ite rfl rfl)))

theorem eventsOnly_logRec (s : State) (r : Rec) : EventsOnly s (logRec s r) := by
  unfold logRec
  split <;> rfl

theorem eventsOnly_eventRecord (s : State) (src kind stamp : Nat) (detail : List Byte) (copyTo : Option Nat) :
    EventsOnly s (eventRecord s src kind stamp detail copyTo) := by
  unfold eventRecord
  dsimp only
  have logged (r : Rec) : EventsOnly s (modSrc (logRec s r) src fun x => { x with since := 0 }) := (eventsOnly_logRec s r).trans rfl
  have copied (t : State) (m : Bool) : EventsOnly t (match copyTo with | some n => putRec t n (eventRec kind src stamp true m detail) | none => t) := by
    cases copyTo with
    | none => exact .refl t
    | some n => exact eventsOnly_putRec t n _
  refine EventsOnly.trans ?_ (copied _ _)
  split
  · split
    · exact (logged _).trans (eventsOnly_putRec _ _ _)
    · exact (logged _).trans rfl
  · exact logged _

theorem eventsOnly_reassess (s : State) (n : Nat) : EventsOnly s (reassess s n) := by
  unfold reassess
  dsimp only
  split <;> rfl

theorem eventsOnly_raise (s : State) (src kind : Nat) (detail : List Byte) (copyTo : Option Nat) :
    EventsOnly s (raise s src kind detail copyTo) := by
  exact ((EventsOnly.setPending s src).trans (eventsOnly_eventRecord _ _ _ _ _ _)).trans (eventsOnly_reassess _ _)

/-- Readiness set anew: the two words take their values, and the READY events leave the rest alone. -/
theorem eventsOnly_setReady (s : State) (ready failed : BitVec 64) :
    EventsOnly { s with rst := { s.rst with ready := ready, failed := failed } } (setReady s ready failed) := by
  unfold setReady
  exact .foldl (fun t _ => .ite (eventsOnly_raise t _ _ _ _) (.refl t)) _ _

theorem setReady_rst (s : State) (ready failed : BitVec 64) : (setReady s ready failed).rst = { s.rst with ready := ready, failed := failed } :=
  (eventsOnly_setReady s ready failed).rst

theorem readyOff_flue (s : State) (i : Nat) : (readyOff s i).flue = s.flue := (eventsOnly_setReady s _ _).flue

theorem rdy_readyOff (s : State) (i : Nat) : rdy (readyOff s i) i = false := by
  unfold rdy readyOff
  rw [setReady_rst]
  simp only [BitVec.getLsbD_and, BitVec.getLsbD_not, BitVec.getLsbD_ofNat, Nat.testBit_two_pow_self]
  by_cases h : i < 64 <;> simp [h]

/-! ## Flue ports -/

theorem portOf_modPort_same {s : State} {p : Nat} (h : p < s.flue.ports.length) (g : Port → Port) : portOf (modPort s p g) p = g (portOf s p) :=
  at?_modify_same h g {}

/-- What a change of a port leaves of it, whether or not the module has such a port. -/
theorem portOf_modPort_keeps {α : Type} {π : Port → α} {g : Port → Port} (hg : ∀ x, π (g x) = π x) (s : State) (p : Nat) :
    π (portOf (modPort s p g) p) = π (portOf s p) := by
  by_cases h : p < s.flue.ports.length
  · rw [portOf_modPort_same h, hg]
  · simp [portOf, modPort, at?, h]

theorem portOf_of_flue {s t : State} (h : t.flue = s.flue) (p : Nat) : portOf t p = portOf s p := by unfold portOf; rw [h]

theorem portOf_emit (s : State) (o : Out) (p : Nat) : portOf (emit s o) p = portOf s p := rfl

theorem dropAcked_rxSeq (a : Nat) (x : Port) : (dropAcked a x).rxSeq = x.rxSeq := by
  unfold dropAcked
  split <;> rfl

theorem pumpPort_rxSeq (n : Nat) (s : State) (p : Nat) : (portOf (pumpPort n s p) p).rxSeq = (portOf s p).rxSeq := by
  induction n generalizing s with
  | zero => rfl
  | succ n ih =>
    unfold pumpPort
    dsimp only
    split
    · rfl
    · split
      · rw [ih, portOf_emit]
        exact portOf_modPort_keeps (π := Port.rxSeq) (fun _ => by rfl) s p
      · rfl

/-- Taking an acknowledgement and sending waiting flits leaves the sequence number that the port expects. -/
theorem ackedAt_rxSeq (s : State) (p : Nat) (f : Frame) : (portOf (ackedAt s p f) p).rxSeq = (portOf s p).rxSeq :=
  (pumpPort_rxSeq _ _ p).trans (portOf_modPort_keeps (π := Port.rxSeq) (dropAcked_rxSeq f.ack) s p)

theorem frameAt_good {s : State} {p : Nat} {f : Frame} (act : State → State) (hu : (portOf s p).state = .up) (hb : f.bad = false) :
    frameAt s p f act = act (ackedAt s p f) := by
  unfold frameAt
  rw [if_neg (by simp [hu]), if_neg (by simp [hb])]
  rfl

theorem frameAt_bad {s : State} {p : Nat} {f : Frame} (act : State → State) (hu : (portOf s p).state = .up) (hb : f.bad = true) :
    frameAt s p f act = badFrame s p := by
  unfold frameAt
  rw [if_neg (by simp [hu]), if_pos hb]

/-- A port that is up, once a retrain has started. -/
theorem portOf_startRetrain {s : State} {p : Nat} (hp : p < s.flue.ports.length) (hu : (portOf s p).state = .up) (l : List Nat) (tell : Bool) :
    portOf (startRetrain s p l tell) p =
      { portOf s p with state := .training, retrains := satAdd 65535 (portOf s p).retrains 1, attempts := 1, attemptStart := s.now, failedLanes := l
                        sameAck := 0 } := by
  unfold startRetrain
  dsimp only
  rw [if_neg (by simp [hu]), portOf_of_flue (readyOff_flue _ _)]
  cases tell
  · exact portOf_modPort_same hp _
  · exact portOf_modPort_same (s := sendFrame s p 3) hp _

theorem rdy_startRetrain {s : State} {p : Nat} (hu : (portOf s p).state = .up) (l : List Nat) (tell : Bool) :
    rdy (startRetrain s p l tell) (rdyFlue p) = false := by
  unfold startRetrain
  dsimp only
  rw [if_neg (by simp [hu])]
  exact rdy_readyOff _ _

/-! ## Rows of lanes and training -/

/-- The lanes that the ends of corrected-byte windows judge failed. -/
theorem fecBad_eq (ex : Nat) (n : List Nat) : ((List.range 5).filter fun l => l != ex && decide (4096 < at? n l 0))
    = (List.range 5).filter fun l => decide (l ≠ ex ∧ 4096 < at? n l 0) := by
  refine List.filter_congr fun l _ => ?_
  by_cases h : l = ex <;> simp [h]

theorem exec_fecWindowEnd_early {s : State} {p : Nat} {n : List Nat} (h : s.now / 100000 ≤ (portOf s p).fecDone) :
    exec (.fecWindowEnd p n) s = .next s := by
  show execFecWindowEnd p n s = _
  unfold execFecWindowEnd
  dsimp only
  rw [if_pos h]

theorem exec_fecWindowEnd_judges {s : State} {p : Nat} {n : List Nat} (h : (portOf s p).fecDone < s.now / 100000) :
    exec (.fecWindowEnd p n) s = .next
      (let t := modPort s p fun x => { x with fecDone := s.now / 100000 }
       let bad := (List.range 5).filter fun l => decide (l ≠ (portOf s p).excluded ∧ 4096 < at? n l 0)
       if (portOf s p).state = .up ∧ bad ≠ [] then startRetrain t p bad true else t) := by
  show execFecWindowEnd p n s = _
  unfold execFecWindowEnd
  dsimp only
  rw [if_neg (by omega), fecBad_eq]

theorem exec_retrainDone_late {s : State} {p partner : Nat} {l : List Nat} (h : (portOf s p).attemptStart + 200000 ≤ s.now) :
    exec (.retrainDone p l partner) s = .next s := by
  show execRetrainDone p l partner s = _
  unfold execRetrainDone
  dsimp only
  rw [if_pos (.inr h)]

section
variable {s : State} {p : Nat} {l : List Nat} (hs : (portOf s p).state = .training)
include hs

/-- Inside the window of a training with two lanes failed, the port retires (R364). -/
theorem exec_retrainDone_retires (partner : Nat) (hw : s.now < (portOf s p).attemptStart + 200000) (hl : 2 ≤ (lanesFailed (portOf s p) l).length) :
    exec (.retrainDone p l partner) s = .next (portRetire s p) := by
  show execRetrainDone p l partner s = _
  unfold execRetrainDone
  dsimp only
  rw [if_neg (by simp [hs]; omega)]
  match h : lanesFailed (portOf s p) l with
  | [] => rw [h] at hl; exact absurd hl (Nat.not_succ_le_zero 1)
  | [_] => rw [h] at hl; exact absurd hl (Nat.lt_irrefl 1)
  | _ :: _ :: _ => rfl

/-- Inside the window with at most one lane failed, the port is up; after a retrain it resumes, after an initial training it starts anew. -/
theorem exec_retrainDone_up (partner : Nat) (hw : s.now < (portOf s p).attemptStart + 200000) (hl : (lanesFailed (portOf s p) l).length < 2) :
    exec (.retrainDone p l partner) s = .next
      (let again := decide (1 ≤ (portOf s p).attempts)
       let up := modPort s p fun x => { x with
         state := .up, excluded := (lanesFailed (portOf s p) l).headD x.excluded, partner := if again then x.partner else partner % 65536
         attempts := 0, failedLanes := [] }
       if again then pump (resend (if up.flue.lock then readyOn up (rdyFlue p) else up) p) p else announce up p) := by
  show execRetrainDone p l partner s = _
  unfold execRetrainDone
  dsimp only
  rw [if_neg (by simp [hs]; omega)]
  match h : lanesFailed (portOf s p) l with
  | [] | [_] => rfl
  | _ :: _ :: rest => rw [h] at hl; exact absurd hl (Nat.not_lt.2 (Nat.le_add_left 2 rest.length))

theorem exec_retrainAttemptEnd_over (h : (portOf s p).attemptStart + 200000 ≤ s.now) :
    exec (.retrainAttemptEnd p l) s = .next
      (if 2 ≤ (lanesFailed (portOf s p) l).length then portRetire s p
       else if (portOf s p).attempts = 0 ∨ 3 ≤ (portOf s p).attempts then portDown s p
       else modPort s p fun x => { x with attempts := x.attempts + 1, attemptStart := s.now, failedLanes := lanesFailed x l }) := by
  show execRetrainAttemptEnd p l s = _
  unfold execRetrainAttemptEnd
  dsimp only
  rw [if_neg (by simp [hs]; omega)]

end

/-- Settles O49: frames by `frameAt_good` and `frameAt_bad`, the rows of lanes and training by their equations above. -/
theorem flueLinkRows : Obligations.FlueLinkRows := by
  unfold Obligations.FlueLinkRows
  refine ⟨?idle, ?flit, ?other, ?bad, ?replay, ?retrain, ?lane, ?early, ?fec, ?start, ?late, ?done, ?attempt, ?training⟩
  case idle => intro s p f hu hb; exact congrArg _ (frameAt_good id hu hb)
  case flit =>
    intro s p f hu hb hq
    refine congrArg _ ((frameAt_good _ hu hb).trans ?_)
    unfold acceptFlit
    rw [ackedAt_rxSeq, if_pos hq]
  case other =>
    intro s p f hu hb hq
    refine congrArg _ ((frameAt_good _ hu hb).trans ?_)
    unfold acceptFlit
    rw [ackedAt_rxSeq, if_neg hq]
  case bad =>
    intro s p f hu hb t u i hi
    simp only [List.mem_cons, List.not_mem_nil, or_false] at hi
    rcases hi with rfl | rfl | rfl | rfl <;> exact congrArg _ (frameAt_bad _ hu hb)
  case replay => intro s p f hu hb; exact congrArg _ (frameAt_good _ hu hb)
  case retrain => intro s p f hu hb; exact congrArg _ (frameAt_good _ hu hb)
  case lane => intro s p l hu hl hx; exact congrArg _ (if_pos ⟨hl, hx, hu⟩)
  case early => intro s p n h; exact exec_fecWindowEnd_early h
  case fec =>
    intro s p n h
    rw [exec_fecWindowEnd_judges h]
    refine ⟨fun hu ⟨l, hl, hx, hn⟩ => congrArg _ (if_pos ⟨hu, ?_⟩), fun hgood => congrArg _ (if_neg ?_)⟩
    · exact List.ne_nil_of_mem (a := l) (by simp [hl, hx, hn])
    · rintro ⟨hu, hbad⟩
      obtain ⟨l, hl⟩ := List.exists_mem_of_ne_nil _ hbad
      simp only [List.mem_filter, List.mem_range, decide_eq_true_eq] at hl
      obtain ⟨h5, hx, hn⟩ := hl
      rcases hgood with hd | hg
      · exact hd hu
      · have := hg l h5; omega
  case start => intro s p l tell hp hu; exact ⟨portOf_startRetrain hp hu l tell, rdy_startRetrain hu l tell⟩
  case late => intro s p partner l _ h; exact exec_retrainDone_late h
  case done =>
    intro s p partner l hs hw
    refine ⟨exec_retrainDone_retires hs partner hw, fun hl => ⟨fun h0 => ?_, fun h1 => ?_⟩⟩
    · rw [exec_retrainDone_up hs partner hw hl]
      simp [h0]
    · rw [exec_retrainDone_up hs partner hw hl]
      simp [h1]
  case attempt => intro s p l hs h; exact exec_retrainAttemptEnd_over hs h
  case training => intro s p hd hk ha; exact congrArg _ (if_pos ⟨hd, hk, ha⟩)

end Sys2Proof.Machine
end

section
/-!
PROOFS. Scheduling without running a command: promotions, waits, slices, switches, accounting (R43, R86 to R96).
-/
namespace Sys2Proof.Machine

open Sys2Proof

/-! ## Promotion (R43, R55, R56) -/

/-- A promotion of a backed sod that lies elsewhere and is not ash: refused, or the tag decides between ash and the new place. -/
theorem promote_backed {s : State} {t : Handle} {k : Nat} {l : Loc} {x : Tensor} {old : Sod} (hx : tensorAny s t = some x)
    (hk : tget? x.sods k = some old) (hl : old.loc ≠ some l) (ha : old.ash = false) :
    promote s t k l =
      if !placeOk s x k l || shadowed s t k || !quiet s old.loc || !quiet s (some l) || !movesStand s x then none
      else if tagFails old then some (makeAsh s t k)
      else some (openAt (gather (modTensor s t fun x => { x with sods := Machine.tset x.sods k { old with loc := some l } }) 0x3002 1) (some l)) := by
  unfold promote
  simp only [hx, hk]
  rw [if_neg (by simp [hl, ha])]

/-- PROMOTION of a waiting in-bank command whose sods the Collier can move (R43). -/
theorem exec_sodPromotion_moves {s u : State} {h : Handle} {locs : List Loc} {c : Cmd} {b : InbankBlock} (hc : cmdOf s h = some c)
    (hb : inbandOf c = some b) (hp : c.phase = .waiting) (hs : c.snap = none) (hn : allPlaced s c b = false)
    (hu : promoteAll (neededSods b) locs s = some u) :
    exec (.sodPromotion h locs) s = .next (if allPlaced u c b then settled u else s) := by
  refine congrArg Host.Outcome.next ?_
  simp only [hc, hb, hu]
  rw [if_neg (by simp [hp, hs, hn])]

/-! ## Waits (R12, R53, R91) -/

section
variable {s : State} {h : Handle} {c : Cmd} (hc : cmdOf s h = some c)
include hc

/-- A head whose wait window is over. -/
theorem exec_waitTimeout_head (hp : c.phase = .waiting) (hk : c.killed = false) (hh : c.headAt.isSome = true) (hw : c.waitEnd ≤ s.now) :
    exec (.waitTimeout h) s = .next (if waitsOver s c then s else finish s h stWaitTimeout) := by
  refine congrArg Host.Outcome.next ?_
  simp only [hc]
  rw [if_pos ⟨hp, by simp [hk], hh, hw⟩]

/-- A command one of whose tile commits has waited for shadow room through the wait limit. -/
theorem exec_waitTimeout_room {t : Nat} (hp : c.phase = .run) (ht : c.roomWait = some t) (hw : t + waitLimitOf s h.ctx ≤ s.now) :
    exec (.waitTimeout h) s = .next (finish s h stWaitTimeout) := by
  refine congrArg Host.Outcome.next ?_
  simp only [hc]
  rw [if_neg (by simp [hp]), if_pos ⟨hp, by simp [ht, hw]⟩]

end

/-! ## Slices, switches and accounting (R86 to R88) -/

theorem exec_coreSwitchDone_fills {s : State} {d n k : Nat} {e : Engine} (he : tget? s.kiln.cores (coreNum d n) = some e)
    (hu : e.use = .switching k) (ht : tileOn s d n = none) :
    exec (.coreSwitchDone d n) s = .next
      (fillCores (modCore (discard s e.ctx .core e.since) d n fun x => { x with use := .idle, since := s.now })) := by
  refine congrArg Host.Outcome.next ?_
  simp only [he, hu]
  rw [if_neg (by simp [ht])]

/-- What is kept of a table of charges: the current accounting period and the one before. -/
theorem mem_recentTimes (s : State) (t : Table (List Nat)) (e : Nat × List Nat) : e ∈ recentTimes s t ↔ e ∈ t ∧ s.now / 1000000 ≤ e.1 + 1 := by
  simp only [recentTimes, List.mem_filter, decide_eq_true_eq]
  rfl

/-- Settles O29: each row by the branch of its meaning that the hypotheses choose. -/
theorem scheduling : Obligations.Scheduling := by
  unfold Obligations.Scheduling
  refine ⟨?rows, ?promote, ?head, ?room, ?deadlock, ?slice, ?switch, ?period, mem_recentTimes⟩
  case rows => intro s u h locs c b hc hb hp hs hn hu; exact exec_sodPromotion_moves hc hb hp hs hn hu
  case promote =>
    intro s t k l x old hx hk hl ha
    rw [promote_backed hx hk hl ha]
    refine ⟨fun hbad => if_pos ?_, fun hp hs ho hn hm => ?_⟩
    · rcases hbad with h | h | h | h | h <;> simp [h]
    · rw [if_neg (by simp [hp, hs, ho, hn, hm])]
      exact ⟨fun hf => if_pos hf, fun hf => if_neg (by simp [hf])⟩
  case head => intro s h c hc hp hk hh hw; exact exec_waitTimeout_head hc hp hk hh hw
  case room => intro s h c t hc hp ht hw; exact exec_waitTimeout_room hc hp ht hw
  case deadlock => intro s h; exact congrArg Host.Outcome.next (if_pos h)
  case slice => intro s k hr hw; exact congrArg Host.Outcome.next (if_pos ⟨hr, hw⟩)
  case switch => intro s d n k e he hu ht; exact exec_coreSwitchDone_fills he hu ht
  case period => intro s h; exact congrArg Host.Outcome.next (if_pos h)

end Sys2Proof.Machine
end

section
/-!
PROOFS. Memory integrity: moves, rebuilds, patrol scrubbing, the ends of windows (R55, R351 to R358, R463, R478).
-/
namespace Sys2Proof.Machine

open Sys2Proof

/-! ## Stored bits as a controller reads them (R180, R181) -/

/-- A read that meets no wrong bit leaves the state alone, and its bits can be used. -/
theorem storedRead_none (s : State) (loc : Option Loc) : storedRead s loc .none = (s, true) := by
  cases loc with
  | none => rfl
  | some l => cases h : checkedAt s l <;> simp [storedRead, h, anyFlip, seenOf]

/-- Bits that no code sees wrong: the sod's tag finds them, wherever it lies. -/
theorem storedRead_tagMismatch (s : State) (loc : Option Loc) : storedRead s loc .tagMismatch = (s, false) := by
  cases loc with
  | none => rfl
  | some l => cases h : checkedAt s l <;> simp [storedRead, h, anyFlip, seenOf]

theorem checkedAt_sealed {s : State} {st ch b r : Nat} (h : rowIsOpen s st ch b r = false) : checkedAt s (.bank st ch b r) = true := by
  simp [checkedAt, h]

theorem storedRead_uncorrectable {s : State} {a : Loc} {e : MemErr} (ha : checkedAt s a = true) (he : seenOf (checkBytes a) e = .uncorrectable) :
    storedRead s (some a) e = (uncorrectableBurst s (spotOf s a) (flipBurst e), false) := by
  simp [storedRead, ha, he]

/-! ## Migration (R41, R55) -/

/-- The state once a sod of tensor `x` has been copied to a new place: its entry names the place, the migration is counted, and the page that
it left may give up its remap entries (R343). -/
def migrated (s : State) (t : Handle) (x : Tensor) (k : Nat) (old : Sod) (l : Loc) : State :=
  let u := modTensor (copySod s x k old.loc (some l)) t fun x => { x with sods := Machine.tset x.sods k { old with loc := some l } }
  let v := openAt (gather { u with store := { u.store with migrations := u.store.migrations + 1 } } 0x3002 1) (some l)
  match old.loc with
  | some a => pageLeft v a
  | none => v

section
variable {s : State} {t : Handle} {k : Nat} {l : Loc} {x : Tensor} {old : Sod} (hx : tensorAny s t = some x) (hk : tget? x.sods k = some old)
include hx hk

theorem exec_sodMigration_refused (e : MemErr) (hm : mayMove s x k old l = false) : exec (.sodMigration t k l e) s = .next s := by
  refine congrArg Host.Outcome.next ?_
  simp only [hx, hk]
  rw [if_pos (by simp [hm])]

/-- A move that begins: the old place is read, and a sod whose bits or tag fail becomes ash. -/
theorem exec_sodMigration_ash {e : MemErr} {u : State} (hm : mayMove s x k old l = true) (hr : storedRead s old.loc e = (u, false)) :
    exec (.sodMigration t k l e) s = .next (settled (makeAsh u t k)) := by
  refine congrArg Host.Outcome.next ?_
  simp only [hx, hk, hr]
  rw [if_neg (by simp [hm]), if_pos (by simp)]

/-- A sod whose bits and tag are good goes to its new place, and its old page is left. -/
theorem exec_sodMigration_moves {e : MemErr} {u : State} (hm : mayMove s x k old l = true) (hr : storedRead s old.loc e = (u, true))
    (ht : tagFails old = false) :
    exec (.sodMigration t k l e) s = .next (migrated u t x k old l) := by
  refine congrArg Host.Outcome.next ?_
  simp only [hx, hk, hr]
  rw [if_neg (by simp [hm]), if_neg (by simp [ht])]
  rfl

end

/-! ## Rebuild (R349, R351) -/

section
variable {s : State} {t : Handle} {l : Loc} {x : Tensor} {r : Stripe} (hx : tensorAny s t = some x) (hs : x.shared = true)
include hx hs

theorem exec_sodRebuild_data {k : Nat} (hk : k < tensorSods x) (ha : (sodIn x.sods k).ash = true) (hl : x.lost.contains (k / 11) = false)
    (bad : List Nat) : exec (.sodRebuild t k l bad) s = .next (rebuildData s x k l bad) := by
  refine congrArg Host.Outcome.next ?_
  simp only [hx]
  rw [if_neg (by simp [hs]), if_pos hk, if_pos ⟨ha, by rw [hl]; rfl⟩]

theorem exec_sodRebuild_parity {j : Nat} (hr : tget? x.stripes j = some r) (ha : r.parity.ash = true) (hl : x.lost.contains j = false)
    (bad : List Nat) : exec (.sodRebuild t (tensorSods x + j) l bad) s = .next (rebuildParity s x j l bad) := by
  refine congrArg Host.Outcome.next ?_
  simp only [hx]
  rw [if_neg (by simp [hs]), if_neg (by omega), Nat.add_sub_cancel_left, if_pos ⟨by simp [hr, ha], by rw [hl]; rfl⟩]

end

/-- A data sod whose stripe is otherwise whole, and whose rebuilt bytes match the stripe's record of its tag. -/
theorem rebuildData_whole {s : State} {x : Tensor} {r : Stripe} {k : Nat} {l : Loc} {bad : List Nat} (hr : tget? x.stripes (k / 11) = some r)
    (hp : rebuildPlace s x k l = true) (hb : badMembers x (k / 11) (k % 11) bad = []) (ht : sodTag (rebuilt x r k) = at? r.tags (k % 11) 0) :
    rebuildData s x k l bad = settled (openAt (placeRebuilt s x.handle k (mkSod (rebuilt x r k) (some l))) (some l)) := by
  unfold rebuildData
  simp only [hr, hb]
  rw [if_neg (by simp [hp]), if_neg (by simp [ht])]

theorem rebuildParity_whole {s : State} {x : Tensor} {j : Nat} {bad : List Nat} (hb : badMembers x j 11 bad = []) (l : Loc) :
    rebuildParity s x j l bad = modTensor s x.handle fun y =>
      { y with stripes := Machine.tset y.stripes j (freshStripe y j (parityPlace s (some l))) } := by
  unfold rebuildParity
  rw [hb]

/-! ## Patrol scrubbing (R337, R356 to R358) -/

theorem patrolServed_of_reads {s : State} {l : Loc} (h : patrolReads s l = true) : patrolServed s l = true := by
  unfold patrolReads at h
  rw [Bool.and_assoc, Bool.and_eq_true] at h
  exact h.1

section
variable {s : State} {l : Loc} {e : MemErr}

theorem patrolPage_unserved (x : Spot) (h : patrolServed s l = false) : patrolPage s l x e = s := by
  unfold patrolPage
  exact if_pos (by simp [h])

theorem patrolPage_corrected (x : Spot) (hr : patrolReads s l = true) (hc : checkedAt s l = true) (he : seenOf (checkBytes l) e = .corrected) :
    patrolPage s l x e = correctedBurst (patrolDone (patrolTraffic s l 128) l) x (flipBurst e) (flipHard e) := by
  unfold patrolPage
  simp only [patrolServed_of_reads hr, hr, hc, he, Bool.not_true, Bool.false_eq_true, if_false]

theorem patrolPage_uncorrectable (x : Spot) (hr : patrolReads s l = true) (hc : checkedAt s l = true)
    (he : seenOf (checkBytes l) e = .uncorrectable) :
    patrolPage s l x e = patrolAsh (uncorrectableBurst (patrolDone (patrolTraffic s l 128) l) x (flipBurst e)) l := by
  unfold patrolPage
  simp only [patrolServed_of_reads hr, hr, hc, he, Bool.not_true, Bool.false_eq_true, if_false]

end

theorem patrolTags_unserved {s : State} {st ch b g : Nat} (e : MemErr) (h : patrolServed s (.bank st ch b (4 * g)) = false) :
    patrolTags s st ch b g e = s := by
  unfold patrolTags
  exact if_pos (by simp [h])

/-- A burst of a tag array past correction: the sods of the four rows whose tags it holds become ash. -/
theorem patrolTags_uncorrectable {s : State} {st ch b g : Nat} {e : MemErr} (h : patrolServed s (.bank st ch b (4 * g)) = true)
    (he : seenOf 4 e = .uncorrectable) :
    patrolTags s st ch b g e =
      [4 * g, 4 * g + 1, 4 * g + 2, 4 * g + 3].foldl (fun u r => patrolAsh u (.bank st ch b r)) (patrolTraffic s (.bank st ch b (4 * g)) 1) := by
  unfold patrolTags
  simp only [h, he, Bool.not_true, Bool.false_eq_true, if_false]
  rfl

theorem exec_patrolRead_unserved {s : State} {x : PatrolTarget} (e : MemErr) (h : patrolServed s (patrolSpot s x).1 = false) :
    exec (.patrolRead x e) s = .next s := by
  refine congrArg Host.Outcome.next ?_
  cases x with
  | exrad st ch b r => exact patrolPage_unserved _ h
  | tags st ch b g => exact patrolTags_unserved e h
  | bog p pg => exact patrolPage_unserved _ h

/-- A scrub pass at the end of its period, with channels that the module has. -/
theorem exec_scrubPassEnd_ends {s : State} {t : Nat} {late : List Nat} (ht : s.store.scrubStart = some t) (hw : t + scrubUnits s ≤ s.now)
    (hl : ∀ n ∈ late, n < 448) :
    exec (.scrubPassEnd late) s = .next
      (let u := late.foldl scrubLate (readOnDie s)
       { u with store := { u.store with scrubStart := none, scrubPass := u.store.scrubPass + 1, scrubBulk := late } }) := by
  have all : late.filter (fun n => decide (n < 448)) = late := List.filter_eq_self.2 fun n hn => by simpa using hl n hn
  refine congrArg Host.Outcome.next ?_
  simp only [ht, all]
  rw [if_neg (by omega)]

/-- The total of an event that the model counts, over the windows that have ended. -/
theorem windowTotal_counted (s : State) {sel : Nat} (i : Nat) (h : sel ∉ uncounted) : windowTotal s sel i =
    sumN (s.evt.gathered.map fun e => if e.1 % 65536 = sel ∧ e.1 / 65536 < s.now / 10000 then e.2 else 0) := by
  unfold windowTotal
  exact if_neg (by simpa using h)

/-- Settles O46: the rows by the equations of moves, rebuilds and patrol reads above. -/
theorem integrityRows : Obligations.IntegrityRows := by
  unfold Obligations.IntegrityRows
  refine ⟨?moves, ?mismatch, ?uncorrectable, ?refused, ?data, ?parity, ?start, ?corrected, ?bog, ?tags, ?unserved, ?passEnd, ?ash, ?early, ?totals,
    fun s _ i h => windowTotal_counted s i h⟩
  case moves => intro s t k l x old hx hk hm ht; exact exec_sodMigration_moves hx hk hm (storedRead_none s _) ht
  case mismatch => intro s t k l x old hx hk hm; exact exec_sodMigration_ash hx hk hm (storedRead_tagMismatch s _)
  case uncorrectable =>
    intro s t k a l x old e hx hk hm ho ha he
    exact exec_sodMigration_ash hx hk hm (ho ▸ storedRead_uncorrectable ha he)
  case refused => intro s t k l x old e hx hk hm; exact exec_sodMigration_refused hx hk e hm
  case data =>
    intro s t k l x r hx hs hk ha hl hr hp hb ht
    rw [exec_sodRebuild_data hx hs hk ha hl, rebuildData_whole hr hp hb ht]
  case parity =>
    intro s t j l x r hx hs hr ha hl hb
    rw [exec_sodRebuild_parity hx hs hr ha hl, rebuildParity_whole hb]
  case start => intro s hn hr; exact congrArg Host.Outcome.next (if_neg (by simp [hn, hr]))
  case corrected =>
    intro s st ch b r e hr ho he
    exact congrArg Host.Outcome.next (patrolPage_corrected _ hr (checkedAt_sealed ho) he)
  case bog => intro s p pg e hr he; exact congrArg Host.Outcome.next (patrolPage_uncorrectable _ hr rfl he)
  case tags => intro s st ch b g e hs he; exact congrArg Host.Outcome.next (patrolTags_uncorrectable hs he)
  case unserved => intro s x e h; exact exec_patrolRead_unserved e h
  case passEnd => intro s t late ht hw hl; exact exec_scrubPassEnd_ends ht hw hl
  case ash => intro s; rfl
  case early => intro s h; exact congrArg Host.Outcome.next (if_pos h)
  case totals => intro s h; exact congrArg Host.Outcome.next (if_neg (by omega))

end Sys2Proof.Machine
end

section
/-!
PROOFS. Supply sag, Smoulder, non-volatile writes and debug transitions (R396, R402, R431 to R434, R457).
-/
namespace Sys2Proof.Machine

open Sys2Proof

/-! ## Supply sag and the hold of non-volatile writes (R431, R432) -/

/-- The setpoint that a sag is measured against, outside a setpoint step and within one. -/
theorem sagSetpoint_of_steady {s : State} (h : s.pwr.stepFrom = none) : sagSetpoint s = s.pwr.setpoint := by
  unfold sagSetpoint
  rw [h]

theorem sagSetpoint_of_step {s : State} {v : Nat} (h : s.pwr.stepFrom = some v) : sagSetpoint s = min v s.pwr.setpoint := by
  unfold sagSetpoint
  rw [h]

theorem sagHolds_vcore (s : State) (vcore vaux : Nat) : sagHolds s vcore vaux .vcore = true ↔ vcore * 100 < 92 * sagSetpoint s :=
  decide_eq_true_iff

theorem sagHolds_vaux (s : State) (vcore vaux : Nat) : sagHolds s vcore vaux .vaux = true ↔ vaux < 1710 := decide_eq_true_iff

theorem exec_nvHoldEnd_ends {s : State} {r : Nat} (hr : s.pwr.recovery = some r) (hh : s.pwr.nvHold = true) (hs : s.pwr.sag = false)
    (hw : r + 1000000 ≤ s.now) : exec .nvHoldEnd s = .next (nextNv { s with pwr := { s.pwr with nvHold := false, recovery := none } }) := by
  refine congrArg Host.Outcome.next ?_
  simp only [hr]
  rw [if_pos ⟨hh, by simp [hs], hw⟩]

/-! ## Smoulder (R396, R434) -/

theorem exec_smoulderWake_running {s : State} {n : Nat} (h : ∀ d, coreCrossing n = some d → (at? s.pwr.sensors d {}).out = false) :
    exec (.smoulderWake n) s = .next (wakeUnits s (BitVec.ofNat 32 (wokenBits n))) := by
  refine congrArg Host.Outcome.next (if_neg ?_)
  rw [Option.any_eq_true]
  rintro ⟨d, hd, hout⟩
  simp [h d hd] at hout

theorem exec_smoulderWake_stopped {s : State} {n d : Nat} (hd : coreCrossing n = some d) (ho : (at? s.pwr.sensors d {}).out = true) :
    exec (.smoulderWake n) s = .next
      (if s.rst.wakePending.contains n = true then loseEvent s n
       else { s with rst := { s.rst with wakePending := s.rst.wakePending ++ [n] } }) :=
  congrArg Host.Outcome.next (if_pos (by rw [hd]; exact ho))

/-- An entry of a table whose entries were changed under their numbers. -/
theorem tget?_map {α : Type} {f : Nat × α → Nat × α} (hf : ∀ e, (f e).1 = e.1) (t : Table α) (n : Nat) :
    tget? (t.map f) n = (tget? t n).map fun x => (f (n, x)).2 := by
  induction t with
  | nil => rfl
  | cons e t ih =>
    obtain ⟨k, x⟩ := e
    have hk : f (k, x) = (k, (f (k, x)).2) := Prod.ext (hf (k, x)) rfl
    rw [List.map_cons, hk]
    by_cases h : k = n
    · subst h; simp [tget?]
    · simp [tget?, h, ih]

/-- What waking units leaves of a channel: one of a woken stack has its refresh debt paid. -/
def paid (woken : BitVec 32) (e : Nat × Chan) : Nat × Chan := if woken.getLsbD (4 + e.1 / 32) then (e.1, { e.2 with debt := 0 }) else e

theorem paid_key (w : BitVec 32) (e : Nat × Chan) : (paid w e).1 = e.1 := by
  unfold paid
  split <;> rfl

theorem wakeUnits_chans (s : State) (m : BitVec 32) : (wakeUnits s m).exrad.chans = s.exrad.chans.map (paid (s.pwr.smoulderIn &&& m)) := rfl

/-- The channels of a woken stack leave Smoulder with no refresh debt (R196). -/
theorem wakeUnits_debt {s : State} {m : BitVec 32} {st ch : Nat} (hc : ch < 32) (hw : (s.pwr.smoulderIn &&& m).getLsbD (4 + st) = true) :
    (chanOf (wakeUnits s m) st ch).debt = 0 := by
  have stack : chanNum st ch / 32 = st := by unfold chanNum; omega
  unfold chanOf tgetD
  rw [wakeUnits_chans, tget?_map (paid_key _)]
  cases tget? s.exrad.chans (chanNum st ch) with
  | none => rfl
  | some x =>
    simp only [Option.map_some, Option.getD_some, paid, stack, hw, if_true]

theorem exec_smoulderEntry_idle {s : State} {u : SmoulderUnit} (hl : s.rst.rootLocked = true) (hu : smoulderUnitOk u = true)
    (he : s.pwr.smoulderEn.getLsbD (smoulderBit u) = true) (hr : smoulderReady s u = true)
    (ht : at? s.pwr.activeAt (smoulderBit u) 0 + 10000 ≤ s.now) :
    exec (.smoulderEntry u) s = .next { s with pwr := { s.pwr with
      smoulderIn := s.pwr.smoulderIn ||| BitVec.ofNat 32 (2 ^ smoulderBit u) } } :=
  congrArg Host.Outcome.next (if_pos ⟨hl, hu, he, hr, ht⟩)

/-- A unit that was active within the last 10,000 counts stays awake. -/
theorem exec_smoulderEntry_active {s : State} {u : SmoulderUnit} (ht : s.now < at? s.pwr.activeAt (smoulderBit u) 0 + 10000) :
    exec (.smoulderEntry u) s = .next s := by
  refine congrArg Host.Outcome.next (if_neg ?_)
  rintro ⟨-, -, -, -, h⟩
  omega

/-! ## Non-volatile writes and debug transitions (R402, R444, R457) -/

/-- The end of a command's write: flash or fuses take it, and the command ends OK. -/
theorem endNv_command {s : State} {h : Handle} {c : Cmd} (hc : cmdOf s h = some c) :
    endNv s (.command h) = finish (writtenNv { s with sec := { s.sec with nv := none } } c.work) h stOk := by
  have hc' : cmdOf { s with sec := { s.sec with nv := none } } h = some c := hc
  unfold endNv
  simp only [hc']

theorem exec_nvWriteDone_next {s : State} {w : NvWrite} (hn : s.sec.nv = some w) (hw : s.rst.warmWait = none) :
    exec .nvWriteDone s = .next (nextNv (endNv s w)) := by
  refine congrArg Host.Outcome.next ?_
  simp only [hn, hw]

/-- A warm reset that waits for the write goes on at its end, or cuts it short when it has waited 50 ms (R402). -/
theorem exec_nvWriteDone_warm {s : State} {w : NvWrite} {dog : Bool} {t : Nat} (hn : s.sec.nv = some w) (hw : s.rst.warmWait = some (dog, t)) :
    exec .nvWriteDone s = .next (if t + 5000000 ≤ s.now then warmNow s dog else warmNow (endNv s w) dog) := by
  refine congrArg Host.Outcome.next ?_
  simp only [hn, hw]

section
variable {s : State} {h : Handle} (nonce : List Byte) (ht : s.sec.transition = some h)
include ht

theorem exec_debugTransitionDone_unlocks (hd : s.sec.debug = .unlocking) :
    exec (.debugTransitionDone nonce) s = .next (finish { s with sec := { s.sec with
      debug := .unlocked, transition := none, nonce := slice nonce 0 32, unlockCount := satAdd 255 s.sec.unlockCount 1 } } h stOk) := by
  refine congrArg Host.Outcome.next ?_
  simp only [hd, ht]

theorem exec_debugTransitionDone_locks (hd : s.sec.debug = .locking) :
    exec (.debugTransitionDone nonce) s = .next
      (finish { s with sec := { s.sec with debug := .locked, transition := none, nonce := slice nonce 0 32 } } h stOk) := by
  refine congrArg Host.Outcome.next ?_
  simp only [hd, ht]

end

/-- Settles O54: each row by the branch of its meaning that the hypotheses choose. -/
theorem sagAndSmoulder : Obligations.SagAndSmoulder := by
  unfold Obligations.SagAndSmoulder
  refine ⟨?sag, ?holds, ?early, ?stretch, ?hold, ?restarts, ?held, ?entry, ?wake, ?woken, ?stopped, ?written, ?warm, ?command, ?burn, ?debug⟩
  case sag => intro s c vcore vaux hl hh; exact congrArg Host.Outcome.next (if_pos ⟨hl, hh⟩)
  case holds =>
    intro s vcore vaux
    refine ⟨sagHolds_vaux s vcore vaux, rfl, fun h => ?_, fun v h => ?_⟩
    · rw [sagHolds_vcore, sagSetpoint_of_steady h]
    · rw [sagHolds_vcore, sagSetpoint_of_step h]
  case early => intro s _ hw; exact congrArg Host.Outcome.next (if_neg (by omega))
  case stretch => intro s hs ha hw; exact congrArg Host.Outcome.next (if_pos ⟨hs, by simp [ha], hw⟩)
  case hold => intro s r hr hh hs hw; exact exec_nvHoldEnd_ends hr hh hs hw
  case restarts => intro s; exact ⟨rfl, rfl, rfl⟩
  case held => intro s h; exact if_pos (.inl h)
  case entry => intro s u hl hu he hr; exact ⟨exec_smoulderEntry_idle hl hu he hr, exec_smoulderEntry_active⟩
  case wake => intro s n h; exact exec_smoulderWake_running h
  case woken => intro s m st ch hc _ hw; exact ⟨rfl, wakeUnits_debt hc hw⟩
  case stopped => intro s n d hd ho; exact exec_smoulderWake_stopped hd ho
  case written => intro s w hn hw; exact exec_nvWriteDone_next hn hw
  case warm => intro s w dog t hn hw; exact exec_nvWriteDone_warm hn hw
  case command => intro s h c hc; exact endNv_command hc
  case burn =>
    intro s hr hd hh hn hw
    exact congrArg Host.Outcome.next (if_pos ⟨hr, hd, by simp [hh], by simp [hn], by simp [hw]⟩)
  case debug => intro s h nonce ht; exact ⟨exec_debugTransitionDone_unlocks nonce ht, exec_debugTransitionDone_locks nonce ht⟩

end Sys2Proof.Machine
end

section
/-!
PROOFS. The packets of tensors and shard sets (R24, R25, R60, R307).
-/
namespace Sys2Proof.Machine

open Sys2Proof

/-! ## Packets of tensors and shard sets -/

@[simp] theorem tensorFrom_shared (s : State) (n : Nat) (b : List Byte) (h : Handle) : (tensorFrom s n b h).shared = bit (u8 b 3) 0 := rfl

section
variable {s : State} {w : Sender} {p : Packet}

/-- TENSOR_CREATE whose tests pass: good parameters, a shard set of its own context or none, and room under every limit of R25. -/
theorem decideTensorCreate_pass (hb : badTensorParams s w.ctx (ownParams p) = false)
    (ho : ∀ x, shardSetOf s (handleAt (ownParams p) 8) = some x → x.handle.ctx = w.ctx)
    (hf : bit (u8 (ownParams p) 3) 0 = true → w.fn = 0)
    (hc : (s.store.tensors.filter fun x => x.handle.ctx == w.ctx && !x.destroyed).length < 65536) (hn : s.store.tensors.length < 1048576)
    (hr : tensorSods (tensorFrom s w.ctx (ownParams p) (newHandle s w.ctx p.choice.pick)) ≤ clampFree s (clampNum s w.ctx))
    (hs : bit (u8 (ownParams p) 3) 0 = true → 11 ≤ placeableStacks s (clampNum s w.ctx)) :
    decideTensorCreate s w p =
      (let h := newHandle s w.ctx p.choice.pick
       { status := stAccepted, handle := h, effect := fun t =>
           let t := takeSlot t h
           let t := { t with store := { t.store with tensors := t.store.tensors ++ [tensorFrom s w.ctx (ownParams p) h] } }
           let t := modCtx t w.ctx fun c => { c with endedOk := c.endedOk + 1 }
           putRec t w.ctx (createdRec t p w.ctx h) }) := by
  unfold decideTensorCreate
  refine unless_pass fun e he => ?_
  have own : (match shardSetOf s (handleAt (ownParams p) 8) with | some x => x.handle.ctx != w.ctx | none => false) = false := by
    cases h : shardSetOf s (handleAt (ownParams p) 8) with
    | none => rfl
    | some x => simp [ho x h]
  have room : ¬ (65536 ≤ (s.store.tensors.filter fun x => x.handle.ctx == w.ctx && !x.destroyed).length ∨ 1048576 ≤ s.store.tensors.length
      ∨ clampFree s (clampNum s w.ctx) < tensorSods (tensorFrom s w.ctx (ownParams p) (newHandle s w.ctx p.choice.pick))
      ∨ (bit (u8 (ownParams p) 3) 0 = true ∧ placeableStacks s (clampNum s w.ctx) < 11)) := by
    simp only [not_or, not_and, Nat.not_le, Nat.not_lt]
    exact ⟨hc, hn, hr, hs⟩
  simp only [List.mem_cons, List.not_mem_nil, or_false] at he
  rcases he with rfl | rfl | rfl
  · exact hb
  · exact Bool.or_eq_false_iff.2 ⟨own, by simpa using hf⟩
  · exact decide_eq_false room

/-- TENSOR_GRANT whose tests pass. -/
theorem decideTensorGrant_pass (hb : badTensor s (handleAt (ownParams p) 0) = false) (hg : u16 (ownParams p) 8 ≤ 1023)
    (ha : u8 (ownParams p) 10 ≤ 1) (ho : (handleAt (ownParams p) 0).ctx = w.ctx) :
    decideTensorGrant s w p = .ok 0 fun t => modTensor t (handleAt (ownParams p) 0) fun x =>
      { x with grants := x.grants.filter (fun g => g.1 != u16 (ownParams p) 8) ++ [(u16 (ownParams p) 8, u8 (ownParams p) 10 == 1)] } := by
  unfold decideTensorGrant
  refine unless_pass fun e he => ?_
  simp only [List.mem_cons, List.not_mem_nil, or_false] at he
  rcases he with rfl | rfl
  · simp [hb, hg, ha]
  · simp [ho]

/-- TENSOR_REVOKE whose tests pass. -/
theorem decideTensorRevoke_pass (hb : badTensor s (handleAt (ownParams p) 0) = false) (hg : u16 (ownParams p) 8 ≤ 1023)
    (ho : (handleAt (ownParams p) 0).ctx = w.ctx) :
    decideTensorRevoke s w p = .ok 0 fun t => modTensor t (handleAt (ownParams p) 0) fun x =>
      { x with grants := x.grants.filter fun g => g.1 != u16 (ownParams p) 8 } := by
  unfold decideTensorRevoke
  refine unless_pass fun e he => ?_
  simp only [List.mem_cons, List.not_mem_nil, or_false] at he
  rcases he with rfl | rfl
  · simp [hb, hg]
  · simp [ho]

/-- TENSOR_INFO of a tensor that its context may read. -/
theorem decideTensorInfo_pass {t : Tensor} (ht : tensorOf s (handleAt (ownParams p) 0) = some t) (hr : mayRead t w.ctx = true) :
    decideTensorInfo s w p = .ok (tensorSods t % 2 ^ 32 + ashCount t * 2 ^ 32) := by
  unfold decideTensorInfo
  simp only [ht]
  refine unless_pass fun e he => ?_
  obtain rfl := List.mem_singleton.1 he
  simp [hr]

/-- SHARD_SET_DESTROY whose tests pass: no tensor that stands names the set. -/
theorem decideShardSetDestroy_pass (hs : (shardSetOf s (handleAt (ownParams p) 0)).isSome = true) (ho : (handleAt (ownParams p) 0).ctx = w.ctx)
    (hn : ∀ t ∈ s.store.tensors, t.shardSet = handleAt (ownParams p) 0 → t.destroyed = true) :
    decideShardSetDestroy s w p = .ok 0 fun t => dropSlot { t with store := { t.store with
      shardSets := t.store.shardSets.filter fun x => x.handle != handleAt (ownParams p) 0 } } (handleAt (ownParams p) 0) := by
  have unnamed : (s.store.tensors.any fun t => t.shardSet == handleAt (ownParams p) 0 && !t.destroyed) = false :=
    List.any_eq_false.2 fun t ht => by simpa using hn t ht
  unfold decideShardSetDestroy
  refine unless_pass fun e he => ?_
  simp only [List.mem_cons, List.not_mem_nil, or_false] at he
  rcases he with rfl | rfl
  · simpa [Option.isSome_iff_ne_none] using hs
  · simp [ho, unnamed]

end

/-- Settles O3: each packet's verdict by `decides_of`, from its decision once its own tests pass. -/
theorem tensorObjectPackets : Obligations.TensorObjectPackets := by
  unfold Obligations.TensorObjectPackets
  refine ⟨?create, ?grant, ?revoke, ?info, ?shardSet, ?drop⟩
  case create =>
    refine decides_of (fun _ _ => rfl) fun s p hp => ?_
    obtain ⟨hb, ho, hf, hc, hn, hr, hs⟩ := hp
    exact decideTensorCreate_pass hb ho hf hc hn hr hs
  case grant =>
    refine decides_of (fun _ _ => rfl) fun s p hp => ?_
    obtain ⟨hb, hg, ha, ho⟩ := hp
    exact decideTensorGrant_pass hb hg ha ho
  case revoke =>
    refine decides_of (fun _ _ => rfl) fun s p hp => ?_
    obtain ⟨hb, hg, ho⟩ := hp
    exact decideTensorRevoke_pass hb hg ho
  case info =>
    intro t
    refine decides_of (fun _ _ => rfl) fun s p hp => ?_
    obtain ⟨ht, hr⟩ := hp
    exact decideTensorInfo_pass ht hr
  case shardSet =>
    refine decides_of (fun _ _ => rfl) fun s p hb => ?_
    refine unless_pass fun e he => ?_
    obtain rfl := List.mem_singleton.1 he
    exact hb
  case drop =>
    refine decides_of (fun _ _ => rfl) fun s p hp => ?_
    obtain ⟨hs, ho, hn⟩ := hp
    exact decideShardSetDestroy_pass hs ho hn

end Sys2Proof.Machine
end

section
/-!
PROOFS. Reads of host memory as they end, and a stream that loses its integrity (R21, R285, R453).
-/
namespace Sys2Proof.Machine

open Sys2Proof

/-! ## Reads of host memory as they end (R21, R285, R516) -/

/-- What the end of a read does to the command that awaits it (R285): data are taken, everything else faults it with cause 13. -/
def readEnded (s : State) (h : Handle) (c : Cmd) (off : Nat) : HostRead → State
  | .data bs => takeHostData s c off bs
  | .poisoned => hostFault s h 13 (readBase c + off) 8
  | .refused st => hostFault s h 13 (readBase c + off) (st % 8)

section
variable {s : State} {h : Handle} {c : Cmd} {off : Nat} (hw : HostWait s h c off)
include hw

/-- What an insecure stream brings is discarded (R453). -/
theorem exec_hostReadCompletion_blocked (hi : ideBlocks s (ctxFn s h.ctx) (readBase c + off) = true) (r : HostRead) :
    exec (.hostReadCompletion h off r) s = .next s := by
  refine congrArg Host.Outcome.next ?_
  simp only [hw.cmd]
  rw [if_pos (.inr (.inr hi))]

/-- A completion that the command awaits, by how the read ended. -/
theorem exec_hostReadCompletion_awaited (hi : ideBlocks s (ctxFn s h.ctx) (readBase c + off) = false) (r : HostRead) :
    exec (.hostReadCompletion h off r) s = .next (readEnded s h c off r) := by
  refine congrArg Host.Outcome.next ?_
  simp only [hw.cmd]
  rw [if_neg (by simp [hw.runs, hw.waits, hi])]
  cases r <;> rfl

end

/-- The state once data have been stored and what was held back for want of tags has been asked for. -/
def hostDataTaken (s : State) (c : Cmd) (off : Nat) (bs : List Byte) : State :=
  let left := dropRange off bs.length c.hostOut
  pumpHost 4096 (modCmd (gather s 0x5002 bs.length) c.handle fun x =>
    { x with hostData := wrBytes x.hostData off bs, hostOut := left, hostReqs := openReqs left x.hostReqs })

theorem takeHostData_more {s : State} {c : Cmd} {off : Nat} {bs : List Byte} (hl : dropRange off bs.length c.hostOut ≠ []) :
    takeHostData s c off bs = hostDataTaken s c off bs := by
  unfold takeHostData hostDataTaken
  exact if_neg (by simpa using hl)

theorem takeHostData_last {s : State} {c d : Cmd} {off : Nat} {bs : List Byte} (hl : dropRange off bs.length c.hostOut = [])
    (hd : cmdOf (hostDataTaken s c off bs) c.handle = some d) :
    takeHostData s c off bs = doneNow (endWrite (hostDataTaken s c off bs) d) c.handle := by
  have asker : d.handle = c.handle := cmdOf_handle hd
  unfold hostDataTaken at hd ⊢
  unfold takeHostData
  simp only [hl, List.isEmpty_nil, if_true] at hd ⊢
  simp only [hd, asker]

theorem exec_completionTimeout_reading {s : State} {h : Handle} {c : Cmd} {r : Nat × Nat} {rest : List (Nat × Nat)} (hc : cmdOf s h = some c)
    (hp : c.phase = .run) (ho : c.hostOut = r :: rest) :
    exec (.completionTimeout h) s = .next (hostFault s h 13 (readBase c + r.1) 0x10) := by
  refine congrArg Host.Outcome.next ?_
  simp only [hc, hp, ho]

/-! ## Integrity streams (R453) -/

theorem hostPut_blocked {s : State} {fn addr : Nat} (h : ideBlocks s fn addr = true) (bs : List Byte) : hostPut s fn addr bs = s := by
  unfold hostPut
  exact if_pos h

theorem hostPut_sent {s : State} {fn addr : Nat} (h : ideBlocks s fn addr = false) (bs : List Byte) :
    hostPut s fn addr bs = gather (emit s (.hostWrite fn addr bs)) 0x5001 bs.length := by
  unfold hostPut
  exact if_neg (by simp [h])

/-- Settles O52: completions by whether the command awaits them and how the read ended, data by whether any is still outstanding. -/
theorem hostCompletions : Obligations.HostCompletions := by
  unfold Obligations.HostCompletions
  refine ⟨?data, ?failed, ?discarded, ?timeout, ?writes, ?stream⟩
  case data =>
    intro s h c off bs hw hi
    rw [exec_hostReadCompletion_awaited hw hi]
    exact ⟨fun hl => congrArg _ (takeHostData_more hl), fun d hl hd => congrArg _ (takeHostData_last hl hd)⟩
  case failed =>
    intro s h c off st hw hi
    exact ⟨exec_hostReadCompletion_awaited hw hi .poisoned, exec_hostReadCompletion_awaited hw hi (.refused st)⟩
  case discarded => intro s h c off r hw hi; exact exec_hostReadCompletion_blocked hw hi r
  case timeout => intro s h c r rest hc hp ho; exact exec_completionTimeout_reading hc hp ho
  case writes => intro s fn addr bs; exact ⟨fun h => hostPut_blocked h bs, fun h => hostPut_sent h bs⟩
  case stream => intro s n hn hs; exact congrArg _ (if_pos ⟨hn, hs⟩)

end Sys2Proof.Machine
end

section
/-!
PROOFS. The packets of launches (R37, R136, R167, R208, R329 to R331) and of debug (R58, R59, R162, R163, R480).
-/
namespace Sys2Proof.Machine

open Sys2Proof

/-! ## Packets of launches -/

section
variable {s : State} {p : Packet} {x : List Byte} (hd : depOk s p.ctx p = true)
  (hx : readParamTensor s p.ctx (handleAt (ownParams p) 0) (u64 (ownParams p) 8) (u32 (ownParams p) 16) 655360 = .ok x)
include hd hx

/-- PROGRAM_LAUNCH whose block is read and passes its tests. -/
theorem decideProgramLaunch_pass (hl : launchLen x ≤ x.length)
    (ht : ∀ y ∈ (launchFrom x).bindings, y.kind = 2 → tagInUse s p.ctx y.src y.tag = false)
    (hb : badLaunch s (clampNum s p.ctx) x false = false) (hr : deniedLaunch s p.ctx (launchFrom x) = false)
    (hc : noCore s (clampNum s p.ctx) = false) (hs : (launchFrom x).inband.isSome = true → noStack s (clampNum s p.ctx) = false) :
    decideProgramLaunch s (packetSender p) p =
      { queuedAs (.program (launchFrom x)) s p with
        effect := fun t => (queuedAs (.program (launchFrom x)) s p).effect (imageFinds t (launchFrom x).program) } := by
  have tagsFree : ((launchFrom x).bindings.any fun y => y.kind == 2 && tagInUse s p.ctx y.src y.tag) = false :=
    List.any_eq_false.2 fun y hy => by simpa using ht y hy
  have enginesReady : (noCore s (clampNum s p.ctx) || ((launchFrom x).inband.isSome && noStack s (clampNum s p.ctx))) = false := by
    simpa [hc] using hs
  unfold decideProgramLaunch
  simp only [packetSender, hd, hx, Bool.not_true, Bool.false_eq_true, if_false]
  rw [queueCmd_pass rfl hd]
  intro e he
  simp only [List.mem_cons, List.not_mem_nil, or_false] at he
  rcases he with rfl | rfl | rfl
  · simp [hl, tagsFree, hb]
  · exact hr
  · exact enginesReady

/-- INBANK_LAUNCH whose block is read and passes its tests. -/
theorem decideInbankLaunch_pass (hl : 304 ≤ x.length) (hb : badInbank s x 16777216 = false)
    (hr : deniedInbank s p.ctx (inbankFrom x) = false) (hs : noStack s (clampNum s p.ctx) = false) :
    decideInbankLaunch s (packetSender p) p = queuedAs (.inband (inbankFrom x)) s p := by
  unfold decideInbankLaunch
  simp only [packetSender, hd, hx, Bool.not_true, Bool.false_eq_true, if_false]
  refine queueCmd_pass rfl hd fun e he => ?_
  simp only [List.mem_cons, List.not_mem_nil, or_false] at he
  rcases he with rfl | rfl | rfl
  · simp [hl, hb]
  · exact hr
  · exact hs

end

/-- SLANE_RESUME of a command of its own context. -/
theorem decideSlaneResume_pass {s : State} {p : Packet} (hc : (cmdOf s (handleAt (ownParams p) 0)).isSome = true)
    (hm : u8 (ownParams p) 8 ≤ 1) (ho : (handleAt (ownParams p) 0).ctx = p.ctx) :
    decideSlaneResume s (packetSender p) p = runsAs (.atOnce 0x0202) (fun me t =>
      let h := handleAt (ownParams p) 0
      if haltOpen t h then finish (if u8 (ownParams p) 8 = 0 then retrySlane t h else abortSlane t h) me stOk
      else finish t me stAlreadyDone) s p := by
  unfold decideSlaneResume
  refine acceptCmd_pass rfl fun e he => ?_
  simp only [List.mem_cons, List.not_mem_nil, or_false] at he
  rcases he with rfl | rfl
  · simpa [Option.isSome_iff_ne_none, hm] using hc
  · simp [ho, packetSender]

/-- Settles O5: each packet's verdict by `decides_of`, from its decision once its own tests pass. -/
theorem launchPackets : Obligations.LaunchPackets := by
  unfold Obligations.LaunchPackets
  refine ⟨?program, ?inbank, ?resume⟩
  case program =>
    intro x
    refine decides_of (fun _ _ => rfl) fun s p hp => ?_
    obtain ⟨hd, hx, hl, ht, hb, hr, hc, hs⟩ := hp
    exact decideProgramLaunch_pass hd hx hl ht hb hr hc hs
  case inbank =>
    intro x
    refine decides_of (fun _ _ => rfl) fun s p hp => ?_
    obtain ⟨hd, hx, hl, hb, hr, hs⟩ := hp
    exact decideInbankLaunch_pass hd hx hl hb hr hs
  case resume =>
    refine decides_of (fun _ _ => rfl) fun s p hp => ?_
    obtain ⟨hc, hm, ho⟩ := hp
    exact decideSlaneResume_pass hc hm ho

/-! ## Packets of debug -/

section
variable {s : State} {p : Packet}

/-- DBG_BREAK_SET whose values lie in their ranges, for a context that stands. -/
theorem decideDbgBreakSet_pass (hn : (ctxOf s (u16 (ownParams p) 0)).isSome = true) (hi : u8 (ownParams p) 2 ≤ 3)
    (hs : u8 (ownParams p) 3 ≤ 1) (hk : u8 (ownParams p) 4 ≤ 1) (ho : u8 (ownParams p) 5 ≤ 1) (hv : u64 (ownParams p) 8 ≠ 0)
    (ht : u8 (ownParams p) 4 = 1 → u64 (ownParams p) 8 ≤ 65535) :
    decideDbgBreakSet s (packetSender p) p = .ok 0 fun t => modCtx t (u16 (ownParams p) 0) fun c =>
      { c with breaks := c.breaks.set (u8 (ownParams p) 2) (some (breakFrom (ownParams p))) } := by
  have inRange : ¬ (3 < u8 (ownParams p) 2 ∨ 1 < u8 (ownParams p) 3 ∨ 1 < u8 (ownParams p) 4 ∨ 1 < u8 (ownParams p) 5
      ∨ u64 (ownParams p) 8 = 0 ∨ (u8 (ownParams p) 4 = 1 ∧ 65535 < u64 (ownParams p) 8)) := by omega
  unfold decideDbgBreakSet
  refine unless_pass fun e he => ?_
  obtain rfl := List.mem_singleton.1 he
  exact Bool.or_eq_false_iff.2 ⟨Option.isNone_eq_false_iff.2 hn, decide_eq_false inRange⟩

/-- DBG_BREAK_CLEAR of a breakpoint of a context that stands. -/
theorem decideDbgBreakClear_pass (hn : (ctxOf s (u16 (ownParams p) 0)).isSome = true) (hi : u8 (ownParams p) 2 ≤ 3) :
    decideDbgBreakClear s (packetSender p) p = .ok 0 fun t => modCtx t (u16 (ownParams p) 0) fun c =>
      { c with breaks := c.breaks.set (u8 (ownParams p) 2) none } := by
  unfold decideDbgBreakClear
  refine unless_pass fun e he => ?_
  obtain rfl := List.mem_singleton.1 he
  exact Bool.or_eq_false_iff.2 ⟨Option.isNone_eq_false_iff.2 hn, decide_eq_false (Nat.not_lt.2 hi)⟩

/-- DBG_TILE_CONTROL of a halted tile, while JTAG does not own debug. -/
theorem decideDbgTileControl_pass {t : Tile} (ht : tileOf s (handleAt (ownParams p) 0) (u32 (ownParams p) 8) = some t) (hh : t.halted = true)
    (ha : u8 (ownParams p) 12 ≤ 1) (hs : u8 (ownParams p) 13 ≤ 1) (hj : s.evt.jtagOwner = false) :
    decideDbgTileControl s (packetSender p) p = .ok 0 fun s =>
      modTile s t.die t.core (tileGoes (u8 (ownParams p) 12 == 1) (u8 (ownParams p) 13 == 1) (u64 (ownParams p) 16)) := by
  unfold decideDbgTileControl
  simp only [ht]
  refine unless_pass fun e he => ?_
  simp only [List.mem_cons, List.not_mem_nil, or_false] at he
  rcases he with rfl | rfl
  · simp [hh, ha, hs]
  · exact hj

/-- DBG_READ of a place that its locator names. -/
theorem decideDbgRead_pass (hs : u8 (ownParams p) 0 ≤ 3) (hn : u32 (ownParams p) 24 ≤ 6291456)
    (hw : u8 (ownParams p) 0 = 0 → u64 (ownParams p) 16 + u32 (ownParams p) 24 ≤ 6291456)
    (hl : badLocator s (u8 (ownParams p) 0) (u64 (ownParams p) 8) = false)
    (hv : u8 (ownParams p) 0 = 3 → (chanOf s (bits (u64 (ownParams p) 8) 7 0) (bits (u64 (ownParams p) 8) 15 8)).mode = .bankView) :
    decideDbgRead s (packetSender p) p =
      runsAs (.dbgRead (u8 (ownParams p) 0) (u64 (ownParams p) 8) (u64 (ownParams p) 16) (u32 (ownParams p) 24) (u32 (ownParams p) 28)
        (u64 (ownParams p) 36)) (fun me t => modCmd t me fun c => { c with done := true }) s p := by
  have inRange : ¬ (3 < u8 (ownParams p) 0 ∨ 6291456 < u32 (ownParams p) 24
      ∨ (u8 (ownParams p) 0 = 0 ∧ 6291456 < u64 (ownParams p) 16 + u32 (ownParams p) 24)) := by omega
  unfold decideDbgRead
  refine acceptCmd_pass rfl fun e he => ?_
  simp only [List.mem_cons, List.not_mem_nil, or_false] at he
  rcases he with rfl | rfl
  · exact Bool.or_eq_false_iff.2 ⟨decide_eq_false inRange, hl⟩
  · simpa using hv

/-- DBG_BANK_VIEW of a channel that may enter bank view, or is in it. -/
theorem decideDbgBankView_pass (hb : badSpot (u8 (ownParams p) 0) (u8 (ownParams p) 1) 0 = false) (hm : u8 (ownParams p) 2 ≤ 1)
    (he : u8 (ownParams p) 2 = 0 → bankViewOk s (u8 (ownParams p) 0) (u8 (ownParams p) 1) = true)
    (hl : u8 (ownParams p) 2 = 1 → (chanOf s (u8 (ownParams p) 0) (u8 (ownParams p) 1)).mode = .bankView) :
    decideDbgBankView s (packetSender p) p =
      runsAs (.bankView (u8 (ownParams p) 0) (u8 (ownParams p) 1) (u8 (ownParams p) 2 == 0))
        (fun me t => modCmd t me fun c => { c with done := true }) s p := by
  unfold decideDbgBankView
  refine acceptCmd_pass rfl fun e hmem => ?_
  simp only [List.mem_cons, List.not_mem_nil, or_false] at hmem
  rcases hmem with rfl | rfl
  · simp [hb, hm]
  · rcases Nat.le_one_iff_eq_zero_or_eq_one.1 hm with h0 | h1
    · simp [h0, he h0]
    · simp [h1, hl h1]

/-- DBG_BANK_WRITE of rows of a channel in bank view, while JTAG does not own debug. -/
theorem decideDbgBankWrite_pass (hb : badSpot (u8 (ownParams p) 0) (u8 (ownParams p) 1) 0 = false) (hk : u8 (ownParams p) 2 ≤ 31)
    (hn : 1 ≤ u16 (ownParams p) 6) (hm : u16 (ownParams p) 6 ≤ 64) (hr : u16 (ownParams p) 4 + u16 (ownParams p) 6 ≤ 12288)
    (hv : (chanOf s (u8 (ownParams p) 0) (u8 (ownParams p) 1)).mode = .bankView) (hj : s.evt.jtagOwner = false) :
    decideDbgBankWrite s (packetSender p) p =
      runsAs (.bankWrite (u8 (ownParams p) 0) (u8 (ownParams p) 1) (u8 (ownParams p) 2) (u16 (ownParams p) 4) (u16 (ownParams p) 6)
        (u64 (ownParams p) 8)) (fun me t => askHost t me (u64 (ownParams p) 8) (4096 * u16 (ownParams p) 6)) s p := by
  have inRange : ¬ (31 < u8 (ownParams p) 2 ∨ u16 (ownParams p) 6 = 0 ∨ 64 < u16 (ownParams p) 6
      ∨ 12288 < u16 (ownParams p) 4 + u16 (ownParams p) 6) := by omega
  unfold decideDbgBankWrite
  refine acceptCmd_pass rfl fun e he => ?_
  simp only [List.mem_cons, List.not_mem_nil, or_false] at he
  rcases he with rfl | rfl
  · exact Bool.or_eq_false_iff.2 ⟨hb, decide_eq_false inRange⟩
  · simp [hv, hj]

end

/-- Settles O14: each packet's verdict by `decides_of`, from its decision once its own tests pass. -/
theorem debugPackets : Obligations.DebugPackets := by
  unfold Obligations.DebugPackets
  refine ⟨?set, ?clear, ?control, ?read, ?view, ?write⟩
  case set =>
    refine decides_of (fun _ _ => rfl) fun s p hp => ?_
    obtain ⟨hn, hi, hs, hk, ho, hv, ht⟩ := hp
    exact decideDbgBreakSet_pass hn hi hs hk ho hv ht
  case clear =>
    refine decides_of (fun _ _ => rfl) fun s p hp => ?_
    obtain ⟨hn, hi⟩ := hp
    exact decideDbgBreakClear_pass hn hi
  case control =>
    intro t
    refine decides_of (fun _ _ => rfl) fun s p hp => ?_
    obtain ⟨ht, hh, ha, hs, hj⟩ := hp
    exact decideDbgTileControl_pass ht hh ha hs hj
  case read =>
    refine decides_of (fun _ _ => rfl) fun s p hp => ?_
    obtain ⟨hs, hn, hw, hl, hv⟩ := hp
    exact decideDbgRead_pass hs hn hw hl hv
  case view =>
    refine decides_of (fun _ _ => rfl) fun s p hp => ?_
    obtain ⟨hb, hm, he, hl⟩ := hp
    exact decideDbgBankView_pass hb hm he hl
  case write =>
    refine decides_of (fun _ _ => rfl) fun s p hp => ?_
    obtain ⟨hb, hk, hn, hm, hr, hv, hj⟩ := hp
    exact decideDbgBankWrite_pass hb hk hn hm hr hv hj

end Sys2Proof.Machine
end

section
/-!
PROOFS. Tile commit (R53, R70, R88, R160, R161) and COMMIT (R35, R38, R52, R71, R72, R89, R97).
-/
namespace Sys2Proof.Machine

open Sys2Proof

/-! ## Tile commit -/

section
variable {s : State} {d n : Nat} {t : Tile} {c : Cmd} {l : Launch} (hi : issuing s d n = some (t, c, l)) (he : t.exe.ended = true)
  (ha : t.acc.ended = true) (hq : ∀ q ∈ t.storeQ, q = []) (hs : t.acc.stores = [])

include he ha hq hs in
/-- A tile whose streams have retired END and whose store queues are empty has nothing left to do. -/
theorem tile_nothingLeft : ¬ (!t.exe.ended ∨ !t.acc.ended ∨ t.storeQ.any (fun q => !q.isEmpty) ∨ !t.acc.stores.isEmpty) := by
  have stored : (t.storeQ.any fun q => !q.isEmpty) = false := List.any_eq_false.2 fun q h => by simp [hq q h]
  simp [he, ha, hs, stored]

include hi he ha hq hs

/-- Bytes that another tile of the command has written end the command (R161). -/
theorem exec_tileCommit_overlap (ho : overlaps c (holdPieces s l t) = true) :
    exec (.tileCommit d n) s = .next (finish s t.cmd stFaulted (some
      { engine := 3, cause := 11
        detail := coreDetail t t.acc.retired ++ natLE 1 (overlapAt s c l t).1 ++ natLE 5 (overlapAt s c l t).2 })) := by
  refine congrArg Host.Outcome.next ?_
  simp only [hi]
  rw [if_neg (tile_nothingLeft he ha hq hs), if_pos ho]

variable (ho : overlaps c (holdPieces s l t) = false)
include ho

/-- Without room for the shadows it needs, the tile waits, from the first row that found none (R53). -/
theorem exec_tileCommit_noRoom (hr : roomForShadows s (newShadows c (holdPieces s l t)) = false) :
    exec (.tileCommit d n) s = .next (modCmd s t.cmd fun c => { c with roomWait := c.roomWait.or (some s.now) }) := by
  refine congrArg Host.Outcome.next ?_
  simp only [hi]
  rw [if_neg (tile_nothingLeft he ha hq hs), if_neg (by simp [ho]), if_pos (by simp [hr])]

/-- With room, the hold area's pieces go into the command's shadows, marked as a tile's. -/
theorem exec_tileCommit_room (hr : roomForShadows s (newShadows c (holdPieces s l t)) = true) :
    exec (.tileCommit d n) s = .next
      (let p := holdPieces s l t
       let u := p.foldl (fun u x => writeShadow u t.cmd x.1 x.2.1 x.2.2.1 x.2.2.2) (modCmd s t.cmd fun c => { c with roomWait := none })
       modTile (modCmd u t.cmd fun c => { c with shadows := p.foldl markTile c.shadows }) d n fun t => { t with committing := true }) := by
  refine congrArg Host.Outcome.next ?_
  simp only [hi]
  rw [if_neg (tile_nothingLeft he ha hq hs), if_neg (by simp [ho]), if_neg (by simp [hr])]

end

/-- Settles O31: tile commit by overlap and room; the end of a tile in commit is the branch that its meaning takes. -/
theorem tileCommit : Obligations.TileCommit := by
  unfold Obligations.TileCommit
  refine ⟨?commits, ?faults, ?done⟩
  case commits =>
    intro s d n t c l hi he ha hq hs ho
    exact ⟨exec_tileCommit_room hi he ha hq hs ho, exec_tileCommit_noRoom hi he ha hq hs ho⟩
  case faults => intro s d n t c l hi he ha hq hs ho; exact ⟨_, rfl, exec_tileCommit_overlap hi he ha hq hs ho⟩
  case done =>
    intro s d n t ht hc
    refine congrArg Host.Outcome.next ?_
    simp only [ht]
    exact if_neg (by simp [hc])

/-! ## COMMIT -/

/-- The state once the committed sods that a merge would take bytes from have been checked, and those that fail are ash (R35). -/
def mergesChecked (s : State) (c : Cmd) : State := (tornMerges s { c with shadows := written c }).foldl (fun s x => makeAsh s x.1 x.2) s

section
variable {s : State} {h : Handle} {c : Cmd} (hc : cmdOf s h = some c) (locs : List Loc)
include hc

theorem exec_commandCommit_early (hm : mayCommit s c = false) : exec (.commandCommit h locs) s = .next s := by
  refine congrArg Host.Outcome.next ?_
  simp only [hc]
  rw [if_neg (by simp [hm])]

variable (hm : mayCommit s c = true)
include hm

/-- A CLAMP_CONFIGURE that has waited for shadows (R54, R98). -/
theorem exec_commandCommit_configure {k : Nat} {b : List Byte} (hw : c.work = .clampConfigure k b) :
    exec (.commandCommit h locs) s = .next (configureLate s h k b) := by
  refine congrArg Host.Outcome.next ?_
  simp only [hc]
  rw [if_pos hm, hw]

/-- Every other command: its outputs meet ash, or its effects are released. -/
theorem exec_commandCommit_releases (hw : ∀ k b, c.work ≠ .clampConfigure k b) :
    exec (.commandCommit h locs) s = .next
      (if commitMeetsAsh (mergesChecked s c) c then finish (mergesChecked s c) h stDataAsh
       else settled (askAll (commitNow (mergesChecked s c) c locs))) := by
  refine congrArg Host.Outcome.next ?_
  simp only [hc]
  exact if_pos hm

end

/-- From the end of a drain on no command of a queue reaches commit, but for steps (R97). -/
theorem mayCommit_drainOver {s : State} {c : Cmd} (hd : drainOver s c = true) (hw : ∀ k m b t, c.work ≠ .step k m b t) : mayCommit s c = false := by
  unfold mayCommit
  split
  · next k m b t hk => exact absurd hk (hw k m b t)
  · simp [hd]

theorem commitFlags_noOps {s : State} {c : Cmd} (ho : c.ops = []) (hw : ∀ o, c.work ≠ .flagWrite o) : commitFlags s c = s := by
  unfold commitFlags
  rw [ho]
  split
  · next o hk => exact absurd hk (hw o)
  · rfl

/-- A FLAG_WRITE's own operation comes after those that its packet lists. -/
theorem commitFlags_flagWrite {s : State} {c : Cmd} {o : FlagOp} (hw : c.work = .flagWrite o) :
    commitFlags s c = applyFlag (c.ops.foldl (fun u x => applyFlag u c.handle.ctx x) s) c.handle.ctx o := by
  unfold commitFlags
  simp only [hw, List.foldl_append, List.foldl_cons, List.foldl_nil]

/-- Settles O32: `exec` at a command that may commit, by its work, and the parts of `commitNow`. -/
theorem commandCommit : Obligations.CommandCommit := by
  unfold Obligations.CommandCommit
  refine ⟨?releases, ?configure, fun _ _ => mayCommit_drainOver, fun _ _ => commitFlags_noOps, fun _ _ _ => commitFlags_flagWrite, ?early⟩
  case releases =>
    intro s h locs c hc hm hw
    have ends := exec_commandCommit_releases hc locs hm hw
    exact ⟨fun hg => ends.trans (congrArg _ (if_neg (ne_true_of_eq_false hg))), fun hb => ends.trans (congrArg _ (if_pos hb))⟩
  case configure => intro s h locs c k b hc hm hw; exact exec_commandCommit_configure hc locs hm hw
  case early => intro s h locs c hc hm; exact exec_commandCommit_early hc locs hm

end Sys2Proof.Machine
end

section
/-!
PROOFS. The invariant at reset and along every step, and the state after reset (R64, R83, R283, R400, R404, R409, R452, R462, R464, R470).
-/
namespace Sys2Proof.Machine

open Sys2Proof

/-! ## The invariant -/

/-- What is kept against an old queue and an old output is kept against the state's own. -/
theorem Sound.inv {q : List Instr} {o : List Out} {t : State} (h : Sound q o t) : Inv t :=
  { h with queue := rfl, sent := List.prefix_rfl }

/-- A command that has left the queue changes nothing else of what is kept. -/
theorem Sound.dequeued {q : List Instr} {o : List Out} {s : State} (h : Sound q o s) (rest : List Instr) :
    Sound rest o { s with pending := rest } :=
  { h with queue := rfl }

theorem exec_keeps_inv {i : Instr} {q : List Instr} {o : List Out} {s t : State} (h : Sound q o s) (ht : exec i s = .next t) : Inv t := by
  have sound : NSound q o (exec i s) := sound_exec i h
  rw [ht] at sound
  exact Sound.inv sound

theorem step_empty {s : State} (h : s.pending = []) : step s = .next (tick s) := by
  unfold step
  rw [h]

theorem step_front {s : State} {c : Instr} {rest : List Instr} (h : s.pending = c :: rest) : step s = exec c { s with pending := rest } := by
  unfold step
  rw [h]

/-- Settles O60: on an empty queue by what an edge keeps (`sound_tick`), else by what the front command keeps (`sound_exec`). -/
theorem stepKeepsInv : Obligations.StepKeepsInv := by
  unfold Obligations.StepKeepsInv
  intro s t h ht
  cases hq : s.pending with
  | nil =>
    rw [step_empty hq] at ht
    cases ht
    exact (sound_tick h).inv
  | cons c rest =>
    rw [step_front hq] at ht
    exact exec_keeps_inv (Sound.dequeued h rest) ht

/-- Settles O59: every list of the reset state has its length, and the log and the contexts are empty. -/
theorem resetIsSound : Obligations.ResetIsSound := by
  unfold Obligations.ResetIsSound
  exact {
    queue := rfl
    sent := List.prefix_rfl
    functions := List.length_replicate
    clamps := List.length_replicate
    sources := List.length_replicate
    targets := List.length_replicate
    log := Nat.zero_le _
    layout := Nat.two_pow_pos 32
    virtual := Nat.zero_le _
    contexts := List.Pairwise.nil }

/-! ## The state after reset -/

/-- Every event source stands at its reset values (R464, R470). -/
theorem srcOf_reset (n : Nat) : srcOf State.reset n = {} := by
  show ((List.replicate 1024 ({} : Source))[n]?).getD {} = {}
  rw [List.getElem?_replicate]
  split <;> rfl

/-- Settles O22: the fields by their reset values, the tables by the one entry that fills each. -/
theorem resetState : Obligations.ResetState := by
  unfold Obligations.ResetState
  refine ⟨rfl, rfl, rfl, rfl, rfl, rfl, rfl, rfl, rfl, rfl, rfl, rfl, rfl, rfl, rfl, List.length_replicate, ?clamps, List.length_replicate,
    ?routes, ?sources, List.length_replicate, ?targets⟩
  case clamps => intro c hc; rw [List.eq_of_mem_replicate hc]; exact ⟨rfl, rfl⟩
  case routes => intro n _ _; rw [srcOf_reset]; exact ⟨rfl, rfl⟩
  case sources => intro x hx; rw [List.eq_of_mem_replicate hx]; exact ⟨rfl, rfl, rfl, rfl⟩
  case targets => intro t ht; rw [List.eq_of_mem_replicate ht]; exact ⟨rfl, rfl, rfl⟩

end Sys2Proof.Machine
end

section
/-!
PROOFS. The packets of queues and flags (R75, R89, R93, R326, R327), the queued packets of tensors (R65, R318, R328), and the packets of clamps
(R83 to R85, R97 to R99, R334).
-/
namespace Sys2Proof.Machine

open Sys2Proof

/-! ## Packets of queues and flags -/

section
variable {s : State} {p : Packet}

/-- A verdict whose one test, that a number lies in its range, passes. -/
theorem unless_inRange {n m st : Nat} {v : Verdict} (h : n ≤ m) : Verdict.unless [(decide (m < n), st)] v = v := by
  refine unless_pass fun e he => ?_
  obtain rfl := List.mem_singleton.1 he
  exact decide_eq_false (Nat.not_lt.2 h)

/-- COMMAND_QUERY of a command of its own context. -/
theorem decideCommandQuery_pass {c : Cmd} (hc : cmdOf s (handleAt (ownParams p) 0) = some c) (ho : (handleAt (ownParams p) 0).ctx = p.ctx) :
    decideCommandQuery s (packetSender p) p = .ok (queryValue s c) := by
  unfold decideCommandQuery
  simp only [hc]
  refine unless_pass fun e he => ?_
  obtain rfl := List.mem_singleton.1 he
  simp [ho, packetSender]

/-- COMMAND_CANCEL of a command of its own context. -/
theorem decideCommandCancel_pass (hc : (cmdOf s (handleAt (ownParams p) 0)).isSome = true) (ho : (handleAt (ownParams p) 0).ctx = p.ctx) :
    decideCommandCancel s (packetSender p) p = runsAs (.atOnce 0x0011) (fun me t =>
      let r := takeCancel t (handleAt (ownParams p) 0)
      finish r.1 me (if r.2 then stOk else stAlreadyDone)) s p := by
  unfold decideCommandCancel
  refine acceptCmd_pass rfl fun e he => ?_
  simp only [List.mem_cons, List.not_mem_nil, or_false] at he
  rcases he with rfl | rfl
  · exact Option.isNone_eq_false_iff.2 hc
  · simp [ho, packetSender]

/-- FLAG_WRITE whose flag and operation lie in their ranges. -/
theorem decideFlagWrite_pass (hd : depOk s p.ctx p = true) (hf : u8 (ownParams p) 0 ≤ 63) (ha : u8 (ownParams p) 1 ≤ 1) :
    decideFlagWrite s (packetSender p) p =
      queuedAs (.flagWrite { flag := u8 (ownParams p) 0, add := u8 (ownParams p) 1 == 1, value := u32 (ownParams p) 4 }) s p := by
  unfold decideFlagWrite
  refine queueCmd_pass rfl hd fun e he => ?_
  obtain rfl := List.mem_singleton.1 he
  exact decide_eq_false (by omega)

/-- QUEUE_RESUME of a queue that contexts have. -/
theorem decideQueueResume_pass (hq : u8 (ownParams p) 0 ≤ 15) :
    decideQueueResume s (packetSender p) p =
      .ok (b2n (((ctxOf s p.ctx).map fun c => (at? c.queues (u8 (ownParams p) 0) {}).halted).getD false)) fun t =>
        settled (modCtx t p.ctx fun c => { c with queues := c.queues.modify (u8 (ownParams p) 0) fun u => { u with halted := false } }) := by
  unfold decideQueueResume
  refine (unless_inRange hq).trans ?_
  cases h : ctxOf s p.ctx <;> simp [packetSender, h]

/-- FLAG_READ of a flag that contexts have. -/
theorem decideFlagRead_pass (hf : u8 (ownParams p) 0 ≤ 63) :
    decideFlagRead s (packetSender p) p = .ok (((ctxOf s p.ctx).map fun c => at? c.flags (u8 (ownParams p) 0) 0).getD 0) := by
  unfold decideFlagRead
  refine (unless_inRange hf).trans ?_
  cases h : ctxOf s p.ctx <;> simp [packetSender, h]

end

/-- Settles O2: each packet's verdict by `decides_of`, from its decision once its own tests pass. -/
theorem queueAndFlagPackets : Obligations.QueueAndFlagPackets := by
  unfold Obligations.QueueAndFlagPackets
  refine ⟨?query, ?cancel, ?resume, ?flush, ?write, ?read⟩
  case query =>
    intro c
    refine decides_of (fun _ _ => rfl) fun s p hp => ?_
    obtain ⟨hc, ho⟩ := hp
    exact decideCommandQuery_pass hc ho
  case cancel =>
    refine decides_of (fun _ _ => rfl) fun s p hp => ?_
    obtain ⟨hc, ho⟩ := hp
    exact decideCommandCancel_pass hc ho
  case resume => exact decides_of (fun _ _ => rfl) fun s p hq => decideQueueResume_pass hq
  case flush => exact decides_of (fun _ _ => rfl) fun s p hq => unless_inRange hq
  case write =>
    refine decides_of (fun _ _ => rfl) fun s p hp => ?_
    obtain ⟨hd, hf, ha⟩ := hp
    exact decideFlagWrite_pass hd hf ha
  case read => exact decides_of (fun _ _ => rfl) fun s p hf => decideFlagRead_pass hf

/-! ## Queued packets of tensors -/

/-- A Q command with one test of its values and one of its rights, none of which fails. -/
theorem queueCmd_valid {s : State} {p : Packet} {w : Work} {bad denied : Bool} (hd : depOk s p.ctx p = true) (hb : bad = false)
    (hr : denied = false) : queueCmd s p.ctx p [(bad, stBadParam), (denied, stDenied)] w = queuedAs w s p := by
  refine queueCmd_pass rfl hd fun e he => ?_
  simp only [List.mem_cons, List.not_mem_nil, or_false] at he
  rcases he with rfl | rfl
  · exact hb
  · exact hr

section
variable {s : State} {p : Packet} (hd : depOk s p.ctx p = true)
include hd

/-- TENSOR_COPY whose tests pass. -/
theorem decideTensorCopy_pass (hs : badTensor s (handleAt (ownParams p) 0) = false) (ht : badTensor s (handleAt (ownParams p) 8) = false)
    (hl : 1 ≤ u64 (ownParams p) 32) (hu : u64 (ownParams p) 32 ≤ 2 ^ 34)
    (hm : fmtMx (fmtOf s (handleAt (ownParams p) 8)) = true → u64 (ownParams p) 24 % 32 = 0 ∧ u64 (ownParams p) 32 % 32 = 0)
    (hr : deniedTensor s p.ctx (handleAt (ownParams p) 0) false = false) (hw : deniedTensor s p.ctx (handleAt (ownParams p) 8) true = false) :
    decideTensorCopy s (packetSender p) p = queuedAs (.tensorCopy (handleAt (ownParams p) 0) (handleAt (ownParams p) 8)
      (u64 (ownParams p) 16) (u64 (ownParams p) 24) (u64 (ownParams p) 32)) s p := by
  have length : ¬ (u64 (ownParams p) 32 = 0 ∨ 2 ^ 34 < u64 (ownParams p) 32) := by omega
  have blocks : (fmtMx (fmtOf s (handleAt (ownParams p) 8)) && decide (u64 (ownParams p) 24 % 32 ≠ 0 ∨ u64 (ownParams p) 32 % 32 ≠ 0)) = false := by
    simpa using hm
  unfold decideTensorCopy
  refine queueCmd_valid hd ?_ (Bool.or_eq_false_iff.2 ⟨hr, hw⟩)
  simp only [hs, ht, decide_eq_false length, blocks, Bool.or_self]

/-- TENSOR_GATHER whose tests pass. -/
theorem decideTensorGather_pass (hs : badTensor s (handleAt (ownParams p) 0) = false) (hi : badTensor s (handleAt (ownParams p) 8) = false)
    (ht : badTensor s (handleAt (ownParams p) 16) = false) (hf : fmtOf s (handleAt (ownParams p) 8) = 0x10)
    (hn : 1 ≤ u32 (ownParams p) 24 ∧ u32 (ownParams p) 24 ≤ 16777216) (hb : 1 ≤ u32 (ownParams p) 28 ∧ u32 (ownParams p) 28 ≤ 65536)
    (hr : deniedTensor s p.ctx (handleAt (ownParams p) 0) false = false) (hx : deniedTensor s p.ctx (handleAt (ownParams p) 8) false = false)
    (hw : deniedTensor s p.ctx (handleAt (ownParams p) 16) true = false) :
    decideTensorGather s (packetSender p) p = queuedAs (.tensorGather (handleAt (ownParams p) 0) (handleAt (ownParams p) 8)
      (handleAt (ownParams p) 16) (u32 (ownParams p) 24) (u32 (ownParams p) 28)) s p := by
  have rows : ¬ (u32 (ownParams p) 24 = 0 ∨ 16777216 < u32 (ownParams p) 24 ∨ u32 (ownParams p) 28 = 0 ∨ 65536 < u32 (ownParams p) 28) := by omega
  unfold decideTensorGather
  refine queueCmd_valid hd ?_ ?_
  · simp only [hs, hi, ht, hf, decide_eq_false rows, bne_self_eq_false, Bool.or_self]
  · simp only [packetSender, hr, hx, hw, Bool.or_self]

end

/-- Settles O4: each packet's verdict by `decides_of`; its tests are one of its values and one of its rights (`queueCmd_valid`). -/
theorem tensorQueuePackets : Obligations.TensorQueuePackets := by
  unfold Obligations.TensorQueuePackets
  refine ⟨?destroy, ?read, ?write, ?copy, ?fill, ?gather⟩
  case destroy =>
    refine decides_of (fun _ _ => rfl) fun s p hp => ?_
    obtain ⟨hd, hb, ho⟩ := hp
    exact queueCmd_valid hd hb (bne_eq_false_iff_eq.2 ho)
  case read =>
    refine decides_of (fun _ _ => rfl) fun s p hp => ?_
    obtain ⟨hd, hb, ht, hr⟩ := hp
    exact queueCmd_valid hd (Bool.or_eq_false_iff.2 ⟨hb, ht⟩) hr
  case write =>
    refine decides_of (fun _ _ => rfl) fun s p hp => ?_
    obtain ⟨hd, hb, ht, hr⟩ := hp
    exact queueCmd_valid hd (Bool.or_eq_false_iff.2 ⟨hb, ht⟩) hr
  case copy =>
    refine decides_of (fun _ _ => rfl) fun s p hp => ?_
    obtain ⟨hd, hs, ht, hl, hu, hm, hr, hw⟩ := hp
    exact decideTensorCopy_pass hd hs ht hl hu hm hr hw
  case fill =>
    refine decides_of (fun _ _ => rfl) fun s p hp => ?_
    obtain ⟨hd, hb, hr⟩ := hp
    exact queueCmd_valid hd hb hr
  case gather =>
    refine decides_of (fun _ _ => rfl) fun s p hp => ?_
    obtain ⟨hd, hs, hi, ht, hf, hn, hn', hb, hb', hr, hx, hw⟩ := hp
    exact decideTensorGather_pass hd hs hi ht hf ⟨hn, hn'⟩ ⟨hb, hb'⟩ hr hx hw

/-! ## Packets of clamps -/

section
variable {s : State} {p : Packet}

/-- CLAMP_CONFIGURE whose settings pass R84, of a clamp that is unconfigured or stopped. -/
theorem decideClampConfigure_pass (hb : badSettings (ownParams p) = false)
    (hu : badUnits s (u8 (ownParams p) 0) (clampFrom (ownParams p) (clampOf s (u8 (ownParams p) 0))) = false)
    (hm : badSums s (u8 (ownParams p) 0) (clampFrom (ownParams p) (clampOf s (u8 (ownParams p) 0))) = false)
    (hs : (clampOf s (u8 (ownParams p) 0)).state = .unconfigured ∨ (clampOf s (u8 (ownParams p) 0)).state = .stopped)
    (hc : (clampOf s (u8 (ownParams p) 0)).changing = false) :
    decideClampConfigure s (packetSender p) p =
      (let k := u8 (ownParams p) 0
       let new := clampFrom (ownParams p) (clampOf s k)
       runsAs (.clampConfigure k (ownParams p)) (fun me t =>
        if storageLacks t k new then finish t me stNoSpace
        else if movesHeld t k new then modClamp t k fun c => { c with changing := true }
        else finish (configureNow t k (ownParams p)) me stOk) s p) := by
  unfold decideClampConfigure
  refine acceptCmd_pass rfl fun e he => ?_
  simp only [List.mem_cons, List.not_mem_nil, or_false] at he
  rcases he with rfl | rfl
  · simp [hb, hu, hm]
  · rcases hs with h | h <;> simp [h, hc]

/-- CLAMP_START of a stopped clamp that nothing bars. -/
theorem decideClampStart_pass (hk : u8 (ownParams p) 0 ≤ 7) (hs : (clampOf s (u8 (ownParams p) 0)).state = .stopped)
    (hc : (clampOf s (u8 (ownParams p) 0)).changing = false) (hr : (clampOf s (u8 (ownParams p) 0)).resetting = false)
    (hd : debugMoving s = false) (hv : anyBankView s (clampOf s (u8 (ownParams p) 0)) = false) :
    decideClampStart s (packetSender p) p = .ok 0 fun t =>
      settled (modClamp t (u8 (ownParams p) 0) fun c => { c with state := .running, sliceStart := t.now }) := by
  unfold decideClampStart
  refine unless_pass fun e he => ?_
  simp only [List.mem_cons, List.not_mem_nil, or_false] at he
  rcases he with rfl | rfl
  · exact decide_eq_false (Nat.not_lt.2 hk)
  · simp [hs, hc, hr, hd, hv]

/-- CLAMP_STOP of a running clamp, with a limit in its range where it drains. -/
theorem decideClampStop_pass (hk : u8 (ownParams p) 0 ≤ 7) (hm : u8 (ownParams p) 1 ≤ 1)
    (hl : u8 (ownParams p) 1 = 0 → 1000 ≤ u64 (ownParams p) 8 ∧ u64 (ownParams p) 8 ≤ 6000000000)
    (hs : (clampOf s (u8 (ownParams p) 0)).state = .running) (hc : (clampOf s (u8 (ownParams p) 0)).changing = false) :
    decideClampStop s (packetSender p) p =
      (let b := ownParams p
       let k := u8 b 0
       runsAs (.clampStop k) (fun me t =>
        let t := modClamp t k fun c =>
          { c with state := .stopping, stop := some { cmd := some me, kill := u8 b 1 == 1, deadline := t.now + u64 b 8 } }
        if u8 b 1 = 1 then settled (killClamp t k) else abandonSwitches t k) s p) := by
  have inRange : ¬ (7 < u8 (ownParams p) 0 ∨ 1 < u8 (ownParams p) 1
      ∨ (u8 (ownParams p) 1 = 0 ∧ (u64 (ownParams p) 8 < 1000 ∨ 6000000000 < u64 (ownParams p) 8))) := by omega
  unfold decideClampStop
  simp only [beq_iff_eq]
  refine acceptCmd_pass rfl fun e he => ?_
  simp only [List.mem_cons, List.not_mem_nil, or_false] at he
  rcases he with rfl | rfl
  · exact decide_eq_false inRange
  · simp [hs, hc]

/-- CLAMP_DELETE of a stopped clamp that no context and no tensor uses. -/
theorem decideClampDelete_pass (hk : u8 (ownParams p) 0 ≤ 7) (hs : (clampOf s (u8 (ownParams p) 0)).state = .stopped)
    (hc : (clampOf s (u8 (ownParams p) 0)).changing = false) (hr : (clampOf s (u8 (ownParams p) 0)).resetting = false)
    (hn : clampContexts s (u8 (ownParams p) 0) = 0) (ht : ∀ t ∈ s.store.tensors, t.clamp ≠ u8 (ownParams p) 0) :
    decideClampDelete s (packetSender p) p = .ok 0 fun t => newLayout (modClamp t (u8 (ownParams p) 0) unconfigure) := by
  have unused : (s.store.tensors.any fun t => t.clamp == u8 (ownParams p) 0) = false :=
    List.any_eq_false.2 fun t h => by simpa using ht t h
  unfold decideClampDelete
  refine unless_pass fun e he => ?_
  simp only [List.mem_cons, List.not_mem_nil, or_false] at he
  rcases he with rfl | rfl
  · exact decide_eq_false (Nat.not_lt.2 hk)
  · simp [hs, hc, hr, hn, unused]

/-- CLAMP_QUERY from the physical function or from one that the clamp is assigned to. -/
theorem decideClampQuery_pass (hk : u8 (ownParams p) 0 ≤ 7) (hf : p.fn = 0 ∨ (clampOf s (u8 (ownParams p) 0)).assign.getLsbD p.fn = true) :
    decideClampQuery s (packetSender p) p = .ok (clampValue s (u8 (ownParams p) 0)) := by
  unfold decideClampQuery
  refine unless_pass fun e he => ?_
  simp only [List.mem_cons, List.not_mem_nil, or_false] at he
  rcases he with rfl | rfl
  · exact decide_eq_false (Nat.not_lt.2 hk)
  · rcases hf with h | h <;> simp [packetSender, h]

end

/-- Settles O10: each packet's verdict by `decides_of`, from its decision once its own tests pass. -/
theorem clampPackets : Obligations.ClampPackets := by
  unfold Obligations.ClampPackets
  refine ⟨?configure, ?start, ?stop, ?delete, ?assign, ?query⟩
  case configure =>
    refine decides_of (fun _ _ => rfl) fun s p hp => ?_
    obtain ⟨hb, hu, hm, hs, hc⟩ := hp
    exact decideClampConfigure_pass hb hu hm hs hc
  case start =>
    refine decides_of (fun _ _ => rfl) fun s p hp => ?_
    obtain ⟨hk, hs, hc, hr, hd, hv⟩ := hp
    exact decideClampStart_pass hk hs hc hr hd hv
  case stop =>
    refine decides_of (fun _ _ => rfl) fun s p hp => ?_
    obtain ⟨hk, hm, hl, hs, hc⟩ := hp
    exact decideClampStop_pass hk hm hl hs hc
  case delete =>
    refine decides_of (fun _ _ => rfl) fun s p hp => ?_
    obtain ⟨hk, hs, hc, hr, hn, ht⟩ := hp
    exact decideClampDelete_pass hk hs hc hr hn ht
  case assign => exact decides_of (fun _ _ => rfl) fun s p hk => unless_inRange hk
  case query =>
    refine decides_of (fun _ _ => rfl) fun s p hp => ?_
    obtain ⟨hk, hf⟩ := hp
    exact decideClampQuery_pass hk hf

end Sys2Proof.Machine
end

section
/-!
PROOFS. The steps of start-up (R207, R285, R406, R407, R409).
-/
namespace Sys2Proof.Machine

open Sys2Proof

/-! ## Channels that leave training (R205, R207) -/

theorem chanNum_inj (st : Nat) {i j : Nat} : chanNum st i = chanNum st j ↔ i = j := Nat.add_left_cancel_iff

theorem chanOf_modChan_same (s : State) (st i : Nat) (g : Chan → Chan) : chanOf (modChan s st i g) st i = g (chanOf s st i) := by
  show (tget? (Machine.tset s.exrad.chans _ _) _).getD {} = _
  rw [tget?_tset_same, Option.getD_some]

theorem chanOf_modChan_other (s : State) (st : Nat) {i j : Nat} (h : i ≠ j) (g : Chan → Chan) :
    chanOf (modChan s st j g) st i = chanOf s st i := by
  show (tget? (Machine.tset s.exrad.chans _ _) _).getD {} = _
  rw [tget?_tset_other _ _ _ _ (mt (chanNum_inj st).1 h)]
  rfl

/-- What `trainChans` does at one channel. -/
def trainChan (st : Nat) (mask : BitVec 32) (s : State) (i : Nat) : State :=
  if mask.getLsbD i && !(chanOf s st i).trained then modChan s st i fun c => { c with trained := true, mode := .memory } else s

theorem trainChans_eq (s : State) (st : Nat) (mask : BitVec 32) : trainChans s st mask = (List.range 32).foldl (trainChan st mask) s := rfl

/-- A channel that the mask names is trained then; one that was trained stays so, whichever channel's turn it is. -/
theorem trained_trainChan {s : State} {st i j : Nat} {mask : BitVec 32}
    (h : (j = i ∧ mask.getLsbD i = true) ∨ (chanOf s st i).trained = true) : (chanOf (trainChan st mask s j) st i).trained = true := by
  unfold trainChan
  by_cases hj : i = j
  · subst hj
    split
    · rw [chanOf_modChan_same]
    · next hn =>
      rcases h with ⟨_, hm⟩ | ht
      · simpa [hm] using hn
      · exact ht
  · have ht : (chanOf s st i).trained = true := h.resolve_left fun hm => hj hm.1.symm
    split
    · rw [chanOf_modChan_other _ _ hj, ht]
    · exact ht

theorem trained_foldl_trainChan {st i : Nat} {mask : BitVec 32} (l : List Nat) (s : State)
    (h : (i ∈ l ∧ mask.getLsbD i = true) ∨ (chanOf s st i).trained = true) :
    (chanOf (l.foldl (trainChan st mask) s) st i).trained = true := by
  induction l generalizing s with
  | nil => exact h.resolve_left fun hm => List.not_mem_nil hm.1
  | cons j l ih =>
    refine ih _ ?_
    rcases h with ⟨hi, hm⟩ | ht
    · rcases List.mem_cons.1 hi with rfl | hi
      · exact .inr (trained_trainChan (.inl ⟨rfl, hm⟩))
      · exact .inl ⟨hi, hm⟩
    · exact .inr (trained_trainChan (.inr ht))

/-- The channels of a stack that its training brought, or that had trained before, are trained. -/
theorem trained_trainChans {s : State} {st i : Nat} {mask : BitVec 32} (hi : i < 32)
    (h : mask.getLsbD i = true ∨ (chanOf s st i).trained = true) : (chanOf (trainChans s st mask) st i).trained = true :=
  trainChans_eq s st mask ▸ trained_foldl_trainChan _ s (h.imp_left fun hm => ⟨List.mem_range.2 hi, hm⟩)

theorem trainChans_rst (s : State) (st : Nat) (mask : BitVec 32) : (trainChans s st mask).rst = s.rst := by
  have one (t : State) (i : Nat) : (trainChan st mask t i).rst = t.rst := by
    unfold trainChan
    split <;> rfl
  rw [trainChans_eq]
  exact List.foldlRecOn (motive := fun t => t.rst = s.rst) (List.range 32) _ rfl fun t ht i _ => (one t i).trans ht

/-! ## What follows from the end of a step (R407) -/

/-- startup_done sets when every step has ended, the stacks' as they stand then. -/
theorem advance13_ready (s : State) : (advance13 s).rst.ready =
    if startupOver { s.rst with training := (advance13 s).rst.training } then s.rst.ready ||| BitVec.ofNat 64 (2 ^ 36) else s.rst.ready := by
  unfold advance13
  dsimp only
  split <;> simp [*]

/-- A stack that has not begun to train begins when it has a predecessor in its batch order and that one has ended. -/
theorem advance13_training_idle {s : State} {k : Nat} (hk : k < 12) (hi : at? s.rst.training k .idle = .idle) :
    at? (advance13 s).rst.training k .idle =
      if k % 3 ≠ 0 ∧ (at? s.rst.training (k - 1) .idle).finished = true then .running s.now else .idle := by
  have map (f : Nat → StepState) : at? ((List.range 12).map f) k .idle = f k := by simp [at?, hk]
  unfold advance13
  dsimp only
  split <;> (dsimp only; rw [map, hi]; rfl)

/-! ## The rows -/

section
variable {s : State} {x : StartStep} (hp : s.rst.perst = false) (hl : s.rst.rootLocked = true)
include hp hl

theorem exec_startupStepDone_inTime (hs : stepLate s x = false) : exec (.startupStepDone x) s = .next (settled (stepDone s x)) :=
  congrArg Host.Outcome.next (if_neg (by simp [hp, hl, hs]))

theorem exec_startupStepLimit_met (hs : stepLate s x = true) : exec (.startupStepLimit x) s = .next (stepFailed s x) :=
  congrArg Host.Outcome.next (if_neg (by simp [hp, hl, hs]))

end

/-- A step that has not ended meets its limit at its stamp. -/
theorem limitMet_iff (s : State) (x : StepState) (n : Nat) : limitMet s x n = true ↔ x.finished = false ∧ s.rst.releasedAt + n ≤ s.now := by
  simp [limitMet]

theorem limitMet_running_iff (s : State) {x : StepState} {b : Nat} (h : x = .running b) (n : Nat) :
    limitMet s x n = true ↔ s.rst.releasedAt + n ≤ s.now := by
  rw [limitMet_iff, h]
  exact and_iff_right rfl

section
variable {s : State} {b : Nat}

theorem stepDone_hostLink (h : s.rst.hostLink = .running b) :
    stepDone s .hostLink = emit (withReady { s with rst := { s.rst with hostLink := .ok } } 1) .deviceReady := by
  simp only [stepDone, h]

theorem stepDone_security (h : s.rst.security = .running b) :
    stepDone s .security = withReady { s with
      rst := { s.rst with security := .ok }
      sec := { s.sec with svnDeferred := s.sec.running.commitSvn && decide (s.sec.svnMin < s.sec.running.svn) } } 4 := by
  simp only [stepDone, h]

theorem stepDone_kiln {d : Nat} (h : at? s.rst.kiln d .idle = .running b) (n : Nat) :
    stepDone s (.kiln d n) = withReady
      { s with rst := { s.rst with kiln := s.rst.kiln.set d .ok, cores := s.rst.cores.set d (min n 64) } } (coolBit s d (rdyKiln d)) := by
  simp only [stepDone, h]

/-- The channels of a stack on a good die, of which at least one has trained. -/
theorem stepDone_stack {k : Nat} {m : BitVec 32} (h : at? s.rst.training k .idle = .running b) (hd : dieFailed s (k / 3) = false)
    (hm : ∃ i, i < 32 ∧ (m.getLsbD i = true ∨ (chanOf s k i).trained = true)) (ends : Bool) :
    stepDone s (.stack k m ends) = withReady
      (if ends then { trainChans s k m with rst := { s.rst with training := s.rst.training.set k .ok } } else trainChans s k m)
      (coolBit s (4 + k) (rdyExrad k)) := by
  have trained : ((List.range 32).any fun i => (chanOf (trainChans s k m) k i).trained) = true := by
    obtain ⟨i, hi, hm⟩ := hm
    exact List.any_eq_true.2 ⟨i, List.mem_range.2 hi, trained_trainChans hi hm⟩
  simp only [stepDone, h]
  rw [if_neg (by simp [stackDie, hd]), if_neg (by simp [trained]), trainChans_rst]

/-- The bog, with packages on two home dies or more. -/
theorem stepDone_bog {m : BitVec 64} (h : s.rst.bog = .running b) (hm : 2 ≤ bogDies (bogMask s m)) (slow : BitVec 64) :
    stepDone s (.bog m slow) = withReady (beginServing
      { s with rst := { s.rst with bog := .ok, bogChans := bogMask s m, bogSlow := slow &&& bogMask s m } }) (2 ^ rdyBog) := by
  simp only [stepDone, h]
  exact if_neg (Nat.not_lt.2 hm)

theorem stepDone_serving (h : s.rst.serving = .running b) :
    stepDone s .serving = withReady { s with rst := { s.rst with serving := .ok } } (2 ^ rdyServing) := by
  simp only [stepDone, h]

end

/-- Settles O26: each row by `stepDone` or `stepFailed` of its step; the ends of start-up by `advance13_ready` and `advance13_training_idle`. -/
theorem startupSteps : Obligations.StartupSteps := by
  unfold Obligations.StartupSteps
  refine ⟨?late, ?limits, ?hostLink, ?security, ?kiln, ?stack, ?bog, ?serving, ?securityLimit, ?stackLimit, ?kilnLimit, ?linkDown, ?ended,
    ?going, ?next⟩
  case late =>
    intro s x hp hl
    exact ⟨fun h => congrArg Host.Outcome.next (if_pos (.inr (.inr h))), fun h => congrArg Host.Outcome.next (if_pos (by simp [h]))⟩
  case limits => intro s d; exact ⟨limitMet_iff s _ _, fun n b hb => limitMet_running_iff s hb _⟩
  case hostLink => intro s b hp hl hs hb; rw [exec_startupStepDone_inTime hp hl hs, stepDone_hostLink hb]
  case security => intro s b hp hl hs hb; rw [exec_startupStepDone_inTime hp hl hs, stepDone_security hb]
  case kiln => intro s b d n hp hl hs hb; rw [exec_startupStepDone_inTime hp hl hs, stepDone_kiln hb]
  case stack => intro s b k m ends hp hl hs hb hm hd; rw [exec_startupStepDone_inTime hp hl hs, stepDone_stack hb hd hm]
  case bog => intro s b m slow hp hl hs hb hm; rw [exec_startupStepDone_inTime hp hl hs, stepDone_bog hb hm]
  case serving => intro s b hp hl hs hb; rw [exec_startupStepDone_inTime hp hl hs, stepDone_serving hb]
  case securityLimit =>
    intro s b hp hl hb hn
    exact exec_startupStepLimit_met hp hl ((limitMet_running_iff s hb _).2 hn)
  case stackLimit =>
    intro s b k hp hl hb hn
    refine exec_startupStepLimit_met hp hl ?_
    simp [stepLate, stackLimitMet, hb, hn]
  case kilnLimit =>
    intro s b d hp hl hb hn
    exact exec_startupStepLimit_met hp hl ((limitMet_running_iff s hb _).2 hn)
  case linkDown => intro s h; exact congrArg Host.Outcome.next (if_pos h)
  case ended =>
    intro s h
    rw [advance13_ready]
    exact if_pos (List.all_eq_true.2 h)
  case going =>
    intro s ⟨x, hx, hf⟩
    rw [advance13_ready]
    refine if_neg fun ended => ?_
    exact ne_true_of_eq_false hf (List.all_eq_true.1 ended x (List.mem_append_left (s.rst.kiln ++ (advance13 s).rst.training) hx))
  case next =>
    intro s k hk _ hi
    rw [advance13_training_idle hk hi]
    refine ⟨fun h0 hf => if_pos ⟨h0, hf⟩, fun hn => if_neg ?_⟩
    rintro ⟨h0, hf⟩
    rcases hn with h | h
    · exact h0 h
    · simp [h] at hf

end Sys2Proof.Machine
end

section
/-!
PROOFS. The start of the run phase (R67, R68, R353, R420, R421), and the stops of clamps (R97).
-/
namespace Sys2Proof.Machine

open Sys2Proof

/-! ## The start of the run phase -/

theorem mayRun_waiting {s : State} {c : Cmd} (h : mayRun s c = true) : c.phase = .waiting := by
  unfold mayRun at h
  simp only [Bool.and_eq_true, beq_iff_eq] at h
  obtain ⟨⟨⟨hp, _⟩, _⟩, _⟩ := h
  exact hp

section
variable {s : State} {h : Handle} {locs : List Loc} {errs : List (Handle × Nat)} {c : Cmd} (hc : cmdOf s h = some c)
include hc

/-- A command in run: the row is its next try for a Slane channel. -/
theorem exec_runPhaseStart_again (hp : c.phase = .run) : exec (.runPhaseStart h ⟨locs, errs⟩) s = .next (serveSlane s h) := by
  refine congrArg Host.Outcome.next ?_
  simp only [hc]
  exact if_pos hp

theorem exec_runPhaseStart_early (hm : mayRun s c = false) (hp : c.phase ≠ .run) : exec (.runPhaseStart h ⟨locs, errs⟩) s = .next s := by
  refine congrArg Host.Outcome.next ?_
  simp only [hc]
  rw [if_neg hp, if_pos (by simp [hm])]

variable (hm : mayRun s c = true)
include hm

theorem exec_runPhaseStart_lost (hl : readsLost s c = true) : exec (.runPhaseStart h ⟨locs, errs⟩) s = .next (finish s h stWeightLost) := by
  refine congrArg Host.Outcome.next ?_
  simp only [hc]
  rw [if_neg (by simp [mayRun_waiting hm]), if_neg (by simp [hm]), if_pos hl]

variable (hl : readsLost s c = false)
include hl

theorem exec_runPhaseStart_hot (ht : touchesHot s c = true ∨ lacksDie s c = true) :
    exec (.runPhaseStart h ⟨locs, errs⟩) s = .next (if isServing s c then s else finish s h stThermal) := by
  refine congrArg Host.Outcome.next ?_
  simp only [hc]
  rw [if_neg (by simp [mayRun_waiting hm]), if_neg (by simp [hm]), if_neg (by simp [hl]), if_pos (by simpa using ht)]

/-- A command that nothing bars enters its run phase and begins its work, where the module's choice of places lets it. -/
theorem exec_runPhaseStart_begins (ht : touchesHot s c = false) (hd : lacksDie s c = false) :
    exec (.runPhaseStart h ⟨locs, errs⟩) s = .next
      (if placesAllowed (enterRun s h errs) h c.work locs then beginWork (enterRun s h errs) h c.work locs c else s) := by
  refine congrArg Host.Outcome.next ?_
  simp only [hc]
  rw [if_neg (by simp [mayRun_waiting hm]), if_neg (by simp [hm]), if_neg (by simp [hl]), if_neg (by simp [ht, hd])]

end

section
variable (s u : State) (h : Handle) (locs : List Loc) (c : Cmd)

/-- A program or an in-bank command begins where its places are allowed, which is where its work starts. -/
theorem begin_engines {w : Work} (hw : (∃ l, w = .program l) ∨ ∃ b, w = .inband b) :
    (if placesAllowed u h w locs then beginWork u h w locs c else s) = match startWork u h locs with | some t => arrive t h | none => s := by
  have started : (if (startWork u h locs).isSome then (match startWork u h locs with | some t => arrive t h | none => u) else s) =
      match startWork u h locs with | some t => arrive t h | none => s := by
    cases startWork u h locs <;> rfl
  rcases hw with ⟨l, rfl⟩ | ⟨b, rfl⟩ <;> exact started

/-- A data command asks for its Slane channel. -/
theorem begin_slane {w : Work} (hw : usesSlane w = true) :
    (if placesAllowed u h w locs then beginWork u h w locs c else s) = serveSlane (arrive u h) h := by
  unfold usesSlane at hw
  split at hw
  case h_6 => cases hw
  all_goals rfl

end

theorem cmdOf_modCmd {s : State} {h : Handle} {c : Cmd} {g : Cmd → Cmd} (hg : ∀ c, (g c).handle = c.handle) (hc : cmdOf s h = some c) :
    cmdOf (modCmd s h g) h = some (g c) := by
  have keeps (x : Cmd) : (if x.handle = h then g x else x).handle = x.handle := by split <;> simp [hg]
  show ((s.cmds.map _).find? _) = _
  rw [find?_map_handle keeps]
  show (cmdOf s h).map _ = _
  rw [hc, Option.map_some, if_pos (cmdOf_handle hc)]

/-- A command that has entered its run phase keeps its first snapshot, its work and its shadows. -/
theorem cmdOf_enterRun {s : State} {h : Handle} {c : Cmd} (hc : cmdOf s h = some c) (errs : List (Handle × Nat)) :
    cmdOf (enterRun s h errs) h = some { c with
      phase := .run, killed := false, runAt := s.now, snap := some (c.snap.getD (snapshotOf s c)), done := false, errs := errs
      transfer := { c.transfer with answered := false, arrived := false, resent := [] } } :=
  cmdOf_modCmd (fun _ => rfl) hc

/-- Settles O28: the row by the test that decides it, and the start of a command by what its work begins with. -/
theorem runPhase : Obligations.RunPhase := by
  unfold Obligations.RunPhase
  refine ⟨?early, ?again, ?lost, ?hot, ?begins, ?entered⟩
  case early => intro s h locs errs c hc hm hp; exact exec_runPhaseStart_early hc hm hp
  case again => intro s h locs errs c hc hp; exact exec_runPhaseStart_again hc hp
  case lost => intro s h locs errs c hc hm hl; exact exec_runPhaseStart_lost hc hm hl
  case hot => intro s h locs errs c hc hm hl ht; exact exec_runPhaseStart_hot hc hm hl ht
  case begins =>
    intro s h locs errs c hc hm hl ht hd u
    rw [exec_runPhaseStart_begins hc hm hl ht hd]
    refine ⟨fun hw => ?engines, fun t hw => ?destroy, fun o hw => ?flag, fun m x f a v hw => ?remoteFlag, fun hw => ?slane, fun hw => ?flue,
      fun hw => ?serving⟩
    case engines => exact congrArg Host.Outcome.next (begin_engines s u h locs c hw)
    case destroy => rw [hw]; rfl
    case flag => rw [hw]; rfl
    case remoteFlag => rw [hw]; rfl
    case slane => exact congrArg Host.Outcome.next (begin_slane s u h locs c hw)
    case flue => rcases hw with ⟨t, o, n, m, x, k, hw⟩ | ⟨t, o, n, d, k, hw⟩ | ⟨a, b, g, hw⟩ <;> (rw [hw]; rfl)
    case serving => rcases hw with ⟨k, r, p, n, t, hw⟩ | ⟨k, m, a, b, hw⟩ | ⟨r, hw⟩ <;> (rw [hw]; rfl)
  case entered => intro s h errs c hc; exact ⟨_, cmdOf_enterRun hc errs, rfl, rfl, rfl, rfl, rfl, rfl, rfl, rfl⟩

/-! ## Stops of clamps -/

/-- The drain limit of a stop that has not killed yet. -/
theorem exec_drainLimitExpiry_kills {s : State} {k : Nat} {x : Stop} (hx : (clampOf s k).stop = some x) (hk : x.kill = false)
    (hd : x.deadline ≤ s.now) :
    exec (.drainLimitExpiry k) s = .next (settled (killClamp (modClamp s k fun c => { c with stop := some { x with kill := true } }) k)) := by
  refine congrArg Host.Outcome.next ?_
  simp only [hx]
  exact if_pos ⟨by simp [hk], hd⟩

/-- A clamp at rest that a CLAMP_STOP command stops, with no reset of it asked for. -/
theorem exec_clampStopped_rests {s : State} {k : Nat} {x : Stop} {h : Handle} (hx : (clampOf s k).stop = some x) (hc : x.cmd = some h)
    (hs : (clampOf s k).state = .stopping) (hr : atRest s k = true) :
    let t := modClamp s k fun c => { c with state := .stopped, stop := none }
    let t := finish { t with kiln := { t.kiln with cores := t.kiln.cores.filter fun e => clampNum t e.2.ctx != k } } h stOk
    (clampOf t k).resetting = false → (clampOf t k).resetWaits = false → exec (.clampStopped k) s = .next t := by
  intro u t hreset hwaits
  refine congrArg Host.Outcome.next ?_
  simp only [hx, hc]
  rw [if_pos ⟨hs, hr⟩]
  exact (if_neg (ne_true_of_eq_false hreset)).trans (if_neg (ne_true_of_eq_false hwaits))

/-- Settles O30: each row by the branch of its meaning that the hypotheses choose. -/
theorem clampStops : Obligations.ClampStops := by
  unfold Obligations.ClampStops
  refine ⟨?drain, ?stopped⟩
  case drain => intro s k x hx hk hd; exact exec_drainLimitExpiry_kills hx hk hd
  case stopped => intro s k x h hx hc hs hr; exact exec_clampStopped_rests hx hc hs hr

end Sys2Proof.Machine
end

section
/-!
PROOFS. Messages of transfers and remote flags (R74, R81, R82, R265, R377 to R382), and the end of a transfer's wait (R381).
-/
namespace Sys2Proof.Machine

open Sys2Proof

/-! ## A message that a pair takes -/

/-- A message of the pair's current epoch is taken, and its arrival noted (R371, R372). -/
theorem taking_pair {s : State} {m : Msg} {p : Pair} (h : PairTakes s m p) (act : State → State) : taking s m act = act (stamped s m p) := by
  have taken : fromPartner s m = some (stamped s m p) := by
    unfold fromPartner
    simp only [h.pair]
    exact if_pos (by simp [h.up, h.epoch, h.lock, h.mine])
  unfold taking
  rw [taken]

section
variable {s : State} {m : Msg} {p : Pair} (h : PairTakes s m p)
include h

theorem exec_flueWithdraw_taken : exec (.flueWithdraw m) s = .next (takeWithdraw m (stamped s m p)) := congrArg Host.Outcome.next (taking_pair h _)
theorem exec_flueRefuse_taken : exec (.flueRefuse m) s = .next (stamped s m p) := congrArg Host.Outcome.next (taking_pair h id)
theorem exec_flueFlag_taken : exec (.flueFlag m) s = .next (takeFlag m (stamped s m p)) := congrArg Host.Outcome.next (taking_pair h _)
theorem exec_flagAnswer_taken : exec (.flagAnswer m) s = .next (takeFlagAnswer m (stamped s m p)) := congrArg Host.Outcome.next (taking_pair h _)
theorem exec_flueOffer_taken : exec (.flueOffer m) s = .next (takeOffer m (stamped s m p)) := congrArg Host.Outcome.next (taking_pair h _)
theorem exec_flueCancel_taken : exec (.flueCancel m) s = .next (takeCancelMsg m (stamped s m p)) := congrArg Host.Outcome.next (taking_pair h _)
theorem exec_flueData_taken : exec (.flueData m) s = .next (landData m (closeWaits (stamped s m p))) := congrArg Host.Outcome.next (taking_pair h _)

/-! A tag tells the messages of a queued command's transfer from those of a handover. -/

theorem exec_flueReady_taken : exec (.flueReady m) s = .next
    ((if isHandover m.tag then readyHandover m else takeReady m) (closeWaits (stamped s m p))) := congrArg Host.Outcome.next (taking_pair h _)

theorem exec_flueReopen_taken : exec (.flueReopen m) s = .next
    ((if isHandover m.tag then reopenHandover m else takeReopen m) (stamped s m p)) := congrArg Host.Outcome.next (taking_pair h _)

theorem exec_flueConfirm_taken : exec (.flueConfirm m) s = .next
    ((if isHandover m.tag then confirmHandover m else takeConfirm m) (stamped s m p)) := congrArg Host.Outcome.next (taking_pair h _)

theorem exec_flueAbort_taken : exec (.flueAbort m) s = .next
    ((if isHandover m.tag then abortHandover m else takeAbort m) (stamped s m p)) := congrArg Host.Outcome.next (taking_pair h _)

theorem exec_flueDecline_taken : exec (.flueDecline m) s = .next
    ((if isHandover m.tag then declineHandover m else takeDecline m) (stamped s m p)) := congrArg Host.Outcome.next (taking_pair h _)

end

/-! ## DATA (R74, R82, R378) -/

section
variable {s : State} {m : Msg}

/-- DATA of a queued command's transfer. -/
theorem landData_transfer (h : isHandover m.tag = false) : landData m s = askAll (takeData m s) := by
  unfold landData
  exact if_neg (ne_true_of_eq_false h)

/-- DATA for no context, or a copy of a consumed tag, is discarded. -/
theorem takeData_discarded (h : (ctxOf s m.dctx).isNone = true ∨ s.flue.consumed.contains (m.dctx, m.src, m.tag) = true) :
    takeData m s = s := by
  unfold takeData
  exact if_pos h

section
variable (hc : (ctxOf s m.dctx).isSome = true) (hn : s.flue.consumed.contains (m.dctx, m.src, m.tag) = false)
include hc hn

theorem data_wanted : ¬ ((ctxOf s m.dctx).isNone = true ∨ s.flue.consumed.contains (m.dctx, m.src, m.tag) = true) := by
  rw [Option.isNone_eq_false_iff.2 hc, hn]
  simp

theorem takeData_lands (hr : roomFor s m = true) :
    takeData m s =
      afterLanding ((dataBlocks m).foldl (landBlock m) (gather s 0x4002 (4096 * (dataBlocks m).length))) m.dctx m.src m.tag := by
  unfold takeData
  rw [if_neg (data_wanted hc hn), if_pos hr]

theorem takeData_refused (hr : roomFor s m = false) :
    takeData m s = sendMsg (modClamp s (clampNum s m.dctx) fun k => { k with landingRefusals := k.landingRefusals + 1 }) m.src mkRefuse
      { dst := m.src, src := 0, dctx := m.sctx, sctx := m.dctx, tag := m.tag, off := m.off } := by
  unfold takeData
  rw [if_neg (data_wanted hc hn), if_neg (ne_true_of_eq_false hr)]

end

/-- A block whose tag matches, of a sod that has not landed yet: its token is used up and its bytes stand landed. -/
theorem landBlock_good {off : Nat} (bs : Memory) (h : hasLanded s m.dctx m.src m.tag off = false) :
    (landBlock m s (off, bs, sodTag bs)).flue =
      { s.flue with
        tokens := s.flue.tokens.filter fun t => !(t.ctx == m.dctx && t.src == m.src && t.tag == m.tag && t.off == off)
        landed := s.flue.landed ++ [{ die := pairDie s m.src, ctx := m.dctx, src := m.src, tag := m.tag, off := off, bytes := bs }] } :=
  congrArg State.flue ((if_neg (ne_true_of_eq_false h)).trans (if_pos rfl))

/-! ## The other messages of a transfer (R379, R380) -/

/-- REOPEN of a tag whose data a command has taken, or has consumed: it is confirmed again. -/
theorem takeReopen_confirms (hr : receiverOf s m.dctx m.src m.tag = none)
    (h : s.flue.consumed.contains (m.dctx, m.src, m.tag) = true
      ∨ ∃ c ∈ s.cmds, c.handle.ctx = m.dctx ∧ c.transfer.taken.contains (m.src, m.tag) = true) :
    takeReopen m s = sendMsg s m.src mkConfirm { dst := m.src, src := 0, dctx := m.sctx, sctx := m.dctx, tag := m.tag } := by
  unfold takeReopen
  simp only [hr]
  refine if_pos (h.imp_right fun ⟨c, hc, hx, ht⟩ => List.any_eq_true.2 ⟨c, hc, ?_⟩)
  rw [ht, beq_iff_eq.2 hx]
  rfl

/-- REOPEN of a transfer that a command receives: its tokens are issued anew, and a command in run asks for what is missing. -/
theorem takeReopen_receiver {c : Cmd} (hr : receiverOf s m.dctx m.src m.tag = some c) :
    takeReopen m s =
      (let mine (x : Token) : Bool := x.ctx == m.dctx && x.src == m.src && x.tag == m.tag
       let u := { s with flue := { s.flue with tokens := s.flue.tokens.filter fun x => !mine x } }
       let v := (s.flue.tokens.filter mine).foldl (fun s x => issueToken s m.dctx m.src m.tag x.off x.len) u
       if c.phase = .run then askMissing v c.handle else v) := by
  unfold takeReopen
  simp only [hr]

theorem takeConfirm_sender {c : Cmd} {o : Outgoing} (hs : senderOf s m = some (c, o)) :
    takeConfirm m s =
      (let add (l : List (Nat × Nat)) : List (Nat × Nat) := if l.contains (o.partner, o.tag) then l else l ++ [(o.partner, o.tag)]
       settled (flueSettle (modCmd s c.handle fun c => { c with transfer := { c.transfer with confirmed := add c.transfer.confirmed } })
        c.handle)) := by
  unfold takeConfirm
  simp only [hs]

/-- ABORT with reason 2 ends the receiving command. -/
theorem takeAbort_ash {c : Cmd} (hm : m.status = 2) (hr : receiverOf s m.dctx m.src m.tag = some c) :
    takeAbort m s = finish s c.handle stDataAsh := by
  unfold takeAbort
  simp only [hr]
  exact if_pos hm

/-- ABORT with any other reason: parked tiles of the tag return, and a resend follows. -/
theorem takeAbort_resend (hm : m.status ≠ 2) : takeAbort m s = settled (unpark s m.dctx m.src m.tag true) := by
  unfold takeAbort
  exact if_neg hm

theorem takeDecline_sender {c : Cmd} {o : Outgoing} (hs : senderOf s m = some (c, o)) :
    takeDecline m s = finish s c.handle (if m.status = stDataAsh then stDataAsh else stCancelled) := by
  unfold takeDecline
  simp only [hs]

/-! ## Remote flags (R382) -/

/-- FLAG that its context lets partners set. -/
theorem takeFlag_applied {c : Ctx} (hc : ctxOf s m.dctx = some c) (he : c.ending = false)
    (hm : c.remoteMask.getLsbD (flagOfBody m.body).flag = true) :
    takeFlag m s = sendMsg (settled (applyFlag s m.dctx (flagOfBody m.body))) m.src mkFlagAnswer
      { dst := m.src, src := 0, dctx := m.sctx, sctx := m.dctx, status := stOk, tag := m.tag } := by
  unfold takeFlag
  simp only [hc, he, hm, Bool.not_false, Bool.and_self, if_true]

/-- FLAG for no context, for one that ends, or of a flag that its context keeps from partners. -/
theorem takeFlag_denied (h : ∀ c, ctxOf s m.dctx = some c → c.ending = true ∨ c.remoteMask.getLsbD (flagOfBody m.body).flag = false) :
    takeFlag m s = sendMsg s m.src mkFlagAnswer
      { dst := m.src, src := 0, dctx := m.sctx, sctx := m.dctx, status := stDenied, tag := m.tag } := by
  unfold takeFlag
  cases hc : ctxOf s m.dctx with
  | none => rfl
  | some c =>
    have refused : (!c.ending && c.remoteMask.getLsbD (flagOfBody m.body).flag) = false := by
      rcases h c hc with h | h <;> simp [h]
    simp only [refused, Bool.false_eq_true, if_false]

theorem takeFlagAnswer_waiting {c : Cmd} (h : s.cmds.find? (fun c => c.awaiting && Handle.encode c.handle == m.tag) = some c) :
    takeFlagAnswer m s = settled (reapContext (endCmd s c.handle (if m.status = stOk then stOk else stDenied)) c.handle.ctx) := by
  unfold takeFlagAnswer
  simp only [h]

end

/-! ## The end of a transfer's wait (R265, R381) -/

section
variable {s : State} {h : Handle} {c : Cmd} (hc : cmdOf s h = some c) (hp : c.phase = .run) (hd : c.done = false)
  (hn : nothingYet s c = true) (hw : c.runAt + waitLimitOf s h.ctx ≤ s.now)
include hc hp hd hn hw

/-- A transfer's wait that is over: its senders send ABORT, and the command ends. -/
theorem closeWait_transfer (hk : ∀ r, c.work ≠ .handover r) :
    closeWait s h = finish ((outgoing s c).foldl (fun s o => sendMsg s o.partner mkAbort
      { dst := o.partner, src := 0, dctx := o.ctx, sctx := h.ctx, status := 2, tag := o.tag }) s) h stWaitTimeout := by
  unfold closeWait
  simp only [hc] -- of the cases of the command's work, `hk` leaves the last
  rw [if_pos ⟨hp, by simp [hd], hn, hw⟩]

/-- A handover's wait that is over: the handover is given up, and its request ends. -/
theorem closeWait_handover {r : Nat} {q : Req} (hk : c.work = .handover r) (hq : reqOf s r = some q) :
    closeWait s h = failHandover (abandonHandover s q) r stWaitTimeout := by
  unfold closeWait
  simp only [hc]
  rw [if_pos ⟨hp, by simp [hd], hn, hw⟩]
  simp only [hk, hq]

end

/-- Settles O51: each row by what its message does in the stamped state, its tag telling transfers from handovers. -/
theorem flueTransferRows : Obligations.FlueTransferRows := by
  unfold Obligations.FlueTransferRows
  refine ⟨?ready, ?withdraw, ?data, ?block, ?reconfirm, ?reopen, ?confirm, ?abortAsh, ?abort, ?decline, ?flag, ?answer, ?serving, ?handover,
    fun _ => rfl, fun _ _ => rfl, ?timeout, ?handoverTimeout⟩
  case ready =>
    intro s m p h ht
    rw [exec_flueReady_taken h, ht]
    rfl
  case withdraw => intro s m p h; exact ⟨exec_flueRefuse_taken h, exec_flueWithdraw_taken h⟩
  case data =>
    intro s m p h ht
    have lands := exec_flueData_taken h
    rw [landData_transfer ht] at lands
    refine ⟨fun hc hn hr => ?room, fun hc hn hr => ?full, fun hx => ?unwanted⟩
    case room => rw [lands, takeData_lands hc hn hr]
    case full => rw [lands, takeData_refused hc hn hr]
    case unwanted => rw [lands, takeData_discarded hx]
  case block => intro s m off bs mine data h; rw [landBlock_good bs h]; exact ⟨rfl, rfl⟩
  case reconfirm =>
    intro s m p h ht hr hx
    rw [exec_flueReopen_taken h, ht, if_neg Bool.false_ne_true, takeReopen_confirms hr hx]
  case reopen =>
    intro s m p c h ht hr
    rw [exec_flueReopen_taken h, ht, if_neg Bool.false_ne_true, takeReopen_receiver hr]
  case confirm =>
    intro s m p c o h ht hs
    rw [exec_flueConfirm_taken h, ht, if_neg Bool.false_ne_true, takeConfirm_sender hs]
  case abortAsh =>
    intro s m p c h ht hm hr
    rw [exec_flueAbort_taken h, ht, if_neg Bool.false_ne_true, takeAbort_ash hm hr]
  case abort =>
    intro s m p h ht hm
    rw [exec_flueAbort_taken h, ht, if_neg Bool.false_ne_true, takeAbort_resend hm]
  case decline =>
    intro s m p c o h ht hs
    rw [exec_flueDecline_taken h, ht, if_neg Bool.false_ne_true, takeDecline_sender hs]
  case flag =>
    intro s m p h
    rw [exec_flueFlag_taken h]
    exact ⟨fun c hc he hm => congrArg Host.Outcome.next (takeFlag_applied (s := stamped s m p) hc he hm),
      fun hx => congrArg Host.Outcome.next (takeFlag_denied (s := stamped s m p) hx)⟩
  case answer => intro s m p c h hx; rw [exec_flagAnswer_taken h, takeFlagAnswer_waiting (s := stamped s m p) hx]
  case serving => intro s m p h; exact ⟨exec_flueOffer_taken h, exec_flueCancel_taken h⟩
  case handover =>
    intro s m p h ht
    rw [exec_flueReady_taken h, exec_flueReopen_taken h, exec_flueConfirm_taken h, exec_flueAbort_taken h, exec_flueDecline_taken h, ht]
    exact ⟨rfl, exec_flueData_taken h, rfl, rfl, rfl, rfl⟩
  case timeout => intro s h c hc hp hd hn hw hk; exact congrArg Host.Outcome.next (closeWait_transfer hc hp hd hn hw hk)
  case handoverTimeout => intro s h c r q hc hp hd hn hw hk hq; exact congrArg Host.Outcome.next (closeWait_handover hc hp hd hn hw hk hq)

end Sys2Proof.Machine
end

section
/-!
PROOFS. The packets of the Flue (R117, R319, R376, R382, R383).
-/
namespace Sys2Proof.Machine

open Sys2Proof

/-! ## Packets of the Flue -/

section
variable {s : State} {p : Packet} (hd : depOk s p.ctx p = true)
include hd

/-- FLUE_SEND whose tests pass. -/
theorem decideFlueSend_pass (hb : badTensor s (handleAt (ownParams p) 0) = false)
    (ht : badTag s p.ctx (u16 (ownParams p) 24) (u64 (ownParams p) 32) = false) (hn : u16 (ownParams p) 26 ≤ 1023)
    (hr : deniedTensor s p.ctx (handleAt (ownParams p) 0) false = false) :
    decideFlueSend s (packetSender p) p = queuedAs (.flueSend (handleAt (ownParams p) 0) (u64 (ownParams p) 8) (u64 (ownParams p) 16)
      (u16 (ownParams p) 24) (u16 (ownParams p) 26) (u64 (ownParams p) 32)) s p := by
  unfold decideFlueSend
  refine queueCmd_valid hd ?_ hr
  simp only [packetSender, hb, ht, decide_eq_false (Nat.not_lt.2 hn), Bool.or_self]

/-- FLUE_FLAG_SET whose context, flag and operation lie in their ranges. -/
theorem decideFlueFlagSet_pass (hn : u16 (ownParams p) 2 ≤ 1023) (hf : u8 (ownParams p) 4 ≤ 63) (ho : u8 (ownParams p) 5 ≤ 1) :
    decideFlueFlagSet s (packetSender p) p = queuedAs (.flueFlagSet (u16 (ownParams p) 0) (u16 (ownParams p) 2) (u8 (ownParams p) 4)
      (u8 (ownParams p) 5 == 1) (u32 (ownParams p) 8)) s p := by
  unfold decideFlueFlagSet
  refine queueCmd_pass rfl hd fun e he => ?_
  obtain rfl := List.mem_singleton.1 he
  exact decide_eq_false (by omega)

/-- FLUE_REDUCE whose tests pass: good values, both tensors of the context's rights, and a ready port to every member. -/
theorem decideFlueReduce_pass
    (hb : badReduce s (handleAt (ownParams p) 0) (handleAt (ownParams p) 8) (u8 (ownParams p) 16) (u8 (ownParams p) 17) = false)
    (hr : deniedTensor s p.ctx (handleAt (ownParams p) 0) false = false) (hw : deniedTensor s p.ctx (handleAt (ownParams p) 8) true = false)
    (hm : reduceUnreached s (handleAt (ownParams p) 0) (u8 (ownParams p) 16) = false) :
    decideFlueReduce s (packetSender p) p =
      queuedAs (.flueReduce (handleAt (ownParams p) 0) (handleAt (ownParams p) 8) (u8 (ownParams p) 16)) s p := by
  unfold decideFlueReduce
  refine queueCmd_pass rfl hd fun e he => ?_
  simp only [List.mem_cons, List.not_mem_nil, or_false] at he
  rcases he with rfl | rfl | rfl
  · exact hb
  · exact Bool.or_eq_false_iff.2 ⟨hr, hw⟩
  · exact hm

end

/-- Settles O9: each packet's verdict by `decides_of`, from its decision once its own tests pass. -/
theorem fluePackets : Obligations.FluePackets := by
  unfold Obligations.FluePackets
  refine ⟨?send, ?receive, ?flag, ?reduce, ?status⟩
  case send =>
    refine decides_of (fun _ _ => rfl) fun s p hp => ?_
    obtain ⟨hd, hb, ht, hn, hr⟩ := hp
    exact decideFlueSend_pass hd hb ht hn hr
  case receive =>
    refine decides_of (fun _ _ => rfl) fun s p hp => ?_
    obtain ⟨hd, hb, ht, hr⟩ := hp
    exact queueCmd_valid hd (Bool.or_eq_false_iff.2 ⟨hb, ht⟩) hr
  case flag =>
    refine decides_of (fun _ _ => rfl) fun s p hp => ?_
    obtain ⟨hd, hn, hf, ho⟩ := hp
    exact decideFlueFlagSet_pass hd hn hf ho
  case reduce =>
    refine decides_of (fun _ _ => rfl) fun s p hp => ?_
    obtain ⟨hd, hb, hr, hw, hm⟩ := hp
    exact decideFlueReduce_pass hd hb hr hw hm
  case status => exact decides_of (fun _ _ => rfl) fun _ _ _ => rfl

end Sys2Proof.Machine
end

section
/-!
PROOFS. The arithmetic instructions of a Kiln core: lane operations, reductions and conversions of the vector unit (R112, R118 to R124, R145,
R520), and the tensor array (R110 to R116, R148 to R150, R155, R157).
-/
namespace Sys2Proof.Machine

open Sys2Proof

/-! ## Instructions of a unit on a quiet core -/

section
variable {op : Nat} {body : Body} {s : State} {d n : Nat} {t : Tile} {c : Cmd} {l : Launch} {x : ExecInstr}

/-- An instruction of a unit that passes its checks on a quiet core retires, with the free values it used counted. -/
theorem issue_unit {k unit occ lat : Nat} {reads : List (Nat × Nat)} {f : List (List Byte) → List (Nat × List Byte)} {post : Tile → Tile}
    {outs : List (Nat × List Byte)} (h : KilnAt op s d n t c l x) (q : Quiet t) (hb : body s t c l x s.freeCount = unitOp l t k unit occ lat reads f post)
    (ho : f (reads.map fun r => work t r.1 r.2) = outs) (h1 : ∀ r ∈ reads, inWork l r.1 r.2 = true)
    (h2 : ∀ r ∈ outs, inWork l r.1 r.2.length = true) :
    issueExec op body s d n = retired { s with freeCount := k } (advance (post (unitDone t unit occ lat reads outs)) (t.exe.pos + 1) 1) true none := by
  subst ho
  have done := hb.trans (unit_op q l k unit occ lat reads f post h1 h2)
  unfold issueExec
  rw [h.issues]
  simp [h.going, h.fetched, h.listed, h.opcode, quiet_prune q, done]

end

/-! ## Lane operations of the vector unit -/

/-- A one-operand lane instruction's row, from its body. -/
theorem lanes1_row {op : Nat} {i : Nat → Nat → Instr} {P : Tile → ExecInstr → Prop} {body : Body} {extra mult : Nat} {f : FP32 → FP32}
    (hi : ∀ s d n, exec (i d n) s = .next (pumped (issueExec op body s d n) d n))
    (hb : ∀ s t c l x k, P t x → body s t c l x k = lanes1 extra mult f s t c l x k) :
    VectorRow op i P (fun _ _ => mult) (fun _ _ => extra) (fun t x => [(x.srcA, vecBytes t)])
      (fun _ x v => [(x.dst, fpBytes ((at? v 0 []).map f))]) :=
  vec_row hi fun s t c l x k _ _ hp => hb s t c l x k hp

/-- A two-operand lane instruction's row, from its body. -/
theorem lanes2_row {op : Nat} {i : Nat → Nat → Instr} {P : Tile → ExecInstr → Prop} {body : Body} {extra mult : Nat}
    {f : ExecInstr → FP32 → FP32 → FP32}
    (hi : ∀ s d n, exec (i d n) s = .next (pumped (issueExec op body s d n) d n))
    (hb : ∀ s t c l x k, x.opcode = op → execListed x = true → P t x → body s t c l x k = lanes2 extra mult (f x) s t c l x k) :
    VectorRow op i P (fun _ _ => mult) (fun _ _ => extra) (fun t x => [(x.srcA, vecBytes t), (x.srcB, vecBytes t)])
      (fun _ x v => [(x.dst, fpBytes (List.zipWith (f x) (at? v 0 []) (at? v 1 [])))]) :=
  vec_row hi hb

/-- A three-operand lane instruction's row; its third operand stands where its results go. -/
theorem lanes3_row {op : Nat} {i : Nat → Nat → Instr} {body : Body} {extra : Nat} {f : FP32 → FP32 → FP32 → FP32}
    (hi : ∀ s d n, exec (i d n) s = .next (pumped (issueExec op body s d n) d n)) (hb : body = lanes3 extra f) :
    VectorRow op i (fun _ _ => True) (fun _ _ => 1) (fun _ _ => extra)
      (fun t x => [(x.srcA, vecBytes t), (x.srcB, vecBytes t), (x.dst, vecBytes t)])
      (fun _ x v => [(x.dst, fpBytes (List.zipWith (fun (a, b) d => f a b d) ((at? v 0 []).zip (at? v 1 [])) (at? v 2 [])))]) :=
  vec_row hi fun _ _ _ _ _ _ _ _ _ => hb ▸ rfl

/-- VCMP is listed with its modes 0 to 3 alone (R145). -/
theorem vcmp_listed {x : ExecInstr} (ho : x.opcode = 0x26) (hl : execListed x = true) : x.mode ≤ 3 := by
  simpa [execListed, ho] using hl

/-- The comparisons of VCMP's four modes (R118). -/
theorem cmpOf_iff {m : Nat} (hm : m ≤ 3) (a b : FP32) : cmpOf m a b = true ↔
    (m = 0 ∧ fpEq a b = true) ∨ (m = 1 ∧ fpEq a b = false) ∨ (m = 2 ∧ fpLt a b = true) ∨ (m = 3 ∧ fpLe a b = true) := by
  obtain rfl | rfl | rfl | rfl : m = 0 ∨ m = 1 ∨ m = 2 ∨ m = 3 := by omega
  all_goals simp [cmpOf]

/-- The one-operand functions of VFN: mode, function, occupancy for each vector, and latency past it (R122, R155). -/
def vfnUnary : List (Nat × (FP32 → FP32) × Nat × Nat) :=
  [(0, fpExp, 1, 34), (1, fpRcp, 1, 30), (2, fpRsqrt, 1, 34), (3, fpLogistic, 2, 70), (4, fpSilu, 2, 70), (5, fpTanh, 2, 70),
    (6, fpGelu, 3, 120), (7, fpSqrt, 1, 40)]

theorem bodyVfn_unary {m mult extra : Nat} {f : FP32 → FP32} (hf : (m, f, mult, extra) ∈ vfnUnary) {x : ExecInstr} (hm : x.mode = m)
    (s : State) (t : Tile) (c : Cmd) (l : Launch) (k : Nat) : bodyVfn s t c l x k = lanes1 extra mult f s t c l x k := by
  subst hm
  simp only [vfnUnary, List.mem_cons, List.not_mem_nil, or_false, Prod.mk.injEq] at hf
  rcases hf with ⟨h, rfl, rfl, rfl⟩ | ⟨h, rfl, rfl, rfl⟩ | ⟨h, rfl, rfl, rfl⟩ | ⟨h, rfl, rfl, rfl⟩ | ⟨h, rfl, rfl, rfl⟩ | ⟨h, rfl, rfl, rfl⟩
    | ⟨h, rfl, rfl, rfl⟩ | ⟨h, rfl, rfl, rfl⟩
  all_goals simp only [bodyVfn, h]

theorem bodyVfn_div {x : ExecInstr} (hm : x.mode = 8) (s : State) (t : Tile) (c : Cmd) (l : Launch) (k : Nat) :
    bodyVfn s t c l x k = lanes2 40 1 fpDiv s t c l x k := by
  simp only [bodyVfn, hm]

theorem bodyVmov_eq (s : State) (t : Tile) (c : Cmd) (l : Launch) (x : ExecInstr) (k : Nat) : bodyVmov s t c l x k =
    vecOp l t k 1 16 [(x.srcA, vecBytes t)] fun v => [(x.dst, fpBytes (at? v 0 []))] := by
  simp only [bodyVmov, lanes1, List.map_id]

theorem bodyVcmp_eq {x : ExecInstr} (hm : x.mode ≤ 3) (s : State) (t : Tile) (c : Cmd) (l : Launch) (k : Nat) : bodyVcmp s t c l x k =
    lanes2 16 1 (fun a b => if (x.mode = 0 ∧ fpEq a b = true) ∨ (x.mode = 1 ∧ fpEq a b = false) ∨ (x.mode = 2 ∧ fpLt a b = true)
      ∨ (x.mode = 3 ∧ fpLe a b = true) then 0xFFFFFFFF else 0) s t c l x k := by
  simp only [bodyVcmp, cmpOf_iff hm]

/-- Settles O34: each row from its body, a lane operation of one, two or three operands. -/
theorem vectorLanes : Obligations.VectorLanes := by
  unfold Obligations.VectorLanes
  refine ⟨?add, ?sub, ?mul, ?fma, ?min, ?max, ?cmp, ?sel, ?mov, ?unary, ?div⟩
  case add => exact lanes2_row (body := bodyVadd) (fun _ _ _ => rfl) fun _ _ _ _ _ _ _ _ _ => rfl
  case sub => exact lanes2_row (body := bodyVsub) (fun _ _ _ => rfl) fun _ _ _ _ _ _ _ _ _ => rfl
  case mul => exact lanes2_row (body := bodyVmul) (fun _ _ _ => rfl) fun _ _ _ _ _ _ _ _ _ => rfl
  case fma => exact lanes3_row (body := bodyVfma) (fun _ _ _ => rfl) rfl
  case min => exact lanes2_row (body := bodyVmin) (fun _ _ _ => rfl) fun _ _ _ _ _ _ _ _ _ => rfl
  case max => exact lanes2_row (body := bodyVmax) (fun _ _ _ => rfl) fun _ _ _ _ _ _ _ _ _ => rfl
  case cmp =>
    exact lanes2_row (body := bodyVcmp) (fun _ _ _ => rfl) fun s t c l x k ho hl _ => bodyVcmp_eq (vcmp_listed ho hl) s t c l k
  case sel => exact lanes3_row (body := bodyVsel) (fun _ _ _ => rfl) rfl
  case mov => exact vec_row (body := bodyVmov) (fun _ _ _ => rfl) fun s t c l x k _ _ _ => bodyVmov_eq s t c l x k
  case unary =>
    intro m f mult extra hf
    exact lanes1_row (body := bodyVfn) (fun _ _ _ => rfl) fun s t c l x k hm => bodyVfn_unary hf hm s t c l k
  case div => exact lanes2_row (body := bodyVfn) (fun _ _ _ => rfl) fun s t c l x k _ _ hm => bodyVfn_div hm s t c l k

/-! ## Reductions, chunk states and conversions -/

/-- VCVT to a format (R520). -/
theorem bodyVcvt_out {t : Tile} {x : ExecInstr} (hm : x.mode = 0) (hf : fmtValid (fOut t) = true) (s : State) (c : Cmd) (l : Launch) (k : Nat) :
    bodyVcvt s t c l x k = vecOp l t k 1 22 [(x.srcA, vecBytes t)] fun v =>
      let modes := (List.range (256 * rVLEN t)).map fun j => roundingAt t (rIDXBASE t + j / 256 * rIDXROW t + j % 256 * rIDXCOL t)
      let r := convertOut (fOut t) ((at? v 0 []).map numOf) modes
      (x.dst, r.1) :: if fmtMx (fOut t) then [(x.srcB, r.2)] else [] := by
  unfold bodyVcvt
  simp only [hf, hm, Bool.not_true, Bool.false_eq_true, if_false, if_true]

/-- VCVT from a format (R520). -/
theorem bodyVcvt_in {t : Tile} {x : ExecInstr} (hm : x.mode = 1) (hf : fmtValid (fOut t) = true) (hv : 1 ≤ rVLEN t) (s : State) (c : Cmd)
    (l : Launch) (k : Nat) : bodyVcvt s t c l x k = unitOp l t k unitVector (rVLEN t) (rVLEN t + 22)
      ((x.srcA, packedBytes (fOut t) (256 * rVLEN t)) :: if fmtMx (fOut t) then [(x.srcB, 256 * rVLEN t / 32)] else [])
      fun ins => [(x.dst, fpBytes (convertIn (fOut t) (256 * rVLEN t) (at? ins 0 []) (at? ins 1 [])))] := by
  unfold bodyVcvt
  simp only [hf, hm, Bool.not_true, Bool.false_eq_true, if_false, Nat.one_ne_zero]
  rw [if_neg (by omega)]

/-- The operand of an MX format's scales is the second of an instruction that reads them, and empty otherwise. -/
theorem at?_map_scales (t : Tile) (a b : Nat × Nat) (mx : Bool) :
    at? ((a :: if mx then [b] else []).map fun r => work t r.1 r.2) 1 [] = if mx then work t b.1 b.2 else [] := by
  cases mx <;> rfl

/-- Settles O35: each row from its body; VCVT from a format reads bytes and scales as they lie, and is a unit's instruction of its own. -/
theorem vectorBlocks : Obligations.VectorBlocks := by
  unfold Obligations.VectorBlocks
  refine ⟨?sums, ?states, ?merge, ?broadcast, ?out, ?into⟩
  case sums => exact vec_row (body := bodyVchs) (fun _ _ _ => rfl) fun _ _ _ _ _ _ _ _ _ => rfl
  case states => exact vec_row (body := bodyVsmx) (fun _ _ _ => rfl) fun _ _ _ _ _ _ _ _ _ => rfl
  case merge => exact vec_row (body := bodyVmrg) (fun _ _ _ => rfl) fun _ _ _ _ _ _ _ _ _ => rfl
  case broadcast => exact vec_row (body := bodyVbc) (fun _ _ _ => rfl) fun _ _ _ _ _ _ _ _ _ => rfl
  case out => exact vec_row (body := bodyVcvt) (fun _ _ _ => rfl) fun s t c l x k _ _ hp => bodyVcvt_out hp.1 hp.2 s c l k
  case into =>
    intro s d n t c l x h q hv hm hf fmt k reads outs h1 h2
    have results : [(x.dst, fpBytes (convertIn fmt k (at? (reads.map fun r => work t r.1 r.2) 0 []) (at? (reads.map fun r => work t r.1 r.2) 1 [])))]
        = outs := by
      rw [at?_map_scales]
      rfl
    have retires := issue_unit h q (bodyVcvt_in hm hf hv s c l s.freeCount) results h1 h2
    exact congrArg (fun u => Host.Outcome.next (pumped u d n)) retires

/-! ## The tensor array: TLD -/

/-- A use of a unit or of a buffer whose occupancy is over lets the next one in (R157). -/
theorem stillBusy_over {t : Tile} {use : Nat × Nat} (h : use.2 ≤ t.exe.cycle) (k : Nat) (w : Bool) : stillBusy t k w use = false := by
  unfold stillBusy
  rw [decide_eq_false (Nat.not_lt.2 h), Bool.false_and]

/-- An instruction without results on lines leaves no reader behind that could spoil one. -/
theorem readersOf_nil (ready : Nat) (reads : List (Nat × Nat)) : readersOf ready reads [] = [] :=
  List.flatMap_eq_nil_iff.2 fun _ _ => rfl

theorem unitDone_readers_nil {t : Tile} (q : Quiet t) (unit occ lat : Nat) (reads : List (Nat × Nat)) :
    (unitDone t unit occ lat reads []).readers = [] := by
  show t.readers ++ readersOf _ reads [] = []
  rw [q.readers, readersOf_nil, List.nil_append]

/-- A tile whose stationary buffer `b` takes `y`, which its readers can rely on from `ready` on (R148, R155). -/
def bufferLoaded (b ready : Nat) (y : Stationary) (old : Option Stationary) (reads : List (Nat × Nat)) (u : Tile) : Tile :=
  { u with
    stat := u.stat.set b (some y)
    statOld := u.statOld.set b (old, ready)
    readers := u.readers ++ readersOf ready reads [.buffer b] }

/-- TLD on a quiet core, for a format that the array takes. -/
theorem bodyTld_quiet {t : Tile} (q : Quiet t) (hf : arrayFmt (fStat t) = true) (s : State) (c : Cmd) (l : Launch) (x : ExecInstr) (k : Nat) :
    let fmt := fStat t
    let b := x.mode % 2
    let occ := statBytes fmt / 512 + b2n (fmtMx fmt)
    let reads := (x.srcA, statBytes fmt) :: if fmtMx fmt then [(x.srcB, 256)] else []
    bodyTld s t c l x k = unitOp l t k unitLoader occ (occ + 12) reads (fun _ => []) (bufferLoaded b (t.exe.cycle + occ + 12)
      { fmt := fmt, data := work t x.srcA (statBytes fmt), scales := if fmtMx fmt then work t x.srcB 256 else [] } (at? t.stat b none) reads) := by
  intro fmt b occ reads
  have buffer : ¬ t.exe.cycle < (at? t.bufs b (0, 0)).2 := Nat.not_lt.2 (q.buffers b).1
  have scales := at?_map_scales t (x.srcA, statBytes fmt) (x.srcB, 256) (fmtMx fmt)
  unfold bodyTld
  rw [if_neg (by simp [hf]), if_neg (by simp [stillBusy_over (q.buffers (x.mode % 2)).1])]
  simp only [quiet_all q]
  rw [scales, if_neg buffer]
  rfl

/-! ## The tensor array: MMA -/

/-- The stationary buffer that an MMA meets; one that was never loaded holds zeros (log entry 11). -/
def bufferOf (t : Tile) (b : Nat) : Stationary :=
  (at? t.stat b none).getD { fmt := fStat t, data := zeros (statBytes (fStat t)), scales := zeros 256 }

/-- A buffer whose load is over reads as it was loaded. -/
theorem bufferNow_quiet {t : Tile} (q : Quiet t) (k b : Nat) :
    bufferNow t k b (fStat t) = ((bufferOf t b).data, (bufferOf t b).scales, (bufferOf t b).fmt != fStat t) := by
  unfold bufferNow bufferOf
  cases at? t.stat b none with
  | none => simp
  | some y => exact if_neg (Nat.not_lt.2 (q.buffers b).2)

/-- What an MMA reads: the rows, their scales, and the planes that the low ones of KIDX name. -/
def mmaReads (t : Tile) (x : ExecInstr) : List (Nat × Nat) :=
  (x.srcA, packedBytes (fStream t) 128 * rMROWS t) :: (if fmtMx (fStream t) then [(x.srcB, 4 * rMROWS t)] else [])
    ++ (List.range (lowOnes 24 (rKIDX t))).map fun i => (x.dst + i * rPSTR t, 256 * rMROWS t)

/-- The row results of an MMA against a buffer, of rows and scales; a buffer of another format gives free values from `k` on (log entry 14). -/
def mmaResults (t : Tile) (y : Stationary) (k : Nat) (rows scales : List Byte) : List FP32 :=
  let rowBytes := packedBytes (fStream t) 128
  (List.range (rMROWS t)).flatMap fun i =>
    if y.fmt = fStat t then
      rowResults (fStream t) (fStat t) (rKLEN t) (slice rows (rowBytes * i) rowBytes) (slice scales (4 * i) 4) y.data y.scales
    else (List.range 64).map fun c => Config.freeFP32 (k + 64 * i + c)

/-- What an MMA writes, of its operands: its row results with the planes added, into the next plane (R149). -/
def mmaOuts (t : Tile) (x : ExecInstr) (k : Nat) (ins : List (List Byte)) : List (Nat × List Byte) :=
  let mx := fmtMx (fStream t)
  let results := mmaResults t (bufferOf t (x.mode % 2)) k (at? ins 0 []) (if mx then at? ins 1 [] else [])
  [(x.dst + lowOnes 24 (rKIDX t) * rPSTR t,
    fpBytes ((ins.drop (if mx then 2 else 1)).foldl (fun acc p => List.zipWith fpAdd (fps p) acc) results))]

/-- The tile `u` of an MMA issued on `t`: its buffer `b` is in use for `occ` cycles, and KIDX is incremented when FMT says so (R146, R155). -/
def bufferUsed (t : Tile) (b occ : Nat) (u : Tile) : Tile :=
  { u with
    bufs := u.bufs.set b (t.exe.cycle, t.exe.cycle + occ)
    exe := if fKinc u then { u.exe with regs := u.exe.regs.set 2 ((rKIDX t + 1) % 2 ^ 24) } else u.exe }

/-- MMA on a quiet core, with its registers in their ranges. -/
theorem bodyMma_quiet {t : Tile} (q : Quiet t) (hr : 1 ≤ rMROWS t) (hr' : rMROWS t ≤ 512) (hk : 1 ≤ rKLEN t) (hk' : rKLEN t ≤ 128)
    (hs : arrayFmt (fStat t) = true) (ha : arrayFmt (fStream t) = true) (s : State) (c : Cmd) (l : Launch) (x : ExecInstr) (k : Nat) :
    let occ := mmaOcc (fStream t) (fStat t) (rMROWS t)
    bodyMma s t c l x k = unitOp l t (if (bufferOf t (x.mode % 2)).fmt = fStat t then k else k + 64 * rMROWS t) unitArray occ (occ + 24)
      (mmaReads t x) (mmaOuts t x k) (bufferUsed t (x.mode % 2) occ) := by
  intro occ
  have inRange : ¬ (rMROWS t = 0 ∨ 512 < rMROWS t ∨ rKLEN t = 0 ∨ 128 < rKLEN t ∨ (!arrayFmt (fStat t)) = true ∨ (!arrayFmt (fStream t)) = true) := by
    simp only [hs, ha, Bool.not_true, Bool.false_eq_true, or_false]
    omega
  have loaded : ¬ t.exe.cycle < (at? t.statOld (x.mode % 2) (none, 0)).2 := Nat.not_lt.2 (q.buffers _).2
  unfold bodyMma
  rw [if_neg inRange]
  simp only [bufferNow_quiet q, decide_eq_false loaded, Bool.false_and, Bool.false_eq_true, if_false, bne_iff_ne, ne_eq, ite_not]
  rfl

/-- The operands of an MMA, by their places in what it reads. -/
theorem mma_operands (t : Tile) (a b : Nat × Nat) (mx : Bool) (planes : List (Nat × Nat)) :
    let ins := (a :: (if mx then [b] else []) ++ planes).map fun r => work t r.1 r.2
    at? ins 0 [] = work t a.1 a.2 ∧ (if mx then at? ins 1 [] else []) = (if mx then work t b.1 b.2 else [])
      ∧ ins.drop (if mx then 2 else 1) = planes.map fun r => work t r.1 r.2 := by
  cases mx <;> exact ⟨rfl, rfl, rfl⟩

/-! ## The tensor array: TFL -/

/-- The planes that a TFL adds. -/
def tflPlanes (t : Tile) (x : ExecInstr) : List Nat := (setBits (rKIDX t)).map fun i => x.dst + i * rPSTR t

/-- What a TFL reads: its planes, and the addend when asked. -/
def tflReads (t : Tile) (x : ExecInstr) : List (Nat × Nat) :=
  (tflPlanes t x).map (fun p => (p, 256 * rMROWS t)) ++ if bit x.mode 0 then [(x.srcB, 256 * rMROWS t)] else []

/-- The sum of planes in ascending order, later ones on the left; zeros where there is none (R149, R150). -/
def planeSum (n : Nat) : List (List FP32) → List FP32
  | [] => List.replicate n 0
  | p :: r => r.foldl (fun acc q => List.zipWith fpAdd q acc) p

/-- What a TFL writes, of its operands. -/
def tflOuts (t : Tile) (x : ExecInstr) (ins : List (List Byte)) : List (Nat × List Byte) :=
  let n := (setBits (rKIDX t)).length
  let root := planeSum (64 * rMROWS t) ((ins.take n).map fps)
  [(x.srcA, fpBytes (if bit x.mode 0 then List.zipWith fpAdd root (fps (at? ins n [])) else root))]

/-- TFL with MROWS in its range. -/
theorem bodyTfl_eq {t : Tile} (hr : 1 ≤ rMROWS t) (hr' : rMROWS t ≤ 512) (s : State) (c : Cmd) (l : Launch) (x : ExecInstr) (k : Nat) :
    bodyTfl s t c l x k = unitOp l t k unitArray (rMROWS t) (rMROWS t + 24) (tflReads t x) (tflOuts t x) := by
  have inRange : ¬ (rMROWS t = 0 ∨ 512 < rMROWS t) := by omega
  unfold bodyTfl
  rw [if_neg inRange]
  simp only [tflReads, tflPlanes, List.map_map]
  rfl

/-- The operands of a TFL, by their places in what it reads. -/
theorem tfl_operands (t : Tile) (planes : List Nat) (n b : Nat) (add : Bool) :
    let ins := (planes.map (fun p => (p, n)) ++ if add then [(b, n)] else []).map fun r => work t r.1 r.2
    ins.take planes.length = (planes.map fun p => work t p n) ∧ (add = true → at? ins planes.length [] = work t b n) := by
  intro ins
  have parts : ins = (planes.map fun p => work t p n) ++ if add then [work t b n] else [] := by
    cases add <;> simp [ins]
  rw [parts, ← List.length_map (as := planes) (fun p => work t p n)]
  refine ⟨List.take_left, ?_⟩
  rintro rfl
  simp [at?]

/-- What a TFL writes: the sum of its planes as the work area holds them, and its addend on that sum's right. -/
theorem tflOuts_work (t : Tile) (x : ExecInstr) : tflOuts t x ((tflReads t x).map fun r => work t r.1 r.2) =
    let root := planeSum (64 * rMROWS t) ((tflPlanes t x).map fun p => fps (work t p (256 * rMROWS t)))
    [(x.srcA, fpBytes (if bit x.mode 0 then List.zipWith fpAdd root (fps (work t x.srcB (256 * rMROWS t))) else root))] := by
  obtain ⟨planes, addend⟩ := tfl_operands t (tflPlanes t x) (256 * rMROWS t) x.srcB (bit x.mode 0)
  have length : (setBits (rKIDX t)).length = (tflPlanes t x).length := (List.length_map _).symm
  simp only [tflOuts, tflReads, length]
  rw [planes, List.map_map]
  cases hb : bit x.mode 0 with
  | false => rfl
  | true =>
    rw [hb] at addend
    rw [addend rfl]
    rfl

/-- Settles O36: each row from its body on a quiet core. -/
theorem tensorArray : Obligations.TensorArray := by
  unfold Obligations.TensorArray
  refine ⟨?load, ?stream, ?fold⟩
  case load =>
    intro s d n t c l x h q hf fmt b now occ reads h1
    have retires := issue_unit h q (bodyTld_quiet q hf s c l x s.freeCount) rfl h1 (by simp)
    refine congrArg (fun u => Host.Outcome.next (pumped u d n)) (retires.trans ?_)
    unfold bufferLoaded
    rw [unitDone_readers_nil q]
    rfl
  case stream =>
    intro s d n t c l x h q hr hr' hk hk' hs ha fa rows y occ rowBytes ones plane sc results sum reads used h1 h2
    have outs : mmaOuts t x s.freeCount (reads.map fun r => work t r.1 r.2) = [(plane ones, fpBytes sum)] := by
      obtain ⟨data, scales, planes⟩ := mma_operands t (x.srcA, rowBytes * rows) (x.srcB, 4 * rows) (fmtMx fa)
        ((List.range ones).map fun i => (plane i, 256 * rows))
      simp only [mmaOuts]
      rw [data, scales, planes, List.foldl_map, List.foldl_map]
      rfl
    have retires := issue_unit h q (bodyMma_quiet q hr hr' hk hk' hs ha s c l x s.freeCount) outs h1 (by simpa using h2)
    exact congrArg (fun u => Host.Outcome.next (pumped (countRows s d n u) d n)) retires
  case fold =>
    intro s d n t c l x h q hr hr' rows add planes reads root outs h1 h2
    have results : tflOuts t x (reads.map fun r => work t r.1 r.2) = outs := tflOuts_work t x
    have retires := issue_unit h q (bodyTfl_eq hr hr' s c l x s.freeCount) results h1 h2
    exact congrArg (fun u => Host.Outcome.next (pumped u d n)) retires

end Sys2Proof.Machine
end

section
/-!
PROOFS. Control instructions of the execute stream and the order of loops (R145 to R147, R152, R155, R160), QPOP and QPUSH (R151 to R153), and
the access stream with the data that comes back (R138 to R143, R160, R163, R167).
-/
namespace Sys2Proof.Machine

open Sys2Proof

/-! ## Instructions of a stream as they issue -/

section
variable {op : Nat} {i : Nat → Nat → Instr} {body : Body} {s : State} {d n : Nat} {t u : Tile} {c : Cmd} {l : Launch} {x : ExecInstr}

/-- An instruction that is done retires, and the access stream goes on. -/
theorem exec_done {nx cy : Nat} {tag : Option Nat} (hi : exec (i d n) s = .next (pumped (issueExec op body s d n) d n))
    (h : KilnAt op s d n t c l x) (hb : body s (prune t) c l x s.freeCount = .done u nx cy s.freeCount tag) :
    exec (i d n) s = .next (issued s d n u nx cy tag) := by
  rw [hi, issue_done h hb]
  rfl

/-- An instruction that faults ends its command. -/
theorem exec_fault {k : Nat} (hi : exec (i d n) s = .next (pumped (issueExec op body s d n) d n))
    (h : KilnAt op s d n t c l x) (hb : body s (prune t) c l x s.freeCount = .fault k) :
    exec (i d n) s = .next (pumped (exeFault s t k) d n) := by
  rw [hi, issue_fault h hb]

/-- An instruction that waits is known to wait (log entry 143). -/
theorem issue_wait (h : KilnAt op s d n t c l x) (hb : body s (prune t) c l x s.freeCount = .wait) :
    issueExec op body s d n = modTile s d n fun t => { t with waiting := true } := by
  unfold issueExec
  rw [h.issues]
  simp [h.going, h.fetched, h.listed, h.opcode, hb]

end

/-! ## Control instructions -/

section
variable {s : State} {t : Tile} {c : Cmd} {l : Launch} {x : ExecInstr} {k : Nat}

theorem bodyDelay_counts (h : 1 ≤ x.imm) (h' : x.imm ≤ 65535) : bodyDelay s t c l x k = .done t (t.exe.pos + 1) x.imm k none :=
  if_neg (by omega)

/-- A body's length that LOOP and BEOS take (R145). -/
theorem bodyLength_inRange (h : 1 ≤ x.srcA) (h' : x.srcA ≤ 511) : ¬ (x.srcA = 0 ∨ 511 < x.srcA) := by omega

/-- The count that a LOOP latches: its own, or that of a count register (R147). -/
def loopCount (t : Tile) (x : ExecInstr) : Nat := if bit x.mode 4 then at? t.exe.cnt (x.dst % 16) 0 else x.dst

/-- A LOOP with a body whose length is in its range, by its count and the levels that are open. -/
theorem bodyLoop_eq (h : 1 ≤ x.srcA) (h' : x.srcA ≤ 511) : bodyLoop s t c l x k =
    if loopCount t x = 0 then .done t (t.exe.pos + 1 + x.srcA) 1 k none
    else if 4 ≤ t.exe.loops.length then .fault 5
    else .done { t with exe := { t.exe with
        loops := { first := t.exe.pos + 1, last := t.exe.pos + 1 + x.srcA, left := loopCount t x } :: t.exe.loops } } (t.exe.pos + 1) 1 k none :=
  if_neg (bodyLength_inRange h h')

/-- A BEOS with a body whose length is in its range, by its queue's size and end flag. -/
theorem bodyBeos_eq (h : 1 ≤ x.srcA) (h' : x.srcA ≤ 511) : bodyBeos s t c l x k =
    if loadQBytes l (x.mode % 8) = 0 then .fault 8
    else if at? t.endFlag (x.mode % 8) false then
      .done { t with endFlag := t.endFlag.set (x.mode % 8) false } (t.exe.pos + 1 + x.srcA) 1 k none
    else .done t (t.exe.pos + 1) 1 k none :=
  if_neg (bodyLength_inRange h h')

theorem bodyEnd_ends (h : (nextPos t.exe.loops (t.exe.pos + 1)).2 = []) :
    bodyEnd s t c l x k = .done { t with exe := { t.exe with ended := true } } (t.exe.pos + 1) 1 k none :=
  if_neg (by simp [h])

theorem bodyEnd_runsPast (h : (nextPos t.exe.loops (t.exe.pos + 1)).2 ≠ []) : bodyEnd s t c l x k = .fault 18 :=
  if_pos (by simpa using h)

end

/-! ## The order of loops -/

section
variable {l : LoopLevel} {r : List LoopLevel} {p : Nat}

theorem nextPos_inside (h : p < l.last) : nextPos (l :: r) p = (p, l :: r) := if_pos h

theorem nextPos_again (h : l.last ≤ p) (hl : 1 < l.left) : nextPos (l :: r) p = (l.first, { l with left := l.left - 1 } :: r) :=
  (if_neg (Nat.not_lt.2 h)).trans (if_pos hl)

theorem nextPos_over (h : l.last ≤ p) (hl : l.left ≤ 1) : nextPos (l :: r) p = nextPos r p :=
  (if_neg (Nat.not_lt.2 h)).trans (if_neg (Nat.not_lt.2 hl))

end

/-! ## Setup registers -/

theorem at?_set_same {α : Type} {l : List α} {i : Nat} (h : i < l.length) (a d : α) : at? (l.set i a) i d = a := by
  simp [at?, h]

theorem at?_set_other {α : Type} (l : List α) {i j : Nat} (h : j ≠ i) (a d : α) : at? (l.set i a) j d = at? l j d := by
  simp [at?, Ne.symm h]

/-- Settles O33: each control instruction from its body, and the order of loops by the branches of `nextPos`. -/
theorem kilnControl : Obligations.KilnControl := by
  unfold Obligations.KilnControl
  refine ⟨?delay, ?set, ?loop, ?beos, ?tag, ?ends, ?runsPast, fun _ => rfl, fun _ _ _ h => nextPos_inside h, fun _ _ _ h hl => nextPos_again h hl,
    fun _ _ _ h hl => nextPos_over h hl, ?registers⟩
  case delay =>
    intro s d n t c l x h hn hn'
    exact exec_done (i := .delay) rfl h (bodyDelay_counts hn hn')
  case set =>
    intro s d n t c l x h
    exact exec_done (i := .setReg) (body := bodySet) rfl h rfl
  case loop =>
    intro s d n t c l x h hn hn' count
    have loop := bodyLoop_eq (s := s) (t := prune t) (c := c) (l := l) (k := s.freeCount) hn hn'
    refine ⟨fun hc => ?skips, fun hc hl => ?opens, fun hc hl => ?full⟩
    case skips => exact exec_done (i := .execLoop) rfl h (loop.trans (if_pos hc))
    case opens => exact exec_done (i := .execLoop) rfl h (loop.trans ((if_neg hc).trans (if_neg (Nat.not_le.2 hl))))
    case full => exact exec_fault (i := .execLoop) rfl h (loop.trans ((if_neg hc).trans (if_pos (Nat.le_of_eq hl.symm))))
  case beos =>
    intro s d n t c l x h hn hn'
    have beos := bodyBeos_eq (s := s) (t := prune t) (c := c) (l := l) (k := s.freeCount) hn hn'
    refine ⟨fun hq => ?unsized, fun hq he => ?skips, fun hq he => ?passes⟩
    case unsized => exact exec_fault (i := .beos) rfl h (beos.trans (if_pos hq))
    case skips => exact exec_done (i := .beos) rfl h (beos.trans ((if_neg hq).trans (if_pos he)))
    case passes => exact exec_done (i := .beos) rfl h (beos.trans ((if_neg hq).trans (if_neg (Bool.eq_false_iff.1 he))))
  case tag =>
    intro s d n t c l x h
    exact exec_done (i := .execTag) (body := bodyTag) rfl h rfl
  case ends =>
    intro s d n t c l x h hl
    exact exec_done (i := .execEnd) rfl h (bodyEnd_ends hl)
  case runsPast =>
    intro s d n t c l x h hl
    exact exec_fault (i := .execEnd) rfl h (bodyEnd_runsPast hl)
  case registers =>
    intro t k n hk hlen u
    exact ⟨at?_set_same (hlen.symm ▸ hk) n 0, fun j hj => at?_set_other t.exe.regs hj n 0⟩

/-! ## QPOP -/

/-- A slice has the length asked for: zeros fill what the list lacks. -/
theorem length_slice (l : List Byte) (i n : Nat) : (slice l i n).length = n := by
  simp only [slice, zeros, List.length_append, List.length_take, List.length_replicate]
  omega

theorem linesOf_lines (n : Nat) : linesOf (64 * n) = n := by
  unfold linesOf ceilDiv
  omega

/-- A result written on a quiet core spoils no reader, and is the one write in flight. -/
theorem writePad_quiet {t : Tile} (q : Quiet t) (k line ready : Nat) (bs : List Byte) : writePad t k line ready bs =
    ({ t with
      pad := wrBytes t.pad (64 * line) bs
      flights := [{ line := line, ready := ready, old := work t line (64 * linesOf bs.length) }] }, k) := by
  have unread : lateReaders t line (linesOf bs.length) = [] := by simp [lateReaders, q.readers]
  simp only [writePad, unread, q.flights, List.foldl_nil]
  rfl

section
variable {s : State} {t : Tile} {c : Cmd} {l : Launch} {x : ExecInstr} {k : Nat}

/-- The tile of a QPOP on a quiet core (R151): the bytes before the marker, filled up with zeros, stand in the work area; a marker that cuts
them short is taken, and sets the end flag. -/
def popped (t : Tile) (x : ExecInstr) : Tile :=
  let q := x.mode % 8
  let n := 64 * x.srcA
  let taken := popBytes n (at? t.loadQ q [])
  let occ := ceilDiv taken.1.length 512
  let short := decide (taken.1.length < n)
  { t with
    pad := wrBytes t.pad (64 * x.dst) (slice taken.1 0 n)
    flights := [{ line := x.dst, ready := t.exe.cycle + occ + 4, old := work t x.dst n }]
    loadQ := t.loadQ.set q (if short then taken.2.drop 1 else taken.2)
    endFlag := if short then t.endFlag.set q true else t.endFlag
    units := t.units.set unitPop (t.exe.cycle, t.exe.cycle + occ)
    waitAt := if t.waiting then some t.exe.cycle else t.waitAt }

theorem popShort_enough (h : 64 * x.srcA ≤ (popAhead (at? t.loadQ (x.mode % 8) [])).1 ∨ (popAhead (at? t.loadQ (x.mode % 8) [])).2 = true) :
    popShort t x = false := by
  rcases h with h | h
  · simp only [popShort, decide_eq_false (Nat.not_lt.2 h), Bool.false_and]
  · simp only [popShort, h, Bool.not_true, Bool.and_false]

/-- A QPOP on a quiet core of lines that its queue and the work area can hold, by what the queue holds now. -/
theorem bodyQpop_eq (quiet : Quiet t) (hn : 1 ≤ x.srcA) (hn' : x.srcA ≤ 512) (hq : 64 * x.srcA ≤ loadQBytes l (x.mode % 8))
    (hw : inWork l x.dst (64 * x.srcA) = true) : bodyQpop s t c l x k =
      if popShort t x then popWaits s t c l (x.mode % 8) else .done (popped t x) (t.exe.pos + 1) 1 k none := by
  have inRange : ¬ (x.srcA = 0 ∨ 512 < x.srcA) := by omega
  have fits : ¬ (loadQBytes l (x.mode % 8) = 0 ∨ loadQBytes l (x.mode % 8) < 64 * x.srcA) := by omega
  have idle := quiet.units unitPop
  unfold bodyQpop
  rw [if_neg inRange, if_neg fits, if_neg (by simp [hw]), if_neg (c := stillBusy _ _ _ _ = true) (by simp [stillBusy_over idle])]
  simp only [if_neg (Nat.not_lt.2 idle), writePad_quiet quiet, length_slice, linesOf_lines]
  rfl

/-- A pop whose queue has a request on its way, none of them for a partner's data, waits (R151, R152). -/
theorem popWaits_pending {q : Nat} (hr : ∃ r ∈ t.acc.reqs, r.queue = q ∧ r.got = none) (hk : ∀ r ∈ t.acc.reqs, (slotAt l r.slot).kind ≠ 2) :
    popWaits s t c l q = .wait := by
  have found : (t.acc.reqs.find? fun r => r.queue == q && r.got.isNone).isSome = true := by
    simpa [List.find?_isSome] using hr
  obtain ⟨r, hf⟩ := Option.isSome_iff_exists.1 found
  unfold popWaits
  rw [hf]
  exact if_neg fun h => hk r (List.mem_of_find?_eq_some hf) h.1

end

/-! ## QPUSH -/

/-- Rows and columns of a QPUSH, the shift in its layout and the block edge that it makes (0 for a plain layout), the queue of the scales,
and the number of elements (R146, R153). -/
abbrev pushRows (t : Tile) : Nat := bits (rQSHAPE t) 15 0
abbrev pushCols (t : Tile) : Nat := bits (rQSHAPE t) 31 16
abbrev pushShift (t : Tile) : Nat := bits (rLAYOUT t) 4 1
abbrev pushEdge (t : Tile) : Nat := if pushShift t = 0 then 0 else 2 ^ pushShift t
abbrev scaleQueue (t : Tile) : Nat := bits (rLAYOUT t) 6 5
abbrev pushCount (t : Tile) : Nat := pushRows t * pushCols t

/-- A QPUSH that passes its checks: a block of a listed format in a layout that fits it, in the work area, with room in its queues for data
and, in an MX format, for scales. -/
structure PushFits (t : Tile) (l : Launch) (x : ExecInstr) : Prop where
  format : fmtValid (fOut t) = true
  going : t.acc.ended = false
  rows : pushRows t ≠ 0
  cols : pushCols t ≠ 0
  shift : pushShift t ≤ 8
  blocks : pushShift t ≠ 0 → pushRows t % 2 ^ pushShift t = 0 ∧ pushCols t % 2 ^ pushShift t = 0
  scales : fmtMx (fOut t) = true → pushCount t % 32 = 0 ∧ x.mode % 4 ≠ scaleQueue t
  sized : storeQBytes l (x.mode % 4) ≠ 0
  room : (at? t.storeQ (x.mode % 4) []).length + packedBytes (fOut t) (pushCount t) ≤ storeQBytes l (x.mode % 4)
  inArea : inWork l x.srcA (4 * pushCount t) = true
  scaleRoom : fmtMx (fOut t) = true → (at? t.storeQ (scaleQueue t) []).length + pushCount t / 32 ≤ storeQBytes l (scaleQueue t)

/-- What a QPUSH converts: element bytes and scale bytes of its block in the order of its layout (R106 to R108, R153). -/
def pushBytes (t : Tile) (x : ExecInstr) : List Byte × List Byte :=
  let vals := fps (work t x.srcA (4 * pushCount t))
  let order := pushOrder (pushRows t) (pushCols t) (bit (rLAYOUT t) 0) (pushEdge t)
  convertOut (fOut t) (order.map fun (i, j) => numOf (at? vals (i * pushCols t + j) 0))
    (order.map fun (i, j) => roundingAt t (rIDXBASE t + i * rIDXROW t + j * rIDXCOL t))

/-- The tile of a QPUSH on a quiet core. -/
def pushed (t : Tile) (x : ExecInstr) : Tile :=
  let q := x.mode % 4
  let mx := fmtMx (fOut t)
  let occ := ceilDiv (4 * pushCount t) 1024 + (if mx then 8 else 0)
  let r := pushBytes t x
  { t with
    storeQ := if mx then pushQ (pushQ t.storeQ q r.1) (scaleQueue t) r.2 else pushQ t.storeQ q r.1
    units := t.units.set unitPush (t.exe.cycle, t.exe.cycle + occ)
    readers := readersOf (t.exe.cycle + occ + 16) [(x.srcA, 4 * pushCount t)]
      (if mx then [ReadDst.queue q (packedBytes (fOut t) (pushCount t)), ReadDst.queue (scaleQueue t) (pushCount t / 32)]
        else [ReadDst.queue q r.1.length])
    waitAt := if t.waiting then some t.exe.cycle else t.waitAt }

section
variable {s : State} {t : Tile} {c : Cmd} {l : Launch} {x : ExecInstr} {k : Nat} (f : PushFits t l x)
include f

/-- Data and scales of an MX format go to two queues. -/
theorem PushFits.apart : (fmtMx (fOut t) && x.mode % 4 == scaleQueue t) = false := by
  cases hm : fmtMx (fOut t) with
  | false => rfl
  | true => simpa using (f.scales hm).2

theorem PushFits.notFull : pushFull t l x = false := by
  cases hm : fmtMx (fOut t) with
  | false => simpa [pushFull, hm] using f.room
  | true => simpa [pushFull, hm, (f.scales hm).2] using ⟨f.room, f.scaleRoom hm⟩

/-- The block of a QPUSH divides into the blocks of its layout, either way round. -/
theorem PushFits.divides (b : Bool) :
    ¬ ((pushEdge t ≠ 0 ∧ ((if b then pushCols t else pushRows t) % pushEdge t ≠ 0 ∨ (if b then pushRows t else pushCols t) % pushEdge t ≠ 0))
      ∨ (fmtMx (fOut t) ∧ pushCount t % 32 ≠ 0)) := by
  rintro (⟨he, hr⟩ | ⟨hm, hr⟩)
  · have hv : pushShift t ≠ 0 := fun h => he (if_pos h)
    have edge : pushEdge t = 2 ^ pushShift t := if_neg hv
    obtain ⟨rows, cols⟩ := f.blocks hv
    rw [edge] at hr
    cases b <;> simp [rows, cols] at hr
  · exact hr (f.scales hm).1

/-- The queues of a QPUSH are large enough for what it pushes. -/
theorem PushFits.sizes : ¬ (storeQBytes l (x.mode % 4) < packedBytes (fOut t) (pushCount t) ∨ storeQBytes l (x.mode % 4) = 0
    ∨ (fmtMx (fOut t) = true ∧ storeQBytes l (scaleQueue t) < if fmtMx (fOut t) then pushCount t / 32 else 0) ∨ t.acc.ended = true) := by
  rintro (h | h | ⟨hm, h⟩ | h)
  · have := f.room; omega
  · exact f.sized h
  · have := f.scaleRoom hm
    rw [if_pos hm] at h
    omega
  · exact Bool.false_ne_true (f.going.symm.trans h)

/-- A QPUSH that passes its checks on a quiet core. -/
theorem bodyQpush_moves (quiet : Quiet t) : bodyQpush s t c l x k = .done (pushed t x) (t.exe.pos + 1) 1 k none := by
  have inRange : ¬ (pushRows t = 0 ∨ pushCols t = 0 ∨ 8 < pushShift t ∨ (!fmtValid (fOut t)) = true) := by
    simp [f.rows, f.cols, f.shift, f.format]
  have idle := quiet.units unitPush
  unfold bodyQpush
  simp only [f.apart, Bool.false_eq_true, if_false, Nat.add_zero]
  rw [if_neg inRange, if_neg (f.divides (bit (rLAYOUT t) 0)), if_neg f.sizes, if_neg (by simp [f.inArea]), if_neg (by simp [f.notFull]),
    if_neg (by simp [stillBusy_over idle])]
  simp only [if_neg (Nat.not_lt.2 idle), quiet_all quiet, quiet.readers, Bool.not_false, Bool.and_true, List.nil_append]
  unfold pushed
  cases hm : fmtMx (fOut t) <;> rfl

end

/-- Settles O37: each row from its body on a quiet core, or from what a pop does that finds too little. -/
theorem queuePops : Obligations.QueuePops := by
  unfold Obligations.QueuePops
  refine ⟨?moves, ?waits, ?pushes⟩
  case moves =>
    intro s d n t c l x h q hn hn' queue k items taken occ short hq hw hp
    refine exec_done (i := .qpop) (body := bodyQpop) rfl h ?_
    rw [quiet_prune q]
    exact (bodyQpop_eq q hn hn' hq hw).trans (if_neg (by simp [popShort_enough hp]))
  case waits =>
    intro s d n t c l x h q hn hn' hq hw hp hr hk
    have waits : bodyQpop s (prune t) c l x s.freeCount = .wait := by
      rw [quiet_prune q, bodyQpop_eq q hn hn' hq hw, if_pos hp, popWaits_pending hr hk]
    exact congrArg (fun u => Host.Outcome.next (pumped u d n)) (issue_wait h waits)
  case pushes =>
    intro s d n t c l x h quiet hf he q sq rows cols v transpose mx count k occ vals order r hr hc hv hb hm hs hroom hw hroom'
    refine exec_done (i := .qpush) (body := bodyQpush) rfl h ?_
    rw [quiet_prune quiet]
    exact bodyQpush_moves
      { format := hf, going := he, rows := hr, cols := hc, shift := hv, blocks := hb, scales := hm, sized := hs, room := hroom, inArea := hw
        scaleRoom := hroom' } quiet

/-! ## Entries of the access stream -/

section
variable {op : Nat} {body : AccBody} {s : State} {d n : Nat} {t : Tile} {c : Cmd} {l : Launch} {e : Entry}

/-- The entry of a row issues as its body says. -/
theorem issueAcc_at (h : EntryAt op s d n t c l e) : issueAcc op body s d n = body s t c l e := by
  unfold issueAcc
  rw [h.issues]
  simp [h.going, h.fetched, h.good, h.opcode]

theorem accLoad_issues (hs : emptySlot l e.slot = false) (hq : loadQBytes l e.queue ≠ 0) (hr : t.acc.loads.length + t.acc.stores.length < 512) :
    accLoad s t c l e = modTile s t.die t.core fun _ => { t with acc := { t.acc with
      pos := t.acc.pos + 1, loads := t.acc.loads ++ [nestOf t e] } } := by
  unfold accLoad
  rw [if_neg (by simp [hs]), if_neg hq, if_neg (Nat.not_le.2 hr)]

theorem accStore_issues (hs : emptySlot l e.slot = false) (hk : (slotAt l e.slot).kind ≠ 2) (hk' : (slotAt l e.slot).kind ≠ 8)
    (hq : storeQBytes l e.queue ≠ 0) (hq' : e.run ≤ storeQBytes l e.queue) (hr : t.acc.loads.length + t.acc.stores.length < 512) :
    let u : Tile := { t with acc := { t.acc with pos := t.acc.pos + 1 } }
    accStore s t c l e =
      if (nestOf t e).points = 0 then retired s { u with acc := { u.acc with retired := t.acc.retired + 1 } } false (some e.tag)
      else modTile s t.die t.core fun _ => { u with acc := { u.acc with stores := t.acc.stores ++ [nestOf t e] } } := by
  have reaches : ¬ (emptySlot l e.slot = true ∨ (slotAt l e.slot).kind = 2 ∨ (slotAt l e.slot).kind = 8) := by simp [hs, hk, hk']
  have fits : ¬ (storeQBytes l e.queue = 0 ∨ storeQBytes l e.queue < e.run) := by omega
  unfold accStore
  rw [if_neg reaches, if_neg fits, if_neg (Nat.not_le.2 hr)]

/-- A signed count as CNTADD keeps it between 0 and 0xFFFF_FFFF (R140). -/
theorem toNat_saturated (v : Int) : (max 0 (min 0xFFFFFFFF v)).toNat = if v < 0 then 0 else if 0xFFFFFFFF < v then 0xFFFFFFFF else v.toNat := by
  split
  · omega
  · split <;> omega

theorem accEnd_drained (hl : t.acc.loads = []) (hs : t.acc.stores = []) (hq : ∀ q ∈ t.storeQ, q = []) :
    accEnd s t c l e = retired s { accNext t with acc := { (accNext t).acc with ended := true } } false none := by
  have drained : ¬ (t.storeQ.any fun q => !q.isEmpty) = true := by simpa using hq
  unfold accEnd
  rw [if_pos (by simp [hl, hs]), if_neg drained]

end

/-! ## Data that comes back -/

section
variable {s : State} {d n : Nat} {t : Tile} {c : Cmd} {l : Launch} {k : Nat}

/-- Data that comes back to a tile of a command in its run phase, halted or not (R163). -/
theorem exec_loadDataReturn (ht : tileOn s d n = some t) (hc : cmdOf s t.cmd = some c) (hl : launchOf c = some l) (hp : c.phase = .run)
    (hm : t.committing = false) (err : MemErr) :
    exec (.loadDataReturn d n k err) s = .next (pumped (loadReturn s t c l k err) d n) := by
  show execLoadDataReturn d n k err s = _
  unfold execLoadDataReturn
  simp only [ht, hc, hl]
  rw [if_pos ⟨hp, by simp [hm]⟩]

section
variable {r : LoadReq} (hr : t.acc.reqs[k]? = some r) (hg : r.got = none) (hk : (slotAt l r.slot).kind = 1)
include hr hg hk

/-- A request of a tensor that is not the next of its channel has no effect yet (R172, R360). -/
theorem loadReturn_outOfTurn (hs : servedNext s r = false) (err : MemErr) : loadReturn s t c l k err = s := by
  unfold loadReturn
  simp only [hr, hg, hk, hs]
  cases tensorAny s (slotHandle l r.slot) <;> rfl

/-- The bytes of a request whose sods can be read answer it, and their channels' service is counted. -/
theorem loadReturn_reads {x : Tensor} (hx : tensorAny s (slotAt l r.slot).handle = some x) (hs : servedNext s r = true)
    (hu : firstUnread c (slotAt l r.slot).handle (viewOf s c (slotAt l r.slot).handle) (sodsOf (sodBase x r.plane) r.off r.len) = none) :
    let h := (slotAt l r.slot).handle
    loadReturn s t c l k .none = answerReq (servedRun s c.handle.ctx h (viewOf s c h) (sodBase x r.plane) r.off r.len .normal) t k
      (readView (viewOf s c h) (sodBase x r.plane) r.off r.len) := by
  have handle : slotHandle l r.slot = (slotAt l r.slot).handle := if_neg (by simp [hk])
  have patch : patchBad s c (slotAt l r.slot) = none := if_neg (by simp [hk])
  unfold loadReturn
  simp [hr, hg, hk, handle, hx, hs, ite_self, storedRead_none, hu, patch, loadBytes]

end

end

/-- ABORT of a channel that has been halted for its context's wait limit (R167). -/
theorem exec_slaneHaltTimeout {s : State} {h t : Handle} {n since off : Nat} {q : SlaneChan} (hq : slaneOf s h = some (n, q))
    (hh : q.halt = some (since, t, off)) (hw : since + ((ctxOf s h.ctx).map (·.waitLimit)).getD 0 ≤ s.now) :
    exec (.slaneHaltTimeout h) s = .next (finish s h stDataAsh) := by
  obtain ⟨cmd, began, halt⟩ := q
  obtain rfl : halt = some (since, t, off) := hh
  show execSlaneHaltTimeout h s = _
  unfold execSlaneHaltTimeout
  rw [hq]
  exact congrArg Host.Outcome.next (if_pos hw)

/-- Settles O38: each entry from its body, and data that comes back by the turn of its request's channel. -/
theorem accessStream : Obligations.AccessStream := by
  unfold Obligations.AccessStream
  refine ⟨?load, ?store, ?setcnt, ?cntadd, ?ends, ?reads, ?outOfTurn, ?halted⟩
  case load =>
    intro s d n t c l e h hs hq hr
    exact congrArg (fun u => Host.Outcome.next (pumped u d n)) ((issueAcc_at h).trans (accLoad_issues hs hq hr))
  case store =>
    intro s d n t c l e h hs hk hk' hq hq' hr u
    exact congrArg (fun u => Host.Outcome.next (pumped u d n)) ((issueAcc_at h).trans (accStore_issues hs hk hk' hq hq' hr))
  case setcnt =>
    intro s d n t c l e h
    exact congrArg Host.Outcome.next (issueAcc_at (body := accSetcnt) h)
  case cntadd =>
    intro s d n t c l e h v
    rw [← toNat_saturated v]
    exact congrArg Host.Outcome.next (issueAcc_at (body := accCntadd) h)
  case ends =>
    intro s d n t c l e h hl hs hq
    exact congrArg (fun u => Host.Outcome.next (hopelessNow u d n)) ((issueAcc_at h).trans (accEnd_drained hl hs hq))
  case reads =>
    intro s d n t c l k r x ht hc hl hp hm hr hg hk hx b base view hs hu
    rw [exec_loadDataReturn ht hc hl hp hm, loadReturn_reads hr hg hk hx hs hu]
  case outOfTurn =>
    intro s d n t c l k r ht hc hl hp hm hr hg hk hs
    rw [exec_loadDataReturn ht hc hl hp hm, loadReturn_outOfTurn hr hg hk hs]
  case halted => intro s h t n since off q hq hh hw; exact exec_slaneHaltTimeout hq hh hw

end Sys2Proof.Machine
end

section
/-!
PROOFS. Channels and Ember units: the modes of a channel (R171 to R178), the commands of a unit (R176, R195, R203, R204), refresh and reseal
(R184, R185, R191 to R196, R360), and accesses through a trigger window (R177, R199 to R203).
-/
namespace Sys2Proof.Machine

open Sys2Proof

/-! ## The modes of a channel -/

section
variable {s : State} {st ch : Nat}

/-- What a channel must meet to be asked for processor mode (R171, R196, R426). -/
theorem admitsProcessor_iff : admitsProcessor s st ch = true ↔
    (chanOf s st ch).mode = .memory ∧ smoulders s st = false ∧ powerBlocks s.pwr = false ∧ keepsRead s st ch = false := by
  simp [admitsProcessor, and_assoc]

theorem exec_processorModeRequest_admitted {tr : Bool} (ha : admitsProcessor s st ch = true) (hw : chanWork s st ch = true)
    (hf : methodFits s st ch tr = true) : exec (.processorModeRequest st ch tr) s = .next (modChan s st ch fun c => { c with
      mode := .toProcessor, trigger := tr, asker := chanAsker s st ch, abandon := false }) :=
  congrArg Host.Outcome.next (if_pos ⟨ha, hw, hf⟩)

theorem exec_processorModeRequest_ignored {tr : Bool}
    (h : ¬ (admitsProcessor s st ch = true ∧ chanWork s st ch = true ∧ methodFits s st ch tr = true)) :
    exec (.processorModeRequest st ch tr) s = .next s :=
  congrArg Host.Outcome.next (if_neg h)

theorem requestMemory_processor (hm : (chanOf s st ch).mode = .processor) : requestMemory s st ch =
    modChan s st ch fun c => { c with mode := .toMemory, units := c.units.map fun u => (u.1, askYield u.2) } := by
  unfold requestMemory
  rw [hm]

theorem requestMemory_toProcessor (hm : (chanOf s st ch).mode = .toProcessor) :
    requestMemory s st ch = modChan s st ch fun c => { c with abandon := true } := by
  unfold requestMemory
  rw [hm]

theorem exec_holdLimitExpiry_over (h : holdOver s st ch = true) : exec (.holdLimitExpiry st ch) s = .next (requestMemory s st ch) :=
  congrArg Host.Outcome.next (if_pos h)

theorem exec_holdLimitExpiry_early (h : holdOver s st ch = false) : exec (.holdLimitExpiry st ch) s = .next s :=
  congrArg Host.Outcome.next (if_neg (ne_true_of_eq_false h))

theorem exec_processorModeEntered_ignored (h : (chanOf s st ch).mode ≠ .toProcessor ∨ (chanOf s st ch).refreshing = true) :
    exec (.processorModeEntered st ch) s = .next s := by
  refine congrArg Host.Outcome.next (if_neg ?_)
  rintro ⟨hm, hr⟩
  rcases h with h | h
  · exact h hm
  · simp [h] at hr

/-- A channel whose switch to processor mode ends, with the switch counted (R173, R203). -/
def switched (s : State) (st ch : Nat) : State :=
  gather (modChan s st ch fun c => { c with switches := (c.switches + 1) % 2 ^ 32 }) 0x2001 1

section
variable (hm : (chanOf s st ch).mode = .toProcessor) (hr : (chanOf s st ch).refreshing = false)
include hm hr

theorem exec_processorModeEntered_switched : exec (.processorModeEntered st ch) s = .next
    (if (chanOf s st ch).abandon = true ∨ (!chanWork (switched s st ch) st ch) = true
      then modChan (switched s st ch) st ch fun c => { c with mode := .toMemory, abandon := false }
      else releaseHeld (modChan (switched s st ch) st ch fun c => { c with mode := .processor }) st ch) :=
  congrArg Host.Outcome.next (if_pos ⟨hm, by simp [hr]⟩)

/-- With its work gone the channel is at once on its way back (R178). -/
theorem exec_processorModeEntered_back (h : (chanOf s st ch).abandon = true ∨ chanWork (switched s st ch) st ch = false) :
    exec (.processorModeEntered st ch) s = .next
      (modChan (switched s st ch) st ch fun c => { c with mode := .toMemory, abandon := false }) := by
  rw [exec_processorModeEntered_switched hm hr, if_pos (h.imp_right fun w => by simp [w])]

theorem exec_processorModeEntered_work (ha : (chanOf s st ch).abandon = false) (hw : chanWork (switched s st ch) st ch = true) :
    exec (.processorModeEntered st ch) s = .next
      (releaseHeld (modChan (switched s st ch) st ch fun c => { c with mode := .processor }) st ch) := by
  rw [exec_processorModeEntered_switched hm hr, if_neg (by simp [ha, hw])]

end

theorem exec_memoryModeEntered_idle (hm : (chanOf s st ch).mode = .toMemory) (hr : (chanOf s st ch).refreshing = false)
    (hu : ∀ u ∈ (chanOf s st ch).units, u.2.state ≠ .running ∧ u.2.state ≠ .refreshPause) :
    exec (.memoryModeEntered st ch) s = .next (chargeChan (gather (modChan (noteActive s (4 + st)) st ch fun c => { c with
      mode := .memory, switches := (c.switches + 1) % 2 ^ 32 }) 0x2001 1) st ch) := by
  have stands : ((chanOf s st ch).units.any fun u => u.2.state == .running || u.2.state == .refreshPause) = false := by
    rw [List.any_eq_false]
    intro u hmem
    obtain ⟨runs, pauses⟩ := hu u hmem
    simp [runs, pauses]
  exact congrArg Host.Outcome.next (if_pos ⟨hm, by simp [stands], by simp [hr]⟩)

end

/-! ## A yield asked for (R174, R195) -/

section
variable {u : EUnit}

theorem askYield_running (h : u.state = .running) : askYield u = { u with yieldStop := true } := if_pos h

theorem askYield_pause (h : u.state = .refreshPause) :
    askYield u = if u.atYield then { u with state := .suspended } else { u with yieldStop := true } := by
  unfold askYield
  rw [if_neg (by simp [h]), if_pos h]

theorem askYield_other (hr : u.state ≠ .running) (hp : u.state ≠ .refreshPause) : askYield u = u := by
  unfold askYield
  rw [if_neg hr, if_neg hp]

end

/-! ## Commands of a unit -/

section
variable {s : State} {st ch un : Nat}

section
variable {entry tag : Nat}

/-- A START at a unit at work is refused and counted (R203). -/
theorem stokerStart_busy (hb : (unitOf s st ch un).state.busy = true) : stokerStart s st ch un entry tag =
    modChan s st ch fun c => { c with refusedWrites := satAdd 255 c.refusedWrites 1 } := if_pos hb

variable (hb : (unitOf s st ch un).state.busy = false)
include hb

theorem stokerStart_bankView (hm : (chanOf s st ch).mode = .bankView) : stokerStart s st ch un entry tag =
    setUnit s st ch un (bankUnit (unitOf s st ch un) entry tag) := by
  unfold stokerStart
  rw [if_neg (by simp [hb]), if_pos hm]

theorem stokerStart_starts {c : Cmd} {b : InbankBlock} {p : Nat} (hm : (chanOf s st ch).mode = .processor)
    (ht : (chanOf s st ch).trigger = false) (hp : partFor s st ch un entry tag = some (c, b, p)) :
    stokerStart s st ch un entry tag = startPart s st ch un c b p entry tag true := by
  unfold stokerStart
  rw [if_neg (by simp [hb]), if_neg (by simp [hm]), if_pos ⟨hm, by simp [ht]⟩, hp]

/-- A START outside processor mode with method direct is held (R204). -/
theorem stokerStart_held (hm : (chanOf s st ch).mode ≠ .bankView)
    (hp : ¬ ((chanOf s st ch).mode = .processor ∧ (chanOf s st ch).trigger = false)) :
    stokerStart s st ch un entry tag = setUnit s st ch un { unitOf s st ch un with heldStart := some (entry, tag) } := by
  unfold stokerStart
  rw [if_neg (by simp [hb]), if_neg hm, if_neg (by simpa using hp)]

end

theorem abandoned_busy {u : EUnit} (hb : u.state.busy = true) : u.abandoned = { u with
    state := .stopped, ended := true, part := none, heldStart := none, fences := List.replicate 8 {}, vregs := [], yieldStop := false } := by
  simp [EUnit.abandoned, hb]

theorem haltUnit_busy {h : Handle} {p : Nat} (keep : EUnit → EUnit) (hb : (unitOf s st ch un).state.busy = true)
    (hp : (unitOf s st ch un).part = some (h, p)) :
    haltUnit keep s st ch un = idleChans (reseedPart (setUnit s st ch un (keep (unitOf s st ch un))) h p) := by
  unfold haltUnit
  simp only [hp]
  exact if_pos hb

theorem haltUnit_free (keep : EUnit → EUnit) (hb : (unitOf s st ch un).state.busy = false) : haltUnit keep s st ch un = s :=
  if_neg (ne_true_of_eq_false hb)

/-- A channel that is at work for a context already goes on so. -/
theorem takeChan_taken {e : Engine} (he : tget? s.kiln.chans (chanNum st ch) = some e) (ctx : Nat) : takeChan s st ch ctx = s :=
  if_pos (by rw [he]; rfl)

theorem resumeUnit_suspended {h : Handle} {p : Nat} {e : Engine} (hs : (unitOf s st ch un).state = .suspended)
    (hp : (unitOf s st ch un).part = some (h, p)) (hm : (chanOf s st ch).mode = .processor) (hc : (chanOf s st ch).lastCtx = some h.ctx)
    (he : tget? s.kiln.chans (chanNum st ch) = some e) :
    resumeUnit s st ch un = setUnit s st ch un { unitOf s st ch un with state := .running, yieldStop := false } := by
  unfold resumeUnit
  simp only [hp]
  rw [if_pos ⟨hs, hm, hc⟩]
  exact takeChan_taken (s := setUnit s st ch un _) he h.ctx

theorem exec_embStatusClear_ended (he : (unitOf s st ch un).ended = true) : exec (.embStatusClear st ch un) s = .next
    (setUnit s st ch un (if (unitOf s st ch un).state.busy then { unitOf s st ch un with ended := false }
      else { unitOf s st ch un with ended := false, state := .idle, cause := 0 })) :=
  congrArg Host.Outcome.next (if_pos he)

end

/-! ## Refresh -/

section
variable {s : State} {st ch : Nat}

theorem exec_refreshDue_stands (h : (chanOf s st ch).mode = .offline ∨ (chanOf s st ch).refreshing = true ∨ smoulders s st = true) :
    exec (.refreshDue st ch) s = .next s :=
  congrArg Host.Outcome.next (if_pos h)

theorem any_running_iff {l : Table EUnit} : (l.any fun u => u.2.state == .running) = true ↔ ∃ u ∈ l, u.2.state = .running := by
  simp

theorem any_running_false {l : Table EUnit} (h : ∀ u ∈ l, u.2.state ≠ .running) : (l.any fun u => u.2.state == .running) = false := by
  simpa using h

section
variable (hr : (chanOf s st ch).refreshing = false) (hs : smoulders s st = false)
include hr hs

/-- What falls due on a channel that is on line and out of Smoulder, with no refresh in progress. -/
theorem refresh_counts (hm : (chanOf s st ch).mode ≠ .offline) :
    ¬ ((chanOf s st ch).mode = .offline ∨ (chanOf s st ch).refreshing = true ∨ smoulders s st = true) := by
  simp [hm, hr, hs]

theorem exec_refreshDue_postponed (hm : (chanOf s st ch).mode ≠ .offline) (hd : (chanOf s st ch).debt < 8) :
    exec (.refreshDue st ch) s = .next (modChan s st ch fun c => { c with debt := c.debt + 1, hot := stackHot s st }) := by
  refine congrArg Host.Outcome.next ?_
  rw [if_neg (refresh_counts hr hs hm), if_pos hd]

variable (hd : 8 ≤ (chanOf s st ch).debt)
include hd

theorem exec_refreshDue_forced (hm : (chanOf s st ch).mode = .processor ∨ (chanOf s st ch).mode = .toMemory)
    (hu : ((chanOf s st ch).units.any fun u => u.2.state == .running) = true) :
    exec (.refreshDue st ch) s = .next (modChan (gather s 0x2002 1) st ch fun c => { c with
      refreshing := true, hot := stackHot s st, forcedPauses := min 4095 (c.forcedPauses + 1)
      units := c.units.map fun u => (u.1, pauseUnit u.2) }) := by
  have online : (chanOf s st ch).mode ≠ .offline := by rcases hm with h | h <;> simp [h]
  have forced : (((chanOf s st ch).mode == .processor || (chanOf s st ch).mode == .toMemory)
      && (chanOf s st ch).units.any fun u => u.2.state == .running) = true := by simpa [hu] using hm
  refine congrArg Host.Outcome.next ?_
  rw [if_neg (refresh_counts hr hs online), if_neg (Nat.not_lt.2 hd), forced]
  rfl

theorem exec_refreshDue_free (hm : (chanOf s st ch).mode ≠ .offline)
    (hf : (chanOf s st ch).mode ≠ .processor ∧ (chanOf s st ch).mode ≠ .toMemory ∨ ∀ u ∈ (chanOf s st ch).units, u.2.state ≠ .running) :
    exec (.refreshDue st ch) s = .next (modChan (gather s 0x2002 0) st ch fun c => { c with refreshing := true, hot := stackHot s st }) := by
  have free : (((chanOf s st ch).mode == .processor || (chanOf s st ch).mode == .toMemory)
      && (chanOf s st ch).units.any fun u => u.2.state == .running) = false := by
    rcases hf with ⟨hp, ht⟩ | hu
    · simp [hp, ht]
    · rw [any_running_false hu, Bool.and_false]
  refine congrArg Host.Outcome.next ?_
  rw [if_neg (refresh_counts hr hs hm), if_neg (Nat.not_lt.2 hd), free]
  rfl

end

theorem exec_refreshComplete_ends (hr : (chanOf s st ch).refreshing = true) :
    exec (.refreshComplete st ch) s = .next (modChan s st ch fun c => { c with
      refreshing := false
      units := c.units.map fun u => (u.1, if u.2.state = .refreshPause then { u.2 with state := .running } else u.2) }) :=
  congrArg Host.Outcome.next (if_pos hr)

section
variable (hr : (chanOf s st ch).refreshing = false)
include hr

theorem exec_refreshComplete_pays (hm : (chanOf s st ch).mode ≠ .offline) (hu : ∀ u ∈ (chanOf s st ch).units, u.2.state ≠ .running) :
    exec (.refreshComplete st ch) s = .next (modChan s st ch fun c => { c with debt := c.debt - 1 }) := by
  refine congrArg Host.Outcome.next ?_
  rw [if_neg (ne_true_of_eq_false hr), if_pos ⟨hm, by rw [any_running_false hu]; rfl⟩]

theorem exec_refreshComplete_ignored
    (h : (chanOf s st ch).mode = .offline ∨ ((chanOf s st ch).units.any fun u => u.2.state == .running) = true) :
    exec (.refreshComplete st ch) s = .next s := by
  refine congrArg Host.Outcome.next ?_
  rw [if_neg (ne_true_of_eq_false hr), if_neg]
  rintro ⟨hm, hu⟩
  rcases h with h | h
  · exact hm h
  · simp [h] at hu

end

end

/-- Settles O39: each row from what its test and the shared operations of its unit or channel do. -/
theorem channelModes : Obligations.ChannelModes := by
  unfold Obligations.ChannelModes
  refine ⟨?asked, ?notAsked, ?memoryAsked, ?holdEarly, ?yields, ?abandons, ?entered, ?notEntered, ?memoryEntered, ?starts, ?bankView, ?held,
    ?refused, ?stops, ?notStopped, ?resumes, ?cleared, ?refreshed, ?refreshOver⟩
  case asked =>
    intro s st ch tr hm hs hp hk hw hf
    exact exec_processorModeRequest_admitted (admitsProcessor_iff.2 ⟨hm, hs, hp, hk⟩) hw hf
  case notAsked =>
    intro s st ch tr h
    refine exec_processorModeRequest_ignored ?_
    rintro ⟨ha, hw, hf⟩
    obtain ⟨hm, hs, hp, hk⟩ := admitsProcessor_iff.1 ha
    simp [hm, hs, hp, hk, hw, hf] at h
  case memoryAsked =>
    intro s st ch hm t
    have asks : requestMemory s st ch = t := requestMemory_processor hm
    exact ⟨congrArg Host.Outcome.next asks, fun hh => asks ▸ exec_holdLimitExpiry_over hh⟩
  case holdEarly => intro s st ch h; exact exec_holdLimitExpiry_early h
  case yields =>
    intro u
    refine ⟨askYield_running, fun hp ha => ?_, fun hp ha => ?_, askYield_other⟩
    · rw [askYield_pause hp, if_pos ha]
    · rw [askYield_pause hp, if_neg (ne_true_of_eq_false ha)]
  case abandons => intro s st ch hm; exact congrArg Host.Outcome.next (requestMemory_toProcessor hm)
  case entered => intro s st ch hm hr t; exact ⟨exec_processorModeEntered_back hm hr, exec_processorModeEntered_work hm hr⟩
  case notEntered => intro s st ch h; exact exec_processorModeEntered_ignored h
  case memoryEntered => intro s st ch hm hr hu; exact exec_memoryModeEntered_idle hm hr hu
  case starts => intro s st ch un entry tag ⟨c, b, p⟩ hb hm ht hp; exact congrArg Host.Outcome.next (stokerStart_starts hb hm ht hp)
  case bankView => intro s st ch un entry tag hb hm; exact congrArg Host.Outcome.next (stokerStart_bankView hb hm)
  case held => intro s st ch un entry tag hb hm hp; exact congrArg Host.Outcome.next (stokerStart_held hb hm hp)
  case refused => intro s st ch un entry tag hb; exact congrArg Host.Outcome.next (stokerStart_busy hb)
  case stops =>
    intro s st ch un h p hb hp
    rw [← abandoned_busy hb]
    exact congrArg Host.Outcome.next (haltUnit_busy EUnit.abandoned hb hp)
  case notStopped => intro s st ch un hb; exact congrArg Host.Outcome.next (haltUnit_free EUnit.abandoned hb)
  case resumes => intro s st ch un h p e hs hp hm hc he; exact congrArg Host.Outcome.next (resumeUnit_suspended hs hp hm hc he)
  case cleared =>
    intro s st ch un he
    rw [exec_embStatusClear_ended he]
    exact ⟨fun hb => by rw [if_neg (ne_true_of_eq_false hb)], fun hb => by rw [if_pos hb]⟩
  case refreshed =>
    intro s st ch hm hr hd hs hu
    refine ⟨_, exec_refreshDue_forced hr hs hd (.inl hm) hu, ?_⟩
    rw [chanOf_modChan_same]
    exact ⟨rfl, hm, rfl⟩
  case refreshOver =>
    intro s st ch hr
    refine ⟨_, exec_refreshComplete_ends hr, ?_⟩
    rw [chanOf_modChan_same]
    exact ⟨rfl, rfl, rfl⟩

/-! ## Reseal -/

section
variable {s : State} {st ch bank row : Nat} {err : MemErr}

/-- An open row closed. -/
def shutRow (s : State) (st ch bank row : Nat) : State :=
  modChan s st ch fun c => { c with openRows := c.openRows.filter fun r => r != (bank, row) }

theorem exec_rowReseal_ignored (h : chanReady s (chanNum st ch) = false ∨ rowIsOpen s st ch bank row = false
      ∨ ∃ c ∈ s.cmds, ∃ sh ∈ c.shadows, sh.loc = some (.bank st ch bank row)) :
    exec (.rowReseal st ch bank row err) s = .next s := by
  refine congrArg Host.Outcome.next (if_neg ?_)
  rintro ⟨ready, -, opened, free⟩
  rcases h with h | h | h
  · simp [h] at ready
  · simp [h] at opened
  · have writes : (s.cmds.any fun x => x.shadows.any fun sh => sh.loc == some (.bank st ch bank row)) = true := by simpa using h
    simp [writes] at free

section
variable (hr : chanReady s (chanNum st ch) = true) (hc : servesClass s .bulk (chanNum st ch) = true)
  (ho : rowIsOpen s st ch bank row = true) (hw : ∀ c ∈ s.cmds, ∀ sh ∈ c.shadows, sh.loc ≠ some (.bank st ch bank row))
include hr hc ho hw

theorem exec_rowReseal_empty (hl : sodAt s (.bank st ch bank row) = none) :
    exec (.rowReseal st ch bank row err) s = .next (shutRow (serveBursts s .bulk 256 (chanNum st ch)) st ch bank row) := by
  have unwritten : (s.cmds.any fun x => x.shadows.any fun sh => sh.loc == some (.bank st ch bank row)) = false := by simpa using hw
  have there : sodAt (serveBursts s .bulk 256 (chanNum st ch)) (.bank st ch bank row) = none := hl
  refine congrArg Host.Outcome.next ?_
  rw [if_pos ⟨hr, hc, ho, by rw [unwritten, hl]; rfl⟩]
  simp only [there]
  rfl

/-- A sod is checked as it is sealed: bits that do not match their tag make it ash. -/
theorem exec_rowReseal_sod {t : Handle} {k : Nat} {x : Tensor} {old : Sod} (hl : sodAt s (.bank st ch bank row) = some (t, k))
    (hf : shadowed s t k = false) (hx : tensorAny s t = some x) (hk : tget? x.sods k = some old) :
    let v := countTraffic (serveBursts s .bulk 256 (chanNum st ch)) x.clamp .bulk 8192
    exec (.rowReseal st ch bank row err) s = .next
      (shutRow (if (anyFlip err || tagFails old) = true then settled (makeAsh v t k) else v) st ch bank row) := by
  have unwritten : (s.cmds.any fun x => x.shadows.any fun sh => sh.loc == some (.bank st ch bank row)) = false := by simpa using hw
  have there : sodAt (serveBursts s .bulk 256 (chanNum st ch)) (.bank st ch bank row) = some (t, k) := hl
  have tensor : tensorAny (serveBursts s .bulk 256 (chanNum st ch)) t = some x := hx
  intro v
  refine congrArg Host.Outcome.next ?_
  rw [if_pos ⟨hr, hc, ho, by simp [unwritten, hl, hf]⟩]
  simp only [there, tensor, Option.map_some, Option.getD_some, Option.bind_some, hk, Option.any_some]
  rfl

end

end

/-- Settles O40: each row by the branch that its test takes. -/
theorem refreshAndReseal : Obligations.RefreshAndReseal := by
  unfold Obligations.RefreshAndReseal
  refine ⟨?stands, ?postponed, ?forced, ?free, ?ends, ?pays, ?ignored, ?sealed, ?notSealed⟩
  case stands => intro s st ch h; exact exec_refreshDue_stands h
  case postponed => intro s st ch hm hr hs hd; exact exec_refreshDue_postponed hr hs hm hd
  case forced => intro s st ch hm hr hs hd hu; exact exec_refreshDue_forced hr hs hd hm (any_running_iff.2 hu)
  case free => intro s st ch hm hr hs hd hf; exact exec_refreshDue_free hr hs hd hm hf
  case ends => intro s st ch hr; exact exec_refreshComplete_ends hr
  case pays => intro s st ch hr hm hu; exact exec_refreshComplete_pays hr hm hu
  case ignored => intro s st ch hr h; exact exec_refreshComplete_ignored hr (h.imp_right any_running_iff.2)
  case sealed =>
    intro s st ch bank row err hr hc ho hw l w shut
    refine ⟨exec_rowReseal_empty hr hc ho hw, ?_⟩
    intro t k x old hl hf hx hk v
    rw [exec_rowReseal_sod hr hc ho hw hl hf hx hk]
    exact ⟨fun he ht => by rw [if_neg (by simp [he, ht])]; rfl, fun hb => by rw [if_pos (by simpa using hb)]; rfl⟩
  case notSealed => intro s st ch bank row err h; exact exec_rowReseal_ignored h

/-! ## Offsets and requests of a trigger window (R199, R200) -/

/-- An offset names the part, operation and index from which it is made. -/
theorem windowFields_windowOffset {part op index : Nat} (hp : part < 512) (ho : op < 16) (hi : index < 128) :
    windowFields (windowOffset part op index) = some (part, op, index) := by
  have aligned : ¬ (windowOffset part op index % 32 ≠ 0 ∨ 2 ^ 25 ≤ windowOffset part op index) := by unfold windowOffset; omega
  have high : windowOffset part op index / 2 ^ 20 = part / 16 := by unfold windowOffset; omega
  have group : bits (windowOffset part op index) 24 20 = part / 16 := by unfold bits; omega
  have unit : bits (windowOffset part op index) 8 5 = part % 16 := by unfold bits windowOffset; omega
  have code : bits (windowOffset part op index) 12 9 = op := by unfold bits windowOffset; omega
  have line : bits (windowOffset part op index) 19 13 = index := by unfold bits windowOffset; omega
  unfold windowFields
  rw [if_neg aligned, group, unit, code, line, Nat.div_add_mod]

/-- A request that waits for an offset is one of a tile's, with that offset. -/
theorem windowReq_some {s : State} {h : Handle} {off i : Nat} {t : Tile} (hr : windowReq s h off = some (t, i)) :
    t ∈ s.kiln.tiles ∧ at? t.acc.reqs i default ∈ t.acc.reqs ∧ (at? t.acc.reqs i default).off = off := by
  obtain ⟨u, hu, found⟩ := List.exists_of_findSome?_eq_some hr
  split at found
  case isFalse => cases found
  split at found
  case h_2 => cases found
  obtain ⟨j, hj, e⟩ := Option.map_eq_some_iff.1 found
  obtain ⟨rfl, rfl⟩ := Prod.mk.inj e
  obtain ⟨hlt, hp, -⟩ := List.findIdx?_eq_some_iff_getElem.1 hj
  have entry : at? u.acc.reqs j default = u.acc.reqs[j] := by simp [at?, hlt]
  rw [entry]
  simp only [Bool.and_eq_true, beq_iff_eq] at hp
  obtain ⟨⟨⟨-, hoff⟩, -⟩, -⟩ := hp
  exact ⟨hu, List.getElem_mem hlt, hoff⟩

theorem windowBurst_of_fields {s : State} {c : Cmd} {b : InbankBlock} {off part op index : Nat} {write : Option (List Byte)}
    (hf : windowFields off = some (part, op, index)) : windowBurst s c b off write = windowAccess s c b part op index write := by
  unfold windowBurst
  rw [hf]

theorem waitUnit_of_fields {s : State} {c : Cmd} {b : InbankBlock} {off part index p : Nat} {u : Nat × Nat × Nat}
    (hf : windowFields off = some (part, 5, index)) (hu : windowUnit s c b part 5 = some (p, u)) : waitUnit s c b off = some u := by
  unfold waitUnit
  rw [hf]
  simp only [hu, Option.map_some]

/-- The state with the bytes of a read given to the request of `s` that waits for the offset, if one does. -/
def windowAnswer (s v : State) (h : Handle) (off : Nat) (bs : List Byte) : State :=
  match windowReq s h off with
  | some (t, i) => answerReq v t i bs
  | none => v

/-! ## One access through the window -/

section
variable {s : State} {h : Handle} {c : Cmd} {b : InbankBlock} {part op i : Nat} {w : List Byte}

section
variable (hc : cmdOf s h = some c) (hb : inbandOf c = some b) (hp : c.phase = .run) (hw : windowed c = true)
include hc hb hp hw

theorem triggerRow_write_ok {v : State} {bs : List Byte} (ha : windowAccess s c b part op i (some w) = .ok v bs) :
    triggerRow s h part op i (some w) = v := by
  unfold triggerRow
  simp only [hc, hb, ha]
  exact if_pos ⟨hp, hw⟩

theorem triggerRow_request {t : Tile} {j : Nat} (hr : windowReq s h (windowOffset part op i) = some (t, j)) :
    triggerRow s h part op i none = windowReturn s t c b j (at? t.acc.reqs j default) := by
  unfold triggerRow
  simp only [hc, hb, hr]
  exact if_pos ⟨hp, hw⟩

theorem triggerRow_noRequest_ok {v : State} {bs : List Byte} (hr : windowReq s h (windowOffset part op i) = none)
    (ha : windowAccess s c b part op i none = .ok v bs) : triggerRow s h part op i none = v := by
  unfold triggerRow
  simp only [hc, hb, hr, ha]
  exact if_pos ⟨hp, hw⟩

theorem triggerRow_noRequest_wait (hr : windowReq s h (windowOffset part op i) = none) (ha : windowAccess s c b part op i none = .wait) :
    triggerRow s h part op i none = s := by
  unfold triggerRow
  simp only [hc, hb, hr, ha]
  exact if_pos ⟨hp, hw⟩

end

section
variable {t : Tile} {j : Nat} {r : LoadReq}

section
variable (hu : r.unit = none)
include hu

theorem windowReturn_answers {v : State} {bs : List Byte} (hw : windowBurst s c b r.off none = .ok v bs) :
    windowReturn s t c b j r = answerReq v t j bs := by
  unfold windowReturn
  simp only [hu, hw]

theorem windowReturn_delays {st ch un : Nat} (hw : windowBurst s c b r.off none = .wait) (hn : waitUnit s c b r.off = some (st, ch, un))
    (hs : chanServes s st ch c.handle.ctx = true) : windowReturn s t c b j r = modTile s t.die t.core fun x => { x with acc := { x.acc with
      reqs := x.acc.reqs.modify j fun r => { r with unit := some (st, ch, un) } } } := by
  unfold windowReturn
  simp only [hu, hw, hn]
  exact if_pos hs

end

/-- A WAIT that has arrived at its unit (R201). -/
theorem windowReturn_arrived {st ch un : Nat} (hu : r.unit = some (st, ch, un)) : windowReturn s t c b j r =
    if (unitOf s st ch un).lastCtx ≠ some c.handle.ctx then answerReq s t j goneStatus
    else if (unitOf s st ch un).state.busy then s else answerReq s t j (statusBytes (unitOf s st ch un)) := by
  unfold windowReturn
  rw [hu]

end

end

/-! ## Accesses at the unit (R199 to R203) -/

section
variable {s : State} {c : Cmd} {b : InbankBlock} {p st ch un i : Nat} {w : List Byte}

/-! The vector registers, the store and the arguments are the program's to write while the unit is not at work. -/

section
variable (hb : (unitOf s st ch un).state.busy = false)
include hb

theorem unitAccess_vreg_write (hi : i ≤ 15) : unitAccess s c b p st ch un 0 i (some w) = .ok (setUnit s st ch un { unitOf s st ch un with
    vregs := wrBytes (unitOf s st ch un).vregs (32 * i) (slice w 0 32) }) [] :=
  if_neg (by simp [hb, hi])

theorem unitAccess_ustore_write (hi : i ≤ 63) : unitAccess s c b p st ch un 2 i (some w) = .ok (setUnit s st ch un { unitOf s st ch un with
    store := (List.range 4).foldl (fun l j => l.set (4 * i + j) (BitVec.ofNat 64 (u64 w (8 * j)))) (unitOf s st ch un).store }) [] :=
  if_neg (by simp [hb, hi])

theorem unitAccess_arg_write (hi : i ≤ 3) (hz : leNat (slice w 8 24) = 0) : unitAccess s c b p st ch un 3 i (some w) =
    .ok (setUnit s st ch un { unitOf s st ch un with args := (unitOf s st ch un).args.set i (BitVec.ofNat 64 (u64 w 0)) }) [] :=
  if_neg (by simp [hb, hi, hz])

end

theorem unitAccess_vreg_read (hi : i ≤ 15) :
    unitAccess s c b p st ch un 0 i none = .ok s (rdBytes (unitOf s st ch un).vregs (32 * i) 32) := if_neg (Nat.not_lt.2 hi)

theorem unitAccess_ustore_read (hi : i ≤ 63) : unitAccess s c b p st ch un 2 i none =
    .ok s ((List.range 4).flatMap fun j => natLE 8 (at? (unitOf s st ch un).store (4 * i + j) 0).toNat) := if_neg (Nat.not_lt.2 hi)

theorem unitAccess_arg_read (hi : i ≤ 3) :
    unitAccess s c b p st ch un 3 i none = .ok s (natLE 8 (at? (unitOf s st ch un).args i 0).toNat ++ zeros 24) := if_neg (Nat.not_lt.2 hi)

theorem unitAccess_bbuf_write (hi : i ≤ 127) (hb : (chanOf s st ch).anyBusy = false) : unitAccess s c b p st ch un 1 i (some w) =
    .ok (modChan s st ch fun x => { x with bbuf := wrBytes x.bbuf (32 * i) (slice w 0 32) }) [] := by
  unfold unitAccess
  simp only [hb, Nat.mod_eq_of_lt (Nat.lt_succ_of_le hi)]
  rfl

/-- The buffer does not change while a part runs on its channel (R212, log entry 150). -/
theorem unitAccess_bbuf_kept (hb : (chanOf s st ch).anyBusy = true) : unitAccess s c b p st ch un 1 i (some w) = .ok s [] :=
  congrArg (Window.ok · []) (if_pos hb)

theorem unitAccess_bbuf_read (hi : i ≤ 127) :
    unitAccess s c b p st ch un 1 i none = .ok s (rdBytes (chanOf s st ch).bbuf (32 * i) 32) := by
  unfold unitAccess
  simp only [Nat.mod_eq_of_lt (Nat.lt_succ_of_le hi)]

section
variable (hz : leNat (slice w 8 24) = 0)
include hz

theorem unitAccess_cmd_write : unitAccess s c b p st ch un 4 i (some w) = windowCmd s st ch un c b p (u64 w 0) :=
  if_neg (not_not_intro hz)

theorem unitAccess_start (hk : bits (u64 w 0) 9 8 = 1) (hb : (unitOf s st ch un).state.busy = false) :
    unitAccess s c b p st ch un 4 i (some w) =
      .ok (startPart s st ch un c b p (bits (u64 w 0) 7 0) (bits (u64 w 0) 31 16) false) [] := by
  rw [unitAccess_cmd_write hz, windowCmd, hk]
  exact if_neg (ne_true_of_eq_false hb)

theorem unitAccess_stop (hk : bits (u64 w 0) 9 8 = 2) :
    unitAccess s c b p st ch un 4 i (some w) = .ok (haltUnit EUnit.stopped s st ch un) [] := by
  rw [unitAccess_cmd_write hz, windowCmd, hk]
  rfl

theorem unitAccess_resume (hk : bits (u64 w 0) 9 8 = 3) :
    unitAccess s c b p st ch un 4 i (some w) = .ok (resumeUnit s st ch un) [] := by
  rw [unitAccess_cmd_write hz, windowCmd, hk]
  rfl

end

theorem unitAccess_wait_free (hb : (unitOf s st ch un).state.busy = false) :
    unitAccess s c b p st ch un 5 i none = .ok s (statusBytes (unitOf s st ch un)) := if_neg (ne_true_of_eq_false hb)

theorem unitAccess_wait_busy (hb : (unitOf s st ch un).state.busy = true) : unitAccess s c b p st ch un 5 i none = .wait := if_pos hb

end

/-! ## The unit behind the window -/

/-- What an access through a trigger window needs: a command in run with a window, whose access names part `p` of its current wave, on a unit
in address-trigger mode that is the context's to use; no read has arrived at a unit yet. -/
structure WindowAt (s : State) (h : Handle) (c : Cmd) (b : InbankBlock) (part op p st ch un : Nat) : Prop where
  cmd : cmdOf s h = some c
  block : inbandOf c = some b
  runs : c.phase = .run
  windowed : windowed c = true
  inRange : part < 512
  unit : windowUnit s c b part op = some (p, st, ch, un)
  mode : (chanOf s st ch).mode = .processor
  trigger : (chanOf s st ch).trigger = true
  serves : chanServes s st ch c.handle.ctx = true
  fresh : ∀ t ∈ s.kiln.tiles, ∀ r ∈ t.acc.reqs, r.unit = none

theorem windowUnit_part {s : State} {c : Cmd} {b : InbankBlock} {part op p st ch un : Nat} (ho : op ≠ 1)
    (hp : (currentWave s c b)[part]? = some p) (hu : partUnit s c b p = some (st, ch, un)) :
    windowUnit s c b part op = some (p, st, ch, un) := by
  unfold windowUnit
  rw [if_neg ho, hp, Option.bind_some, hu, Option.map_some]

/-- BBUF ignores the unit field (R200). -/
theorem windowUnit_bbuf {s : State} {c : Cmd} {b : InbankBlock} {part q p st ch un : Nat} (ha : part % 16 = 0) (hq : q < 16)
    (hp : (currentWave s c b)[part]? = some p) (hu : partUnit s c b p = some (st, ch, un)) :
    windowUnit s c b (part + q) 1 = some (p, st, ch, un) := by
  have group : (part + q) / 16 * 16 = part := by omega
  unfold windowUnit
  rw [if_pos rfl, group, hp, Option.bind_some, hu, Option.map_some]

section
variable {s : State} {h : Handle} {c : Cmd} {b : InbankBlock} {part op p st ch un i : Nat} {w : List Byte}
  (a : WindowAt s h c b part op p st ch un)
include a

theorem windowAccess_at (write : Option (List Byte)) : windowAccess s c b part op i write =
    unitAccess (claimUnit s st ch un c.handle.ctx) c b p st ch un op i write := by
  unfold windowAccess
  rw [a.unit]
  simp only [a.mode, a.trigger, a.serves]
  rfl

theorem triggerRow_write_at {v : State} {bs : List Byte}
    (hv : unitAccess (claimUnit s st ch un c.handle.ctx) c b p st ch un op i (some w) = .ok v bs) :
    triggerRow s h part op i (some w) = v :=
  triggerRow_write_ok a.cmd a.block a.runs a.windowed ((windowAccess_at a (some w)).trans hv)

section
variable (ho : op < 16) (hi : i ≤ 127)
include ho hi

/-- A request of the window's offset has not arrived at a unit, and its burst is the access. -/
theorem windowReq_burst {t : Tile} {j : Nat} (hr : windowReq s h (windowOffset part op i) = some (t, j)) :
    (at? t.acc.reqs j default).unit = none ∧ (at? t.acc.reqs j default).off = windowOffset part op i ∧
      windowBurst s c b (windowOffset part op i) none = windowAccess s c b part op i none := by
  obtain ⟨tile, req, off⟩ := windowReq_some hr
  exact ⟨a.fresh t tile _ req, off, windowBurst_of_fields (windowFields_windowOffset a.inRange ho (Nat.lt_succ_of_le hi))⟩

theorem triggerRow_read_at {v : State} {bs : List Byte}
    (hv : unitAccess (claimUnit s st ch un c.handle.ctx) c b p st ch un op i none = .ok v bs) :
    triggerRow s h part op i none = windowAnswer s v h (windowOffset part op i) bs := by
  have access := (windowAccess_at a (i := i) none).trans hv
  unfold windowAnswer
  cases hr : windowReq s h (windowOffset part op i) with
  | none => exact triggerRow_noRequest_ok a.cmd a.block a.runs a.windowed hr access
  | some x =>
    obtain ⟨t, j⟩ := x
    obtain ⟨fresh, off, burst⟩ := windowReq_burst a ho hi hr
    rw [triggerRow_request a.cmd a.block a.runs a.windowed hr]
    exact windowReturn_answers fresh (by rw [off, burst, access])

end

/-- A WAIT that finds its unit at work stays there (R201). -/
theorem triggerRow_wait_at (ho : op = 5) (hi : i ≤ 127)
    (hb : (unitOf (claimUnit s st ch un c.handle.ctx) st ch un).state.busy = true) : triggerRow s h part op i none =
      match windowReq s h (windowOffset part op i) with
      | some (t, j) => modTile s t.die t.core fun x => { x with acc := { x.acc with
          reqs := x.acc.reqs.modify j fun r => { r with unit := some (st, ch, un) } } }
      | none => s := by
  subst ho
  have access : windowAccess s c b part 5 i none = .wait := (windowAccess_at a none).trans (unitAccess_wait_busy hb)
  cases hr : windowReq s h (windowOffset part 5 i) with
  | none => exact triggerRow_noRequest_wait a.cmd a.block a.runs a.windowed hr access
  | some x =>
    obtain ⟨t, j⟩ := x
    obtain ⟨fresh, off, burst⟩ := windowReq_burst a (by omega) hi hr
    have unit : waitUnit s c b (windowOffset part 5 i) = some (st, ch, un) :=
      waitUnit_of_fields (windowFields_windowOffset a.inRange (by omega) (Nat.lt_succ_of_le hi)) a.unit
    rw [triggerRow_request a.cmd a.block a.runs a.windowed hr]
    exact windowReturn_delays fresh (by rw [off, burst, access]) (by rw [off, unit]) a.serves

end

/-- Settles O41: the access of each row at its unit, with the bytes of a read given to the request that waits for them. -/
theorem triggerWindow : Obligations.TriggerWindow := by
  unfold Obligations.TriggerWindow
  refine ⟨?accesses, ?arrived⟩
  case accesses =>
    intro s h c b part p st ch un hc hb hr hw hn hp hu hm ht hs hf v u answer
    have named {op : Nat} (ho : op ≠ 1) : WindowAt s h c b part op p st ch un :=
      ⟨hc, hb, hr, hw, hn, windowUnit_part ho hp hu, hm, ht, hs, hf⟩
    have shared {q : Nat} (ha : part % 16 = 0) (hq : q < 16) : WindowAt s h c b (part + q) 1 p st ch un :=
      ⟨hc, hb, hr, hw, by omega, windowUnit_bbuf ha hq hp hu, hm, ht, hs, hf⟩
    refine ⟨?vregWrite, ?vregRead, ?bbufWrite, ?bbufKept, ?bbufRead, ?storeWrite, ?storeRead, ?argWrite, ?argRead, ?start, ?stop, ?resume,
      ?status, ?waitFree, ?waitBusy⟩
    case vregWrite => intro i w hi hb; exact congrArg Host.Outcome.next (triggerRow_write_at (named (by decide)) (unitAccess_vreg_write hb hi))
    case vregRead =>
      intro i hi
      exact congrArg Host.Outcome.next (triggerRow_read_at (named (by decide)) (by decide) (by omega) (unitAccess_vreg_read hi))
    case bbufWrite => intro q i w ha hq hi hb; exact congrArg Host.Outcome.next (triggerRow_write_at (shared ha hq) (unitAccess_bbuf_write hi hb))
    case bbufKept => intro q i w ha hq hi hb; exact congrArg Host.Outcome.next (triggerRow_write_at (shared ha hq) (unitAccess_bbuf_kept hb))
    case bbufRead =>
      intro q i ha hq hi
      exact congrArg Host.Outcome.next (triggerRow_read_at (shared ha hq) (by decide) hi (unitAccess_bbuf_read hi))
    case storeWrite => intro i w hi hb; exact congrArg Host.Outcome.next (triggerRow_write_at (named (by decide)) (unitAccess_ustore_write hb hi))
    case storeRead =>
      intro i hi
      exact congrArg Host.Outcome.next (triggerRow_read_at (named (by decide)) (by decide) (by omega) (unitAccess_ustore_read hi))
    case argWrite => intro i w hi hb hz; exact congrArg Host.Outcome.next (triggerRow_write_at (named (by decide)) (unitAccess_arg_write hb hi hz))
    case argRead =>
      intro i hi
      exact congrArg Host.Outcome.next (triggerRow_read_at (named (by decide)) (by decide) (by omega) (unitAccess_arg_read hi))
    case start => intro i w hz hk hb; exact congrArg Host.Outcome.next (triggerRow_write_at (named (by decide)) (unitAccess_start hz hk hb))
    case stop => intro i w hz hk; exact congrArg Host.Outcome.next (triggerRow_write_at (named (by decide)) (unitAccess_stop hz hk))
    case resume => intro i w hz hk; exact congrArg Host.Outcome.next (triggerRow_write_at (named (by decide)) (unitAccess_resume hz hk))
    case status =>
      intro i hi
      exact congrArg Host.Outcome.next (triggerRow_read_at (named (by decide)) (by decide) hi rfl)
    case waitFree =>
      intro i hi hb
      exact congrArg Host.Outcome.next (triggerRow_read_at (named (by decide)) (by decide) hi (unitAccess_wait_free hb))
    case waitBusy => intro i hi hb; exact congrArg Host.Outcome.next (triggerRow_wait_at (named (by decide)) rfl hi hb)
  case arrived =>
    intro s h c b part i j st ch un t hc hb hr hw hq hj u
    have row : exec (.trigWait h part i none) s = .next (windowReturn s t c b j (at? t.acc.reqs j default)) :=
      congrArg Host.Outcome.next (triggerRow_request hc hb hr hw hq)
    rw [row, windowReturn_arrived hj]
    refine ⟨fun hl hu => ?_, fun hl hu => ?_, fun hl => ?_⟩
    · rw [if_neg (not_not_intro hl), if_pos hu]
    · rw [if_neg (not_not_intro hl), if_neg (ne_true_of_eq_false hu)]; rfl
    · rw [if_pos hl]

end Sys2Proof.Machine
end

section
/-!
PROOFS. Micro-operations of an Ember unit: control (R216, R224, R233 to R236), streams, copies and dequantisation (R217 to R219, R225 to R227),
reductions (R222 to R225) and attention (R228 to R232).
-/
namespace Sys2Proof.Machine

open Sys2Proof

/-! ## How the row of a micro-operation ends -/

section
variable {op : Nat} {body : EBody} {i : Instr} {e : ECtx} {h : Handle} {u : EUnit} {x : EOp}

theorem exec_ember_done {v : EUnit} {ws : List (Nat × List Byte)} {used : Nat}
    (hi : exec i e.s = .next (emberIssue op body e.s e.stack e.chan e.unit)) (a : EmberAt op e h u x) (hop : emberOps.contains op = true)
    (hb : body e u x = .done v ws (e.k + used)) : exec i e.s = .next (passed e h v ws used) :=
  hi.trans (congrArg Host.Outcome.next (ember_done a hop hb))

theorem exec_ember_fault {cause slot : Nat}
    (hi : exec i e.s = .next (emberIssue op body e.s e.stack e.chan e.unit)) (a : EmberAt op e h u x) (hop : emberOps.contains op = true)
    (hb : body e u x = .fault cause slot) : exec i e.s = .next (unitFault e.s e.stack e.chan e.unit cause slot) :=
  hi.trans (congrArg Host.Outcome.next (ember_fault a hop hb))

end

/-! ## What reads and moved address registers leave alone -/

/-- A unit that differs from another in the sods noted as read and in its rows alone (R218, R220). -/
def RowsOnly (u w : EUnit) : Prop := ∃ read rows next, w = { u with readSods := read, openRow := rows, prepared := next }

namespace RowsOnly
variable {u v w : EUnit}

theorem refl (u : EUnit) : RowsOnly u u := ⟨_, _, _, rfl⟩

theorem trans (huv : RowsOnly u v) (hvw : RowsOnly v w) : RowsOnly u w := by
  obtain ⟨_, _, _, rfl⟩ := huv
  obtain ⟨_, _, _, rfl⟩ := hvw
  exact ⟨_, _, _, rfl⟩

theorem vregs : RowsOnly u w → w.vregs = u.vregs := by rintro ⟨_, _, _, rfl⟩; rfl
theorem slots : RowsOnly u w → w.slots = u.slots := by rintro ⟨_, _, _, rfl⟩; rfl
theorem rowOpen : RowsOnly u w → w.rowOpen = u.rowOpen := by rintro ⟨_, _, _, rfl⟩; rfl
theorem scores : RowsOnly u w → w.scores = u.scores := by rintro ⟨_, _, _, rfl⟩; rfl
theorem chunkM : RowsOnly u w → w.chunkM = u.chunkM := by rintro ⟨_, _, _, rfl⟩; rfl
theorem probs : RowsOnly u w → w.probs = u.probs := by rintro ⟨_, _, _, rfl⟩; rfl
theorem tree : RowsOnly u w → w.tree = u.tree := by rintro ⟨_, _, _, rfl⟩; rfl

theorem foldl {α : Type} {f : EUnit → α → EUnit} (hf : ∀ u a, RowsOnly u (f u a)) (l : List α) (u : EUnit) : RowsOnly u (l.foldl f u) := by
  induction l generalizing u with
  | nil => exact refl u
  | cons a l ih => exact (hf u a).trans (ih (f u a))

end RowsOnly

theorem rowsOnly_streamRow (u : EUnit) (k : Nat × Nat) : RowsOnly u (streamRow u k) := by
  unfold streamRow
  split
  · exact RowsOnly.refl u
  · exact ⟨_, _, _, rfl⟩

theorem rowsOnly_noteReads (u : EUnit) (x n : Nat) : RowsOnly u (noteReads u x n) :=
  RowsOnly.trans (v := { u with readSods := _ }) ⟨_, _, _, rfl⟩ (RowsOnly.foldl rowsOnly_streamRow _ _)

/-- Free values that are taken only in some case. -/
theorem add_free_ite (c : Prop) [Decidable c] (k n : Nat) : k + (if c then n else 0) = if c then k + n else k := by
  split
  · rfl
  · exact Nat.add_zero k

theorem moved_slots (u : EUnit) (x : EOp) (k n : Nat) : (moved u x [(k, n)]).slots = u.slots := by
  unfold moved
  split <;> rfl

/-! ## Spans that are written -/

theorem length_rdBytes (m : Memory) (a n : Nat) : (rdBytes m a n).length = n := by
  simp [rdBytes]

theorem length_natLE (n x : Nat) : (natLE n x).length = n := by
  induction n generalizing x with
  | zero => rfl
  | succ n ih => simp [natLE, ih]

theorem length_fpBytes (v : List FP32) : (fpBytes v).length = 4 * v.length := by
  induction v with
  | nil => rfl
  | cons x v ih =>
    have split : fpBytes (x :: v) = natLE 4 x.toNat ++ fpBytes v := rfl
    rw [split, List.length_append, length_natLE, ih, List.length_cons]
    omega

/-- A state takes 17 bursts (R232). -/
theorem length_stateBytes (st : SState) : (stateBytes st).length = 32 * 17 := by
  simp [stateBytes, zeros, length_natLE, length_fpBytes]

/-- Whole bursts of bytes. -/
theorem ceilDiv_bursts {bs : List Byte} {n : Nat} (h : bs.length = 32 * n) : ceilDiv bs.length 32 = n := by
  unfold ceilDiv
  omega

theorem afterWrite_writeSpan {e : ECtx} {u : EUnit} {y k : Nat} {bs : List Byte} (x : EOp) (moves : List (Nat × Nat))
    (h : spanOpen e u y (ceilDiv bs.length 32)) :
    afterWrite x moves (writeSpan e u y bs k) = .done (pass (moved (wrote u y bs) x moves)) (burstsOf y bs) k :=
  congrArg (afterWrite x moves) (write_span h)

/-! ## Control (R216, R224, R233 to R236) -/

section
variable {e : ECtx} {u : EUnit} {x : EOp}

/-- The count that LOOP latches (R233). -/
def latchedCount (u : EUnit) (x : EOp) : Nat := if bit x.flags 0 then argOf u x.v % 2 ^ 24 else bits x.imm 23 8

section
variable (hlen : 1 ≤ bits x.imm 7 0) (hin : u.pc + 1 + bits x.imm 7 0 ≤ 256)
include hlen hin

theorem eLoop_inStore : eLoop e u x =
    if latchedCount u x = 0 then .done (stepPc u (u.pc + 1 + bits x.imm 7 0)) [] e.k
    else if 2 ≤ u.loops.length then .fault 4 0xFF
    else .done { u with
      pc := u.pc + 1, lastPc := u.pc, atYield := false
      loops := { first := u.pc + 1, last := u.pc + 1 + bits x.imm 7 0, left := latchedCount u x } :: u.loops } [] e.k :=
  (if_neg (Nat.ne_of_gt hlen)).trans (if_neg (Nat.not_lt.2 hin))

theorem eLoop_skips (hc : latchedCount u x = 0) : eLoop e u x = .done (stepPc u (u.pc + 1 + bits x.imm 7 0)) [] e.k := by
  rw [eLoop_inStore hlen hin, if_pos hc]

theorem eLoop_enters (hc : latchedCount u x ≠ 0) (hd : u.loops.length < 2) : eLoop e u x = .done { u with
    pc := u.pc + 1, lastPc := u.pc, atYield := false
    loops := { first := u.pc + 1, last := u.pc + 1 + bits x.imm 7 0, left := latchedCount u x } :: u.loops } [] e.k := by
  rw [eLoop_inStore hlen hin, if_neg hc, if_neg (Nat.not_le.2 hd)]

theorem eLoop_tooDeep (hc : latchedCount u x ≠ 0) (hd : u.loops.length = 2) : eLoop e u x = .fault 4 0xFF := by
  rw [eLoop_inStore hlen hin, if_neg hc, if_pos (Nat.le_of_eq hd.symm)]

end

/-! SETA by its flags (R216); the fourth value is out of range. -/
theorem eSeta_binding (hf : bits x.flags 1 0 = 0) : eSeta e u x =
    .done (pass { u with areg := u.areg.set x.a (BitVec.ofNat 64 (firstAddr e.b e.part (bits x.imm 2 0))) }) [] e.k := by
  simp only [eSeta, hf]

theorem eSeta_argument (hf : bits x.flags 1 0 = 1) : eSeta e u x =
    .done (pass { u with areg := u.areg.set x.a (at? u.argsIn (x.v % 4) 0) }) [] e.k := by
  simp only [eSeta, hf]

theorem eSeta_copy (hf : bits x.flags 1 0 = 2) : eSeta e u x =
    .done (pass { u with areg := u.areg.set x.a (at? u.areg (bits x.imm 2 0) 0) }) [] e.k := by
  simp only [eSeta, hf]

theorem eSeta_reserved (hf : bits x.flags 1 0 = 3) : eSeta e u x = .fault 3 0xFF := by
  simp only [eSeta, hf]

theorem eTset_clears (hf : bit x.flags 0 = false) : eTset e u x =
    .done (pass { u with slots := u.slots.set x.p { chunks := x.imm } }) [] e.k := by
  simp [eTset, hf]

/-- A carried-in node of 2^k chunks stands at level k (R224). -/
theorem eTset_carries {k : Nat} (hf : bit x.flags 0 = true) (hk : x.imm = 2 ^ k) : 
    let q : RSlot := { chunks := 2 ^ k, levels := ({} : RSlot).levels.set k (vlane u x.v (x.line % 8)) }
    eTset e u x = .done (pass { u with slots := u.slots.set x.p q }) [] e.k := by
  have level : Nat.log2 x.imm = k := by rw [hk, Nat.log2_two_pow]
  have whole : ¬ (bit x.flags 0 = true ∧ (x.imm = 0 ∨ 2 ^ k ≠ x.imm)) := by simp [hk]
  simp only [eTset, level]
  rw [if_neg whole, if_pos hf, hk]

/-- END of a part whose sods were all good, or in bank view, where no tag is checked (R58, R236). -/
theorem emberEndOp_ends {h : Handle} {err : MemErr} (a : EmberAt 0x01 e h u x) (hg : e.bankView = true ∨ endBad e u err = none) :
    emberEndOp e.s e.stack e.chan e.unit err = partDone e.s e.stack e.chan e.unit h e.part u := by
  have ctx : (⟨e.s, e.stack, e.chan, e.unit, e.c, e.b, e.part, e.s.freeCount⟩ : ECtx) = e := by rw [← a.free]
  have good : (if e.bankView = true then none else endBad e u err) = none := by
    split
    · rfl
    · exact hg.resolve_left ‹_›
  unfold emberEndOp
  simp only [a.unit, a.works]
  rw [if_pos ⟨a.runs, a.mode, a.inStore, by rw [a.fetched, a.opcode]⟩]
  simp only [ctx, good, a.cmd]

end

/-- Settles O42: each control operation by what its body makes of the unit, and END by its own row. -/
theorem emberControl : Obligations.EmberControl := by
  unfold Obligations.EmberControl
  refine ⟨?nop, ?fence, ?yield, ?loop, ?seta, ?adda, ?setb, ?setf, ?tset, ?carry, ?fin⟩
  case nop => intro e h u x a; exact exec_ember_done rfl a (by decide) rfl
  case fence => intro e h u x a; exact exec_ember_done rfl a (by decide) rfl
  case yield => intro e h u x a; exact exec_ember_done rfl a (by decide) rfl
  case loop =>
    intro e h u x a len count hlen hin
    refine ⟨fun hc => ?_, fun hc hd => ?_, fun hc hd => ?_⟩
    · exact exec_ember_done rfl a (by decide) (eLoop_skips hlen hin hc)
    · exact exec_ember_done rfl a (by decide) (eLoop_enters hlen hin hc hd)
    · exact exec_ember_fault rfl a (by decide) (eLoop_tooDeep hlen hin hc hd)
  case seta =>
    intro e h u x a
    refine ⟨fun hf => ?_, fun hf => ?_, fun hf => ?_, fun hf => ?_⟩
    · exact exec_ember_done rfl a (by decide) (eSeta_binding hf)
    · exact exec_ember_done rfl a (by decide) (eSeta_argument hf)
    · exact exec_ember_done rfl a (by decide) (eSeta_copy hf)
    · exact exec_ember_fault rfl a (by decide) (eSeta_reserved hf)
  case adda => intro e h u x a; exact exec_ember_done rfl a (by decide) rfl
  case setb => intro e h u x a; exact exec_ember_done rfl a (by decide) rfl
  case setf => intro e h u x a; exact exec_ember_done rfl a (by decide) rfl
  case tset => intro e h u x a hf; exact exec_ember_done rfl a (by decide) (eTset_clears hf)
  case carry => intro e h u x k a hf hk; exact exec_ember_done rfl a (by decide) (eTset_carries hf hk)
  case fin => intro e h u x err a hg; exact congrArg Host.Outcome.next (emberEndOp_ends a hg)

/-! ## Streams, copies and dequantisation (R216 to R219, R225 to R227) -/

section
variable {e : ECtx} {u : EUnit} {x : EOp} {bs : List Byte}

theorem eLdv_got (hn : x.n ≤ 16) (hv : x.v + x.n ≤ 16) (hr : readBursts e u (areg u x.a) x.n = .got bs) :
    eLdv e u x = .done (pass (moved
      { noteReads u (areg u x.a) x.n with vregs := wrBytes u.vregs (32 * x.v) bs } x [(x.a, x.n)])) [] e.k := by
  have vregs : (noteReads u (areg u x.a) x.n).vregs = u.vregs := (rowsOnly_noteReads u _ _).vregs
  unfold eLdv
  simp only [hr, vregs]
  exact if_neg (by omega)

theorem eStv_open (hn : x.n ≤ 16) (hv : x.v + x.n ≤ 16) (ho : spanOpen e u (areg u x.a) x.n) :
    let bs := rdBytes u.vregs (32 * x.v) (32 * x.n)
    eStv e u x = .done (pass (moved (wrote u (areg u x.a) bs) x [(x.a, x.n)])) (burstsOf (areg u x.a) bs) e.k :=
  by
  intro bs
  unfold eStv
  rw [if_neg (by omega), afterWrite_writeSpan x _ (by rwa [ceilDiv_bursts (length_rdBytes _ _ _)])]

theorem eShv_got (hr : readBursts e u (areg u x.a) x.n = .got bs) :
    let old := if bit x.flags 0 then [] else u.patch
    old.length + 8 * x.n ≤ 512 →
    eShv e u x = .done (pass (moved
      { noteReads u (areg u x.a) x.n with patch := old ++ words32 bs, rowOpen := if bit x.flags 0 then false else u.rowOpen }
      x [(x.a, x.n)])) [] e.k := by
  intro old hl
  unfold eShv
  simp only [hr, (rowsOnly_noteReads u _ _).rowOpen]
  exact if_neg (Nat.not_lt.2 hl)

theorem eStrm_got (hn : x.n ≤ 32) :
    let d := bits x.imm 2 0
    spansMeet (areg u x.a) x.n (areg u d) x.n = false → readBursts e u (areg u x.a) x.n = .got bs → bs.length = 32 * x.n →
    spanOpen e (noteReads u (areg u x.a) x.n) (areg u d) x.n →
    eStrm e u x = .done (pass (moved (wrote (noteReads u (areg u x.a) x.n) (areg u d) bs) x [(x.a, x.n), (d, x.n)]))
      (burstsOf (areg u d) bs) e.k := by
  intro d hm hr hl ho
  have apart : ¬ (32 < x.n ∨ spansMeet (areg u x.a) x.n (areg u d) x.n = true) := by simp [hn, hm]
  unfold eStrm
  simp only [hr]
  exact (if_neg apart).trans (afterWrite_writeSpan x _ (by rwa [ceilDiv_bursts hl]))

theorem eDq_got (hf : streamFmt (eStream u) = true) (hfo : eOut u ∈ [0x01, 0x02, 0x03, 0x04, 0x05]) :
    let d := bits x.imm 2 0
    let outBits := x.n * perBurst (eStream u) * fmtBits (eOut u)
    let vals := (spanElems u (eStream u) (areg u x.a) bs x.n).map fun (_, y, sc) => encodeElem .nearest (eOut u) (elemValue (eStream u) y sc)
    let out := packElems (eOut u) vals
    outBits % 256 = 0 → x.n + outBits / 256 ≤ 64 → readBursts e u (areg u x.a) x.n = .got bs →
    spanOpen e (noteReads u (areg u x.a) x.n) (areg u d) (ceilDiv out.length 32) →
    eDq e u x = .done (pass (moved (wrote (noteReads u (areg u x.a) x.n) (areg u d) out) x [(x.a, x.n), (d, outBits / 256)]))
      (burstsOf (areg u d) out) e.k := by
  intro d outBits vals out hwhole hfits hr ho
  have accepted : ¬ ((!streamFmt (eStream u)) = true ∨ (!([0x01, 0x02, 0x03, 0x04, 0x05].contains (eOut u))) = true ∨
      outBits % 256 ≠ 0 ∨ 64 < x.n + outBits / 256) := by
    rintro (h | h | h | h)
    · simp [hf] at h
    · rw [List.contains_iff_mem.2 hfo] at h; cases h
    · exact h hwhole
    · omega
  unfold eDq
  simp only [hr]
  exact (if_neg accepted).trans (afterWrite_writeSpan x _ ho)

end

/-- Settles O43: each stream operation by what its body makes of bursts that can be read and written. -/
theorem emberStreams : Obligations.EmberStreams := by
  unfold Obligations.EmberStreams
  refine ⟨?ldv, ?stv, ?shv, ?strm, ?dq⟩
  case ldv => intro e h u x bs a hn hv hr; exact exec_ember_done rfl a (by decide) (eLdv_got hn hv hr)
  case stv => intro e h u x a hn hv ho; exact exec_ember_done rfl a (by decide) (eStv_open hn hv ho)
  case shv => intro e h u x bs a hr old hl; exact exec_ember_done rfl a (by decide) (eShv_got hr hl)
  case strm => intro e h u x bs a hn d hm hr hl ho; exact exec_ember_done rfl a (by decide) (eStrm_got hn hm hr hl ho)
  case dq =>
    intro e h u x bs a hf hfo d outBits vals out hwhole hfits hr ho
    exact exec_ember_done rfl a (by decide) (eDq_got hf hfo hwhole hfits hr ho)

/-! ## Reductions (R222 to R225) -/

section
variable {e : ECtx} {u : EUnit} {x : EOp} {bs : List Byte} {q z : RSlot}

/-- The line at which MAC's vector starts (R222). -/
def macLine (u : EUnit) (x : EOp) : Nat := (u.bb + x.line) % 128

/-- The bytes that MAC's vector takes, one element for each of the span (R222). -/
def macVectorBytes (u : EUnit) (x : EOp) : Nat := packedBytes (eVector u) (x.n * perBurst (eStream u))

/-- The patch queue that MAC leaves, and its elements as the queue patches them (R225). -/
def macPatched (u : EUnit) (x : EOp) (bs : List Byte) : List (BitVec 32) × List (Nat × Nat × Nat) :=
  let queue := if bits x.flags 3 2 = 2 ∧ u.rowOpen = true then dropRow u.patch else u.patch
  let elems := spanElems u (eStream u) (areg u x.a) bs x.n
  if bits x.flags 3 2 = 0 then (queue, elems) else patchSpan (fmtBits (eStream u)) queue elems

/-- The terms of MAC: its elements, each with the element of the vector at its place unless sum is set (R222). -/
def macTerms (e : ECtx) (u : EUnit) (x : EOp) (bs : List Byte) : List (Nat × Nat × Nat × Nat × Nat) :=
  let sum := bit x.flags 4
  let vec := if sum then [] else vectorBytes e (macLine u x) (macVectorBytes u x)
  (macPatched u x bs).2.zipIdx.map fun ((_, y, sc), i) =>
    (eStream u, y, sc, if sum then 0 else eVector u, if sum then 0 else elemBits (eVector u) vec i)

/-- The slot before the first term: clear when clr is set (R223). -/
def macStart (u : EUnit) (x : EOp) : RSlot := if bit x.flags 0 then {} else at? u.slots x.p {}

/-- The unit once MAC has read and patched its bursts. -/
def macRead (u : EUnit) (x : EOp) (bs : List Byte) : EUnit :=
  moved { noteReads u (areg u x.a) x.n with
    patch := (macPatched u x bs).1, rowOpen := if bits x.flags 3 2 = 2 then true else u.rowOpen } x [(x.a, x.n)]

/-- The free values that MAC uses: the vector's bytes, when some lie past the buffer's end (log entry 93). -/
def macFree (u : EUnit) (x : EOp) : Nat :=
  if bit x.flags 4 = false ∧ 4096 < 32 * macLine u x + macVectorBytes u x then macVectorBytes u x else 0

theorem macRead_slots (u : EUnit) (x : EOp) (bs : List Byte) : (macRead u x bs).slots = u.slots :=
  (moved_slots _ _ _ _).trans (rowsOnly_noteReads u _ _).slots

/-- A MAC whose formats are accepted, whose bursts can be read, and whose terms fit its slot, which they leave as `q` (R222, R223). -/
structure MacAccepts (e : ECtx) (u : EUnit) (x : EOp) (bs : List Byte) (q : RSlot) : Prop where
  stream : streamFmt (eStream u) = true
  vector : bit x.flags 4 = true ∨ vectorFmt (eVector u) = true
  patch : bits x.flags 3 2 ≠ 3
  read : readBursts e u (areg u x.a) x.n = .got bs
  adds : addTerms (macStart u x) (macTerms e u x bs) = some q

/-- An accepted MAC keeps its slot, or with fls set closes it and shifts its root into V[v] (R223). -/
theorem eMac_accepted (m : MacAccepts e u x bs q) : eMac e u x =
    if bit x.flags 1 then
      match (if q.terms = [] then some q else closeChunk q) with
      | none => .fault 3 0xFF
      | some z => .done (pass { shiftIn (macRead u x bs) x.v ((treeRoot fpAdd z.chunks z.levels none).getD 0) with slots := u.slots.set x.p {} })
        [] (e.k + macFree u x)
    else .done (pass { macRead u x bs with slots := u.slots.set x.p q }) [] (e.k + macFree u x) := by
  have accepted : ¬ (streamFmt (eStream u) = false ∨ (bit x.flags 4 = false ∧ vectorFmt (eVector u) = false) ∨ bits x.flags 3 2 = 3) := by
    rintro (h | ⟨hs, hv⟩ | h)
    · simp [m.stream] at h
    · rcases m.vector with h | h
      · simp [h] at hs
      · simp [h] at hv
    · exact m.patch h
  have free : (if bit x.flags 4 = false ∧ 4096 < 32 * macLine u x + macVectorBytes u x then e.k + macVectorBytes u x else e.k) =
      e.k + macFree u x := by
    rw [macFree, add_free_ite]
  have adds := m.adds
  rw [← free, ← macRead_slots u x bs]
  unfold eMac
  simp only [m.read, Bool.and_eq_true, Bool.not_eq_true', decide_eq_true_eq, List.isEmpty_iff, (rowsOnly_noteReads u _ _).rowOpen]
  simp only [macTerms, macPatched, macStart, macLine, macVectorBytes] at adds
  rw [if_neg accepted, adds]
  rfl

theorem eMac_keeps (m : MacAccepts e u x bs q) (hf : bit x.flags 1 = false) :
    eMac e u x = .done (pass { macRead u x bs with slots := u.slots.set x.p q }) [] (e.k + macFree u x) := by
  rw [eMac_accepted m, if_neg (by simp [hf])]

theorem eMac_flushes (m : MacAccepts e u x bs q) (hf : bit x.flags 1 = true) (hz : (if q.terms = [] then some q else closeChunk q) = some z) :
    eMac e u x = .done (pass { shiftIn (macRead u x bs) x.v ((treeRoot fpAdd z.chunks z.levels none).getD 0) with slots := u.slots.set x.p {} })
      [] (e.k + macFree u x) := by
  rw [eMac_accepted m, if_pos hf, hz]

end

/-- Settles O44: MAC without a flush, and with one. -/
theorem emberMac : Obligations.EmberMac := by
  unfold Obligations.EmberMac
  intro e h u x bs q a fs fv sum pat line vb vec q0 elems r terms start w used hs hv hp hr hq
  have accepted : MacAccepts e u x bs q := ⟨hs, hv, hp, hr, hq⟩
  refine ⟨fun hf => ?keeps, fun z hf hz => ?flushes⟩
  case keeps => exact exec_ember_done rfl a (by decide) (eMac_keeps accepted hf)
  case flushes => exact exec_ember_done rfl a (by decide) (eMac_flushes accepted hf hz)

/-! ## Attention (R228 to R232) -/

section
variable {e : ECtx} {u : EUnit} {x : EOp} {bs : List Byte}

theorem eAsc_got :
    let k := bits x.imm 4 0
    let sod := areg u x.a
    let line := (u.bb + x.line) % 128
    let qb := packedBytes (eVector u) 128
    let query := vectorBytes e line qb
    1 ≤ k → k ≤ 16 → turfFmt (eStream u) = true → vectorFmt (eVector u) = true → u.scores.length + k ≤ 128 →
    readSpans e u ((List.range k).map fun j => (keyAddr sod j, 4)) = .got bs →
    eAsc e u x = .done (pass (moved { noteReads u (keyAddr sod 0) 1 with
      scores := u.scores ++ (List.range k).map fun j =>
        scoreOf (eStream u) (eVector u) (slice bs (128 * j) 128) query (BitVec.ofNat 32 (argOf u x.v)) } x [(x.a, 128)]))
      [] (e.k + if 4096 < 32 * line + qb then qb else 0) := by
  intro k sod line qb query hk hk' hs hv hl hr
  have accepted : ¬ (k = 0 ∨ 16 < k ∨ (!turfFmt (eStream u)) = true ∨ (!vectorFmt (eVector u)) = true ∨ 128 < u.scores.length + k) := by
    simp only [hs, hv, Bool.not_true, Bool.false_eq_true, false_or]
    omega
  rw [add_free_ite]
  unfold eAsc
  simp only [k, sod] at hr
  simp only [hr, (rowsOnly_noteReads u _ _).scores]
  exact if_neg accepted

theorem eAvg_got (hs : turfFmt (eStream u) = true) :
    let g := bits x.imm 1 0
    let n := u.scoresBack.length
    let first := areg u x.a / 128 * 128
    let read := (List.range (ceilDiv n 16)).foldl (fun w i => noteReads w (addrPlus first (128 * i)) 1) u
    let o := (List.range 32).map fun d =>
      if u.chunkM = fpMinusInf then (0 : FP32)
      else alignedChunk ((List.range n).map fun i =>
        mulNum (numOf (at? u.probs i 0)) (elemValue (eStream u) (elemBits (eStream u) (slice bs (32 * i) 32) d) 0))
    readSpans e u ((List.range n).map fun i => (valueAddr (addrPlus first (128 * (i / 16))) (i % 16) g, 1)) = .got bs →
    eAvg e u x = .done (pass (moved { read with
      chunkO := read.chunkO.take (32 * g) ++ o ++ read.chunkO.drop (32 * g + 32)
      chunkBuf := wrBytes read.chunkBuf 0 bs } x [(x.a, n)])) [] e.k := by
  intro g n first read o hr
  have rows : RowsOnly u read := RowsOnly.foldl (fun w i => rowsOnly_noteReads w _ _) _ u
  simp only [o, ← rows.chunkM, ← rows.probs]
  unfold eAvg
  simp only [g, n, first] at hr
  simp only [hr]
  exact if_neg (by simp [hs])

theorem eAcl_pushes {t : List SState} (ht : treePush mergeStates 8 u.treeCount u.tree { m := u.chunkM, s := u.chunkS, o := u.chunkO } = some t) :
    eAcl e u x = .done (pass { u with tree := t, treeCount := u.treeCount + 1 }) [] e.k := by
  simp only [eAcl, ht]

/-- The root of the state tree; of an empty one it is free (log entry 14). -/
def treeState (e : ECtx) (u : EUnit) : SState :=
  (treeRoot mergeStates u.treeCount u.tree none).getD
    { m := Config.freeFP32 e.k, s := Config.freeFP32 (e.k + 1), o := (List.range 128).map fun i => Config.freeFP32 (e.k + 2 + i) }

/-- The bytes that AFL writes: the root, normalised when flags[0] is set (R232). -/
def flushedBytes (e : ECtx) (u : EUnit) (x : EOp) : List Byte :=
  let root := treeState e u
  stateBytes (if bit x.flags 0 then { root with o := root.o.map fun v => fpMul v (fpRcp root.s) } else root)

/-- A unit whose state tree is clear. -/
def treeCleared (u : EUnit) : EUnit := { u with tree := List.replicate 7 {}, treeCount := 0 }

/-- What AFL does once its bytes are written: a normalised state is noted, and the address register moves on. -/
def flushWritten (u : EUnit) (x : EOp) : EIssue → EIssue
  | .done w ws k => afterWrite x [(x.a, 17)] (.done (if bit x.flags 0 then { w with normalised := areg u x.a :: w.normalised } else w) ws k)
  | r => r

theorem eAfl_writes : eAfl e u x = flushWritten u x
    (writeSpan e (treeCleared u) (areg u x.a) (flushedBytes e u x) (e.k + if u.treeCount = 0 then 130 else 0)) := by
  rw [add_free_ite]
  unfold eAfl flushedBytes treeState
  cases treeRoot mergeStates u.treeCount u.tree none with
  | none => rfl
  | some root => rfl

theorem eAfl_open (ho : spanOpen e (treeCleared u) (areg u x.a) 17) :
    let w := wrote (treeCleared u) (areg u x.a) (flushedBytes e u x)
    eAfl e u x = .done (pass (moved (if bit x.flags 0 then { w with normalised := areg u x.a :: w.normalised } else w) x [(x.a, 17)]))
      (burstsOf (areg u x.a) (flushedBytes e u x)) (e.k + if u.treeCount = 0 then 130 else 0) := by
  have bursts : ceilDiv (flushedBytes e u x).length 32 = 17 := ceilDiv_bursts (length_stateBytes _)
  intro w
  rw [eAfl_writes, write_span (by rwa [bursts])]
  rfl

theorem eAsl_got (hl : bits x.imm 2 0 ≠ 7) (hn : ∀ y ∈ u.normalised, spansMeet (areg u x.a) 17 y 17 = false)
    (hr : readBursts e u (areg u x.a) 17 = .got bs) : eAsl e u x = .done (pass (moved { noteReads u (areg u x.a) 17 with
      tree := u.tree.set (bits x.imm 2 0) (stateFrom bs), treeCount := 2 ^ bits x.imm 2 0 } x [(x.a, 17)])) [] e.k := by
  have accepted : ¬ (bits x.imm 2 0 = 7 ∨ u.normalised.any (spansMeet (areg u x.a) 17 · 17) = true) := by
    simpa [hl] using hn
  unfold eAsl
  simp only [hr, (rowsOnly_noteReads u _ _).tree]
  exact if_neg accepted

end

/-- Settles O45: each attention operation by what its body makes of the unit's scores, chunk state and state tree. -/
theorem emberAttention : Obligations.EmberAttention := by
  unfold Obligations.EmberAttention
  refine ⟨?asc, ?asm, ?avg, ?acl, ?afl, ?asl⟩
  case asc =>
    intro e h u x bs a k sod line qb query hk hk' hs hv hl hr
    exact exec_ember_done rfl a (by decide) (eAsc_got hk hk' hs hv hl hr)
  case asm => intro e h u x a; exact exec_ember_done rfl a (by decide) rfl
  case avg => intro e h u x bs a hs g n first read o hr; exact exec_ember_done rfl a (by decide) (eAvg_got hs hr)
  case acl => intro e h u x t a ht; exact exec_ember_done rfl a (by decide) (eAcl_pushes ht)
  case afl => intro e h u x a root out v w ho; exact exec_ember_done rfl a (by decide) (eAfl_open ho)
  case asl => intro e h u x bs a hl hn hr; exact exec_ember_done rfl a (by decide) (eAsl_got hl hn hr)

end Sys2Proof.Machine
end

section
/-!
PROOFS. The packets of the serving engine: requests (R245 to R249, R279 to R281), models and shavings (R240, R272 to R278, R332), serving
settings, sharing groups and reply contexts (R243, R267, R333).
-/
namespace Sys2Proof.Machine

open Sys2Proof

/-! ## Tests that pass, one by one -/

theorem packetSender_ctx (p : Packet) : (packetSender p).ctx = p.ctx := rfl

section
variable {a b c : Bool} {i j k : Nat}

theorem pass_one (ha : a = false) : ∀ e ∈ [(a, i)], e.1 = false := List.forall_mem_singleton.2 ha

theorem pass_two (ha : a = false) (hb : b = false) : ∀ e ∈ [(a, i), (b, j)], e.1 = false := List.forall_mem_cons.2 ⟨ha, pass_one hb⟩

theorem pass_three (ha : a = false) (hb : b = false) (hc : c = false) : ∀ e ∈ [(a, i), (b, j), (c, k)], e.1 = false :=
  List.forall_mem_cons.2 ⟨ha, pass_two hb hc⟩

end

/-! ## Packets of requests (R245 to R249, R279 to R281) -/

/-- The request that an admitted GENERATE enters, from its request block. -/
abbrev generateReq (s : State) (p : Packet) (x : List Byte) : Req :=
  reqFrom s (packetSender p) (ownParams p) (reqBlockOf x) (newHandle s p.ctx p.choice.pick)

/-- A GENERATE that passes its tests: a model and a version that may be bound, a target that fits the clamp's role, and a request block that
can be read, with room for it (R246, R247). -/
structure GenerateFits (s : State) (p : Packet) (m : Model) (head x : List Byte) : Prop where
  model : modelOf s (clampNum s p.ctx) (u64 (ownParams p) 0) = some m
  stays : m.retiring = false
  kind : u8 (ownParams p) 35 ≤ 1
  mixed : (clampOf s (clampNum s p.ctx)).role = 0 → u8 (ownParams p) 35 = 0
  prefill : (clampOf s (clampNum s p.ctx)).role = 1 → u8 (ownParams p) 35 = 1
  target : u8 (ownParams p) 35 = 1 → u8 (ownParams p) 34 ≤ 7
  role : (clampOf s (clampNum s p.ctx)).role ≠ 2
  resident : u8 (ownParams p) 35 = 1 → u16 (ownParams p) 32 = s.flue.moduleId →
    (modelOf s (u8 (ownParams p) 34) (u64 (ownParams p) 0)).isSome = true
  shaving : u16 (ownParams p) 8 = 0 ∨
    ∃ v ∈ s.serve.versions, v.of (clampNum s p.ctx) (u64 (ownParams p) 0) (u16 (ownParams p) 8) = true ∧ v.current = true
  context : u16 (ownParams p) 36 ≤ 1023
  readHead : readParamTensor s p.ctx (handleAt (ownParams p) 16) (u64 (ownParams p) 24) 512 655360 = .ok head
  short : u32 head 0 < m.maxSeq
  readBlock : readParamTensor s p.ctx (handleAt (ownParams p) 16) (u64 (ownParams p) 24) (512 + 4 * u32 head 0) 655360 = .ok x
  block : badReqBlock x m.vocab m.maxSeq = false
  reply : u8 (ownParams p) 35 = 0 ∨ u16 (ownParams p) 32 = s.flue.moduleId →
    badReply s (generateReq s p x).targetClamp (generateReq s p x).replyCtx = false
  served : servesModel s (clampNum s p.ctx) m = true
  table : tableFull s (clampNum s p.ctx) = false
  pool : promptTooBig s (clampNum s p.ctx) m (u32 head 0) = false

section
variable {s : State} {p : Packet} {m : Model} {head x : List Byte} (f : GenerateFits s p m head x)
include f

theorem GenerateFits.modelOpen : (modelOf s (clampNum s p.ctx) (u64 (ownParams p) 0)).filter (fun m => !m.retiring) = some m := by
  simp [f.model, f.stays]

theorem GenerateFits.targetFits : (decide (1 < u8 (ownParams p) 35) || ((clampOf s (clampNum s p.ctx)).role == 0 && u8 (ownParams p) 35 != 0)
    || ((clampOf s (clampNum s p.ctx)).role == 1 && u8 (ownParams p) 35 != 1)
    || (u8 (ownParams p) 35 == 1 && decide (7 < u8 (ownParams p) 34))) = false := by
  simpa using ⟨⟨⟨f.kind, f.mixed⟩, f.prefill⟩, f.target⟩

/-- A target clamp of this module has the model (R247). -/
theorem GenerateFits.targetServes : ((u8 (ownParams p) 35 == 0 || u16 (ownParams p) 32 == s.flue.moduleId) && u8 (ownParams p) 35 == 1
    && (modelOf s (u8 (ownParams p) 34) (u64 (ownParams p) 0)).isNone) = false := by
  rcases Nat.eq_or_lt_of_le f.kind with hk | hk
  · by_cases hm : u16 (ownParams p) 32 = s.flue.moduleId
    · simp [hk, hm, f.resident]
    · simp [hk, hm]
  · simp [Nat.lt_one_iff.1 hk]

theorem GenerateFits.shavingKnown : (u16 (ownParams p) 8 == 0 ||
    s.serve.versions.any fun v => v.of (clampNum s p.ctx) (u64 (ownParams p) 0) (u16 (ownParams p) 8) && v.current) = true := by
  simpa using f.shaving

/-- A reply context of this module serves the clamp that decodes (R247). -/
theorem GenerateFits.replyServes : ((u8 (ownParams p) 35 == 0 || u16 (ownParams p) 32 == s.flue.moduleId)
    && badReply s (generateReq s p x).targetClamp (generateReq s p x).replyCtx) = false := by
  simpa using f.reply

/-- GENERATE whose tests pass. -/
theorem decideGenerate_pass :
    decideGenerate s (packetSender p) p = runsAs (.generate (generateReq s p x).id) (fun _ t => addReq t (generateReq s p x)) s p := by
  unfold decideGenerate
  simp only [packetSender_ctx, f.modelOpen, f.targetFits, f.targetServes, f.shavingKnown, decide_eq_false (Nat.not_lt.2 f.context), f.readHead,
    f.readBlock, if_neg (Nat.not_le.2 f.short), Bool.not_true, Bool.or_self, Bool.false_eq_true, if_false]
  refine acceptCmd_pass rfl (List.forall_mem_cons.2 ⟨f.block, pass_three ?rights ?served ?room⟩)
  case rights => simpa [f.role] using f.replyServes
  case served => simp [f.served]
  case room => simp [f.table, f.pool]

end

section
variable {s : State} {p : Packet} {q : Req}

/-- REQUEST_CANCEL by a context that the request concerns. -/
theorem decideRequestCancel_pass (hq : reqByHandle s (handleAt (ownParams p) 0) = some q) (hc : concerns s p.ctx q = true) :
    decideRequestCancel s (packetSender p) p = runsAs (.requestCancel q.id) (fun me t =>
      if q.sentAway then forwardCancel t me q
      else
        let r := cancelReq t q.id
        finish r.1 me (if r.2 then stOk else stAlreadyDone)) s p := by
  unfold decideRequestCancel
  simp only [hq]
  exact acceptCmd_pass rfl (pass_one (by simp [packetSender_ctx, hc]))

/-- REQUEST_QUERY by a context that the request concerns. -/
theorem decideRequestQuery_pass (hq : reqByHandle s (handleAt (ownParams p) 0) = some q) (hc : concerns s p.ctx q = true) :
    decideRequestQuery s (packetSender p) p = .ok (q.state.code + 256 * b2n q.stalled + 512 * b2n q.parked + 2 ^ 32 * q.kvLen) := by
  unfold decideRequestQuery
  simp only [hq]
  exact unless_pass (pass_one (by simp [packetSender_ctx, hc]))

end

/-- Settles O6: each packet's verdict by `decides_of`, from its decision once its own tests pass. -/
theorem requestPackets : Obligations.RequestPackets := by
  unfold Obligations.RequestPackets
  refine ⟨fun m head x => ?generate, fun q => ?cancel, fun q => ?query⟩
  case generate =>
    refine decides_of (fun _ _ => rfl) fun s p hp => ?_
    obtain ⟨model, opened, kind, mixed, prefill, target, role, resident, shaving, context, readHead, short, readBlock, block, reply, served,
      table, pool⟩ := hp
    exact decideGenerate_pass ⟨model, opened, kind, mixed, prefill, target, role, resident, shaving, context, readHead, short, readBlock, block,
      reply, served, table, pool⟩
  case cancel => exact decides_of (fun _ _ => rfl) fun s p hp => decideRequestCancel_pass hp.1 hp.2
  case query => exact decides_of (fun _ _ => rfl) fun s p hp => decideRequestQuery_pass hp.1 hp.2

/-! ## Packets of models and shavings (R240, R272 to R278, R332) -/

/-- The values of a MODEL_REGISTER that lie in their ranges pass the decision's test of them. -/
theorem modelInRange_accepted {b : List Byte} (h : modelInRange b) :
    (decide (u64 b 0 = 0 ∨ u32 b 8 < 2 ∨ 16777216 < u32 b 8 ∨ u8 b 12 = 0 ∨ u8 b 13 = 0 ∨ 64 < u8 b 13 ∨ u16 b 14 ≠ 128
      ∨ u32 b 20 < 16 ∨ 131072 < u32 b 20 ∨ u32 b 20 % 16 ≠ 0) || !([0x02, 0x04, 0x05].contains (u8 b 16))) = false := by
  obtain ⟨fingerprint, vocab, vocab', layers, heads, heads', dim, format, positions, positions', blocks⟩ := h
  refine Bool.or_eq_false_iff.2 ⟨decide_eq_false (by omega), ?_⟩
  rcases format with h | h | h <;> simp [h]

/-- A verdict whose acceptance ends the replacements before it (R277). -/
def superseding (k m n : Nat) (v : Verdict) : Verdict :=
  { v with effect := fun s => v.effect (if v.status = stAccepted then endReplaces s k m n else s) }

/-- SHAVING_REPLACE when no test fails. -/
theorem decideShavingReplace_pass {s : State} {p : Packet}
    (hv : ∃ v ∈ s.serve.versions, v.of (clampNum s p.ctx) (u64 (ownParams p) 0) (u16 (ownParams p) 8) = true ∧ v.current = true)
    (hr : retiringShaving s (clampNum s p.ctx) (u64 (ownParams p) 0) (u16 (ownParams p) 8) = false)
    (hb : badVersion s (clampNum s p.ctx) p (ownParams p) = false) (hd : deniedTensor s p.ctx (handleAt (ownParams p) 16) false = false)
    (hl : versionRoomLacks s (clampNum s p.ctx) (handleAt (ownParams p) 16) = true → bit (u8 (ownParams p) 32) 0 = true) :
    decideShavingReplace s (packetSender p) p =
      (let b := ownParams p
       let k := clampNum s p.ctx
       superseding k (u64 b 0) (u16 b 8) (runsAs (.shavingReplace k (u64 b 0) (u16 b 8) (u64 b 24) (handleAt b 16)) (fun me t =>
         if versionRoomLacks s k (handleAt b 16) then
           { t with serve := { t.serve with noBind := t.serve.noBind ++ [(k, u64 b 0, u16 b 8)] } }
         else modCmd t me fun c => { c with done := true }) s p)) := by
  refine congrArg (superseding _ _ _) (acceptCmd_pass rfl (pass_three ?known hd ?room))
  case known =>
    have known : (s.serve.versions.any fun v => v.of (clampNum s p.ctx) (u64 (ownParams p) 0) (u16 (ownParams p) 8) && v.current) = true := by
      simpa using hv
    simp only [packetSender_ctx, known, hr, hb, Bool.not_false, Bool.and_self, Bool.not_true, Bool.or_self]
  case room => simpa [packetSender_ctx] using hl

/-- Settles O7: each packet's verdict by `decides_of`, from the tests of its decision, none of which fails. -/
theorem modelAndShavingPackets : Obligations.ModelAndShavingPackets := by
  unfold Obligations.ModelAndShavingPackets
  refine ⟨?register, ?retire, ?load, ?replace, ?retireShaving⟩
  case register =>
    refine decides_of (fun _ _ => rfl) fun s p hp => ?_
    obtain ⟨hr, hm, hg, hg', hd, hd', hn⟩ := hp
    change decideModelRegister s (packetSender p) p = _
    unfold decideModelRegister
    refine acceptCmd_pass rfl (pass_three ?_ (Bool.or_eq_false_iff.2 ⟨hd, hd'⟩) (decide_eq_false (Nat.not_le.2 hn)))
    simp only [packetSender_ctx, modelInRange_accepted hr, hm, hg, hg', Option.isSome_none, Bool.or_self]
  case retire =>
    refine decides_of (fun _ _ => rfl) fun s p hm => ?_
    change decideModelRetire s (packetSender p) p = _
    unfold decideModelRetire
    exact acceptCmd_pass rfl (pass_one (Option.isNone_eq_false_iff.2 hm))
  case load =>
    refine decides_of (fun _ _ => rfl) fun s p hp => ?_
    obtain ⟨hm, hn, hv, hb, hd, hr⟩ := hp
    have fresh : (s.serve.versions.any fun v => v.clamp == clampNum s p.ctx && v.number == u16 (ownParams p) 8) = false := by
      simpa using hv
    change decideShavingLoad s (packetSender p) p = _
    unfold decideShavingLoad
    refine acceptCmd_pass rfl (pass_three ?_ hd hr)
    simp only [packetSender_ctx, Option.isNone_eq_false_iff.2 hm, beq_eq_false_iff_ne.2 hn, fresh, hb, Bool.or_self]
  case replace =>
    refine decides_of (fun _ _ => rfl) fun s p hp => ?_
    obtain ⟨hv, hr, hb, hd, hl⟩ := hp
    exact decideShavingReplace_pass hv hr hb hd hl
  case retireShaving =>
    refine decides_of (fun _ _ => rfl) fun s p hv => ?_
    change decideShavingRetire s (packetSender p) p = _
    unfold decideShavingRetire
    refine acceptCmd_pass rfl (pass_one ?_)
    simpa [packetSender_ctx] using hv

/-! ## Packets of serving settings (R243, R267, R333) -/

/-- Settles O8: each packet's verdict by `decides_of`, from the tests of its decision, none of which fails. -/
theorem servingSettingPackets : Obligations.ServingSettingPackets := by
  unfold Obligations.ServingSettingPackets
  refine ⟨?configure, ?group, ?reply⟩
  case configure =>
    refine decides_of (fun _ _ => rfl) fun s p hp => ?_
    obtain ⟨hk, hs, hc, hb, hn, hr⟩ := hp
    refine unless_pass (pass_three ?values ?rights ?room)
    case values => simp [hk, hb]
    case rights => simp [hs, hc]
    case room =>
      refine decide_eq_false ?_
      rintro (⟨hold, hfull⟩ | hlack)
      · have := hn (Option.isNone_iff_eq_none.1 hold)
        omega
      · exact absurd hr (Nat.not_le.2 hlack)
  case group =>
    refine decides_of (fun _ _ => rfl) fun s p hp => ?_
    obtain ⟨hg, hg', hl, hl', hm⟩ := hp
    refine unless_pass (pass_one (Bool.or_eq_false_iff.2 ⟨decide_eq_false (by omega), List.any_eq_false.2 fun n hn => ?_⟩))
    obtain ⟨c, hc, he⟩ := hm n hn
    simp [hc, he]
  case reply => exact decides_of (fun _ _ => rfl) fun s p hv => unless_inRange hv

end Sys2Proof.Machine
end

section
/-!
PROOFS. The rows of the serving engine: admission, prefill, steps, commit slots and handovers (R248 to R252, R262, R268, R269, R282), and the
stop checks on a token (R257).
-/
namespace Sys2Proof.Machine

open Sys2Proof

/-! ## The stop checks (R257) -/

/-- The tokens generated end with a stop sequence when it is a suffix of them. -/
theorem endsWith_iff (gen stop : List Nat) : endsWith gen stop = true ↔ stop <:+ gen := by
  rw [List.suffix_iff_eq_drop, endsWith, Bool.and_eq_true, decide_eq_true_eq, beq_iff_eq]
  refine ⟨fun h => h.2.symm, fun h => ⟨?_, h.symm⟩⟩
  have length := congrArg List.length h
  rw [List.length_drop] at length
  omega

/-- A request that a token has joined, on which the stop checks are made (R257). -/
def withToken (q : Req) (t : Nat) : Req := { q with generated := q.generated ++ [t], openRec := q.openRec ++ [t] }

theorem appendToken_eq (m t : Nat) (q : Req) :
    appendToken m t q = { withToken q t with endReason := stopReason (withToken q t) t m, status := stOk } := rfl

section
variable {q : Req} {t m : Nat}

theorem stopReason_endToken (h : t ∈ q.block.endTokens) : stopReason q t m = 1 := if_pos (by simpa using h)

theorem stopReason_stopSeq {stop : List Nat} (ht : t ∉ q.block.endTokens) (hs : stop ∈ q.block.stopSeqs) (he : stop <:+ q.generated) :
    stopReason q t m = 3 :=
  (if_neg (by simpa using ht)).trans (if_pos (List.any_eq_true.2 ⟨stop, hs, (endsWith_iff _ _).2 he⟩))

theorem stopReason_limits (ht : t ∉ q.block.endTokens) (hs : ∀ stop ∈ q.block.stopSeqs, ¬ stop <:+ q.generated) :
    stopReason q t m = if q.block.maxNew ≤ q.generated.length ∨ m ≤ q.kvLen + 1 then 2 else 0 :=
  (if_neg (by simpa using ht)).trans (if_neg fun h => by
    obtain ⟨stop, hm, he⟩ := List.any_eq_true.1 h
    exact hs stop hm ((endsWith_iff _ _).1 he))

end

/-- Settles O48: the checks are made on the request that the token has joined, each by its branch of `stopReason`. -/
theorem stopChecks : Obligations.StopChecks := by
  unfold Obligations.StopChecks
  simp only [appendToken_eq]
  refine ⟨fun _ _ _ => ⟨rfl, rfl⟩, fun q t m ht => stopReason_endToken ht, fun q t m stop ht hs he => stopReason_stopSeq ht hs he,
    fun q t m ht hs => ?limits⟩
  case limits =>
    have length : (withToken q t).generated.length = q.generated.length + 1 := List.length_append
    rw [← length]
    exact stopReason_limits ht hs

/-! ## Rows of the serving engine (R248 to R252, R262, R282) -/

section
variable {s : State} {id : Nat} {q : Req} {m : Model} {v : Option Nat}

/-- A request that is to be admitted: its model stands whole in a running clamp, and its version may be bound (R248, R273). -/
structure Admissible (s : State) (id : Nat) (q : Req) (m : Model) (v : Option Nat) : Prop where
  request : reqOf s id = some q
  model : modelOf s q.clamp q.model = some m
  version : bindVersion s q = some v
  waits : q.state = .admitting
  here : q.remote = none
  running : (clampOf s q.clamp).state = .running
  whole : modelLost s m = false

/-- The blocks that an admission shares, and whether the walk met a false match (R268). -/
abbrev admissionHit (s : State) (q : Req) (v : Option Nat) : List PfxEntry × Bool := confirmed s { q with version := v } (v.getD 0)

/-- The turves found for an admission, and whether the prompt has all of its own. -/
abbrev admissionRoom (s : State) (id : Nat) (q : Req) (v : Option Nat) : State × Bool :=
  growTurves (turfCount q.block.promptLen) (shareBlocks s id (admissionHit s q v).1) id (turfCount q.block.promptLen)

/-- An admission that finds its turves (R248, R268, R269). -/
theorem exec_servingAdmission_room (a : Admissible s id q m v) (hr : (admissionRoom s id q v).2 = true) :
    let hit := admissionHit s q v
    let u := modClamp (admissionRoom s id q v).1 q.clamp fun k => { k with
      prefixConfirmed := k.prefixConfirmed + hit.1.length, prefixFalse := k.prefixFalse + b2n hit.2 }
    let w := modReq u id fun q => { q with
      state := .prefill, version := v, admitted := u.serve.admissions, done := 16 * hit.1.length, kvLen := 16 * hit.1.length }
    exec (.servingAdmission id) s = .next { w with serve := { w.serve with admissions := w.serve.admissions + 1 } } := by
  intro hit u w
  have due : ¬ (q.state ≠ .admitting ∨ q.remote.isSome ∨ (clampOf s q.clamp).state ≠ .running) := by simp [a.waits, a.here, a.running]
  refine congrArg Host.Outcome.next ?_
  simp only [a.request, a.model, a.version]
  exact (if_neg due).trans ((if_neg (ne_true_of_eq_false a.whole)).trans (if_pos hr))

end

section
variable {s : State} {k id : Nat} {q : Req} {v : ServingCfg} {m : Model}

/-- A request whose next chunk of prefill a clamp can take (R250). -/
structure PrefillDue (s : State) (k id : Nat) (q : Req) (v : ServingCfg) (m : Model) : Prop where
  request : reqOf s id = some q
  serving : (clampOf s k).serving = some v
  model : modelOf s k q.model = some m
  clamp : q.clamp = k
  prefill : q.state = .prefill
  unsampled : q.first = none
  running : (clampOf s k).state = .running
  noPrefill : servingLive s k 0 = []
  noStep : (clampOf s k).role = 0 → servingLive s k 2 = []
  serves : servesModel s k m = true
  turn : prefillTurn s k = true
  whole : modelLost s m = false

/-- The turves with keys and values that a prefill command meets as ash. -/
abbrev prefillAsh (q : Req) (ash : List Nat) : List Nat := ash.filter fun i => decide (i < q.kvLen / 16)

variable (d : PrefillDue s k id q v m)
include d

theorem PrefillDue.isDue : ¬ (q.clamp ≠ k ∨ q.state ≠ .prefill ∨ q.first.isSome ∨ (clampOf s k).state ≠ .running
    ∨ !(servingLive s k 0).isEmpty ∨ ((clampOf s k).role = 0 ∧ !(servingLive s k 2).isEmpty) ∨ !servesModel s k m ∨ !prefillTurn s k) := by
  simpa [d.clamp, d.prefill, d.unsampled, d.running, d.noPrefill, d.serves, d.turn] using d.noStep

/-- A prefill command that is due, by the turves that it meets as ash (R250, R282). -/
theorem exec_prefillCommand_due (ash : List Nat) :
    let n := min v.prefillChunk (q.block.promptLen - q.done)
    let final := decide (q.done + n = q.block.promptLen)
    let token := if final then some (sampleToken q.block q.block.promptLen (logitsOf s m q)) else none
    let u := servingWork s k 0 (.prefill k id q.done n token)
    exec (.prefillCommand k id ash) s = .next (if !(prefillAsh q ash).isEmpty then settled (ashTurves s q (prefillAsh q ash))
      else { u with serve := { u.serve with prefillTurn := tset u.serve.prefillTurn k false } }) := by
  intro n final token u
  refine congrArg Host.Outcome.next ?_
  simp only [d.request, d.serving, d.model]
  exact (if_neg d.isDue).trans (if_neg (ne_true_of_eq_false d.whole))

end

section
variable {s : State} {k fp : Nat} {v : ServingCfg} {m : Model}

/-- A clamp that can form a step of a model: parked requests that have room have joined again, and the model's turn has come (R250, R261). -/
structure StepDue (s : State) (k fp : Nat) (v : ServingCfg) (m : Model) : Prop where
  serving : (clampOf s k).serving = some v
  model : modelOf s k fp = some m
  running : (clampOf s k).state = .running
  decodes : (clampOf s k).role ≠ 1
  mixed : (clampOf s k).role = 0 → servingLive s k 0 = [] ∧ (tgetD s.serve.prefillTurn k true = false ∨ reqsIn s k .prefill = [])
  noStep : servingLive s k 2 = []
  serves : servesModel s k m = true
  whole : modelLost s m = false
  turn : nextModel (rejoinParked s.serve.reqs.length s k) k = some fp

/-- The state in which a step's batch has found its turves (R261). -/
abbrev stepRoom (s : State) (k fp : Nat) (v : ServingCfg) : State :=
  let a := rejoinParked s.serve.reqs.length s k
  (batchOf a k fp v.maxBatch).foldl (fun u q => roomForStep (u.serve.reqs.length + 1) u k q.id) a

/-- The requests of a step's batch that have a turf for their next position. -/
abbrev stepBatch (s : State) (k fp : Nat) (v : ServingCfg) : List Req :=
  (batchOf (stepRoom s k fp v) k fp v.maxBatch).filter fun q => decide (turfCount (q.kvLen + 1) ≤ q.turves.length)

variable (d : StepDue s k fp v m)
include d

theorem StepDue.isDue : ¬ ((clampOf s k).state ≠ .running ∨ (clampOf s k).role = 1 ∨ !servesModel s k m ∨ !(servingLive s k 2).isEmpty
    ∨ ((clampOf s k).role = 0 ∧ !(servingLive s k 0).isEmpty) ∨ nextModel (rejoinParked s.serve.reqs.length s k) k ≠ some fp
    ∨ ((clampOf s k).role = 0 ∧ tgetD s.serve.prefillTurn k true ∧ !(reqsIn s k .prefill).isEmpty)) := by
  rintro (h | h | h | h | ⟨hr, h⟩ | h | ⟨hr, ht, hp⟩)
  · exact h d.running
  · exact d.decodes h
  · simp [d.serves] at h
  · simp [d.noStep] at h
  · simp [(d.mixed hr).1] at h
  · exact h d.turn
  · rcases (d.mixed hr).2 with hn | hn
    · simp [hn] at ht
    · simp [hn] at hp

/-- A step that is due and has a batch, by the turves that it meets as ash (R250, R251, R282). -/
theorem exec_decodeStep_due (hb : stepBatch s k fp v ≠ []) (ash : List (Nat × Nat)) :
    let b := stepRoom s k fp v
    let batch := stepBatch s k fp v
    let tokens := batch.map fun q => sampleToken q.block (q.kvLen + 1) (logitsOf b m q)
    let c := servingWork b k 2 (.step k fp (batch.map (·.id)) tokens)
    exec (.decodeStep k fp ash) s = .next (if !(batchAsh batch ash).isEmpty then ashStep b (batchAsh batch ash)
      else { c with serve := { c.serve with lastModel := tset c.serve.lastModel k fp, prefillTurn := tset c.serve.prefillTurn k true } }) := by
  intro b batch tokens c
  refine congrArg Host.Outcome.next ?_
  simp only [d.serving, d.model]
  exact (if_neg d.isDue).trans ((if_neg (ne_true_of_eq_false d.whole)).trans (if_neg (by simpa using hb)))

end

/-- The commit slot of a clamp whose step has done its work in time for a drain (R252, R97). -/
theorem exec_commitSlot_step {s : State} {k fp : Nat} {c : Cmd} {rest : List Cmd} {batch : List Nat} {tokens : List (Option Nat)}
    (hl : servingLive s k 2 = c :: rest) (hp : c.phase = .run) (hd : c.done = true)
    (ht : ∀ x, (clampOf s k).stop = some x → s.now < x.deadline) (hw : c.work = .step k fp batch tokens) :
    let live := batch.filter fun id => match reqOf s id with | some q => q.state == .decode && q.endReason == 0 | none => false
    let u := (batch.zip tokens).foldl (slotReq (((modelOf s k fp).map (·.maxSeq)).getD 0)) s
    let u := modCmd u c.handle fun c => { c with phase := .commit }
    exec (.commitSlot k) s = .next { u with serve := { u.serve with slotTaken := u.serve.slotTaken ++ [(c.handle, live)] } } := by
  have inTime : ((clampOf s k).stop.any fun x => decide (x.deadline ≤ s.now)) = false := by
    cases h : (clampOf s k).stop with
    | none => rfl
    | some x => exact decide_eq_false (Nat.not_le.2 (ht x h))
  have found : ((servingLive s k 2).find? fun c =>
      c.phase == .run && c.done && !(clampOf s k).stop.any fun x => decide (x.deadline ≤ s.now)) = some c := by
    rw [hl]
    exact List.find?_cons_of_pos (by simp [hp, hd, inTime])
  intro live u w
  refine congrArg Host.Outcome.next ?_
  simp only [found, hw]
  rfl

/-- A finished prefill in a clamp whose handover queue is free, by the turves that its handover meets as ash (R262, R282). -/
theorem exec_servingHandover_due {s : State} {id : Nat} {q : Req} (hq : reqOf s id = some q) (hs : q.state = .shipping)
    (hr : (clampOf s q.clamp).state = .running) (hl : servingLive s q.clamp 1 = []) (ash : List Nat) :
    let r := servingCmd s q.clamp 1 (.handover id) false
    exec (.servingHandover ⟨id, ash⟩) s = .next (if ash.any fun i => decide (i < q.turves.length) then
      settled (ashTurves s q (ash.filter fun i => decide (i < q.turves.length))) else startHandover r.1 r.2 q) := by
  intro r
  refine congrArg Host.Outcome.next ?_
  simp only [hq]
  exact if_neg (by simp [hs, hr, hl])

/-- Settles O47: each row by the branch of its meaning that the hypotheses choose. -/
theorem servingRows : Obligations.ServingRows := by
  unfold Obligations.ServingRows
  refine ⟨?admission, ?prefill, ?step, ?slot, ?handover⟩
  case admission =>
    intro s id q m v hq hm hv hs hr hc hl hit r room
    exact exec_servingAdmission_room ⟨hq, hm, hv, hs, hr, hc, hl⟩ room
  case prefill =>
    intro s k id ash q v m hq hv hm hc hs hf hr hp hst hsv ht hl n final token u
    have due := exec_prefillCommand_due ⟨hq, hv, hm, hc, hs, hf, hr, hp, hst, hsv, ht, hl⟩ ash
    refine ⟨fun clean => due.trans (congrArg _ (if_neg ?_)), fun ⟨i, hi, hb⟩ => due.trans (congrArg _ (if_pos ?_))⟩
    · simpa using clean
    · simpa using ⟨i, hi, hb⟩
  case step =>
    intro s k fp ash v m hv hm hr hd hmix hn hsv hl a hturn b batch hb tokens c
    have due := exec_decodeStep_due ⟨hv, hm, hr, hd, hmix, hn, hsv, hl, hturn⟩ hb ash
    refine ⟨fun clean => due.trans (congrArg _ (if_neg ?_)), fun met => due.trans (congrArg _ (if_pos ?_))⟩
    · simpa using clean
    · simpa using met
  case slot => intro s k fp c rest batch tokens hl hp hd ht hw; exact exec_commitSlot_step hl hp hd ht hw
  case handover =>
    intro s id ash q hq hs hr hl r bad
    have due := exec_servingHandover_due hq hs hr hl ash
    refine ⟨fun clean => due.trans (congrArg _ (if_neg ?_)), fun met => due.trans (congrArg _ (if_pos ?_))⟩
    · simpa [bad] using clean
    · simpa [bad] using met

end Sys2Proof.Machine
end

section
/-!
PROOFS. The sequence numbers of packets and what is remembered of them (R302); packets that firmware holds and coalescing windows at their
time (R298, R316).
-/
namespace Sys2Proof.Machine

open Sys2Proof

/-! ## The sequence test (R302) -/

section
variable {seen : List Seen} {q : Nat}

theorem seqTest_remembered {x : Seen} (h : seen.find? (fun y => y.seq == q) = some x) (retry : Option Nat) :
    seqTest seen retry q = some { status := stDuplicate, handle := x.handle, value := x.status } := by
  unfold seqTest
  rw [h]

/-- A number that is not remembered, above the highest remembered one or not. -/
theorem seqTest_forgotten (h : ∀ x ∈ seen, x.seq ≠ q) (retry : Option Nat) :
    seqTest seen retry q = if (seen.any fun x => decide (q ≤ x.seq)) = true then some (.refuse stSequenceStale) else seqTest [] retry q := by
  have missing : seen.find? (fun y => y.seq == q) = none := List.find?_eq_none.2 fun x hx => by simpa using h x hx
  unfold seqTest
  rw [missing]
  rfl

theorem seqTest_stale (h : ∀ x ∈ seen, x.seq ≠ q) (hx : ∃ x ∈ seen, q < x.seq) (retry : Option Nat) :
    seqTest seen retry q = some (.refuse stSequenceStale) := by
  obtain ⟨x, hx, hq⟩ := hx
  rw [seqTest_forgotten h]
  exact if_pos (List.any_eq_true.2 ⟨x, hx, decide_eq_true (Nat.le_of_lt hq)⟩)

/-- Above every remembered number, the retry mark alone decides. -/
theorem seqTest_above (h : ∀ x ∈ seen, x.seq < q) (retry : Option Nat) : seqTest seen retry q = seqTest [] retry q := by
  rw [seqTest_forgotten fun x hx => Nat.ne_of_lt (h x hx)]
  refine if_neg fun stale => ?_
  obtain ⟨x, hx, hq⟩ := List.any_eq_true.1 stale
  exact absurd (h x hx) (Nat.not_lt.2 (of_decide_eq_true hq))

theorem seqTest_nil_marked (b q : Nat) : seqTest [] (some b) q = if q = b then none else some { status := stBusyRetry, value := 3 } := rfl

end

/-! ## What is remembered of an answer (R302) -/

section
variable {m : SeqState} {v : Verdict} (room q : Nat)

theorem after_busy (h : v.status = stBusyRetry) :
    m.after room q v = if v.value ≠ 3 ∧ m.retry = none then { m with retry := some q } else m := by
  unfold SeqState.after
  rw [if_pos h]
  simp only [Option.isNone_iff_eq_none]

theorem after_busy_seen (h : v.status = stBusyRetry) : (m.after room q v).seen = m.seen := by
  rw [after_busy room q h]
  split <;> rfl

theorem after_busy_retry (h : v.status = stBusyRetry) :
    (m.after room q v).retry = if v.value ≠ 3 ∧ m.retry = none then some q else m.retry := by
  rw [after_busy room q h]
  split <;> rfl

theorem after_retry (h : v.status ≠ stBusyRetry) : (m.after room q v).retry = if m.retry = some q then none else m.retry := by
  unfold SeqState.after
  rw [if_neg h]
  dsimp only
  split <;> rfl

theorem after_forgets (h : v.status = stDuplicate ∨ v.status = stSequenceStale) : (m.after room q v).seen = m.seen := by
  have busy : v.status ≠ stBusyRetry := by rcases h with h | h <;> rw [h] <;> decide
  unfold SeqState.after
  rw [if_neg busy]
  dsimp only
  rw [if_pos h]

theorem after_remembers (hb : v.status ≠ stBusyRetry) (hd : v.status ≠ stDuplicate) (hs : v.status ≠ stSequenceStale) :
    (m.after room q v).seen = (m.seen ++ [(⟨q, v.handle, v.status⟩ : Seen)]).drop (m.seen.length + 1 - room) := by
  unfold SeqState.after
  rw [if_neg hb]
  dsimp only
  rw [if_neg (not_or.2 ⟨hd, hs⟩), List.length_append, List.length_singleton]

end

/-! ## A packet's decision -/

section
variable {s : State} {n : Nat} {c : Ctx} {t : Taken} {p : Packet} {v : Verdict}

theorem endsOwn_of_not_ok (h : v.status ≠ stOk) (w : Sender) (op : Nat) (p : Packet) : endsOwn w op p v = false := by
  simp [endsOwn, h]

/-- A packet that the sequence test answers returns no credit (R309). -/
theorem packetCredit_of_seqTest {q : SeqState} (h : seqTest q.seen q.retry p.seq = some v) : packetCredit s n q p = s := by
  unfold packetCredit
  split
  · rfl
  · simp [h]

/-- A packet that the sequence test answers gets that answer, and nothing else happens. -/
theorem decideRing_of_seqTest (h : seqTest c.seen c.retry t.pkt.seq = some v) (he : v.effect = id) (hv : v.status ≠ stOk) :
    decideRing s n c t false = modCtx (ringAnswer s n t.pkt v) n fun x =>
      let q := SeqState.after { seen := c.seen, retry := c.retry } 4096 t.pkt.seq v
      { x with seen := q.seen, retry := q.retry } := by
  have judged (w : Sender) (ok : Bool) : judgeRing s w t.op t.pkt { seen := c.seen, retry := c.retry } ok = v := by
    unfold judgeRing
    simp only [h]
  unfold decideRing
  dsimp only
  rw [packetCredit_of_seqTest (v := v) h, if_neg Bool.false_ne_true, judged, endsOwn_of_not_ok hv, he]
  rfl

/-- A packet that is late is answered BUSY_RETRY with cause 2 in firmware's place (R298). -/
theorem decideRing_late : decideRing s n c t true =
    modCtx (ringAnswer (packetCredit s n { seen := c.seen, retry := c.retry } t.pkt) n t.pkt { status := stBusyRetry, value := 2 }) n fun x =>
      { x with seen := c.seen, retry := if c.retry = none then some t.pkt.seq else c.retry } := by
  unfold decideRing
  dsimp only
  rw [if_pos rfl, endsOwn_of_not_ok (by decide), if_neg Bool.false_ne_true, after_busy_seen _ _ rfl, after_busy_retry _ _ rfl]
  simp

/-- The only packet of a context's window is decided as itself, whether or not firmware held it. -/
theorem drainRing_taken {k : Nat} (hc : ctxOf s n = some { c with slot := k, taken := [{ t with held := false }] }) (he : c.ending = false) :
    drainRing 1 s n = decideRing (modCtx s n fun x => { x with taken := [] }) n c t (isLate s false t) :=
  (drainRing_one hc rfl rfl he).trans rfl

/-- A packet that comes through the window of a context in which nothing waits, and that firmware does not hold. -/
theorem takePacket_first {op : Nat} (ht : takesPackets s p.fn = true) (hb : p.boot = false) (hc : ctxOf s p.ctx = some c) (hf : c.fn = p.fn)
    (he : c.ending = false) (hs : c.serving = false) (hw : c.taken = []) (hh : p.choice.fwHeld = false) :
    takePacket op p s = decideRing (landed s p) p.ctx c (takenFrom s op p) false := by
  have free : takenFrom s op p = { takenFrom s op p with held := false } := by simp [takenFrom, hh]
  unfold takePacket
  simp only [ht, hb, hc, hf, he, hs, hw, Bool.not_true, Bool.false_eq_true, if_false, ne_eq, not_true_eq_false, or_self, List.length_nil]
  rw [drainRing_taken (c := c) (t := takenFrom s op p) (by rw [ctxOf_modCtx, hc, Option.map_some, hw, ← free]; rfl) he, modCtx_modCtx,
    isLate_now _ _ _ rfl]
  rfl

/-- Firmware lets go of the only packet of a context's window. -/
theorem releaseRing_only {go : Nat → Bool} {late : Bool} (hc : ctxOf s n = some c) (ht : c.taken = [t]) (hh : t.held = true)
    (he : c.ending = false) (hg : go t.sealAt = true) (hl : isLate s false t = late) :
    releaseRing s n go = decideRing (modCtx s n fun x => { x with taken := [] }) n c t late := by
  subst hl
  unfold releaseRing
  simp only [hc, ht, hh, hg, Bool.and_self, if_true, List.length_nil]
  rw [drainRing_taken (c := c) (t := t) (k := c.slot) (by rw [ctxOf_modCtx, hc]; rfl) he, modCtx_modCtx]
  rfl

end

/-- Settles O15: the test by where the number lies among those remembered, the memory by the answer's status, the packet by the test's answer. -/
theorem sequenceMemory : Obligations.SequenceMemory := by
  unfold Obligations.SequenceMemory
  refine ⟨?remembered, ?stale, ?marked, ?fresh, ?memory, ?packet⟩
  case remembered => intro seen retry q x h; exact seqTest_remembered h retry
  case stale => intro seen retry q hn hx; exact seqTest_stale hn hx retry
  case marked =>
    intro seen b q h hb
    rw [seqTest_above h, seqTest_nil_marked, if_neg hb]
  case fresh =>
    intro seen q h
    rw [seqTest_above h, seqTest_above h, seqTest_nil_marked, if_pos rfl]
    exact ⟨rfl, rfl⟩
  case memory =>
    intro m room q v
    refine ⟨fun h => ⟨after_busy_seen room q h, after_busy_retry room q h⟩, after_retry room q, after_forgets room q, fun hb hd hs => ?_⟩
    rw [after_remembers room q hb hd hs]
    refine ⟨_, (List.take_append_drop _ _).symm, ?_⟩
    rw [List.length_drop, List.length_append, List.length_singleton]
    omega
  case packet =>
    intro s p c v op ht hb hc hf he hs hw hh hv heff hst
    rw [takePacket_first ht hb hc hf he hs hw hh]
    exact decideRing_of_seqTest hv heff hst

/-- Settles O18: a held packet by whether its deadline has passed when firmware lets go of it, a window by its branch. -/
theorem packetDeadlines : Obligations.PacketDeadlines := by
  unfold Obligations.PacketDeadlines
  refine ⟨?decided, ?expired, ?answer, ?window⟩
  case decided =>
    intro s n c t fn hc ht hh he hn
    have early : isLate s false t = false := by simp [isLate, hn]
    exact congrArg _ (releaseRing_only (go := fun x => decide (s.now < x + 600)) hc ht hh he (decide_eq_true hn) early)
  case expired =>
    intro s n c t fn hc ht hh he hn hf
    have late : isLate s false t = true := by simp [isLate, hn, hf]
    exact congrArg _ (releaseRing_only (go := fun x => decide (x + 600 ≤ s.now)) hc ht hh he (decide_eq_true hn) late)
  case answer => intro s n c t; exact decideRing_late
  case window =>
    intro s n b c hc hb hn hu
    refine congrArg Host.Outcome.next ?_
    simp only [hc, hb]
    exact if_pos ⟨hn, hu⟩

end Sys2Proof.Machine
end

section
/-!
PROOFS. A reply on its way into the ring (R299, R305, R312), which an insecure integrity stream keeps back (R453).
-/
namespace Sys2Proof.Machine

open Sys2Proof

/-! ## A record that is written -/

theorem tmod_id {α : Type} (t : Table α) (n : Nat) : tmod t n (fun x => x) = t := by
  unfold tmod
  simp

/-- A record that opens no coalescing window, ends none, and asks for no message is counted alone (R316). -/
theorem coalesce_within {c : Ctx} (hw : c.winStart ≠ none) (hu : c.unreported + 1 < c.winCount) (now : Nat) :
    coalesce now false c = ({ c with unreported := c.unreported + 1 }, false) := by
  obtain ⟨b, hb⟩ := Option.ne_none_iff_exists'.1 hw
  have room : ¬ (false = true ∨ c.winCount ≤ c.unreported + 1) := by simp; omega
  unfold coalesce
  simp only [hb]
  rw [if_neg (by simpa using room)]

/-- Bytes [31:4] of a reply fill the rest of its record. -/
theorem slice_replyBody (p : Packet) (v : Verdict) : slice (replyBody p v) 0 28 = replyBody p v := by
  have full : (replyBody p v).length = 28 := by simp only [replyBody, List.length_append, length_natLE]
  have whole : (replyBody p v).take 28 = replyBody p v := List.take_of_length_le (Nat.le_of_eq full)
  simp only [slice, List.drop_zero, whole, full, zeros, Nat.sub_self, List.replicate_zero, List.append_nil]

/-- The context once a reply has been written into its ring without a message. -/
def replied (c : Ctx) : Ctx := { c with written := (c.written + 1) % 2 ^ 32, unreported := c.unreported + 1 }

/-- Where the next record of a ring begins (R305). -/
def entryAt (c : Ctx) : Nat := c.ringBase + 32 * (c.written % c.ringEntries)

/-- Bytes [3:0] of a reply as the next record of a ring: its kind with the phase of the pass, and its status (R299, R305). -/
def replyHead (c : Ctx) (v : Verdict) : List Byte :=
  [BitVec.ofNat 8 (1 + 128 * ((c.written / c.ringEntries + 1) % 2)), BitVec.ofNat 8 v.status, 0, 0]

/-- A context whose ring takes a reply at once (R310), within a coalescing window that the reply does not fill (R316). -/
structure TakesReply (s : State) (n : Nat) (c : Ctx) : Prop where
  found : ctxOf s n = some c
  going : c.ending = false
  ring : c.serving = false
  first : ∀ x ∈ c.held, x.kind ≠ 0x01
  room : 1 ≤ ringFree c
  unfilled : c.unreported + 1 < c.winCount
  window : c.winStart ≠ none

/-- A reply that the ring takes at once is put into host memory, bytes [31:4] first. -/
theorem ringAnswer_written {s : State} {n : Nat} {c : Ctx} (h : TakesReply s n c) (p : Packet) (v : Verdict) :
    ringAnswer s n p v =
      hostPut (hostPut { s with ctxs := Machine.tset s.ctxs n (replied c) } c.fn (entryAt c + 4) (replyBody p v)) c.fn (entryAt c)
        (replyHead c v) := by
  have free : (c.held.all fun x => x.kind != 0x01) = true := by simpa using h.first
  have lets : ringLets c 0x01 = true := by simpa [ringLets] using h.room
  have counted := coalesce_within (c := { c with written := (c.written + 1) % 2 ^ 32 }) h.window h.unfilled s.now
  unfold ringAnswer putRec
  simp only [h.found, h.going, h.ring, free, lets, Bool.false_eq_true, if_false, if_true, Bool.and_self]
  unfold writeRec
  simp only [h.found, Bool.false_and, counted, Bool.false_eq_true, if_false, slotWritten, finalWritten, tmod_id, slice_replyBody]
  rfl

/-- What holds of O16: where no insecure stream covers the two writes, both parts of the reply are sent, bytes [31:4] first. -/
theorem ringAnswer_sent {s : State} {n : Nat} {c : Ctx} (h : TakesReply s n c) (hb : ideBlocks s c.fn (entryAt c + 4) = false)
    (ha : ideBlocks s c.fn (entryAt c) = false) (p : Packet) (v : Verdict) :
    (ringAnswer s n p v).out = s.out ++
      [.hostWrite c.fn (entryAt c + 4) (replyBody p v), .hostWrite c.fn (entryAt c) (replyHead c v)] ∧
    ctxOf (ringAnswer s n p v) n = some (replied c) := by
  have body (x : Table Ctx) : ideBlocks { s with ctxs := x } c.fn (entryAt c + 4) = false := hb
  rw [ringAnswer_written h, hostPut_sent (body _), hostPut_sent (by exact ha)]
  exact ⟨by simp [gather, emit], tget?_tset_same s.ctxs n (replied c)⟩

/-- A context whose coalescing window is open, and whose ring is empty. -/
def openCtx : Ctx := { fn := 0, clamp := 0, winStart := some 0, winCount := 4 }

/-- A stream that has met a broken TLP and covers the physical function's traffic with every address (R453). -/
def insecureStream : Ide := { state := .insecure, ranges := [(0, 2 ^ 64)] }

/-- The eight streams of a module whose first has become insecure. -/
def oneInsecure : List Ide := insecureStream :: List.replicate 7 {}

/-- A module with both, otherwise as it is after reset. -/
def insecureRing : State := { State.reset with ctxs := [(0, openCtx)], sec := { ide := oneInsecure } }

theorem ideBlocks_oneInsecure {s : State} (h : s.sec.ide = oneInsecure) {addr : Nat} (ha : addr ≤ 2 ^ 64) : ideBlocks s 0 addr = true := by
  unfold ideBlocks
  rw [h]
  simpa [oneInsecure, insecureStream] using ha

theorem insecureRing_takesReply : TakesReply insecureRing 0 openCtx where
  found := rfl
  going := rfl
  ring := rfl
  first := by simp [openCtx]
  room := by decide
  unfilled := by decide
  window := by decide

/-- Refutes O16: on an insecure stream the module sends nothing (R453), so neither part of the reply is written. -/
theorem not_replyRecord : ¬ Obligations.ReplyRecord := by
  unfold Obligations.ReplyRecord
  intro claim
  have h := insecureRing_takesReply
  have blocked {s : State} (hs : s.sec.ide = oneInsecure) {addr : Nat} (ha : addr ≤ 2 ^ 64) (bs : List Byte) :
      hostPut s openCtx.fn addr bs = s := hostPut_blocked (ideBlocks_oneInsecure hs ha) bs
  obtain ⟨sent, -⟩ := claim insecureRing 0 openCtx { fn := 0 } { status := stOk } h.found h.going h.ring h.first h.room h.unfilled h.window
  rw [ringAnswer_written h, blocked rfl (by decide), blocked rfl (by decide)] at sent
  exact absurd sent.symm (by simp)

end Sys2Proof.Machine
end

section
/-!
PROOFS. The host's writes into submission windows and registers (R288, R294, R482, R483), and the single registers that have a row of their
own (R285, R370, R399, R434, R487).
-/
namespace Sys2Proof.Machine

open Sys2Proof

/-! ## Submission windows (R288, R294) -/

theorem slotPieces_nil (fuel o : Nat) : slotPieces fuel o [] = [] := by
  cases fuel <;> rfl

/-- A write that lies inside one slot is one piece. -/
theorem slotPieces_one {o : Nat} {d : List Byte} (hd : d ≠ []) (ho : o < 4096) (hl : o % 256 + d.length ≤ 256) (fuel : Nat) :
    slotPieces (fuel + 1) o d = [(o / 256, o % 256, d)] := by
  have more : ¬ (d.isEmpty = true ∨ 4096 ≤ o) := not_or.2 ⟨by simpa using hd, Nat.not_le.2 ho⟩
  have whole : d.length ≤ 256 - o % 256 := by omega
  unfold slotPieces
  rw [if_neg more]
  dsimp only
  rw [List.take_of_length_le whole, List.drop_eq_nil_of_le whole, slotPieces_nil]

section
variable {s : State} {f n o : Nat} {data : List Byte} {ch : Choice} {c : Ctx}

/-- A write that reaches the windows of BAR2, by its number of window and its offset there. -/
theorem exec_registerWrite_bar2 (ht : takesPackets s f = true) (hn : n < 1024) (hd : data ≠ []) (ho : o < 4096) :
    exec (.registerWrite f 2 (4096 * n + o) data ch) s = .next
      (if (windowOpen s f n).isNone = true then countDrop s f else (slotPieces 17 o data).foldl (writePiece f n ch) s) := by
  have win : (4096 * n + o) / 4096 = n := by omega
  have off : (4096 * n + o) % 4096 = o := by omega
  have goes : ¬ ((!takesPackets s f) = true ∨ 4194304 ≤ 4096 * n + o ∨ data.isEmpty = true) := by
    rw [ht, List.isEmpty_iff]
    simp only [Bool.not_true, Bool.false_eq_true, hd, false_or, or_false]
    omega
  refine congrArg Host.Outcome.next ?_
  rw [if_pos rfl]
  unfold bar2Write
  rw [if_neg goes, win, off]

/-- A write inside one slot of a window that is open to the function. -/
theorem exec_registerWrite_slot (ht : takesPackets s f = true) (hn : n < 1024) (hw : windowOpen s f n = some c) (hd : data ≠ [])
    (hl : o % 256 + data.length ≤ 256) (ho : o < 4096) :
    exec (.registerWrite f 2 (4096 * n + o) data ch) s = .next (writePiece f n ch s (o / 256, o % 256, data)) := by
  rw [exec_registerWrite_bar2 ht hn hd ho, hw, slotPieces_one hd ho hl]
  rfl

theorem writePiece_stored (hw : windowOpen s f n = some c) (hl : o % 256 + data.length ≠ 256) :
    writePiece f n ch s (o / 256, o % 256, data) = modCtx s n fun x => { x with window := wrBytes c.window o data } := by
  unfold writePiece
  simp only [hw]
  rw [if_neg fun h => hl h.2, Nat.div_add_mod]

theorem writePiece_expected (hw : windowOpen s f n = some c) (hl : o % 256 + data.length = 256) (hs : c.slot = o / 256) :
    writePiece f n ch s (o / 256, o % 256, data) =
      judgeSlot (modCtx s n fun x => { x with window := wrBytes c.window o data }) f false n (rdBytes (wrBytes c.window o data) (256 * c.slot) 256)
        ch := by
  unfold writePiece
  simp only [hw]
  rw [if_pos ⟨hs.symm, hl⟩, Nat.div_add_mod, hs]

end

/-! ## Registers of BAR0 (R482, R483) -/

section
variable {s : State} {f off : Nat} {data : List Byte} {ch : Choice} {r : Reg}

/-- A write that reaches a register outside the boot window, by the halves that it covers. -/
theorem bar0Write_reg (hr : reachable s f = true) (ha : aligned off data.length = true) (hb : ¬ (bootBase f ≤ off ∧ off < bootBase f + 256))
    (hg : regAt f (off / 8 * 8) = some r) :
    bar0Write s f off data ch =
      writeReg s f r (leNat data * (if off % 8 = 4 then 2 ^ 32 else 1)) (!decide (off % 8 = 4)) (decide (off % 8 = 4) || data.length == 8) := by
  unfold bar0Write
  rw [if_neg (by simp [hr, ha]), if_neg hb, hg]
  simp only [decide_eq_true_eq]

/-- A write from the start of a register on covers its low half, and the high half when it is of 8 bytes. -/
theorem bar0Write_start (hr : reachable s f = true) (ha : aligned off data.length = true) (hb : ¬ (bootBase f ≤ off ∧ off < bootBase f + 256))
    (ho : off % 8 = 0) (hg : regAt f (off / 8 * 8) = some r) :
    bar0Write s f off data ch = writeReg s f r (leNat data) true (data.length == 8) := by
  rw [bar0Write_reg hr ha hb hg]
  simp [ho]

theorem bar0Write_high (hr : reachable s f = true) (hb : ¬ (bootBase f ≤ off ∧ off < bootBase f + 256)) (hg : regAt f (off / 8 * 8) = some r)
    (ho : off % 8 = 4) (hl : data.length = 4) : bar0Write s f off data ch = writeReg s f r (leNat data * 2 ^ 32) false true := by
  rw [bar0Write_reg hr (by simp [aligned, hl]; omega) hb hg]
  simp [ho]

/-- A row that clears where 1 is written is a write to a register that has such bits. -/
theorem exec_rw1cClear_start (hr : reachable s f = true) (ha : aligned off data.length = true) (ho : off % 8 = 0)
    (hb : ¬ (bootBase f ≤ off ∧ off < bootBase f + 256)) (hg : regAt f off = some r)
    (hk : (∃ t, r = .tgtStatus t) ∨ r = .tripLog ∨ r = .overrun) :
    exec (.rw1cClear f off data) s = .next (writeReg s f r (leNat data) true (data.length == 8)) := by
  have start : off / 8 * 8 = off := by omega
  have found : regAt f (off / 8 * 8) = some r := by rw [start, hg]
  rw [← bar0Write_start (ch := {}) hr ha hb ho found]
  refine congrArg Host.Outcome.next ?_
  rw [found]
  refine if_pos ?_
  rcases hk with ⟨t, rfl⟩ | rfl | rfl <;> rfl

end

/-! ## Rows of single registers (R285, R350, R370) -/

theorem portOf_not_up {s : State} (h : ∀ x ∈ s.flue.ports, x.state ≠ .up) (p : Nat) : (portOf s p).state ≠ .up := by
  unfold portOf at?
  cases hp : s.flue.ports[p]? with
  | none => decide
  | some x => exact h x (List.mem_of_getElem? hp)

/-- While no port is up, a written identity is kept and locked, and nothing is told. -/
theorem writeModuleId_quiet {s : State} {id : Nat} (hl : s.flue.lock = false) (hi : id < 65536) (hp : ∀ x ∈ s.flue.ports, x.state ≠ .up) :
    writeModuleId s (id % 65536 + 65536) = { s with flue := { s.flue with moduleId := id, lock := true } } := by
  have number : (id % 65536 + 65536) % 65536 = id := by omega
  have locks : bit (id % 65536 + 65536) 16 = true := by simp [bit]
  have quiet : ((List.range 8).filter fun p => (portOf { s with flue := { s.flue with moduleId := id, lock := true } } p).state == .up) = [] :=
    List.filter_eq_nil_iff.2 fun p _ => by rw [beq_iff_eq]; exact portOf_not_up hp p
  unfold writeModuleId
  simp only [hl, number, locks, quiet, Bool.false_eq_true, if_false, if_true, List.foldl_nil]

theorem writeModuleId_locked {s : State} (hl : s.flue.lock = true) (v : Nat) : writeModuleId s v = s := if_pos hl

/-- Both halves of a register, put together again. -/
theorem halves_eq (v : Nat) : v % 2 ^ 32 + v / 2 ^ 32 * 2 ^ 32 = v := by omega

/-- Settles O17: a write to a window by its one piece, a write to a register by the halves that it covers. -/
theorem hostWrites : Obligations.HostWrites := by
  unfold Obligations.HostWrites
  refine ⟨?stored, ?completed, ?closed, ?register⟩
  case stored =>
    intro s f n o data ch c ht hn hw hd hl ho
    rw [exec_registerWrite_slot ht hn hw hd (Nat.le_of_lt hl) ho, writePiece_stored hw (Nat.ne_of_lt hl)]
  case completed =>
    intro s f n o data ch c ht hn hw hd hl ho hs
    rw [exec_registerWrite_slot ht hn hw hd (Nat.le_of_eq hl) ho, writePiece_expected hw hl hs]
    rfl
  case closed =>
    intro s f n o data ch ht hn hw hd ho
    rw [exec_registerWrite_bar2 ht hn hd ho, hw]
    rfl
  case register =>
    intro s f off data ch r hr hb hg
    refine ⟨fun ho hl => congrArg Host.Outcome.next ?_, fun ho hl => congrArg Host.Outcome.next ?_,
      fun ho hl => congrArg _ (bar0Write_high hr hb hg ho hl)⟩
    · exact (bar0Write_start hr (by simp [aligned, hl, ho]) hb ho hg).trans (by rw [hl]; rfl)
    · exact (bar0Write_start hr (by simp [aligned, hl]; omega) hb ho hg).trans (by rw [hl]; rfl)

/-- Settles O21: each row by the test that lets it pass, those that clear where 1 is written by the write to their register. -/
theorem singleRegisters : Obligations.SingleRegisters := by
  unfold Obligations.SingleRegisters
  refine ⟨?sealMiss, ?dropCount, ?time, ?identity, ?locked, ?smoulder, ?badComplete, ?tripLog, ?overrun, ?poisoned⟩
  case sealMiss => intro s f hr; exact congrArg _ (if_pos (by simp [ownsNir, hr]))
  case dropCount => intro s f hr; exact congrArg _ (if_pos (by simp [ownsNir, hr]))
  case time => intro s hr; exact congrArg _ (if_pos ⟨hr, rfl⟩)
  case identity => intro s id hr hl hi hp; exact congrArg _ ((if_pos ⟨hr, rfl⟩).trans (writeModuleId_quiet hl hi hp))
  case locked =>
    intro s id hl
    refine congrArg Host.Outcome.next ?_
    rw [writeModuleId_locked hl]
    exact ite_self s
  case smoulder => intro s v hr; exact congrArg _ (if_pos ⟨hr, rfl⟩)
  case badComplete =>
    intro s f off t d hr ha ho hb hg hbit
    rw [exec_rw1cClear_start hr ha ho hb hg (.inl ⟨t, rfl⟩)]
    exact congrArg _ (if_pos ⟨rfl, hbit⟩)
  case tripLog =>
    intro s f off d hr ha ho hb hg hbit
    rw [exec_rw1cClear_start hr ha ho hb hg (.inr (.inl rfl))]
    exact congrArg _ (if_pos ⟨rfl, hbit⟩)
  case overrun =>
    intro s f off d hr ha ho hb hg hl
    rw [exec_rw1cClear_start hr ha ho hb hg (.inr (.inr rfl)), hl]
    simp only [writeReg, beq_self_eq_true, if_true, halves_eq]
  case poisoned =>
    intro s f off n hr ha hg
    refine congrArg _ ((if_pos (by simp [hr, ha])).trans ?_)
    rw [hg]
    rfl

end Sys2Proof.Machine
end

section
/-!
PROOFS. Clamp and function-level resets, and virtual functions (R283, R301, R400, R401, R404, R405, R470).
-/
namespace Sys2Proof.Machine

open Sys2Proof

/-! ## Resets asked for (R401, R404) -/

theorem askClampReset_admitted {s : State} {k : Nat} (hk : k ≤ 7) (hr : (clampOf s k).resetting = false) (hw : (clampOf s k).resetWaits = false)
    (hm : s.rst.warmWait = none) : askClampReset s k =
      if (clampOf s k).state = .stopping ∨ (clampOf s k).changing = true then modClamp s k fun c => { c with resetWaits := true }
      else beginClampReset s k := by
  unfold askClampReset
  exact if_neg (by simp [hr, hw, hm]; omega)

theorem askClampReset_warming {s : State} (hm : s.rst.warmWait.isSome = true) (k : Nat) : askClampReset s k = s := by
  unfold askClampReset
  exact if_pos (.inr (.inr (.inr hm)))

theorem exec_functionLevelReset {s : State} (hp : s.rst.perst = false) (hl : s.rst.rootLocked = true) (hm : s.rst.warmWait = none) (f : Nat) :
    exec (.functionLevelReset f) s = .next (resetFunction (if f = 0 then setVfs s 0 else s) f) :=
  congrArg Host.Outcome.next (if_neg (by simp [hp, hl, hm]))

/-- No virtual function goes when their count does not fall. -/
theorem setVfs_more {s : State} {n : Nat} (h : s.rst.vfEnabled ≤ n) : setVfs s n = { s with rst := { s.rst with vfEnabled := n } } := by
  have none_goes : ((List.range 64).filter fun f => decide (n < f ∧ f ≤ s.rst.vfEnabled)) = [] :=
    List.filter_eq_nil_iff.2 fun f _ => by simp; omega
  unfold setVfs
  rw [none_goes]
  rfl

/-! ## A target after its function's reset (R470) -/

/-- What a change at a position leaves of every element, read by any position or its default. -/
theorem at?_modify_keeps {α β : Type} {π : α → β} {g : α → α} (hg : ∀ x, π (g x) = π x) (l : List α) (i j : Nat) (d : α) :
    π (at? (l.modify i g) j d) = π (at? l j d) := by
  unfold at?
  rw [List.getElem?_modify]
  cases l[j]? with
  | none => rfl
  | some x =>
    by_cases h : i = j
    · simp [h, hg]
    · simp [h]

theorem srcOf_reassess (s : State) (t n : Nat) : srcOf (reassess s t) n = srcOf s n := by
  unfold reassess
  dsimp only
  split <;> rfl

/-- A line taken anew leaves the other fields of every target as they are. -/
theorem tgtOf_reassess_keeps {α : Type} {π : Target → α} (hπ : ∀ x b, π { x with line := b } = π x) (s : State) (t n : Nat) :
    π (tgtOf (reassess s t) n) = π (tgtOf s n) := by
  have kept : π (tgtOf (modTgt s t fun x => { x with line := hasEligible s t }) n) = π (tgtOf s n) := at?_modify_keeps (fun x => hπ x _) _ _ _ _
  unfold reassess
  dsimp only
  split
  · exact kept
  · exact kept

/-- Sources taken out of service, one after the other, keep their other fields. -/
theorem srcOf_release_keeps {α : Type} {π : Source → α} (hπ : ∀ x, π { x with inService := false } = π x) (l : List Nat) (s : State)
    (n : Nat) : π (srcOf (l.foldl (fun s k => modSrc s k fun x => { x with inService := false }) s) n) = π (srcOf s n) := by
  induction l generalizing s with
  | nil => rfl
  | cons k l ih => rw [List.foldl_cons, ih]; exact at?_modify_keeps hπ _ _ _ _

/-- A target at its reset values; one that the module does not have reads so as well. -/
theorem tgtOf_cleared (s : State) (t : Nat) :
    tgtOf (modTgt s t fun x => { x with threshold := 0, stack := [], badComplete := false }) t = { line := (tgtOf s t).line } := by
  unfold tgtOf modTgt at?
  simp only [List.getElem?_modify_eq]
  cases s.evt.targets[t]? <;> rfl

theorem tgtOf_resetTarget_keeps {α : Type} {π : Target → α} (hπ : ∀ x b, π { x with line := b } = π x) (s : State) (t : Nat) :
    π (tgtOf (resetTarget s t) t) = π {} := by
  unfold resetTarget
  dsimp only
  rw [tgtOf_reassess_keeps hπ, tgtOf_cleared]
  exact hπ {} _

theorem srcOf_resetTarget_keeps {α : Type} {π : Source → α} (hπ : ∀ x, π { x with inService := false } = π x) (s : State) (t n : Nat) :
    π (srcOf (resetTarget s t) n) = π (srcOf s n) := by
  unfold resetTarget
  dsimp only
  rw [srcOf_reassess]
  exact srcOf_release_keeps hπ _ s n

/-- Settles O24: resets by the tests that let them pass, and the target by what each part of its reset leaves alone. -/
theorem clampAndFunctionResets : Obligations.ClampAndFunctionResets := by
  unfold Obligations.ClampAndFunctionResets
  refine ⟨?asked, ?refused, ?done, ?virtual, ?physical, ?warming, ?target, ?enabled⟩
  case asked =>
    intro s k hl hk hr hw hm
    exact congrArg _ ((if_pos ⟨rfl, rfl, hl⟩).trans (askClampReset_admitted hk hr hw hm))
  case refused => intro s k f key h; exact congrArg _ (if_neg fun ⟨hf, hk, _⟩ => h.elim (· hf) (· hk))
  case done => intro s k hr hs hc; exact congrArg _ (if_pos ⟨hr, by simp [hs], hc⟩)
  case virtual => intro s f hp hl hm hf; rw [exec_functionLevelReset hp hl hm, if_neg hf]
  case physical => intro s hp hl hm; rw [exec_functionLevelReset hp hl hm, if_pos rfl]
  case warming =>
    intro s f k hm
    refine ⟨congrArg _ (if_pos (.inr (.inr hm))), congrArg Host.Outcome.next ?_⟩
    rw [askClampReset_warming hm]
    exact ite_self s
  case target =>
    intro s t
    exact ⟨tgtOf_resetTarget_keeps (π := Target.stack) (fun _ _ => rfl) s t, tgtOf_resetTarget_keeps (π := Target.threshold) (fun _ _ => rfl) s t,
      tgtOf_resetTarget_keeps (π := Target.badComplete) (fun _ _ => rfl) s t, fun n =>
      ⟨srcOf_resetTarget_keeps (π := Source.pending) (fun _ => rfl) s t n, srcOf_resetTarget_keeps (π := Source.target) (fun _ => rfl) s t n,
        srcOf_resetTarget_keeps (π := Source.level) (fun _ => rfl) s t n⟩⟩
  case enabled =>
    intro s n hp hl hv hn
    refine congrArg Host.Outcome.next ((if_neg (by simp [hp, hl])).trans ?_)
    rw [Nat.min_eq_left hn, setVfs_more hv]

end Sys2Proof.Machine
end

section
/-!
PROOFS. The mailboxes: SPDM requests, sessions, the keys of integrity streams, discovery (R283, R448 to R453).
-/
namespace Sys2Proof.Machine

open Sys2Proof

/-! ## How far a connection has come (R448, R449) -/

section
variable {s : State} {fn : Nat}

theorem negotiated_done (h : Negotiated s fn) (k : State) : negotiated s fn k = k := by
  obtain ⟨up, algs⟩ := h
  unfold negotiated
  rw [up, algs]
  rfl

theorem negotiated_early (hu : spdmUp s fn = true) (ha : (spdmOf s fn).algs = false) (k : State) :
    negotiated s fn k = spdmError s fn errUnexpected := by
  unfold negotiated
  rw [hu, ha]
  rfl

theorem negotiated_down (hu : spdmUp s fn = false) (k : State) : negotiated s fn k = s := if_pos (by rw [hu]; rfl)

theorem inSession_at {b secret : List Byte} {up : Bool} (h : SessionAt s fn b up secret) (k : Bool × List Byte → State) :
    inSession s fn b k = k (up, secret) := by
  unfold inSession
  rw [h.answers, h.session]
  rfl

theorem inSession_down (hu : spdmUp s fn = false) (b : List Byte) (k : Bool × List Byte → State) : inSession s fn b k = s :=
  if_pos (by rw [hu]; rfl)

end

/-- Settles O55: each request by how far its connection has come, a message in a session by the session that it names. -/
theorem mailboxRows : Obligations.MailboxRows := by
  unfold Obligations.MailboxRows
  refine ⟨?version, ?capabilities, ?algorithms, ?digests, ?certificate, ?challenge, ?measurements, ?exchange, ?busy, ?finish, ?ended, ?update, ?ide,
    ?early, ?down, ?discovery⟩
  case version => intro s fn b r hu; exact congrArg _ (if_pos hu)
  case capabilities =>
    intro s fn b r hu hv hb
    refine congrArg Host.Outcome.next ?_
    rw [if_neg (by simp [hu]), if_neg hv, if_neg fun ⟨h12, h13⟩ => hb.elim h12 h13]
  case algorithms =>
    intro s fn b r hu hc h8 h12
    have goes : ¬ (!spdmUp s fn) = true := by rw [hu]; decide
    have capable : ¬ (!(spdmOf s fn).caps) = true := by rw [hc]; decide
    have offered : ¬ (!(bit (u32 b 8) 6 && bit (u32 b 12) 2)) = true := by rw [h8, h12]; decide
    exact congrArg _ ((if_neg goes).trans ((if_neg capable).trans (if_neg offered)))
  case digests => intro s fn b r hn; exact congrArg _ (negotiated_done hn _)
  case certificate =>
    intro s fn b r hn h0 off n
    refine congrArg Host.Outcome.next ((negotiated_done hn _).trans ?_)
    simp only [h0, ne_eq, not_true_eq_false, false_or]
    rfl
  case challenge =>
    intro s fn b r hn h0 all
    exact congrArg _ ((negotiated_done hn _).trans (if_neg fun other => other h0))
  case measurements =>
    intro s fn b r l hn hl body
    refine congrArg Host.Outcome.next ((negotiated_done hn _).trans ?_)
    simp only [hl]
    rfl
  case exchange =>
    intro s fn b r hn h2 h16 h0 n secret t
    refine congrArg Host.Outcome.next ((negotiated_done hn _).trans ?_)
    rw [if_neg (by omega), if_neg fun other => other h0]
  case busy => intro s fn b r hn h; exact congrArg _ ((negotiated_done hn _).trans (if_pos h))
  case finish => intro s fn b r secret h; exact congrArg _ (inSession_at h _)
  case ended => intro s fn b r secret h; exact congrArg _ (inSession_at h _)
  case update =>
    intro s fn b r secret h
    exact ⟨fun ho => congrArg _ ((inSession_at h _).trans (if_pos ho)),
      fun ho => congrArg Host.Outcome.next ((inSession_at h _).trans (by simp [ho]))⟩
  case ide =>
    intro s b r secret h answer go
    refine ⟨fun query => ?_, fun prog hn hv hr => ?_, fun switch hn hv hk => ?_⟩
    · exact congrArg Host.Outcome.next ((inSession_at h _).trans (by simp [query, answer]))
    · exact congrArg Host.Outcome.next ((inSession_at h _).trans (by simp [prog, hn, hv, hr, answer]))
    · exact congrArg Host.Outcome.next ((inSession_at h _).trans (by simp [switch, hn, hv, hk, answer, go]))
  case early =>
    intro s fn b r hu ha i hi
    simp only [List.mem_cons, List.not_mem_nil, or_false] at hi
    rcases hi with rfl | rfl | rfl | rfl | rfl <;> exact congrArg Host.Outcome.next (negotiated_early hu ha _)
  case down =>
    intro s fn b r hu
    have closed : (!spdmUp s fn) = true := by rw [hu]; rfl
    simp only [List.forall_mem_cons, List.not_mem_nil, false_imp_iff, implies_true, and_true]
    exact ⟨congrArg _ (if_neg (by simp [hu])), congrArg _ (if_pos closed), congrArg _ (if_pos closed), congrArg _ (negotiated_down hu _),
      congrArg _ (negotiated_down hu _), congrArg _ (negotiated_down hu _), congrArg _ (negotiated_down hu _), congrArg _ (negotiated_down hu _),
      congrArg _ (inSession_down hu _ _), congrArg _ (inSession_down hu _ _), congrArg _ (inSession_down hu _ _),
      congrArg _ (inSession_down hu _ _)⟩
  case discovery =>
    intro s fn i hu
    exact ⟨fun hi => congrArg Host.Outcome.next ((if_pos hu).trans (by rw [if_pos hi])),
      fun hi => congrArg Host.Outcome.next ((if_pos hu).trans (by rw [if_neg (Nat.not_lt.2 hi)]))⟩

end Sys2Proof.Machine
end

section
/-!
PROOFS. The packets of firmware, keys and repairs (R335, R344, R402, R432, R438 to R440, R443) and of the debug state (R455 to R457).
-/
namespace Sys2Proof.Machine

open Sys2Proof

/-- A command that runs at once, with one test of its values and a second one, none of which fails. -/
theorem acceptCmd_valid {s : State} {p : Packet} {w : Work} {f : Handle → State → State} {bad barred : Bool} {a b : Nat} (hb : bad = false)
    (hr : barred = false) : acceptCmd s p.ctx p [(bad, a), (barred, b)] w f = runsAs w f s p := by
  refine acceptCmd_pass rfl fun e he => ?_
  simp only [List.mem_cons, List.not_mem_nil, or_false] at he
  rcases he with rfl | rfl
  · exact hb
  · exact hr

/-! ## Packets of firmware, keys and repairs -/

section
variable {s : State} {p : Packet}

/-- FW_STAGE of a readable image in a tensor that holds it whole. -/
theorem decideFwStage_pass {x : Tensor} (hx : tensorOf s (handleAt (ownParams p) 0) = some x) (hl : u32 (ownParams p) 8 ≤ x.bytes)
    (hs : u8 (ownParams p) 12 ≤ 1) (hm : u32 (ownParams p) 8 ≤ 16777216)
    (hr : deniedTensor s p.ctx (handleAt (ownParams p) 0) false = false) :
    decideFwStage s (packetSender p) p =
      (let b := ownParams p
       let image := readView x.sods 0 0 (u32 b 8)
       runsAs (.fwStage (u8 b 12) image) (fun me t =>
        let r := checkSods t x.sods (handleAt b 0) (sodsOf 0 0 (u32 b 8))
        if !r.2 then finish r.1 me stDataAsh
        else if !imageVerifies t image || u8 b 12 == t.sec.running.slot then finish t me stDenied
        else startNv t me) s p) := by
  have inRange : ¬ (1 < u8 (ownParams p) 12 ∨ 16777216 < u32 (ownParams p) 8) := by omega
  have stands : badTensor s (handleAt (ownParams p) 0) = false := by simp [badTensor, hx]
  unfold decideFwStage
  simp only [hx, Option.map_some, Option.getD_some]
  refine acceptCmd_valid ?_ hr
  simp only [stands, decide_eq_false (Nat.not_lt.2 hl), decide_eq_false inRange, Bool.or_self]

/-- FW_ACTIVATE of a slot that holds an image. -/
theorem decideFwActivate_pass (hn : u8 (ownParams p) 0 ≤ 1) (hi : (at? s.sec.slots (u8 (ownParams p) 0) {}).digest.isSome = true) :
    decideFwActivate s (packetSender p) p = runsAs (.fwActivate (u8 (ownParams p) 0)) (fun me t => startNv t me) s p := by
  unfold decideFwActivate
  exact acceptCmd_valid (decide_eq_false (Nat.not_lt.2 hn)) (Option.isNone_eq_false_iff.2 hi)

/-- KEY_REVOKE of a key slot that is neither the running image's nor the only one left. -/
theorem decideKeyRevoke_pass (hn : u8 (ownParams p) 0 ≤ 3) (hk : u8 (ownParams p) 0 ≠ s.sec.running.key)
    (hl : keysLeft s ≠ [u8 (ownParams p) 0]) :
    decideKeyRevoke s (packetSender p) p = runsAs (.keyRevoke (u8 (ownParams p) 0)) (fun me t => startNv t me) s p := by
  unfold decideKeyRevoke
  exact acceptCmd_valid (decide_eq_false (Nat.not_lt.2 hn)) (Bool.or_eq_false_iff.2 ⟨beq_eq_false_iff_ne.2 hk, beq_eq_false_iff_ne.2 hl⟩)

/-- REPAIR_COMMIT of rows that the stack has, with room for them among its soft repairs. -/
theorem decideRepairCommit_pass {x : List Byte} (hs : u8 (ownParams p) 0 ≤ 11) (hn : 1 ≤ u16 (ownParams p) 16)
    (hm : u16 (ownParams p) 16 ≤ 256) (hx : readParamTensor s p.ctx (handleAt (ownParams p) 8) 0 (4 * u16 (ownParams p) 16) 655360 = .ok x)
    (hb : ∀ i < u16 (ownParams p) 16, badRow x i = false)
    (hr : (tgetD s.store.softRepairs (u8 (ownParams p) 0) []).length + u16 (ownParams p) 16 ≤ 4096) :
    decideRepairCommit s (packetSender p) p =
      runsAs (.repairCommit (u8 (ownParams p) 0) ((List.range (u16 (ownParams p) 16)).map (repairRow x))) (fun me t => startNv t me) s p := by
  have inRange : ¬ (11 < u8 (ownParams p) 0 ∨ u16 (ownParams p) 16 = 0 ∨ 256 < u16 (ownParams p) 16) := by omega
  have rowsStand : (List.range (u16 (ownParams p) 16)).any (badRow x) = false :=
    List.any_eq_false.2 fun i hi => by simpa using hb i (List.mem_range.1 hi)
  unfold decideRepairCommit
  simp only [packetSender, hx, decide_eq_false inRange, Bool.false_eq_true, if_false]
  exact acceptCmd_valid rowsStand (decide_eq_false (Nat.not_lt.2 hr))

end

/-- Settles O12: each packet's verdict by `decides_of`, from its decision once its own tests pass. -/
theorem firmwarePackets : Obligations.FirmwarePackets := by
  unfold Obligations.FirmwarePackets
  refine ⟨?stage, ?activate, ?revoke, ?repair⟩
  case stage =>
    intro x
    refine decides_of (fun _ _ => rfl) fun s p hp => ?_
    obtain ⟨hx, hl, hs, hm, hr⟩ := hp
    exact decideFwStage_pass hx hl hs hm hr
  case activate =>
    refine decides_of (fun _ _ => rfl) fun s p hp => ?_
    obtain ⟨hn, hi⟩ := hp
    exact decideFwActivate_pass hn hi
  case revoke =>
    refine decides_of (fun _ _ => rfl) fun s p hp => ?_
    obtain ⟨hn, hk, hl⟩ := hp
    exact decideKeyRevoke_pass hn hk hl
  case repair =>
    intro x
    refine decides_of (fun _ _ => rfl) fun s p hp => ?_
    obtain ⟨hs, hn, hm, hx, hb, hr⟩ := hp
    exact decideRepairCommit_pass hs hn hm hx hb hr

/-! ## Packets of the debug state -/

/-- DEBUG_UNLOCK whose token is read, while every clamp is quiet. -/
theorem decideDebugUnlock_pass {s : State} {p : Packet} {x : List Byte}
    (hx : readParamTensor s p.ctx (handleAt (ownParams p) 0) 0 (u32 (ownParams p) 8) 655360 = .ok x) (hq : clampsQuiet s = true) :
    decideDebugUnlock s (packetSender p) p = runsAs (.debugUnlock x) (fun me t =>
      if t.sec.debug ≠ .locked ∨ !tokenValid t x then finish t me stDenied
      else
        let t := modCmd t me fun c => { c with phase := .commit }
        wipe p.ctx { t with sec := { t.sec with debug := .unlocking, transition := some me, lastToken := Config.sha512 x } }) s p := by
  unfold decideDebugUnlock
  simp only [packetSender, hx]
  refine acceptCmd_pass rfl fun e he => ?_
  obtain rfl := List.mem_singleton.1 he
  exact congrArg not hq

/-- DEBUG_LOCK has no test of its own before it runs. -/
theorem decideDebugLock_pass (s : State) (p : Packet) :
    decideDebugLock s (packetSender p) p = runsAs .debugLock (fun me t =>
      if t.sec.debug ≠ .unlocked ∨ Config.debugFuseMode = 1 ∨ !clampsQuiet t then finish t me stDenied
      else
        let t := modCmd t me fun c => { c with phase := .commit }
        wipe p.ctx (endDebug { t with sec := { t.sec with debug := .locking, transition := some me } })) s p := by
  unfold decideDebugLock
  exact acceptCmd_pass rfl (List.forall_mem_nil _)

/-- Settles O13: each packet's verdict by `decides_of`, from its decision once its own tests pass. -/
theorem debugStatePackets : Obligations.DebugStatePackets := by
  unfold Obligations.DebugStatePackets
  refine ⟨?unlock, ?lock⟩
  case unlock =>
    intro x
    refine decides_of (fun _ _ => rfl) fun s p hp => ?_
    obtain ⟨hx, hq⟩ := hp
    exact decideDebugUnlock_pass hx hq
  case lock => exact decides_of (fun _ _ => rfl) fun s p _ => decideDebugLock_pass s p

end Sys2Proof.Machine
end

section
/-!
PROOFS. The event controller's registers (R465 to R469): claims, completes, thresholds and masks.
-/
namespace Sys2Proof.Machine

open Sys2Proof

/-! ## Eligible sources (R465, R466) -/

theorem eligible_iff (t : Target) (k : Nat) (x : Source) :
    eligible t k x = true ↔
      x.target = k ∧ x.pending = true ∧ x.mask = false ∧ x.inService = false ∧ t.threshold < x.level ∧ t.running < x.level := by
  unfold eligible
  simp only [Bool.and_eq_true, beq_iff_eq, Bool.not_eq_true', decide_eq_true_eq, Nat.max_lt, and_assoc]

/-- An eligible source lies above its target's threshold, so above level 0. -/
theorem level_pos_of_eligible {t : Target} {k : Nat} {x : Source} (h : eligible t k x = true) : 0 < x.level := by
  obtain ⟨-, -, -, -, above, -⟩ := (eligible_iff t k x).1 h
  exact Nat.zero_lt_of_lt above

/-! ## The source that a claim returns (R466) -/

/-- One source weighed against the number and level chosen so far; among equals the later one, of the higher number, is taken. -/
def keepHigher (can : Source → Bool) (b : Nat × Nat) (e : Source × Nat) : Nat × Nat :=
  if can e.1 && decide (b.2 ≤ e.1.level) then (e.2, e.1.level) else b

theorem keepHigher_takes {can : Source → Bool} {b : Nat × Nat} {x : Source} {k : Nat} (hc : can x = true) (hl : b.2 ≤ x.level) :
    keepHigher can b (x, k) = (k, x.level) := if_pos (by simp [hc, hl])

theorem keepHigher_leaves {can : Source → Bool} {b : Nat × Nat} {x : Source} {k : Nat} (h : can x = true → x.level < b.2) :
    keepHigher can b (x, k) = b := if_neg (by simpa using h)

theorem claimSource_eq (s : State) (t : Nat) :
    claimSource s t false = (s.evt.sources.zipIdx.foldl (keepHigher (eligible (tgtOf s t) t)) (0, 0)).1 := by
  unfold claimSource
  simp only [Bool.false_and, Bool.or_false]
  rfl

/-- A number and level that beat every source of a list that can be claimed, and that one of them has where any was taken. -/
structure Highest (can : Source → Bool) (l : List Source) (b : Nat × Nat) : Prop where
  beats : ∀ k x, l[k]? = some x → can x = true → x.level < b.2 ∨ (x.level = b.2 ∧ k ≤ b.1)
  taken : b = (0, 0) ∨ ∃ y, l[b.1]? = some y ∧ can y = true ∧ y.level = b.2

theorem Highest.nil (can : Source → Bool) : Highest can [] (0, 0) where
  beats := fun k x h => absurd h (by simp)
  taken := .inl rfl

theorem Highest.concat {can : Source → Bool} {l : List Source} {b : Nat × Nat} (h : Highest can l b) (z : Source) :
    Highest can (l ++ [z]) (keepHigher can b (z, l.length)) := by
  have split {k : Nat} {x : Source} (hx : (l ++ [z])[k]? = some x) : l[k]? = some x ∨ (k = l.length ∧ x = z) := by
    rw [List.getElem?_append] at hx
    split at hx
    · exact .inl hx
    · obtain ⟨hk, hz⟩ := List.getElem?_eq_some_iff.1 hx
      rw [List.length_singleton] at hk
      exact .inr ⟨by omega, by rw [← hz, List.getElem_singleton]⟩
  by_cases hz : can z = true ∧ b.2 ≤ z.level
  case pos =>
    obtain ⟨hc, hl⟩ := hz
    rw [keepHigher_takes hc hl]
    refine ⟨fun k x hx hcx => ?_, .inr ⟨z, by simp, hc, rfl⟩⟩
    rcases split hx with old | ⟨rfl, rfl⟩
    · have inside : k < l.length := (List.getElem?_eq_some_iff.1 old).1
      have beaten := h.beats k x old hcx
      dsimp only
      omega
    · exact .inr ⟨rfl, Nat.le_refl _⟩
  case neg =>
    have lower (hc : can z = true) : z.level < b.2 := Nat.lt_of_not_le fun hl => hz ⟨hc, hl⟩
    rw [keepHigher_leaves lower]
    refine ⟨fun k x hx hcx => ?_, h.taken.imp_right fun ⟨y, hy, hcy, hly⟩ => ⟨y, ?_, hcy, hly⟩⟩
    · rcases split hx with old | ⟨rfl, rfl⟩
      · exact h.beats k x old hcx
      · exact .inl (lower hcx)
    · rw [List.getElem?_append_left (List.getElem?_eq_some_iff.1 hy).1, hy]

/-- Weighing the sources one after the other finds the highest. -/
theorem highest_foldl (can : Source → Bool) (l : List Source) : Highest can l (l.zipIdx.foldl (keepHigher can) (0, 0)) := by
  induction l using List.reverseRecOn with
  | nil => exact Highest.nil can
  | append_singleton l z ih =>
    rw [List.zipIdx_append, List.foldl_append, Nat.zero_add]
    exact ih.concat z

theorem claimSource_highest {s : State} {t k : Nat} {x : Source} (hx : s.evt.sources[k]? = some x) (he : eligible (tgtOf s t) t x = true) :
    ∃ y, s.evt.sources[claimSource s t false]? = some y ∧ eligible (tgtOf s t) t y = true
      ∧ (x.level < y.level ∨ (x.level = y.level ∧ k ≤ claimSource s t false)) := by
  rw [claimSource_eq]
  obtain ⟨beats, taken⟩ := highest_foldl (eligible (tgtOf s t) t) s.evt.sources
  have beaten := beats k x hx he
  rcases taken with nothing | ⟨y, hy, hey, hly⟩
  · have above := level_pos_of_eligible he
    rw [nothing] at beaten
    dsimp only at beaten
    omega
  · exact ⟨y, hy, hey, by rw [hly]; exact beaten⟩

theorem claimSource_none {s : State} {t : Nat} (h : ∀ x ∈ s.evt.sources, eligible (tgtOf s t) t x = false) : claimSource s t false = 0 := by
  rw [claimSource_eq]
  rcases (highest_foldl (eligible (tgtOf s t) t) s.evt.sources).taken with nothing | ⟨y, hy, hey, -⟩
  · rw [nothing]
  · exact absurd hey (by simp [h y (List.mem_of_getElem? hy)])

/-! ## Claims and completes (R466, R467) -/

/-- Event targets that functions reach are host targets. -/
theorem four_le_of_reachesTarget {f t : Nat} (h : reachesTarget f t = true) : 4 ≤ t := by
  unfold reachesTarget at h
  simp only [Bool.and_eq_true, decide_eq_true_eq] at h
  obtain ⟨⟨above, -⟩, -⟩ := h
  exact above

theorem claimRead_claims {s : State} {t : Nat} {g : Bool} (hn : claimSource s t g ≠ 0) :
    claimRead s t g =
      (let n := claimSource s t g
       let u := modSrc s n fun x => { x with pending := false, inService := true, grace := false }
       let w := modTgt u t fun x => { x with stack := (n, (srcOf s n).level) :: x.stack }
       (reassess w t, n)) := if_neg hn

theorem claimRead_nothing {s : State} {t : Nat} {g : Bool} (hn : claimSource s t g = 0) : claimRead s t g = (s, 0) := if_pos hn

section
variable {s : State} {f t : Nat} (hr : reachable s f = true) (ht : reachesTarget f t = true)
include hr ht

theorem reaches_registers : (reachable s f && reachesTarget f t) = true := by rw [hr, ht]; rfl

theorem exec_evtClaimRead (g : Bool) :
    exec (.evtClaimRead f t g) s = .next (emit (claimRead s t g).1 (.mmio f (claimRead s t g).2)) :=
  congrArg Host.Outcome.next (if_pos (reaches_registers hr ht))

theorem exec_evtClaimWrite (v : Nat) : exec (.evtClaimWrite f t v) s = .next (complete s t (v % 1024)) :=
  congrArg Host.Outcome.next (if_pos (reaches_registers hr ht))

end

section
variable {s : State} {t n : Nat}

/-- A complete of the source on top of a host target's claim stack. -/
theorem complete_top {l : Nat} {rest : List (Nat × Nat)} (ht : 4 ≤ t) (h : (tgtOf s t).stack = (n, l) :: rest) :
    complete s t n =
      (let u := modSrc (modTgt s t fun x => { x with stack := rest }) n fun x => { x with inService := false }
       let w := if (srcOf u n).target = t then u else reassess u (srcOf u n).target
       let z := modTgt w t fun x => { x with line := hasEligible w t }
       if hasEligible w t = true then emit z (.msix (t - 4) 0) else z) := by
  unfold complete
  simp only [h, ht, and_true, if_true]

/-- A complete of any other source. -/
theorem complete_other (h : (tgtOf s t).stack.head?.map (·.1) ≠ some n) : complete s t n = modTgt s t fun x => { x with badComplete := true } := by
  unfold complete
  cases hs : (tgtOf s t).stack with
  | nil => rfl
  | cons e rest =>
    have other : e.1 ≠ n := by simpa [hs] using h
    exact if_neg other

end

theorem running_of_stack (t : Target) : (t.stack = [] → t.running = 0) ∧ (∀ n l r, t.stack = (n, l) :: r → t.running = l) := by
  unfold Target.running
  exact ⟨fun h => by rw [h], fun n l r h => by rw [h]⟩

/-- A source raised is pending, whether or not it is in service. -/
theorem srcOf_setPending {s : State} {n : Nat} (h : n < s.evt.sources.length) : srcOf (setPending s n) n =
    { srcOf s n with pending := true, raises := satAdd 65535 (srcOf s n).raises 1, since := (srcOf s n).since + 1 } :=
  at?_modify_same h _ _

/-- Settles O19: the claim by the highest source that weighing them all finds, the eligibility of a source by its conditions. -/
theorem eventClaim : Obligations.EventClaim := by
  unfold Obligations.EventClaim
  refine ⟨?highest, ?claims, ?nothing, running_of_stack, ?service, ?raised⟩
  case highest => intro s t k x hx he; exact claimSource_highest hx he
  case claims => intro s f t g hr ht hn; rw [exec_evtClaimRead hr ht, claimRead_claims hn]
  case nothing => intro s f t hr ht h; rw [exec_evtClaimRead hr ht, claimRead_nothing (claimSource_none h)]
  case service =>
    intro t k x
    refine ⟨fun hs => ?_, fun hp hm hk hl hu => (eligible_iff ..).2 ⟨hk, hp, hm, rfl, hl, hu⟩⟩
    simp [eligible, hs]
  case raised =>
    intro s n h
    rw [srcOf_setPending h]
    exact ⟨rfl, rfl⟩

/-- Settles O20: a complete by what lies on top of the claim stack, the other writes by the test that lets them pass. -/
theorem eventRegisters : Obligations.EventRegisters := by
  unfold Obligations.EventRegisters
  refine ⟨?top, ?other, ?threshold, ?mask, ?effect⟩
  case top =>
    intro s f t v l rest hr ht h
    rw [exec_evtClaimWrite hr ht, complete_top (four_le_of_reachesTarget ht) h]
  case other =>
    intro s f t v hr ht h
    rw [exec_evtClaimWrite hr ht, complete_other h]
  case threshold => intro s f t v hr ht; exact congrArg Host.Outcome.next (if_pos (reaches_registers hr ht))
  case mask => intro s n m hr; exact congrArg Host.Outcome.next (if_pos ⟨hr, rfl⟩)
  case effect =>
    intro s n m h
    refine congrArg Host.Outcome.next ?_
    simp only [h]

end Sys2Proof.Machine
end

section
/-!
PROOFS. The packets of the module's management (R356, R423, R425, R464, R476 to R478), and a step of the block (R399, R434).
-/
namespace Sys2Proof.Machine

open Sys2Proof

/-! ## Packets of the module's management -/

section
variable {s : State} {p : Packet}

/-- TELEMETRY_READ of a set that exists, and that its sender may read. -/
theorem decideTelemetryRead_pass (hs : u8 (ownParams p) 8 ≤ 2) (hk : u8 (ownParams p) 8 = 1 → u8 (ownParams p) 9 ≤ 7)
    (hr : p.fn = 0 ∨ (u8 (ownParams p) 8 ≠ 2
      ∧ (u8 (ownParams p) 8 = 1 → (clampOf s (u8 (ownParams p) 9)).assign.getLsbD p.fn = true))) :
    decideTelemetryRead s (packetSender p) p =
      runsAs (.telemetry (u8 (ownParams p) 8) (u8 (ownParams p) 9) (u64 (ownParams p) 0))
        (fun me t => modCmd t me fun c => { c with done := true }) s p := by
  have inRange : ¬ (2 < u8 (ownParams p) 8 ∨ (u8 (ownParams p) 8 = 1 ∧ 7 < u8 (ownParams p) 9)) := by omega
  unfold decideTelemetryRead
  refine acceptCmd_valid (decide_eq_false inRange) ?_
  rcases hr with own | ⟨hm, ha⟩
  · simp [packetSender, own]
  · by_cases h1 : u8 (ownParams p) 8 = 1
    · simp [packetSender, h1, ha h1]
    · simp [hm, h1]

/-- COUNTER_SELECT of an event of R478 for one of the 16 banks. -/
theorem decideCounterSelect_pass (hn : u8 (ownParams p) 0 ≤ 15) (he : u16 (ownParams p) 2 ∈ selectors) :
    decideCounterSelect s (packetSender p) p = .ok 0 fun t => { t with evt := { t.evt with
      bankSel := t.evt.bankSel.set (u8 (ownParams p) 0) (u16 (ownParams p) 2), bank := t.evt.bank.set (u8 (ownParams p) 0) 0 } } := by
  unfold decideCounterSelect
  refine unless_pass (pass_one ?_)
  rw [decide_eq_false (Nat.not_lt.2 hn), List.contains_iff_mem.2 he]
  rfl

/-- EVENT_ROUTE of a source to a host target. -/
theorem decideEventRoute_pass (hn : 1 ≤ u16 (ownParams p) 0) (hm : u16 (ownParams p) 0 ≤ 511) (ht : 4 ≤ u8 (ownParams p) 2)
    (hu : u8 (ownParams p) 2 ≤ 67) (hl : u8 (ownParams p) 3 ≤ 15) :
    decideEventRoute s (packetSender p) p = .ok 0 fun t =>
      reassess (reassess (modSrc t (u16 (ownParams p) 0) fun x => { x with target := u8 (ownParams p) 2, level := u8 (ownParams p) 3 })
        (srcOf s (u16 (ownParams p) 0)).target) (u8 (ownParams p) 2) := by
  unfold decideEventRoute
  exact unless_pass (pass_one (decide_eq_false (by omega)))

/-- POWER_CAP_SET of a cap between 600 and 2,400 W. -/
theorem decidePowerCapSet_pass (hn : 600 ≤ u16 (ownParams p) 0) (hm : u16 (ownParams p) 0 ≤ 2400) :
    decidePowerCapSet s (packetSender p) p = runsAs (.powerCap (u16 (ownParams p) 0)) (fun me t =>
      let t := modCmd t me fun c => { c with phase := .commit, committed := true, stamp := t.now }
      { t with pwr := { t.pwr with cap := u16 (ownParams p) 0, capCmds := t.pwr.capCmds ++ [me] } }) s p := by
  unfold decidePowerCapSet
  exact acceptCmd_pass rfl (pass_one (decide_eq_false (by omega)))

/-- SCRUB_SET of a period between 1 and 168 hours. -/
theorem decideScrubSet_pass (hn : 1 ≤ u8 (ownParams p) 0) (hm : u8 (ownParams p) 0 ≤ 168) :
    decideScrubSet s (packetSender p) p = .ok 0 fun t => { t with store := { t.store with scrubNext := u8 (ownParams p) 0 } } := by
  unfold decideScrubSet
  exact unless_pass (pass_one (decide_eq_false (by omega)))

end

/-- Settles O11: each packet's verdict by `decides_of`, from its decision once its own tests pass. -/
theorem managePackets : Obligations.ManagePackets := by
  unfold Obligations.ManagePackets
  refine ⟨?telemetry, ?counter, ?route, ?cap, ?scrub⟩
  case telemetry =>
    refine decides_of (fun _ _ => rfl) fun s p hp => ?_
    obtain ⟨hs, hk, hr⟩ := hp
    exact decideTelemetryRead_pass hs hk hr
  case counter =>
    refine decides_of (fun _ _ => rfl) fun s p hp => ?_
    obtain ⟨hn, he⟩ := hp
    exact decideCounterSelect_pass (s := s) hn he
  case route =>
    refine decides_of (fun _ _ => rfl) fun s p hp => ?_
    obtain ⟨hn, hm, ht, hu, hl⟩ := hp
    exact decideEventRoute_pass hn hm ht hu hl
  case cap =>
    refine decides_of (fun _ _ => rfl) fun s p hp => ?_
    obtain ⟨hn, hm⟩ := hp
    exact decidePowerCapSet_pass hn hm
  case scrub =>
    refine decides_of (fun _ _ => rfl) fun s p hp => ?_
    obtain ⟨hn, hm⟩ := hp
    exact decideScrubSet_pass (s := s) hn hm

/-! ## A step of the block (R399, R434) -/

theorem counting_iff (s : State) :
    counting s = true ↔ s.rst.perst = false ∧ s.rst.refHeld = false ∧ s.rst.refGood = true ∧ s.pwr.quench = false := by
  unfold counting
  simp only [Bool.and_eq_true, Bool.not_eq_true', and_assoc]

/-- The last activity of a unit that the module counts: it stays while the unit is ready for Smoulder, and is now otherwise. -/
theorem activeAt_noteUnits {s : State} {i : Nat} (h : i < s.pwr.activeAt.length) :
    at? (noteUnits s).pwr.activeAt i 0 = if smoulderReady s (smoulderUnit i) = true then at? s.pwr.activeAt i 0 else s.now := by
  unfold noteUnits at?
  simp [h]

/-- Settles O57: the step by what waits in the queue, the edge by whether the module counts. -/
theorem stepRunsFront : Obligations.StepRunsFront := by
  unfold Obligations.StepRunsFront
  refine ⟨?front, ?empty, ?edge, ?active, ?still, counting_iff⟩
  case front => intro s c rest h; exact step_front h
  case empty => intro s h; exact step_empty h
  case edge => intro s h; exact if_pos h
  case active => intro s i h; exact activeAt_noteUnits h
  case still => intro s h; exact if_neg (ne_true_of_eq_false h)

end Sys2Proof.Machine
end

section
/-!
PROOFS. Pairs of Flue partners: how they stand, are probed and are lost (R371, R372, R385).
-/
namespace Sys2Proof.Machine

open Sys2Proof

/-! ## Messages that no pair takes (R371) -/

/-- A message of another epoch, for another module, or from no standing pair is discarded and counted. -/
theorem taking_discards {s : State} {m : Msg} (h : ∀ p, ¬ PairTakes s m p) (act : State → State) :
    taking s m act = modPort s m.port fun x => { x with epochDiscards := satAdd 65535 x.epochDiscards 1 } := by
  have refused : fromPartner s m = none := by
    unfold fromPartner
    cases hp : pairOf s m.src with
    | none => rfl
    | some p =>
      refine if_neg fun ok => h p ?_
      simp only [Bool.and_eq_true, beq_iff_eq] at ok
      obtain ⟨⟨⟨up, epoch⟩, lock⟩, mine⟩ := ok
      exact ⟨hp, up, epoch, lock, mine⟩
  unfold taking
  rw [refused]
  rfl

/-! ## Pairs that stand, and that are lost (R371, R372, R385) -/

section
variable {s : State} {m : Nat} {p : Pair}

theorem pairOf_putPair_same (s : State) (m : Nat) (p : Pair) : pairOf (putPair s m p) m = some p := tget?_tset_same _ _ _

theorem losePair_standing (cause : Nat) (hp : pairOf s m = some p) (hu : p.up = true) :
    losePair s m cause = raise (endLive (putPair s m { p with up := false, hello := false }) m) (72 + p.port) 0x09
      (natLE 2 m ++ natLE 1 p.port ++ natLE 2 p.epoch ++ natLE 1 cause) := by
  unfold losePair
  simp only [hp, hu, Bool.not_true, Bool.false_eq_true, if_false]

section
variable (hp : pairOf s m = some p) (hu : p.up = true) (hl : liveState s m = true)
include hp hu hl

theorem exec_probeDue_sends (hw : p.lastSent + 100000 ≤ s.now) :
    exec (.probeDue m) s = .next (sendMsg s m mkPair { dst := m, src := 0, status := pmProbe }) := by
  refine congrArg Host.Outcome.next ?_
  simp only [hp]
  exact if_pos ⟨hu, hl, hw⟩

theorem exec_pairSilenceTimeout_loses (hw : p.lastArrival + 1000000 ≤ s.now) :
    exec (.pairSilenceTimeout m) s = .next (meet (losePair s m 2) m) := by
  refine congrArg Host.Outcome.next ?_
  simp only [hp]
  exact if_pos ⟨hu, hl, hw⟩

end

/-- A pair that stands again takes one more than the higher of both epochs. -/
theorem pairOf_standPair (hp : pairOf s m = some p) (port theirs : Nat) :
    ∃ q, pairOf (standPair s m port theirs) m = some q ∧ q.up = true ∧ q.lastArrival = s.now
      ∧ q.epoch = (max p.epoch theirs + 1) % 65536 := by
  unfold standPair
  rw [hp]
  exact ⟨_, pairOf_putPair_same .., rfl, rfl, rfl⟩

end

/-- Settles O50: each row by the test that lets it pass, a message by whether its pair takes it. -/
theorem fluePairRows : Obligations.FluePairRows := by
  unfold Obligations.FluePairRows
  refine ⟨?hello, ?stands, ?route, ?taken, ?probe, ?silence, ?lost, ?discarded⟩
  case hello => intro s m hl hm hu; exact congrArg Host.Outcome.next (if_neg (by simp [hl, hm, hu]))
  case stands =>
    intro s m port theirs h
    obtain ⟨p, hp⟩ := Option.isSome_iff_exists.1 h
    rw [hp]
    exact pairOf_standPair hp port theirs
  case route => intro s m hu; exact congrArg Host.Outcome.next (if_neg (not_not_intro hu))
  case taken => intro s m p h; exact ⟨congrArg Host.Outcome.next (taking_pair h _), congrArg Host.Outcome.next (taking_pair h _)⟩
  case probe => intro s m p hp hu hl hw; exact exec_probeDue_sends hp hu hl hw
  case silence => intro s m p hp hu hl hw; exact exec_pairSilenceTimeout_loses hp hu hl hw
  case lost => intro s m cause p hp hu; exact losePair_standing cause hp hu
  case discarded =>
    intro s m h
    have discards (act : State → State) := congrArg (Host.Outcome.next (φ := Fault) (ρ := Refusal)) (taking_discards h act)
    simp only [List.forall_mem_cons, List.not_mem_nil, false_imp_iff, implies_true, and_true]
    exact ⟨discards _, discards _, discards _, discards _, discards _, discards _, discards _, discards _, discards _, discards _, discards _,
      discards _, discards _, discards _⟩

end Sys2Proof.Machine
end

section
/-!
PROOFS. Warm module reset and the watchdog (R400, R402, R403), PERST#, the reference clock, power-on and the root PLL (R388, R391, R392, R400,
R406, R430).
-/
namespace Sys2Proof.Machine

open Sys2Proof

/-! ## Warm module reset (R400, R402, R403) -/

section
variable {s : State}

/-- With no non-volatile write in progress none is cut short. -/
theorem cutNv_idle (h : s.sec.nv = none) : cutNv s = s.sec.bootPtr := by
  unfold cutNv
  rw [h]

theorem warm_idle (hw : s.rst.warmWait = none) (hn : s.sec.nv = none) (watchdog : Bool) : warm s watchdog = warmNow s watchdog := by
  unfold warm
  simp [hw, hn]

theorem warm_writing (hw : s.rst.warmWait = none) (hn : s.sec.nv.isSome = true) (watchdog : Bool) :
    warm s watchdog = { s with rst := { s.rst with warmWait := some (watchdog, s.now) } } := by
  unfold warm
  simp [hw, hn]

theorem exec_warmReset_keyed (hl : s.rst.rootLocked = true) : exec (.warmReset 0 0x4B52) s = .next (warm s false) :=
  congrArg Host.Outcome.next (if_pos ⟨rfl, rfl, hl⟩)

end

/-- The clamps after a reset: every one unconfigured, and the physical function's alone. -/
theorem clamp_of_mem_reset {c : Clamp} (h : c ∈ List.replicate 8 ({} : Clamp)) : c.state = .unconfigured ∧ c.assign = 1 := by
  rw [List.eq_of_mem_replicate h]
  exact ⟨rfl, rfl⟩

/-- Settles O23: a reset by whether a non-volatile write is in progress, its state by the fields of `warmNow`. -/
theorem warmReset : Obligations.WarmReset := by
  unfold Obligations.WarmReset
  refine ⟨?state, ?now, ?waits, ?expiry, ?service, ?refused⟩
  case state =>
    intro s watchdog hn t
    exact ⟨rfl, rfl, rfl, rfl, rfl, rfl, rfl, rfl, rfl, rfl, rfl, rfl, rfl, rfl, rfl, rfl, rfl, rfl, cutNv_idle hn, rfl,
      fun c hc => clamp_of_mem_reset hc, rfl⟩
  case now => intro s hl hw hn; rw [exec_warmReset_keyed hl, warm_idle hw hn]
  case waits => intro s hl hw hn; rw [exec_warmReset_keyed hl, warm_writing hw hn]
  case expiry => intro s hr ht hw hn; exact congrArg Host.Outcome.next ((if_pos ⟨hr, ht⟩).trans (warm_idle hw hn true))
  case service => intro s hr; exact congrArg Host.Outcome.next (if_pos hr)
  case refused => intro s f k h; exact congrArg Host.Outcome.next (if_neg fun ⟨hf, hk, _⟩ => h.elim (· hf) (· hk))

/-! ## Fundamental reset and the pins (R388, R391, R392, R400, R406, R430) -/

/-- The first stacks of the batches are those that begin to train (R406). -/
theorem beginTests_eq (s : State) : beginTests s = emit { s with
    pwr := { s.pwr with setpoint := Config.setpointFuse }
    rst := { s.rst with
      kiln := List.replicate 4 (.running s.now), bog := .running s.now
      training := (List.range 12).map fun k => if k % 3 = 0 then .running s.now else .idle } } (.avs Config.setpointFuse) := by
  unfold beginTests running
  simp only [beq_iff_eq]

theorem exec_rootPllLock_begins {s : State} {b : Nat} (h : s.rst.rootPll = .running b) :
    exec .rootPllLock s = .next (beginTests { s with rst := { s.rst with
      rootPll := .ok, rootLocked := true, hostLink := .running s.now, kindling := .running s.now } }) := by
  refine congrArg Host.Outcome.next ?_
  simp only [h]
  rfl

section
variable {s : State} (tc bs : Bool) (nonce : List Byte) (hp : s.rst.perst = true)
include hp

/-- PERST# released while nothing holds the module: the root PLL begins to lock. -/
theorem exec_perstRelease_released (hh : s.rst.refHeld = false) (hg : s.rst.refGood = true)
    (hq : s.pwr.quench = false ∨ (s.rst.thermCompat = true ∧ allCool s = true)) :
    exec (.perstRelease tc bs nonce) s = .next
      (release { s with
        rst := { s.rst with perst := false, thermCompat := tc, bootSel := bs }
        pwr := { s.pwr with quench := false } } nonce) := by
  have asserted : ¬ (!s.rst.perst) = true := by simp [hp]
  have runs : ¬ (s.rst.refHeld = true ∨ (!s.rst.refGood) = true) := by simp [hh, hg]
  have free : ¬ (s.pwr.quench = true ∧ (!(s.rst.thermCompat && allCool s)) = true) := by
    rcases hq with hq | ⟨hc, ha⟩
    · simp [hq]
    · simp [hc, ha]
  exact congrArg Host.Outcome.next ((if_neg asserted).trans ((if_neg runs).trans (if_neg free)))

/-- PERST# released while the reference is held or not good: the straps are sampled, and the module waits. -/
theorem exec_perstRelease_held (hh : s.rst.refHeld = true ∨ s.rst.refGood = false) :
    exec (.perstRelease tc bs nonce) s = .next { s with rst := { s.rst with perst := false, thermCompat := tc, bootSel := bs } } := by
  have asserted : ¬ (!s.rst.perst) = true := by simp [hp]
  have held : s.rst.refHeld = true ∨ (!s.rst.refGood) = true := hh.imp_right fun hg => by rw [hg]; rfl
  exact congrArg Host.Outcome.next ((if_neg asserted).trans (if_pos held))

end

/-- Settles O25: what a fundamental reset clears by its fields, the rows by the tests that let them pass. -/
theorem pinsAndClocks : Obligations.PinsAndClocks := by
  unfold Obligations.PinsAndClocks
  refine ⟨?cleared, fun _ => rfl, fun _ => rfl, fun _ => rfl, fun _ => rfl, ?released, ?held, ?locked⟩
  case cleared =>
    intro s t h
    rcases h with h | h | h <;> obtain rfl := Host.Outcome.next.inj h <;>
      exact ⟨rfl, rfl, rfl, rfl, rfl, rfl, rfl, rfl, rfl, rfl, rfl, rfl, rfl, rfl, rfl, rfl, rfl, rfl, rfl, rfl⟩
  case released => intro s tc bs nonce hp hh hg hq; exact exec_perstRelease_released tc bs nonce hp hh hg hq
  case held => intro s tc bs nonce hp hh; exact exec_perstRelease_held tc bs nonce hp hh
  case locked => intro s b h; rw [exec_rootPllLock_begins h, beginTests_eq]

end Sys2Proof.Machine
end

section
/-!
PROOFS. Sensors and Quench, the regulator and the rails, the setpoint and the two limiters (R411 to R429).
-/
namespace Sys2Proof.Machine

open Sys2Proof

/-! ## Sensors (R417 to R419, R428 to R430) -/

section
variable {s : State} {l : List Reading}

theorem exec_thermalSample_serves (hq : s.pwr.quench = false) (hl : s.rst.rootLocked = true) (hn : quenchSensor l = none) :
    exec (.thermalSample l) s = .next
      (settled ((List.range 16).foldl serveSensor { s with pwr := { s.pwr with sensors := sampleAll s.pwr.sensors l } })) := by
  refine congrArg Host.Outcome.next ((if_neg (ne_true_of_eq_false hq)).trans ?_)
  simp only [hn]
  exact if_pos hl

theorem exec_thermalSample_quenches {n : Nat} (hq : s.pwr.quench = false) (hn : quenchSensor l = some n) :
    exec (.thermalSample l) s = .next (quenchNow { s with pwr := { s.pwr with sensors := sampleAll s.pwr.sensors l } } n) := by
  refine congrArg Host.Outcome.next ((if_neg (ne_true_of_eq_false hq)).trans ?_)
  simp only [hn]

theorem exec_thermalSample_quenched (hq : s.pwr.quench = true) :
    exec (.thermalSample l) s = .next (quenchedSample { s with pwr := { s.pwr with sensors := sampleAll s.pwr.sensors l } }) :=
  congrArg Host.Outcome.next (if_pos hq)

end

section
variable (n : Nat) (x : Sensor)

theorem sampled_good {v : Int} (hl : -320 ≤ v) (hh : v ≤ 1200) :
    sampled n x (.value v) =
      (let y := { x with temp := v, valid := true, badRun := 0, goodRun := if v ≤ 720 then min (x.goodRun + 1) 3 else 0 }
       { y with throttle := throttleOf n y }) := by
  unfold sampled takeReading
  simp only [hl, hh, and_self, if_true]

/-- A reading that is invalid sets no throttle: its run of bad readings is not empty. -/
theorem sampled_failed : sampled n x .failed = badReading x := if_neg (by simp [takeReading, badReading])

/-- A unit in service goes out at three bad readings in a row, or at a valid reading of its limit. -/
theorem goesOut_iff {x : Sensor} (ho : x.out = false) :
    goesOut n x = true ↔ x.badRun = 3 ∨ (x.badRun = 0 ∧ x.valid = true ∧ hotLimit n ≤ x.temp) := by
  simp [goesOut, ho, and_assoc]

theorem goesOut_sampled_good {x : Sensor} {v : Int} (hl : -320 ≤ v) (hh : v ≤ 1200) (ho : x.out = false) :
    goesOut n (sampled n x (.value v)) = true ↔ hotLimit n ≤ v := by
  rw [sampled_good n x hl hh, goesOut_iff n (by exact ho)]
  simp

theorem goesOut_sampled_failed {x : Sensor} (ho : x.out = false) : goesOut n (sampled n x .failed) = true ↔ 2 ≤ x.badRun := by
  rw [sampled_failed, goesOut_iff n (by exact ho)]
  simp only [badReading]
  omega

end

/-! ## The regulator (R413, R414) -/

section
variable (s : State) (z : Nat)

/-- A transaction without a good response that sets no fault: fewer than three in a row, or a fault that stands. -/
theorem avsZone_bad (h : s.pwr.avsBad < 2 ∨ s.pwr.avsFault = true) :
    avsZone s (none, z) = { s with pwr := { s.pwr with
      avsBad := min (s.pwr.avsBad + 1) 3, avsGood := 0, avsFault := s.pwr.avsFault, zoneOver := s.pwr.zoneOver.set z false } } := by
  have quiet : ¬ (min (s.pwr.avsBad + 1) 3 == 3 && !s.pwr.avsFault) = true := by
    rcases h with h | h
    · simp only [Bool.and_eq_true, beq_iff_eq]; omega
    · simp [h]
  have stays : (s.pwr.avsFault || min (s.pwr.avsBad + 1) 3 == 3) = s.pwr.avsFault := by
    rcases h with h | h
    · have fewer : (min (s.pwr.avsBad + 1) 3 == 3) = false := beq_eq_false_iff_ne.2 (by omega)
      rw [fewer, Bool.or_false]
    · rw [h, Bool.true_or]
  refine (if_neg quiet).trans ?_
  rw [stays]

/-- The third one in a row is a fault, and begins a sag. -/
theorem avsZone_faults (hb : 2 ≤ s.pwr.avsBad) (hf : s.pwr.avsFault = false) :
    avsZone s (none, z) =
      (let p := { s.pwr with avsBad := 3, avsGood := 0, avsFault := true, zoneOver := s.pwr.zoneOver.set z false }
       let t := raise { s with pwr := p } 51 0x06 (natLE 1 z ++ [1])
       beginSag { t with freeCount := t.freeCount + 4 } .avsFault (freeBytes t.freeCount 2) (freeBytes (t.freeCount + 2) 2)) := by
  have third : min (s.pwr.avsBad + 1) 3 = 3 := by omega
  show avsBadOne s z = _
  unfold avsBadOne
  simp only [third, hf, beq_self_eq_true, Bool.not_false, Bool.and_self, Bool.or_true, if_true]

end

/-! ## The limiters (R416, R422 to R425) -/

section
variable {s : State}

theorem windowEnds_iff (s : State) (len done : Nat) :
    windowEnds s len done = true ↔ s.rst.rootLocked = true ∧ s.now % len = 0 ∧ done < s.now / len := by
  unfold windowEnds
  simp only [Bool.and_eq_true, decide_eq_true_eq]

/-- Away from a window's end, or at one that has been evaluated, nothing is evaluated (R9). -/
theorem not_windowEnds {len done : Nat} (h : s.now % len ≠ 0 ∨ s.now / len ≤ done) : ¬ windowEnds s len done = true := by
  rw [windowEnds_iff]
  omega

/-- The end of the grace, its last window's measure included: enforcement begins, or the advisory clears. -/
theorem exec_graceEnd_ends {t : Nat} (ha : s.pwr.advisory = some t) (he : s.pwr.enforcing = false) (hn : t + 2000000 ≤ s.now)
    (hw : t + 2000000 ≤ 100000 * s.pwr.slowDone) :
    exec .graceEnd s = .next (if overCap s.pwr = true then
      endCaps { s with pwr := { s.pwr with enforcing := true, rp := min 75 (s.pwr.rp + 4), advisoryCmds := [] } } s.pwr.advisoryCmds stPowerLimit
      else clearAdvisory s) := by
  have ended : ¬ (s.pwr.enforcing = true ∨ s.now < t + 2000000 ∨ 100000 * s.pwr.slowDone < t + 2000000) := by
    rw [he]
    simp only [Bool.false_eq_true, false_or]
    omega
  refine congrArg Host.Outcome.next ?_
  simp only [ha]
  exact if_neg ended

end

/-- Settles O53: a sample by what its sensors and transactions read, a window by whether its measure is evaluated now. -/
theorem powerRows : Obligations.PowerRows := by
  unfold Obligations.PowerRows
  refine ⟨?served, ?quenches, ?quenched, ?good, ?failed, fun _ _ => ⟨rfl, rfl, rfl, rfl, rfl⟩, ?currents, fun _ _ _ => rfl, ?bad, ?fault, ?rails,
    ?setpoint, fun _ => rfl, ?fast, ?between, ?slow, ?grace⟩
  case served => intro s l hq hl hn; exact exec_thermalSample_serves hq hl hn
  case quenches => intro s l n hq hn; exact exec_thermalSample_quenches hq hn
  case quenched => intro s l hq; exact exec_thermalSample_quenched hq
  case good =>
    intro n x v hl hh y
    have read := sampled_good n x hl hh
    exact ⟨congrArg Sensor.temp read, congrArg Sensor.valid read, congrArg Sensor.badRun read, congrArg Sensor.throttle read,
      fun ho => goesOut_sampled_good n hl hh ho⟩
  case failed =>
    intro n x
    exact ⟨by rw [sampled_failed]; rfl, by rw [sampled_failed]; rfl, fun ho => goesOut_sampled_failed n ho⟩
  case currents => intro s l hl; exact congrArg Host.Outcome.next (if_pos hl)
  case bad => intro s z h; exact avsZone_bad s z h
  case fault => intro s z hb hf; exact avsZone_faults s z hb hf
  case rails => intro s mv ma hl; exact congrArg Host.Outcome.next (if_pos hl)
  case setpoint =>
    intro s v hr hs hw hl hh hu hd
    exact congrArg Host.Outcome.next (if_pos ⟨hr, by rw [hs]; rfl, hw, hl, hh, hu, hd⟩)
  case fast => intro s w hl ht hd; exact congrArg Host.Outcome.next (if_pos ((windowEnds_iff ..).2 ⟨hl, ht, hd⟩))
  case between =>
    intro s w
    exact ⟨fun h => congrArg Host.Outcome.next (if_neg (not_windowEnds h)), fun h => congrArg Host.Outcome.next (if_neg (not_windowEnds h))⟩
  case slow => intro s w hl ht hd; exact congrArg Host.Outcome.next (if_pos ((windowEnds_iff ..).2 ⟨hl, ht, hd⟩))
  case grace => intro s t ha he hn hw; exact exec_graceEnd_ends ha he hn hw

end Sys2Proof.Machine
end

section
/-!
PROOFS. The sideband: JTAG and the I3C target (R479, R480, R505).
-/
namespace Sys2Proof.Machine

open Sys2Proof

/-! ## JTAG (R479, R480): EXTEST and HIGHZ act while PERST# is asserted -/

theorem jtagPins_asserted {s : State} (h : s.rst.perst = true) (i : JtagInstr) : jtagPins s i = jtagSelect s i := by
  unfold jtagPins
  rw [if_pos h]

theorem jtagPins_released {s : State} (h : s.rst.perst = false) (i : JtagInstr) : jtagPins s i = jtagSelect s .bypass := by
  unfold jtagPins
  rw [if_neg (ne_true_of_eq_false h)]

/-! ## The I3C target (R505) -/

section
variable {s : State}

theorem i3cAnswer_addressed (h : s.i3c.address.isSome = true) (bs : List Byte) : i3cAnswer s bs = emit s (.i3c bs) := if_pos h

theorem i3cAnswer_silent (h : s.i3c.address = none) (bs : List Byte) : i3cAnswer s bs = s := if_neg (by simp [h])

/-- An index beyond those listed names no register. -/
theorem i3cReg_unlisted {n : Nat} (h : 22 < n) : i3cReg n = none := by
  unfold i3cReg
  simp (disch := omega) only [if_neg]

end

/-- Settles O56: an instruction by the state of PERST# and of debug, an answer of the target by whether it has an address. -/
theorem sidebandRows : Obligations.SidebandRows := by
  unfold Obligations.SidebandRows
  refine ⟨fun _ _ => rfl, fun _ => ⟨rfl, rfl, rfl⟩, ?asserted, ?released, fun _ => rfl, ?free, ?taken, ?other, fun _ => rfl, ?addressed, ?silent⟩
  case asserted =>
    intro s h
    exact ⟨congrArg Host.Outcome.next (jtagPins_asserted h _), congrArg Host.Outcome.next (jtagPins_asserted h _)⟩
  case released =>
    intro s h
    exact ⟨congrArg Host.Outcome.next (jtagPins_released h _), congrArg Host.Outcome.next (jtagPins_released h _)⟩
  case free =>
    intro s a h
    have unset : s.i3c.address.isNone = true := by rw [h]; rfl
    exact ⟨congrArg Host.Outcome.next (if_pos unset), congrArg Host.Outcome.next (if_pos ⟨rfl, unset⟩)⟩
  case taken =>
    intro s a x h
    have given : ¬ s.i3c.address.isNone = true := by simp [h]
    exact ⟨congrArg Host.Outcome.next (if_neg given), congrArg Host.Outcome.next (if_neg fun both => given both.2)⟩
  case other => intro s st a h; exact congrArg Host.Outcome.next (if_neg fun both => h both.1)
  case addressed =>
    intro s x h
    have has : s.i3c.address.isSome = true := by rw [h]; rfl
    refine ⟨congrArg Host.Outcome.next (i3cAnswer_addressed has _), congrArg Host.Outcome.next (i3cAnswer_addressed has _),
      congrArg Host.Outcome.next (i3cAnswer_addressed has _),
      congrArg Host.Outcome.next (i3cAnswer_addressed (s := { s with freeCount := s.freeCount + 1 }) has _),
      fun b => congrArg Host.Outcome.next ?_, fun r hr => congrArg Host.Outcome.next ((i3cAnswer_addressed has _).trans ?_),
      fun hi => congrArg Host.Outcome.next ((i3cAnswer_addressed has _).trans ?_)⟩
    · simp only [h]
    · simp only [hr]
    · simp only [i3cReg_unlisted hi]
  case silent =>
    intro s h
    refine ⟨congrArg Host.Outcome.next (i3cAnswer_silent h _), congrArg Host.Outcome.next (i3cAnswer_silent h _),
      congrArg Host.Outcome.next (i3cAnswer_silent h _), congrArg Host.Outcome.next (i3cAnswer_silent h _), fun l => congrArg Host.Outcome.next ?_⟩
    simp only [h]

end Sys2Proof.Machine
end
